-- ==== Sys2Proof/Word.lean ====
section
/-! DEFINITION. The word types of the device and nothing else: a register and a command parameter word are 32 bits
(R27, R429), an address in a memory is a byte address. -/

namespace Sys2Proof

/-- One byte. -/
abbrev Byte := BitVec 8

/-- One register word, one command parameter word. -/
abbrev Word := BitVec 32

/-- One 64-bit value: a LO and HI register pair (R438), a scratchpad word (R400). -/
abbrev DWord := BitVec 64

/-- A search key of up to 640 bits (R76); narrower keys stand in the low bits. -/
abbrev Key := BitVec 640

end Sys2Proof
end

