-- ==== Sys2Proof/Machine/Operands.lean ====
section
/-! DEFINITION. The operand types of the commands: who speaks (streams, links, register paths) and what is carried
(request packets, frames, messages of the links). -/

namespace Sys2Proof.Machine

/-- The links to other devices: the dovetail links D0 to D3 and the mitre link (R13). D0 is the parent link. -/
inductive LinkId where
  | d0 | d1 | d2 | d3 | mitre
deriving DecidableEq, Repr

/-- The paths of register accesses (R435, R438): BAR0, BAR2, the SPI slave and the firmware. -/
inductive Path where
  | bar0 | bar2 | spi | firmware
deriving DecidableEq, Repr

/-- A stream of commands (R60), or, at a target device, the entry device that forwarded a command (R64).
`entry src ref limit`: the reply goes back to fabric address `src` (1024 for the mitre partner) with the sender's
reference `ref`; `limit` is the largest request of the transport that carried the command to its entry device.
`mirror ref places`: an operation that the lead of the twin has mirrored to this side (R270), with the lead's reference and
where the lead has put it (MirrorOp).
`internal`: a command the firmware itself executes from the settings store (R506).
`own`: an operation that the device asks of itself (R212); nothing replies to it. -/
inductive StreamId where
  | pcie (pair : Fin 16)
  | spi
  | inband (port : Fin 32) (src : BitVec 48) (vid : BitVec 12)
  | entry (src : Nat) (ref : Nat) (limit : Nat)
  | mirror (ref : Nat) (places : List Nat)
  | internal
  | own
deriving DecidableEq, Repr

/-- A request of the host: where it came from and the packet fields that its command reads (Table 2.1).
CLASS and OPCODE are the command's own. -/
structure Request where
  stream : StreamId
  tag : Word
  flags : BitVec 16
  target : BitVec 16
  words : List Word
deriving DecidableEq, Repr

/-- A submission queue entry (Table 2.9). -/
structure SqEntry where
  reqAddr : DWord
  reqLen : Word
  bufAddr : DWord
  bufLen : Word
deriving DecidableEq, Repr

/-- An Ethernet frame on the wire, from the first byte of the destination address to the last byte before the FCS, and the RS-FEC
codewords that the PCS has found correctable and uncorrectable since the frame before (Table 9.10). -/
structure EthFrame where
  bytes : List Byte
  fcsOk : Bool
  fecCorr : Nat
  fecUncorr : Nat
deriving DecidableEq, Repr

/-- A command sent on to another device (R63, R64): the sender's reference, the fabric addresses it comes from and is
bound for, the largest request of the transport at the entry device (Table 2.13), and the packet fields. The address 1024 stands
for the device at the other end of the mitre link. -/
structure FwdCommand where
  ref : Nat
  src : Nat
  dest : Nat
  limit : Nat
  op : Nat
  tag : Word
  flags : BitVec 16
  target : BitVec 16
  words : List Word
deriving DecidableEq, Repr

/-- A reply to a command sent on, bound for the fabric address `dest` (1024 as above). -/
structure FwdReply where
  ref : Nat
  dest : Nat
  op : Nat
  status : Nat
  side : Bool
  payload : List Word
deriving DecidableEq, Repr

/-- The states of a cached line (Table 7.3). -/
inductive Moesi where
  | m | o | e | s | i
deriving DecidableEq, Repr

/-- An atomic operation on a counter line (Table 7.7). METER carries what the policer update of R311 takes: the
policer's action entry, the frame length and the colour it brings. -/
inductive AtomicOp where
  | add (w : Fin 8) (a : DWord)
  | add2 (w : Fin 8) (a b : DWord)
  | swap (w : Fin 8) (v : DWord)
  | cas (w : Fin 8) (x v : DWord)
  | readLine
  | clearLine
  | meter (policer : BitVec 16) (epoch : BitVec 3) (bytes : Nat) (colour : Fin 3)
deriving DecidableEq, Repr

/-- A request to join (R266). The parent that takes it fills in the level and its own node. -/
structure JoinReq where
  node : Nat
  side : Nat
  level : Nat
  parent : Nat
  depth : Nat
  twinned : Bool
  glueBase : Nat
  quantum : Nat
deriving DecidableEq, Repr

/-- A boundary report (R255, R256): the boundary in device-time µs, the members it covers, the fabric glue-up IDs
held and not ready, pending joins, leaves (as fabric addresses), which device holds which fabric glue-up ID (R265), the addresses with
a quantum mismatch, and the nodes whose resync waits for its switch-over. -/
structure FabReport where
  boundary : Nat
  members : Nat
  held : List Nat
  notReady : List Nat
  joins : List JoinReq
  leaves : List Nat
  holders : List (Nat × Nat)
  badQuantum : List Nat
  resync : List Nat
deriving DecidableEq, Repr

/-- A member as a device knows it (R252, R266). `parent` is the fabric node above it. -/
structure FabMember where
  addr : Nat
  level : Nat
  parent : Nat
deriving DecidableEq, Repr

/-- The coordinator's decision (R255): what takes effect at the fabric boundary `at_` (device-time µs). `removed`
lists (fabric address, reason) and `refused` the joins refused with a status. `members` is the membership, `fe` is FE from that boundary on and `quantum` the root's Q in µs. -/
structure FabDecision where
  at_ : Nat
  fe : Word
  quantum : Nat
  commits : List Nat
  aborts : List Nat
  joins : List JoinReq
  refused : List (JoinReq × Nat)
  removed : List (Nat × Nat)
  members : List FabMember
  slots : Option (List Word)
  resync : List Nat
deriving DecidableEq, Repr

/-- A decision as it arrives: over which link, and whether it has come in this plane all the way from the root (R255, R256). -/
structure DecisionIn where
  link : LinkId
  inPlane : Bool
  dec : FabDecision
deriving DecidableEq, Repr

/-- A fabric search request (R259, R277). `ident` is the number of the search in the fabric: the initiator's address plus 1,024 times
the initiator's own count. `launched` is the device time in ns at the start of its slot. -/
structure FabRequest where
  initiator : Nat
  ident : Nat
  slot : Nat
  launched : Nat
  fe : Word
  table : Nat
  exact : Bool
  width : Nat
  multi : Bool
  count : Nat
  key : Key
deriving DecidableEq, Repr

/-- One result of a fabric search (R277): fabric address, entry index or position, action index, PRI. -/
structure FabHit where
  addr : Nat
  index : Nat
  action : Nat
  pri : Nat
deriving DecidableEq, Repr

/-- A reply to a fabric search, merged at each node (R262, R263). `refused` is the root's SLOT_COLLISION (R258). -/
structure FabReply where
  hits : List FabHit
  degraded : Bool
  fallback : Bool
  incomplete : Bool
  absent : Nat
  absentNodes : List Nat
  noTable : Nat
  positional : Bool
  refused : Bool
deriving DecidableEq, Repr

/-- A heartbeat (R268). The fabric address is none on a device that has not joined. -/
structure Heartbeat where
  follow : Bool
  diverged : Bool
  actingLead : Bool
  prepared : List Nat
  addr : Option Nat
deriving DecidableEq, Repr

/-- A mirrored operation (R270): the lead's reference, the opcode (0 for the mailbox WRITE_ENTRY) and the parameter
words, with the glue-up ID that the lead uses in word 0. `places` says where the lead has put it (Table 8.4): the row of a ternary entry,
followed by the source and the destination row of each move that makes room for it, the index of the copy that a WRITE_ENTRY has made, or
the segments of a table; empty for any other operation. -/
structure MirrorOp where
  ref : Nat
  op : Nat
  places : List Nat
  words : List Word
deriving DecidableEq, Repr

/-- A frame on a slow channel, as its controller delivers it (R327, R328): CHAN_ID, byte 6 (BRS, ESI), AF, the data
bytes, and whether its CRC, FCS or characters were good. `remote` marks a classic remote frame (R324), `runt` an HDLC frame
without its address or control byte (R328). -/
structure SlowFrame where
  chanId : Word
  flags : Byte
  af : Word
  data : List Byte
  good : Bool
  remote : Bool
  runt : Bool
deriving DecidableEq, Repr

/-- A PTP message as the PTP instance takes it (R333): an Announce that makes this device a time receiver or a time
transmitter by the best master clock algorithm, a completed offset measurement in ns, and a Delay_Req received on a port
(in INGRESS encoding; on a slow channel a frame with the CHAN_ID of its SLOWCH_PTP_ID). -/
inductive PtpMsg where
  | announce (receiver : Bool)
  | offset (ns : Int)
  | delayReq (port : Nat)
deriving DecidableEq, Repr

/-- What a scratchpad access does (R400). -/
inductive ScratchOp where
  | read | write | add | swap
deriving DecidableEq, Repr

/-- A scratchpad access of a master (Table 12.1). `secure` says that M0 runs the security firmware (R401). `lock` places the access in a
locked sequence (R420): 0 outside one, n from 1 to 64 for the first access, which asks for a lock of n cycles, 65 for a later access,
and 66 for the last, after which the owner releases the lock. -/
structure ScratchReq where
  master : Fin 7
  op : ScratchOp
  offset : BitVec 22
  be : BitVec 8
  data : DWord
  urgent : Bool
  secure : Bool
  lock : Nat
deriving DecidableEq, Repr

/-- The rails of Table 14.1; VDDIO2 has eight banks. -/
inductive Rail where
  | vaon | vddc | vdda | vddah | vddio1
  | vddio2 (bank : Fin 8)
deriving DecidableEq, Repr

/-- A rail against its thresholds (R460): not above 10 %, between, not below 90 %; `ret` is VDDC between 0.45 V and 0.55 V.
DESIGN CHOICE: log entry 176. -/
inductive RailLevel where
  | low | mid | high | ret
deriving DecidableEq, Repr

/-- What a rail has from now on, in mV, and the levels that the straps VIO2_SEL_k have then (R460, R522). -/
structure RailReading where
  mv : Nat
  straps : BitVec 8
deriving DecidableEq, Repr

/-- A relayed chunk (R507), with the header fields that UPDATE_CHUNK carries. -/
structure RelayChunk where
  index : Nat
  total : Nat
  tag : Word
  check : Word
  recurse : Bool
  data : List Byte
deriving DecidableEq, Repr

/-- The answer of a relay target: a chunk is done, or the relay has ended with a result of Table 15.6. -/
inductive RelayAnswer where
  | done (index : Nat)
  | ended (result : Nat)
deriving DecidableEq, Repr

/-- What the partner sends back for a gleaner repair (R140, R212): the rows of a ternary slot as (VALUE, CARE,
RANGE_EN, PRI) with the hidden field's BIRTH, and DEATH where it is dying, the entry index and ACTION, or the static entries of a bucket as
(key, ACTION). -/
inductive RepairData where
  | ternary (rows : List (BitVec 80 × BitVec 80 × BitVec 2 × BitVec 16)) (tag : BitVec 8) (birth : BitVec 3)
      (dying : Option (BitVec 3)) (index : BitVec 21) (action : BitVec 20)
  | exact (entries : List (Nat × BitVec 20))
  | failed
deriving DecidableEq, Repr

/-- What a message on a dovetail or mitre link says, as this device sends it (for the reader of State). -/
inductive LinkMsg where
  | command (c : FwdCommand)
  | reply (r : FwdReply)
  | report (r : FabReport)
  | decision (d : FabDecision) (inPlane : Bool)
  | join (j : JoinReq)
  | request (r : FabRequest)
  | search (r : FabRequest)
  | fabReply (ident : Nat) (r : FabReply)
  | heartbeat (h : Heartbeat)
  | mirror (m : MirrorOp)
  | confirm (ref : Nat) (ok : Bool)
  | prepare (ids : List Nat)
  | ready (ids : List Nat)
  | commit (ids : List Nat) (boundary : Nat)
  | parting
  | repairRequest (exact : Bool) (table key : Nat)
  | repairReply (exact : Bool) (table key : Nat) (d : RepairData)
  | relayChunk (c : RelayChunk)
  | relayAnswer (a : RelayAnswer)
deriving DecidableEq, Repr

end Sys2Proof.Machine
end

