-- ==== Sys2Proof/Machine/SMap.lean ====
section
/-! DEFINITION. Sparse maps: the one plain-data form in which the model holds every large memory and every sparse
table. A map is a list of (key, value) pairs with rising keys in which no pair holds what an unlisted key reads as,
so that equal contents are equal data. -/

namespace Sys2Proof.Machine

/-- A sparse map from numbers. -/
abbrev SMap (α : Type) := List (Nat × α)

/-- What the map holds at `k`; `d` for a key it does not list. -/
def smGet {α : Type} (d : α) : SMap α → Nat → α
  | [], _ => d
  | (a, v) :: m, k => if k = a then v else smGet d m k

/-- The map without a key. -/
def smDel {α : Type} (m : SMap α) (k : Nat) : SMap α := m.filter (fun x => x.1 != k)

/-- The map with `v` at `k`. Writing `d`, what an unlisted key reads as, removes the pair. -/
def smSet {α : Type} [DecidableEq α] (d : α) : SMap α → Nat → α → SMap α
  | [], k, v => if v = d then [] else [(k, v)]
  | (a, w) :: m, k, v =>
    if k < a then (if v = d then (a, w) :: smDel m k else (k, v) :: (a, w) :: m)
    else if k = a then (if v = d then smDel m k else (k, v) :: m)
    else (a, w) :: smSet d m k v

/-- Apply `f` to every listed pair and keep the pairs that do not come out as `d`. -/
def smMap {α : Type} [DecidableEq α] (d : α) (f : Nat → α → α) : SMap α → SMap α
  | [] => []
  | (a, v) :: m => smSet d (smMap d f m) a (f a v)

/-- A key lies above a bound, if there is one. -/
def smAbove : Option Nat → Nat → Bool
  | none, _ => true
  | some l, k => decide (l < k)

/-- Every key of the map is above `lo`, keys rise, and no pair holds its key's default. -/
def smWfFrom {α : Type} [DecidableEq α] (d : Nat → α) : Option Nat → SMap α → Bool
  | _, [] => true
  | lo, (a, v) :: m =>
    smAbove lo a && decide (v ≠ d a) && smWfFrom d (some a) m

/-- The canonical form of a map whose unlisted key `k` reads as `d k`. -/
def smWf {α : Type} [DecidableEq α] (d : Nat → α) (m : SMap α) : Bool := smWfFrom d none m

end Sys2Proof.Machine
end

