-- ==== Sys2Proof/Machine/StateCmd.lean ====
section
/-! DEFINITION. The parts of State of Roesk Command Packets and of Registers: time, the register file with its
staging, shadows, locks and posted writes, the event queue, and the command path. -/

namespace Sys2Proof.Machine

/-- The clocks of the core domain. `age` is the age clock in CCLK (R331). `dt` is device time in units of
10⁻¹⁰ ns, in which one CCLK of 0.8 ns at rate offset RATE (in 10⁻⁹) is exactly 8 × (10⁹ + RATE) units (R330).
DEDUCED: log entry 138. -/
structure ClkSt where
  age : Nat
  dt : Nat
  rate : Int
deriving DecidableEq, Repr

/-- A posted write that waits for its slow-domain block (R436): the native address of the access (alias page
included), the data, and the path's held HI word. -/
structure Posted where
  addr : Nat
  data : Word
  path : Path
deriving DecidableEq, Repr

/-- What one register path holds for 64-bit values (R438, R365): the LO or NSEC register most recently read (0 for none) and what
its read has latched, and the write buffer of a HI write. -/
structure PathSt where
  lastLo : Nat
  shadow : DWord
  held : Word
deriving DecidableEq, Repr

/-- A running apply (R441): the groups it names, the values taken at the strobe by register, and the conflict found, 0 for none. -/
structure Apply where
  groups : Nat
  values : SMap (Option Word)
  conflict : Nat
deriving DecidableEq, Repr

/-- The configuration CRC pass (R453 to R455): whether one runs and when it started (age clock), a commit that waits, a further
one that is remembered (R6), and whether the running pass loads the reference; MISMATCH, and whether a mismatch has been latched. `startVals` holds
the registers as they were when the running pass started. -/
structure CrcSt where
  running : Bool
  lastStart : Nat
  commitWait : Bool
  commitNext : Bool
  passCommits : Bool
  startVals : SMap Word
  mismatch : Bool
  latched : Bool
deriving DecidableEq, Repr

/-- The registers. `vals` lists every register that does not hold its reset value, by native normal address (R428);
STAT fields that follow a cause elsewhere in State are computed when read. `staged` holds the staged values (R440).
`w1done` lists the W1 registers that have taken their first write (R7). `lockSeen` and `dropSeen` are true while the
address last captured has been read (R446). `apply` lists the applies that run, oldest first, and `applyNext` the groups with one
further request (R6). `msiCond` has bit v set while the condition of vector v was 1 when it was last sampled (R449). -/
structure RegSt where
  vals : SMap Word
  staged : SMap (Option Word)
  w1done : SMap Bool
  pcie : PathSt
  spi : PathSt
  firmware : PathSt
  posted : SMap (Option Posted)
  apply : List Apply
  applyNext : Nat
  lockSeen : Bool
  dropSeen : Bool
  crc : CrcSt
  msiCond : Nat
deriving DecidableEq, Repr

/-- One entry of the event queue (Table 13.6). -/
structure EvtEntry where
  w0 : Word
  w1 : Word
  a : Word
  b : Word
deriving DecidableEq, Repr

/-- An event remembered for the suppression rule (R108): its block code, its key, and the age clock at entry. -/
structure EvtKey where
  block : Nat
  key : List Nat
  at_ : Nat
deriving DecidableEq, Repr

/-- The event queue (R450) and what R108 remembers, newest first. -/
structure EvtSt where
  q : List EvtEntry
  lost : Bool
  recent : List EvtKey
deriving DecidableEq, Repr

/-- The submission slot that a command came from (Table 2.9). -/
structure SqBuf where
  index : Nat
  addr : DWord
  len : Nat
deriving DecidableEq, Repr

/-- A reply that waits for room in its completion queue (R48, R49). `cmd` is the command's record, 0 for none. -/
structure HeldReply where
  cmd : Nat
  tag : Word
  status : Nat
  buf : Option SqBuf
  trunc : Bool
  final : Bool
  packet : List Byte
deriving DecidableEq, Repr

/-- A completion as the device posted it (Table 2.9) at the host address `addr`, with its 16 bytes, the reply it wrote and the MSI-X
vector. -/
structure PostedCompletion where
  bytes : List Byte
  pair : Nat
  slot : Nat
  addr : Nat
  tag : Word
  status : Nat
  sqHead : Nat
  replyLen : Nat
  index : Nat
  phase : Bool
  trunc : Bool
  vector : Nat
  bufAddr : DWord
  packet : List Byte
deriving DecidableEq, Repr

/-- One PCI Express queue pair (R46 to R53). `run` is set from a good enable to the disable or reset. -/
structure QPair where
  run : Bool
  stopping : Bool
  stopped : Bool
  doorbellErr : Bool
  sqBase : Nat
  cqBase : Nat
  sqLog2 : Nat
  cqLog2 : Nat
  sqHead : Nat
  sqTail : Nat
  cqHead : Nat
  cqTail : Nat
  phase : Bool
  held : List HeldReply
deriving DecidableEq, Repr

/-- Where a command stands: accepted and not started, running, answered PENDING, sent on to another device, or ended with its final reply
still to be sent. -/
inductive CmdPhase where
  | accepted | running | pending | forwarded | replied
deriving DecidableEq, Repr

/-- An outstanding command (R62). `finals` is how many final replies are still to come (2 with SIDE 0b10, R66);
`away` lists, by their SIDE flags, those that come from other devices; `mute` is set when its pair was reset (R52); `vtag` is the VLAN
tag of an in-band request (R58); `side` is the SIDE flag of this device's own reply, fixed when the command starts (R66). -/
structure Cmd where
  id : Nat
  op : Nat
  q : Request
  buf : Option SqBuf
  vtag : Option Nat
  phase : CmdPhase
  mute : Bool
  sentAt : Nat
  finals : Nat
  away : List Bool
  side : Bool
deriving DecidableEq, Repr

/-- One in-band stream (R59): its last request and the 16 most recent final replies, newest first. -/
structure InbandStream where
  port : Fin 32
  src : BitVec 48
  vid : BitVec 12
  lastReq : Nat
  kept : List (Word × List Byte)
deriving DecidableEq, Repr

/-- What a command that answered PENDING waits for. -/
inductive WaitOn where
  | profile (n : Nat)
  | resize (table : Nat)
  | destroy (table : Nat)
  | exactDestroy (table : Nat)
  | implicit (id : Nat)
  | clamp (ids : List Nat)
  | abort (id : Nat)
  | rehash (table : Nat)
  | flush (port : Nat)
  | join
  | leave
  | evict (node : Nat)
  | resync
  | powerEntry
  | calErase
deriving DecidableEq, Repr

/-- A command whose final reply waits for a later event (R33), with what is known of the reply. -/
structure Waiter where
  on : WaitOn
  op : Nat
  q : Request
  status : Nat
  payload : List Word
deriving DecidableEq, Repr

/-- The command path. -/
structure CmdqSt where
  pairs : SMap QPair
  cmds : List Cmd
  nextId : Nat
  spiReplies : List (List Byte)
  spiOverflow : Bool
  inband : List InbandStream
  waiters : List Waiter
  late : List Nat
deriving DecidableEq, Repr

end Sys2Proof.Machine
end

