-- ==== Sys2Proof/Machine/StateTables.lean ====
section
/-! DEFINITION. The parts of State of Search Array, of Segments and Ternary Tables, and of Glue-ups, Epochs and
Snapshot Searches. -/

namespace Sys2Proof.Machine

/-- The states of a row or of an exact-match entry (Table 5.1). -/
inductive RowState where
  | free | live | dying | veneer
deriving DecidableEq, Repr

/-- One row of the search array (Table 3.1). Parity bits are stored, so that a mismatch can stand (R74). -/
structure Row where
  value : BitVec 80
  care : BitVec 80
  rangeEn : BitVec 2
  tag : BitVec 8
  birth : BitVec 3
  death : BitVec 3
  state : RowState
  pri : BitVec 16
  parity : BitVec 5
deriving DecidableEq, Repr

/-- The result word of an entry slot, with its even parity bit (R116). -/
structure ResultWord where
  index : BitVec 21
  action : BitVec 20
  parity : Bool
deriving DecidableEq, Repr

/-- A segment (R109): the table that holds it, 0 when free, and whether a shrink or a destroy is releasing it. -/
structure Segment where
  table : Nat
  releasing : Bool
deriving DecidableEq, Repr

/-- One version of a versioned object and the epoch number at whose start it took effect (R149). -/
structure Ver (α : Type) where
  birth : BitVec 3
  val : α
deriving DecidableEq, Repr

/-- A ternary table descriptor (Table 4.2). `sets` lists, for partition p and replica r, at position
p × REPLICAS + r, the segments of the search set in assignment order (R114). -/
structure TernDesc where
  width : Nat
  resolution : Nat
  partLog2 : Nat
  partLsb : Nat
  replicas : Nat
  segs : Nat
  actionBase : Nat
  sets : List (List Nat)
deriving DecidableEq, Repr

/-- What a table command still has to do to a ternary table (R123 to R125). A resize holds the new SEGS and the new
search sets; `firstTry` is when a shrink first met a claimed entry. -/
inductive TableBusy where
  | idle
  | growing (segs : Nat) (sets : List (List Nat))
  | shrinking (segs : Nat) (sets : List (List Nat)) (firstTry : Option Nat)
  | swapping (segs : Nat) (sets : List (List Nat)) (shrunk : Bool)
  | releasing
  | destroying
  | draining (epoch : BitVec 3)
deriving DecidableEq, Repr

/-- A ternary table: the versions of its descriptor, newest first (`none` after a destroy), its GEN (R132) and the
command in progress on it. -/
structure TernTable where
  vers : List (Ver (Option TernDesc))
  gen : Word
  busy : TableBusy
deriving DecidableEq, Repr

/-- A key profile (Table 3.4). -/
structure Profile where
  width : Nat
  table : Nat
  wave : Nat
  const : DWord
  instrs : List Word
deriving DecidableEq, Repr

/-- The versions of a profile, newest first, and the standby version that waits for an advance (R95). -/
structure ProfileSt where
  vers : List (Ver Profile)
  standby : Option Profile
deriving DecidableEq, Repr

/-- One hit of a search: entry index, action index and priority, in rank order (R104). -/
structure Hit where
  index : Nat
  action : Nat
  pri : Nat
deriving DecidableEq, Repr

/-- The report of one block that carries a flag (R86, R88): whether it is BLOCK_DEGRADED, and the entry indices of
its failed candidates, highest rank first. -/
structure BlockFlag where
  degraded : Bool
  failed : List Nat
deriving DecidableEq, Repr

/-- A merged search result (R87, R88). `failed` lists the first rows of every candidate that failed verification. -/
structure SearchRes where
  hits : List Hit
  degraded : Bool
  fallback : Bool
  flags : List BlockFlag
  failed : List Nat
deriving DecidableEq, Repr

/-- A candidate of a block (R86, R88): the first row of its entry, the slot in its search set, and what its priority tree ranks it by,
the lower the higher. -/
structure Pick where
  row : Nat
  slot : Nat
  rank : Nat
deriving DecidableEq, Repr

/-- Where a lane's search stands: waiting for a port, held by the governor, or granted. -/
inductive SearchPhase where
  | waiting | held | granted
deriving DecidableEq, Repr

/-- A search that a traffic lane has issued for a frame (R89, R96), or that a fabric search makes through LS.
`frame` is the frame's number in the device, `role` its role, `profile` the profile it is made under, `issued` the age clock of the cycle in
which its lane issues it (R19), which may lie ahead, `at_` that of the last grant, `waited` says that it has been counted as waiting for a port (R81), and `starved` that its
wait has crossed the bound of R423. `picks` are the candidates that the blocks fixed, and `res` is what their read-back gave, once that
has come (Table 3.3). -/
structure Search where
  lane : Nat
  frame : Nat
  role : Nat
  profile : Nat
  epoch : BitVec 3
  table : Nat
  exact : Bool
  key : Key
  width : Nat
  urgent : Bool
  phase : SearchPhase
  issued : Nat
  at_ : Nat
  replica : Nat
  port : Nat
  waited : Bool
  starved : Bool
  blocks : List Nat
  picks : List Pick
  res : Option SearchRes
deriving DecidableEq, Repr

/-- A failure queued to the gleaner (R138): the table, the first row of the failed copy, and whether it has been counted
already, since a claimed slot is counted at once and acted on later (R141). -/
structure GleanFail where
  table : Nat
  row : Nat
  counted : Bool
deriving DecidableEq, Repr

/-- The search array and the ternary tables. `rows` is keyed by physical row number, `words` by the first row of a
slot. `portFree` is keyed by 2 × block + port: the age clock from which the port accepts a search (R79). `laneNext` is keyed by lane, 8
for LS: the age clock from which the lane can issue its next search (R19). `rewriteAt` is the age clock of the last rewrite cycle, in which no
search is granted (R82); none before the first. `govLevel`
counts in 1/1,250 activation (R98). `invalid` lists the INVALIDATED (table, index) pairs (R139). `gleanQ` lists the
queued failures of R138, oldest first. -/
structure TernSt where
  rows : SMap Row
  words : SMap ResultWord
  segments : SMap Segment
  tables : SMap TernTable
  profiles : SMap ProfileSt
  searches : List Search
  portFree : SMap Nat
  laneNext : SMap Nat
  rewriteAt : Option Nat
  govLevel : Nat
  invalid : List (Nat × Nat)
  gleanQ : List GleanFail
deriving DecidableEq, Repr

/-- The states of a glue-up (Table 5.4). -/
inductive GlueState where
  | free | opened | clamping | settling | aborting
deriving DecidableEq, Repr

/-- Who opened a glue-up: the host, or the firmware for a GLUE 0 command, a make-room move, or table maintenance. -/
inductive GlueBy where
  | host | implicit | move | maintenance
deriving DecidableEq, Repr

/-- One glue-up ID. `clampAt` is the age clock at which its GLUE_CLAMP was accepted (R165). `held` keeps it out of
the local advance while a twin or a fabric decides (Dovetail Fabric and Twins). `fabric` marks a glue-up that spans
the fabric (R264). -/
structure GlueUp where
  st : GlueState
  retry : Bool
  opener : GlueBy
  age : Word
  ops : Nat
  timeoutS : Nat
  openedAt : Nat
  reason : Nat
  lastAbort : Nat
  wounder : Nat
  clampAt : Nat
  clampEpoch : BitVec 3
  held : Bool
deriving DecidableEq, Repr

/-- An operation that waits in the firmware's retry queue (R168): its glue-up, its command, and when it was first
tried. -/
structure RetryOp where
  id : Nat
  op : Nat
  q : Request
  since : Nat
deriving DecidableEq, Repr

/-- An entry as ENTRY_WRITE gives it. -/
structure NewEntry where
  index : Nat
  pri : Nat
  rangeEn : Nat
  value : Nat
  care : Nat
  action : Nat
deriving DecidableEq, Repr

/-- An entry write in its make-room moves (R171): its glue-up, command, table, partition and index, the moves still to make as
(source, destination) slots, the slot for its own entry, the slots claimed, the operations of the write itself, how many moves were made, the glue-up of
the move in flight with its destination, whether that destination takes over a pending delete of the claiming glue-up,
since when the next move waits for a free glue-up ID, since when the job waits for a claim of another glue-up, when the command was first tried, and
the (table, index or key) pairs that the command claims besides (R158). A `finished` one has written its entry: only its claims stand, until its glue-up
ends. -/
structure MakeRoom where
  id : Nat
  op : Nat
  q : Request
  table : Nat
  part : Nat
  index : Nat
  entry : NewEntry
  moves : List (Nat × Nat)
  place : Nat
  claimed : List Nat
  base : Nat
  done : Nat
  moving : Option (Nat × Nat)
  redo : Bool
  waitSince : Option Nat
  stuck : Option Nat
  since : Nat
  claims : List (Nat × Nat)
  finished : Bool
deriving DecidableEq, Repr

/-- The glue-up engine: the current epoch number (R142), the glue-up IDs, the next age (R156), the device time in ns of
the last boundary (R144; a step of device time moves it along, so it can be negative), the retry queue, the
make-room moves, and the ternary indices and exact-match keys that each glue-up has counted an operation for, as (ID, table, index or key)
(R121). -/
structure GlueSt where
  c : BitVec 3
  ups : SMap GlueUp
  nextAge : Word
  lastBoundary : Int
  retryQ : List RetryOp
  moves : List MakeRoom
  touched : List (Nat × Nat × Nat)
deriving DecidableEq, Repr

end Sys2Proof.Machine
end

