-- ==== Sys2Proof/Machine/StateExact.lean ====
section
/-! DEFINITION. The parts of State of Exact-Match Tables, Learning and Ageing and of Action Memory and Coherence. -/

namespace Sys2Proof.Machine

/-- A slot of the exact-match store or of its overflow store: the image of Table 6.1, whose copies of TAG, BIRTH and
DEATH the device never uses (R180), the tag-table word with its parity bit, and the overflow namespace (R182). -/
structure Slot where
  key : BitVec 80
  action : BitVec 20
  ts : BitVec 12
  learned : Bool
  imgTag : BitVec 8
  imgBirth : BitVec 3
  imgDeath : BitVec 3
  parity : Bool
  tag : BitVec 8
  birth : BitVec 3
  death : BitVec 3
  state : RowState
  tagParity : Bool
  ns : BitVec 7
deriving DecidableEq, Repr

/-- An exact-match table descriptor (Table 6.2). -/
structure ExactDesc where
  width : Nat
  log2 : Nat
  base : Nat
  seed : Word
  ns : Nat
  learnEn : Bool
  learnProfile : Nat
  evictEn : Bool
  ageLimit : Nat
  notifyAged : Bool
deriving DecidableEq, Repr

/-- What a command still has to do to an exact-match table. -/
inductive ExactBusy where
  | idle
  | destroying
  | draining (epoch : BitVec 3)
deriving DecidableEq, Repr

/-- An exact-match table: descriptor versions, newest first, GEN, the number of rehashes (DESC_SEQ, R221), the
command in progress, the descriptor that a destroy has taken away while it drains, and the ageing settings that wait for the next sweep (R219). -/
structure ExactTable where
  vers : List (Ver (Option ExactDesc))
  gen : Word
  descSeq : Word
  busy : ExactBusy
  gone : Option ExactDesc
  nextAge : Option (Nat × Bool)
deriving DecidableEq, Repr

/-- A record of the pending-learn filter (R198): `at_` is the age clock at its creation and `time` the device time in µs. -/
structure FilterRec where
  move : Bool
  table : Nat
  key : Nat
  port1 : Nat
  port2 : Nat
  race : Bool
  at_ : Nat
  time : Word
deriving DecidableEq, Repr

/-- A notification of the learn queue (Table 6.8); `kind` is 1 LEARN, 2 MOVE, 3 EVICTED, 4 AGED. -/
structure LearnNote where
  kind : Nat
  race : Bool
  learned : Bool
  width : Nat
  table : Nat
  port : Nat
  port2 : Nat
  time : Word
  action : Nat
  key : Nat
deriving DecidableEq, Repr

/-- Where a rehash stands (R194, R195). -/
inductive RehashPhase where
  | copying | swapping (id : Nat) | draining (epoch : BitVec 3)
deriving DecidableEq, Repr

/-- The rehash that runs in the device: the table, the descriptor of the new build, the walk position still to copy,
and the entries copied. -/
structure Rehash where
  table : Nat
  old : ExactDesc
  new : ExactDesc
  next : Nat
  copied : Nat
  phase : RehashPhase
deriving DecidableEq, Repr

/-- A FLUSH_BY_PORT walk (R209): what is still to walk as (table, walk index), the slots whose deletion is queued or
still claimed, the glue-ups that delete them and the counts so far. -/
structure Flush where
  port : Nat
  static : Bool
  tables : List Nat
  walked : List Nat
  next : Nat
  queued : List (Nat × Nat)
  claimed : List (Nat × Nat)
  ids : List Nat
  deleted : Nat
  skipped : Nat
  ended : Bool
deriving DecidableEq, Repr

/-- An insert that waits under R191: its glue-up, its command, its key, ACTION and LEARNED, the slots it has claimed, the operations it counts, and
the firmware glue-up that deletes its victim, 0 without an eviction. -/
structure InsertWait where
  id : Nat
  op : Nat
  q : Request
  table : Nat
  key : Nat
  action : Nat
  learned : Bool
  slots : List Nat
  ops : Nat
  evictId : Nat
deriving DecidableEq, Repr

/-- The mower (R204 to R206): the clock, the device time in ns of the next tick (a step of device time
moves it along), the next read of the sweep, and the
entries queued for deletion as (table, position). -/
structure Mower where
  clock : BitVec 12
  nextTick : Int
  sweep : Option Nat
  queue : List (Nat × Nat)
  ids : List (Nat × List (Nat × Nat))
deriving DecidableEq, Repr

/-- The exact-match store. `slots` is keyed by position (R207). `evicts` are the firmware glue-ups that evict (R192); `written` is the age
clock of the last firmware write of slots and the positions written in that CCLK (R189). `gleanQ` lists the failing slots queued to the
gleaner, with the position as the row. -/
structure ExactSt where
  slots : SMap Slot
  tables : SMap ExactTable
  filter : List FilterRec
  learnQ : List LearnNote
  rehash : Option Rehash
  flushes : List Flush
  inserts : List InsertWait
  evicts : List Nat
  written : Nat × List Nat
  mower : Mower
  gleanQ : List GleanFail
deriving DecidableEq, Repr

/-- DSTATE (Table 7.4). -/
inductive DirState where
  | unused | shared | excl | owned
deriving DecidableEq, Repr

/-- A directory entry (Table 7.4). `line` is the whole line number; `order` is when the way was allocated. -/
structure DirEntry where
  line : Nat
  dstate : DirState
  owner : BitVec 4
  sharers : BitVec 12
  pin : BitVec 8
  busy : Bool
  order : Nat
deriving DecidableEq, Repr

/-- A line in a cache: its state, its sixteen words, and when it was last used. -/
structure CacheLine where
  state : Moesi
  words : List Word
  used : Nat
deriving DecidableEq, Repr

/-- The requests of Table 7.5. -/
inductive CohReqKind where
  | getS | getM | upgrade | readNa
deriving DecidableEq, Repr

/-- A request that an agent has sent and that is not yet answered (R234): the NACKs received, the cycle of its
resend when one is due, and the glue-up that a GET_M or UPGRADE names (R237). -/
structure CohReq where
  agent : Nat
  line : Nat
  kind : CohReqKind
  glue : Nat
  nacks : Nat
  resendAt : Option Nat
deriving DecidableEq, Repr

/-- An open transaction at a home (R232 to R236): the line, the request it serves (none for an eviction), the acks
still expected, the agents whose FWD_DONE or WB is expected, whether the request gets GRANT in place of DATA, whether the
owner has sent the data, the request that waits for an evicted way, and since when. -/
structure CohTrans where
  line : Nat
  req : Option CohReq
  acks : List Nat
  fwdFrom : Option Nat
  wbFrom : Option Nat
  grant : Bool
  sent : Bool
  forSet : Option CohReq
  since : Nat
deriving DecidableEq, Repr

/-- A senior reservation (R234). -/
structure Senior where
  line : Nat
  agent : Nat
  at_ : Nat
deriving DecidableEq, Repr

/-- A message of the coherence network (Table 7.5). A NACK says whether a fully pinned set caused it (R238). -/
inductive CohMsg where
  | fwdS (owner line requester : Nat)
  | fwdM (owner line requester : Nat)
  | fwdNa (owner line requester : Nat)
  | inv (agent line : Nat)
  | recall (agent line : Nat)
  | invAck (agent line : Nat)
  | fwdDone (agent line : Nat)
  | fwdMiss (agent line : Nat)
  | nack (agent line k : Nat) (pinned : Bool)
  | err (agent line : Nat)
  | data (agent line : Nat) (state : Option Moesi) (poison : Bool) (words : List Word)
  | grant (agent line : Nat) (poison : Bool)
  | wb (agent line : Nat) (words : List Word)
  | atomicRes (agent line : Nat) (poison : Bool) (words : List DWord) (colour : Nat)
  | request (agent line : Nat) (kind : CohReqKind)
  | atomic (agent line : Nat) (op : AtomicOp)
deriving DecidableEq, Repr

/-- A message in flight: its sender (an agent, or 16 + a home), and the age clock at which it arrives (R231). -/
structure NetMsg where
  src : Nat
  due : Nat
  msg : CohMsg
deriving DecidableEq, Repr

/-- The most recent same-cycle tie of a class at a home (R232): its cycle (plus 1), and the agent that came first. -/
structure Tie where
  cycle : Nat
  first : Nat
deriving DecidableEq, Repr

/-- A request that waits for the writeback of its own agent, and since when (R235). -/
structure HeldReq where
  req : CohReq
  since : Nat
deriving DecidableEq, Repr

/-- A copy-pool entry (R163): whether it is in use, the original it replaces, and the glue-up that made it while that
is open. -/
structure CowEntry where
  used : Bool
  orig : Nat
  glue : Nat
deriving DecidableEq, Repr

/-- A request latched by the action mailbox (R245): OP (8 where a reserved bit was set), GLUE, INDEX and the data words,
with the operations that a copy-on-write has counted so far, the NACKs that its GET_M has received, and the age clock of its next
resend (R234). -/
structure Mailbox where
  op : Nat
  glue : Nat
  index : Nat
  data : List Word
  ops : Nat
  fresh : Bool
  nacks : Nat
  retryAt : Nat
deriving DecidableEq, Repr

/-- Action memory and coherence. `mem` is keyed by 16 × line + word; `dir` by 16 × (64 × home + set) + way; `caches`
by 2¹⁹ × agent + line; `closing` gives the age clock at which DATA or GRANT from the home leaves and so ends a line's transaction
(R233); `ties` is keyed by 4 × home + class; `lastWb` is the line of the writeback that landed last, and when. `atomicAt` is the age clock from which a home starts its next atomic operation (R244). `mailbox` is the request that the mailbox has latched, `fresh` once it has taken a copy itself; `mailboxHeld` says that it waits for the firmware. The region registers in force are kept apart from the registers as written (R225). -/
structure CohSt where
  mem : SMap Word
  poison : SMap Bool
  poisonLast : Word
  dir : SMap DirEntry
  order : Nat
  caches : SMap CacheLine
  reqs : List CohReq
  trans : List CohTrans
  closing : SMap Nat
  waiting : List HeldReq
  held : List CohMsg
  seniors : List Senior
  failed : BitVec 16
  atomicAt : SMap Nat
  gated : BitVec 16
  ctrBase : Nat
  ctrLines : Nat
  cowBase : Nat
  cowCount : Nat
  defaulted : Bool
  cow : SMap CowEntry
  mailbox : Option Mailbox
  mailboxHeld : Bool
  mailboxNext : Bool
  net : List NetMsg
  ties : SMap Tie
  lastWb : Option (Nat × Nat)
deriving DecidableEq, Repr

end Sys2Proof.Machine
end

