-- ==== Sys2Proof/Machine/StateFabric.lean ====
section
/-! DEFINITION. The parts of State of Dovetail Fabric and Twins. -/

namespace Sys2Proof.Machine

/-- A fabric search that this device takes part in (R259 to R263): the request; at the initiator the FABRIC_SEARCH that waits for
its reply; the epoch of the local search from its grant to its result; whether the local contribution is still to come, and whether
the merged reply has been passed on; what this member and its children have contributed so far; the children still awaited; and
at the initiator the merged result of the whole plane. -/
structure FabJob where
  req : FabRequest
  own : Option Request
  granted : Option (BitVec 3)
  open_ : Bool
  sent : Bool
  merged : FabReply
  await : List LinkId
  result : Option FabReply
deriving DecidableEq, Repr

/-- A join of this device that waits for its admission (R266, R274). -/
structure PendingJoin where
  req : JoinReq
  since : Nat
  sent : Bool
deriving DecidableEq, Repr

/-- The dovetail fabric. `limits` holds, at the coordinator, since when (age clock) each fabric glue-up ID has been
in HELD without a commit, and `holders` which device holds which (R265). `decidedAt` is the boundary of the last decision that has come
here, and `inPlaneAt` that of the last which has come all the way in this plane (R255). `slots` is the slot table in force and `newSlots` says that the coordinator's
registers have been written since (R257). `quantum` is the root's Q in µs (R254). `pendJoins` are the join requests that wait in the reports, with the link that each came on,
`leaves` this device's own leave and, at the coordinator, the nodes to evict, with a reason (1 leave, 2 evicted). `prevC` is the epoch that
was current before the last fabric boundary that changed FE, and `prevRoutes` the route table before it (R261, R266). `launches` are the
FABRIC_SEARCH commands that wait for a slot, and `lastLaunch` is when the last one was launched, in ns. -/
structure FabSt where
  joined : Bool
  node : Nat
  side : Nat
  level : Nat
  depth : Nat
  twinned : Bool
  glueBase : Nat
  fe : Word
  offset : Int
  up : List LinkId
  members : List FabMember
  routes : SMap LinkId
  slots : SMap Word
  newSlots : Bool
  quantum : Nat
  join : Option PendingJoin
  pendJoins : List (JoinReq × LinkId)
  leaves : List (Nat × Nat)
  report : Option FabReport
  decision : Option FabDecision
  lastDecision : Nat
  decidedAt : Nat
  inPlaneAt : Nat
  limits : SMap (Option Nat)
  holders : List (Nat × Nat)
  prevC : BitVec 3
  prevRoutes : SMap LinkId
  jobs : List FabJob
  launches : List Request
  lastLaunch : Option Nat
  nextIdent : Nat
deriving DecidableEq, Repr

/-- A lead's two-phase clamp (R272): its glue-ups, the target boundary (device time in ns), when PREPARE was sent, and
whether COMMIT has been sent. -/
structure PrepJob where
  ids : List Nat
  target : Nat
  since : Nat
  committed : Bool
  alone : Bool
deriving DecidableEq, Repr

/-- The glue-ups of a PREPARE at the follow side (R272): whether READY was sent, since when, and the boundary named in COMMIT. -/
structure FollowPrep where
  ids : List Nat
  ready : Bool
  since : Nat
  commitAt : Option Nat
  alone : Bool
deriving DecidableEq, Repr

/-- A mirrored operation of the lead that waits for its confirmation (R270), and the final reply that it holds back once
the command has ended. `glue` is the glue-up that carries it, 0 for none. -/
structure MirrorWait where
  ref : Nat
  op : Nat
  q : Request
  glue : Nat
  final : Option (Nat × List Word)
deriving DecidableEq, Repr

/-- A resync in progress (R273): which side this is, whether the target has discarded its contents, whether a joined
source has reported that its copy waits for a switch-over, and whether its fabric boundary has come.
DESIGN CHOICE: log entry 100. -/
structure Resync where
  source : Bool
  dropped : Bool
  ready : Bool
  due : Bool
deriving DecidableEq, Repr

/-- The mitre link and the twin. `config` is what TWIN_CONFIG asked for: none, or the role (true for follow). `partnerAddr` is the
fabric address in the partner's last heartbeat. `parting` is set
from PARTING until the two-phase clamps in progress have ended (R474). `waitOps` lists mirrored operations whose glue-up ID a
glue-up of this side's own learning still holds. -/
structure TwinSt where
  config : Option Bool
  formed : Bool
  partnerSeen : Bool
  diverged : Bool
  actingLead : Bool
  roleClash : Bool
  partnerAddr : Option Nat
  linkUp : Bool
  lastBeat : Nat
  misses : Nat
  lost : Bool
  lostAt : Option Nat
  parting : Bool
  lastSent : Nat
  preps : List PrepJob
  prepared : List FollowPrep
  mirrors : List MirrorWait
  nextRef : Nat
  resync : Option Resync
  ingressHeld : Bool
  waitOps : List MirrorOp
deriving DecidableEq, Repr

end Sys2Proof.Machine
end

