-- ==== Sys2Proof/Machine/StateSwitch.lean ====
section
/-! DEFINITION. The parts of State of Frame Forwarding, Buffers and Policing and of Slow Channels, Signals and
Freshness. Ports and channels are numbered in INGRESS encoding (Table 3.6): 0–31 for E0–E31, 64 + n for Sn. -/

namespace Sys2Proof.Machine

/-- A role set (Table 9.2): word 3, word 4 and the five MISS_ACTION words. -/
structure RoleSet where
  w3 : Word
  w4 : Word
  miss : List Word
deriving DecidableEq, Repr

/-- An Ethernet port as PORT_CONFIG sets it (R314), the speed that SGMII has negotiated in Mbit/s, its link (R285), and its sequence counter (R287). `lossSince` is
the age clock at which the PCS first reported loss, `downAt` that at which the port was flushed last (R307). -/
structure EthPort where
  mode : Nat
  lat : Bool
  defTc : Nat
  trustPcp : Bool
  maxFrame : Nat
  portUser : Word
  roles : RoleSet
  mbps : Nat
  linkUp : Bool
  lossSince : Option Nat
  downAt : Option Nat
  seq : Nat
deriving DecidableEq, Repr

/-- A holder of buffer cells (R298). `overAt` is the age clock at which it became OVER_QUOTA (R300), 0 while it is not. -/
structure Holder where
  min : Nat
  quota : Nat
  used : Nat
  overQ : Bool
  overAt : Nat
deriving DecidableEq, Repr

/-- Where a frame stands on its path (R290, R295). -/
inductive FrameStage where
  | wave1 | wave2 | decided
deriving DecidableEq, Repr

/-- The result of one role of a frame: whether its search is still out, whether it hit, and its action index. -/
structure RoleRes where
  out : Bool
  hit : Bool
  action : Nat
deriving DecidableEq, Repr

/-- A frame in the device. `num` is the model's own number for it; `bytes` the frame as parsed (R93) or the stored
image (R327); `length` the length of R16; `relAt` the release cycle of R15; `rxAge` and `rxNs` the receive timestamp
on the age clock and in DT_NS; `entries` the action entries in use by role; `drops` the copies dropped so far as
(port, reason); `counted` says that it counts in its epoch, which a reuse of the number ends (R151). -/
structure Frame where
  num : Nat
  ingress : Nat
  seq : Nat
  epoch : BitVec 3
  deadline : Nat
  relAt : Nat
  rxAge : Nat
  rxNs : Nat
  roles : RoleSet
  portUser : Word
  kind : Nat
  bytes : List Byte
  length : Nat
  cells : Nat
  lane : Nat
  stage : FrameStage
  results : List RoleRes
  entries : List (Option (List Word))
  actionErr : Bool
  group : Option Nat
  gi : Bool
  sent : Nat
  drops : List (Nat × Nat)
  counted : Bool
deriving DecidableEq, Repr

/-- A copy in an egress queue (R296, R297). `frame` is 0 for a PDU of the mapper and for a reply frame. `wire` is what
is on the wire while the copy is being sent. -/
structure Copy where
  frame : Nat
  ingress : Nat
  port : Nat
  queue : Nat
  cells : Nat
  bytes : List Byte
  image : Bool
  session : Nat
  deadline : Option Nat
  pdu : Option Nat
  released : Bool
  eligible : Bool
  relAt : Nat
  sending : Bool
  wire : List Byte
deriving DecidableEq, Repr

/-- The settings of a policer (R316). -/
structure Policer where
  rfc4115 : Bool
  aware : Bool
  enable : Bool
  lenAdj : Int
  cir : Nat
  cbs : Nat
  pir : Nat
  pbs : Nat
  act : Word
deriving DecidableEq, Repr

/-- A multicast group (R304). -/
structure McGroup where
  e : Word
  sLo : Word
  sHi : Word
  gi : Bool
  prune : Bool
deriving DecidableEq, Repr

/-- A versioned object that glue-ups change: its versions, newest first, and the change in veneer with the glue-up
that claims the object. `reset` marks a change whose buckets are filled during SETTLING (R313). -/
structure Versioned (α : Type) where
  vers : List (Ver α)
  pend : Option (Nat × α × Bool)
deriving DecidableEq, Repr

/-- A fill of a policer that is due during SETTLING of its glue-up (R313). -/
structure PolicerFill where
  id : Nat
  policer : Nat
  zero : Bool
deriving DecidableEq, Repr

/-- The switch core. `limitsWas` holds the limits that stood before the QUEUE_CONFIG of a CCLK, with the age clock of that CCLK
(R303). -/
structure SwitchSt where
  ports : SMap EthPort
  holders : SMap Holder
  limitsWas : Option (Nat × SMap Holder)
  frames : List Frame
  copies : List Copy
  nextFrame : Nat
  policers : SMap (Versioned Policer)
  everEnabled : SMap Bool
  fills : List PolicerFill
  groups : SMap (Versioned McGroup)
deriving DecidableEq, Repr

/-- A slow channel as CHANNEL_CONFIG sets it (R354), and its bus state (R326). `recessive` is set once 128
occurrences of 11 recessive bits have passed in bus-off, `recover` once SLOWCH_RECOVER has been written. The byte counts
are those of PORT_STATS (R320).
DESIGN CHOICE: log entry 120. -/
structure SlowCh where
  w0 : Word
  nomRate : Nat
  dataRate : Nat
  roles : RoleSet
  portUser : Word
  sp : Word
  tunnel : Word
  tunnelDa : Nat
  active : Bool
  busOff : Bool
  recessive : Bool
  recover : Bool
  tec : Nat
  rec_ : Nat
  seq : Nat
  rxBytes : Nat
  txBytes : Nat
deriving DecidableEq, Repr

/-- A signal route as ROUTE_WRITE gives it (R355): its eight record words, and what it holds: the value and its
birth on the age clock (R341), and whether its last sample was stale, none before the first. -/
structure Route where
  rec_ : List Word
  value : Option (Nat × Int)
  last : Option Bool
deriving DecidableEq, Repr

/-- A PDU (R355): its eight record words, SEQ, and the counts of ROUTE_READ. `slot` is the age clock of the last
transmit slot and `slotNs` the device time of the last slot taken. -/
structure Pdu where
  rec_ : List Word
  seq : Nat
  sent : Nat
  lost : Nat
  slot : Nat
  slotNs : Int
deriving DecidableEq, Repr

/-- The signal mapper. `offers` are the mapper PDUs taken off the forwarding path and not yet offered (R339), with
their receive timestamp on the age clock. -/
structure MapperSt where
  routes : SMap Route
  pdus : SMap Pdu
  offers : List (List Byte × Nat)
deriving DecidableEq, Repr

/-- A period generator (R336): P and φ in units of 8 ns, its owner kinds as in TIME_GENg_OWNERS, and DT_NS of its
last tick. A step of device time moves that along (R336), so that it can be negative. -/
structure Gen where
  p : Nat
  phi : Nat
  owners : Nat
  lastTick : Int
deriving DecidableEq, Repr

/-- One copy of a slot table (R345): LENGTH, GEN and the entries as words. -/
structure SlotCopy where
  length : Nat
  gen : Nat
  entries : SMap Word
deriving DecidableEq, Repr

/-- A pending change of the standby copy in a glue-up, with the glue-up that claims the table. -/
structure SlotPend where
  id : Nat
  copy : Option SlotCopy
  swap : Bool
deriving DecidableEq, Repr

/-- The slot table of a port or channel: its two copies, which is active, the current entry, DT_NS of the start of the
cycle, the change in veneer, whether a swap is committed, DT_NS of cycle 5 of the advance that committed it and whether the copy-back is running (R348), and
deferred mirrored writes as (entry waited for, entry, word) (R349). -/
structure SlotTable where
  copyA : SlotCopy
  copyB : SlotCopy
  activeB : Bool
  entry : Nat
  cycleNs : Int
  pend : Option SlotPend
  swapPend : Bool
  swapFrom : Int
  copyBack : Bool
  deferred : List (Nat × Nat × Word)
deriving DecidableEq, Repr

/-- A capture of device time: NSEC and SEC. -/
structure Capture where
  nsec : Nat
  sec : Nat
deriving DecidableEq, Repr

/-- Device time's sources and pins, the period generators and the slot tables. `ptp` and `ptpPorts` are words 5 to 8
of TIME_CONFIG; `ptpState` is as TIME_READ reports it; `ppsLast` is the age clock at the last PPS edge, `ppsWait` that from which the
1.1 s without an edge are counted (R335). -/
structure TimeSt where
  gens : SMap Gen
  tables : SMap SlotTable
  ppsOutEn : Bool
  ppsInMode : Nat
  timerGen : Nat
  capture : Nat
  ptp : Word
  ptpPorts : List Word
  ptpState : Nat
  offset : Int
  ppsSeen : Bool
  holdover : Bool
  ppsLast : Option Nat
  ppsWait : Nat
  ppsIn : Capture
  caps : SMap Capture
  ppsOut : Bool
  timerOut : Option Nat
deriving DecidableEq, Repr

/-- The contents that the source of a resync has copied to the target (R273): the mirrored items of Table 8.4, without learned
entries, counter words and policer state, and the number of bytes copied. -/
structure ResyncImage where
  rows : SMap Row
  words : SMap ResultWord
  segments : SMap Segment
  tables : SMap TernTable
  profiles : SMap ProfileSt
  invalid : List (Nat × Nat)
  slots : SMap Slot
  exact : SMap ExactTable
  mem : SMap Word
  cow : SMap CowEntry
  policers : SMap (Versioned Policer)
  groups : SMap (Versioned McGroup)
  routes : SMap Route
  pdus : SMap Pdu
  slotTables : SMap SlotTable
  ups : SMap GlueUp
  bytes : Nat
deriving DecidableEq, Repr

end Sys2Proof.Machine
end

