-- ==== Sys2Proof/Syntax.lean ====
section
/-! DEFINITION. The commands of the device: one constructor for each row of the opcode table, in its order, with
the row's operands. A host command carries its request; a row that is an event carries what the environment knows. -/

namespace Sys2Proof

open Sys2Proof.Machine

/-- A command of the opcode table. -/
inductive Instr where
  /-- R47: The host writes the submission-queue tail doorbell of a queue pair, making new submission entries
  available or stopping the pair on an out-of-range value. -/
  | sqTailDoorbell (pair : Fin 16) (v : Word)
  /-- R49: The host writes the completion-queue head doorbell, releasing completion slots or stopping the pair on
  an out-of-range value. -/
  | cqHeadDoorbell (pair : Fin 16) (v : Word)
  /-- R51: Writing CMDQ_Qn_CFG.ENABLE from 0 to 1 latches the queue bases and sizes and starts the pair, or stops
  it on bad sizes. -/
  | queuePairEnable (pair : Fin 16) (v : Word)
  /-- R52: Writing ENABLE 0 stops fetching, lets running commands complete and sets STOPPED. -/
  | queuePairDisable (pair : Fin 16) (v : Word)
  /-- R52: CMDQ_Qn_RESET discards unposted completions, zeroes SQ head and CQ tail and sets STOPPED. -/
  | queuePairReset (pair : Fin 16)
  /-- R47: The device fetches a submission entry and its request packet once the fetch conditions hold, and checks
  the request. -/
  | submissionFetch (pair : Fin 16) (entry : List Byte) (packet : List Byte)
  /-- R61: An accepted command starts once stream order, the 64-command limit, FW_READY and any sealed-command
  serialisation allow it. -/
  | commandStart (id : Nat)
  /-- R48: A reply is written to its reply buffer and a completion entry is posted with its phase and vector once
  the completion queue has room. -/
  | completionPost (pair : Fin 16)
  /-- R55: An SPI CMD_WRITE transaction delivers a command packet, taken at the rise of SPI_CS_N, or is discarded
  with OVERFLOW. -/
  | cmdWrite (bytes : List Byte)
  /-- R55: An SPI REPLY_READ clocks out the oldest reply and removes it only when every byte has been read. -/
  | replyRead (n : Nat)
  /-- R54: An SPI STATUS_READ returns the status byte and clears OVERFLOW once it has shown it. -/
  | statusRead
  /-- R54: An SPI REG_READ reads a BAR0 register, limited to the HEATH block while HEATH_ONLY is 1. -/
  | regRead (addr : BitVec 24)
  /-- R55: An SPI REG_WRITE posts a register write, limited to the HEATH block while HEATH_ONLY is 1. -/
  | regWrite (addr : BitVec 24) (v : Word)
  /-- R56: An Ethernet frame that qualifies as a command frame is taken off the forwarding path and queued in its
  in-band stream. -/
  | inbandCommandFrame (port : Fin 32) (f : EthFrame)
  /-- R59: An in-band stream ends 10 s after its last request. -/
  | inbandStreamEnd (port : Fin 32) (src : BitVec 48) (vid : BitVec 12)
  /-- R63: A command forwarded over the dovetail tree or the mitre link arrives at its target device and is
  executed there. -/
  | forwardedCommand (link : LinkId) (auth : Bool) (c : FwdCommand)
  /-- R65: A reply to a forwarded command arrives at the entry device and is delivered, or discarded and counted
  if late. -/
  | forwardedReply (link : LinkId) (r : FwdReply)
  /-- R65: No final reply arrives within CMDQ_FWD_TIMEOUT and the entry device returns FABRIC_NO_REPLY. -/
  | fabricNoReply (id : Nat)
  /-- R70: The command returns part, stepping, firmware, role, life cycle and serial number. -/
  | identify (q : Request)
  /-- R71: The command returns its parameter words unchanged. -/
  | echo (q : Request)
  /-- R452: The command removes up to COUNT event-queue entries, oldest first. -/
  | eventPop (q : Request)
  /-- R136: The command reports segment and entry use for the device or one table. -/
  | capacityReport (q : Request)
  /-- R483: The command reports power state, powered units, governor state and temperature. -/
  | powerReport (q : Request)
  /-- R95: The command writes the standby version of a key profile and answers PENDING until the next epoch
  advance. -/
  | profileWrite (q : Request)
  /-- R102: The command reads the profile version used in the current epoch. -/
  | profileRead (q : Request)
  /-- R103: The command makes a single-match or multi-match host search of a ternary table through LS, from a key
  or a test frame. -/
  | search (q : Request)
  /-- R105: The command writes the governor cap, enable and depth. -/
  | governorSet (q : Request)
  /-- R122: The command creates an empty ternary table and assigns its segments. -/
  | tableCreate (q : Request)
  /-- R123: The command grows or shrinks the segments of a ternary table, answering PENDING. -/
  | tableResize (q : Request)
  /-- R125: The command removes a ternary table descriptor at the next advance, answering PENDING. -/
  | tableDestroy (q : Request)
  /-- R126: The command writes or deletes one ternary entry in a glue-up or an implicit glue-up. -/
  | entryWrite (q : Request)
  /-- R131: The command reads the committed state of a ternary entry. -/
  | entryRead (q : Request)
  /-- R133: The command walks the matches or the entries of a table from a cursor. -/
  | searchNext (q : Request)
  /-- R173: The command opens a glue-up. -/
  | glueOpen (q : Request)
  /-- R174: The command puts glue-ups in CLAMPING for the next eligible epoch advance. -/
  | glueClamp (q : Request)
  /-- R175: The command puts an OPEN glue-up in ABORTING with reason HOST. -/
  | glueAbort (q : Request)
  /-- R176: The command reports the state of one glue-up or of the epochs. -/
  | glueStatus (q : Request)
  /-- R177: The command writes the epoch quantum. -/
  | epochConfig (q : Request)
  /-- R213: The command creates an exact-match table, or destroys one at the next advance. -/
  | exactTableCreate (q : Request)
  /-- R214: The command inserts or replaces an exact-match entry. -/
  | exactInsert (q : Request)
  /-- R215: The command puts a pending delete on an exact-match entry. -/
  | exactDelete (q : Request)
  /-- R216: The command reads the committed state of an exact-match key through an LS search. -/
  | exactRead (q : Request)
  /-- R217: The command removes up to COUNT learn notifications. -/
  | learnPop (q : Request)
  /-- R218: The command walks tables and deletes learned (or static) entries of a station port. -/
  | flushByPort (q : Request)
  /-- R219: The command sets the mower tick and a table's ageing limit. -/
  | mowerConfig (q : Request)
  /-- R220: The command rebuilds an exact-match table under a new seed. -/
  | exactRehash (q : Request)
  /-- R274: The command asks to join the fabric as a node. -/
  | fabricJoin (q : Request)
  /-- R275: The command leaves the fabric or evicts a node subtree. -/
  | fabricLeave (q : Request)
  /-- R276: The command reports fabric membership, time and epoch. -/
  | fabricStatus (q : Request)
  /-- R277: The command launches a search spanning the fabric in the next owned slot. -/
  | fabricSearch (q : Request)
  /-- R278: The command forms or dissolves a twin. -/
  | twinConfig (q : Request)
  /-- R279: The command starts a bulk copy of mirrored state from the source side. -/
  | twinResync (q : Request)
  /-- R280: The command reports heartbeat and divergence state. -/
  | twinStatus (q : Request)
  /-- R314: The command sets an Ethernet port's mode, latency mode and role set. -/
  | portConfig (q : Request)
  /-- R315: The command sets buffer minimums and quotas of holders in one cycle. -/
  | queueConfig (q : Request)
  /-- R316: The command sets a policer's settings in a glue-up. -/
  | policerWrite (q : Request)
  /-- R317: The command reads a policer's settings and counter line, optionally clearing counts. -/
  | policerRead (q : Request)
  /-- R318: The command defines a multicast group in a glue-up. -/
  | mcastGroupWrite (q : Request)
  /-- R319: The command sets the in-device frame budget. -/
  | frameBudgetSet (q : Request)
  /-- R320: The command reads, and optionally clears, a port's counters. -/
  | portStats (q : Request)
  /-- R354: The command sets a slow channel's mode, rates, role set and tunnel settings. -/
  | channelConfig (q : Request)
  /-- R355: The command defines or removes signal routes and PDUs as one group. -/
  | routeWrite (q : Request)
  /-- R356: The command reads a route with its held value and age, or a PDU. -/
  | routeRead (q : Request)
  /-- R357: The command claims or releases owner kinds of a period generator and sets its period and phase. -/
  | periodConfig (q : Request)
  /-- R358: The command writes slot-table entries of the standby copy in a glue-up, or of the active copy at once.
  -/
  | slotWrite (q : Request)
  /-- R359: The command swaps standby and active slot tables in a glue-up. -/
  | slotSwap (q : Request)
  /-- R360: The command sets, steps or rate-adjusts device time and configures PTP, PPS and timing pins. -/
  | timeConfig (q : Request)
  /-- R361: The command reads device time and the age clock in one cycle. -/
  | timeRead (q : Request)
  /-- R362: The command writes wake-matcher designations and patterns. -/
  | wakePatternWrite (q : Request)
  /-- R388: The command creates a secure session from a wrapped key, or sets a port's or channel's security
  settings. -/
  | sessionCreate (q : Request)
  /-- R390: The command frees a session and zeroes its key. -/
  | sessionDelete (q : Request)
  /-- R391: The command reports a session's counters and state. -/
  | sessionStatus (q : Request)
  /-- R392: The command reads the tamper record. -/
  | tamperRead (q : Request)
  /-- R481: The command enters or ends Doze, or starts entry to Keep, Heath watch or Fallow. -/
  | powerState (q : Request)
  /-- R482: The command sets the wake sources and the RTC alarm as one group. -/
  | wakeConfig (q : Request)
  /-- R510: The command delivers one image chunk to the inactive bank. -/
  | updateChunk (q : Request)
  /-- R511: The command starts a check of the whole downloaded image. -/
  | updateVerify (q : Request)
  /-- R511: The command flips the boot pointer to the verified bank under trial. -/
  | updateActivate (q : Request)
  /-- R512: The command confirms the trial image or falls back. -/
  | updateConfirm (q : Request)
  /-- R512: The command reports update stage, bitmap, trial and settings state. -/
  | updateStatus (q : Request)
  /-- R513: The command relays an image to directly linked neighbours. -/
  | updateRelay (q : Request)
  /-- R514: The command puts, deletes, reads or applies settings-store records. -/
  | settingsSave (q : Request)
  /-- R393: The sealed command wipes and burns a life-cycle transition. -/
  | lifecycleSet (q : Request)
  /-- R394: The sealed command loads or erases a KEK slot and the key store. -/
  | keyLoad (q : Request)
  /-- R478: The sealed command erases the user calibration store and restores factory values. -/
  | calRestoreFactory (q : Request)
  /-- R394: The sealed command sets the fabric key. -/
  | fabricKeySet (q : Request)
  /-- R515: The sealed command falls back to the previous image and restarts. -/
  | forceFallback (q : Request)
  /-- R396: The sealed command empties the tamper record. -/
  | tamperClear (q : Request)
  /-- R145: At each epoch boundary of period generator 0 the device advances, sweeps or does nothing. -/
  | epochBoundary
  /-- R155: A SETTLING glue-up becomes FREE once the tag table, versioned objects and pins have caught up. -/
  | glueSettled (id : Nat)
  /-- R167: A glue-up OPEN beyond its timeout without GLUE_CLAMP aborts with reason TIMEOUT. -/
  | glueTimeout (id : Nat)
  /-- R168: After a rewrite cycle releases claims, the firmware retries waiting operations oldest requester first.
  -/
  | claimRetry
  /-- R168: An operation still waiting at GLUE_RETRY_LIMIT returns ENTRY_CLAIMED. -/
  | glueRetryLimitExpiry (id : Nat)
  /-- R171: The firmware makes the next relocation of an ENTRY_WRITE once its destination slot is free and a
  glue-up ID is available. -/
  | makeRoomMove (id : Nat)
  /-- R110: Segments of a shrunk table are freed once the death epoch of their last entry has drained, and the
  resize replies. -/
  | segmentRelease (table : Nat)
  /-- R125: When the destroyed table's epoch has drained, its segments are freed and TABLE_DESTROY replies. -/
  | tableDestroyDrained (table : Nat)
  /-- R213: When the destroyed exact-match table's epoch has drained, its region and overflow slots are freed and
  the command replies. -/
  | exactTableDestroyDrained (table : Nat)
  /-- R416: The array arbiter ranks waiting searches and grants those whose port is free, subject to the governor.
  -/
  | arraySearchGrant
  /-- R89: A search's merged result reaches the requesting lane 40 CCLK after grant, with verify-on-hit flags. -/
  | arraySearchResult (frame : Nat) (role : Nat)
  /-- R187: An exact-match search result reaches the lane 40 CCLK after issue, followed by timestamp and
  learn-filter updates. -/
  | exactSearchResult (frame : Nat) (role : Nat)
  /-- R200: A pending-learn record is released at the end of its window. -/
  | learnWindowExpiry (table : Nat) (key : Nat)
  /-- R191: An insert waiting on a dying slot or an evicted victim takes the slot once it is reclaimed. -/
  | exactInsertSlotFreed (id : Nat)
  /-- R195: When the rehash copy completes, a firmware glue-up swaps the descriptor at the next boundary. -/
  | rehashCopyDone
  /-- R195: After the swap epoch drains, the old region and namespace are freed and EXACT_REHASH replies. -/
  | rehashOldRegionFreed
  /-- R209: The flush walk ends, retries claimed entries and clamps its deletions before the final reply. -/
  | flushWalkDone (port : Nat)
  /-- R204: The mower clock increments and, with MOWER_EN, a sweep starts. -/
  | mowerTick
  /-- R205: The mower reads the next bucket or overflow slot, queuing aged entries and limiting old timestamps. -/
  | mowerRead
  /-- R206: The firmware deletes queued aged entries in firmware glue-ups once a glue-up ID is available. -/
  | mowerDelete
  /-- R286: An Ethernet frame is received whole, checked, charged, stamped and dispatched to a traffic lane. -/
  | frameReceived (port : Fin 32) (f : EthFrame)
  /-- R290: Wave 2 searches start once every wave-1 action entry has been read. -/
  | wave2Start (frame : Nat)
  /-- R295: After wave 2 the frame's decisions are taken, drops applied and copies admitted to egress queues. -/
  | frameDecided (frame : Nat)
  /-- R296: An admitted copy is released once its ingress horizon passes its sequence number. -/
  | resequencerRelease (frame : Nat) (port : Nat)
  /-- R297: A copy in fixed-latency mode becomes eligible at its release cycle. -/
  | fixedLatencyHoldEnd (frame : Nat) (port : Nat)
  /-- R297: A port starts the head copy of its highest eligible queue whose gate is open, applying MACsec or
  channel-tag protection. -/
  | transmissionStart (port : Nat)
  /-- R297: A copy's last byte is sent and its cells are released. -/
  | transmissionEnd (port : Nat)
  /-- R308: A frame or copy not started by its deadline is dropped as late. -/
  | frameDeadline (frame : Nat)
  /-- R285: The PCS reports loss of link and the link hold starts. -/
  | pcsLinkLoss (port : Fin 32)
  /-- R307: LINK_UP clears after the hold, or MODE becomes 0, and the port is flushed. -/
  | portDown (port : Fin 32)
  /-- R285: The PCS reports link and LINK_UP sets. -/
  | portUp (port : Fin 32) (mbps : Nat)
  /-- R328: A slow-channel frame is received whole, checked, stored and dispatched like an Ethernet frame. -/
  | slowFrameReceived (chan : Nat) (f : SlowFrame)
  /-- R326: A CAN channel goes bus-off and is treated as down. -/
  | canBusOff (chan : Nat)
  /-- R326: A bus-off channel recovers after 128 recessive sequences, and SLOWCH_RECOVER where required. -/
  | busOffRecovery (chan : Nat)
  /-- R326: The host requests manual recovery of a bus-off channel. -/
  | slowchRecover (chan : Fin 64) (v : Word)
  /-- R233: A home processes a read request for a line. -/
  | getS (agent : Nat) (line : Nat)
  /-- R233: A home processes a request for a line with ownership. -/
  | getM (agent : Nat) (line : Nat) (glue : Nat)
  /-- R233: A home processes a request for ownership of a copy already held. -/
  | upgrade (agent : Nat) (line : Nat) (glue : Nat)
  /-- R233: A home processes a non-allocating read. -/
  | readNa (agent : Nat) (line : Nat)
  /-- R244: A home slice executes an atomic counter operation, including METER. -/
  | atomic (agent : Nat) (line : Nat) (op : AtomicOp)
  /-- R233: An owner receives FWD_S and sends the line in S. -/
  | fwdS (owner : Nat) (line : Nat) (requester : Nat)
  /-- R233: An owner receives FWD_M, sends the line in M and invalidates. -/
  | fwdM (owner : Nat) (line : Nat) (requester : Nat)
  /-- R233: An owner receives FWD_NA and sends a copy, keeping its state. -/
  | fwdNa (owner : Nat) (line : Nat) (requester : Nat)
  /-- R229: A sharer receives INV, invalidates and acks. -/
  | inv (agent : Nat) (line : Nat)
  /-- R236: An owner receives RECALL, writes back and invalidates. -/
  | recall (agent : Nat) (line : Nat)
  /-- R233: A home receives an invalidation ack. -/
  | invAck (agent : Nat) (line : Nat)
  /-- R233: A home receives FWD_DONE and closes the transaction. -/
  | fwdDone (agent : Nat) (line : Nat)
  /-- R235: A home receives FWD_MISS and waits for the crossing WB. -/
  | fwdMiss (agent : Nat) (line : Nat)
  /-- R235: A home receives a writeback and writes memory. -/
  | wb (agent : Nat) (line : Nat) (words : List Word)
  /-- R234: A requester receives a NACK and schedules its resend. -/
  | nack (agent : Nat) (line : Nat) (k : Nat)
  /-- R234: A NACKed request is resent after its backoff. -/
  | nackResend (agent : Nat) (line : Nat)
  /-- R233: A requester receives ERR for a refused request. -/
  | err (agent : Nat) (line : Nat)
  /-- R233: A requester receives line data with its granted state and POISON bit. -/
  | data (agent : Nat) (line : Nat) (state : Option Moesi) (poison : Bool) (words : List Word)
  /-- R233: A requester receives ownership without data. -/
  | grant (agent : Nat) (line : Nat) (poison : Bool)
  /-- R243: A requester receives the result of an atomic operation. -/
  | atomicRes (agent : Nat) (line : Nat) (poison : Bool) (words : List DWord) (colour : Nat)
  /-- R234: A senior reservation whose request does not return within 1 µs lapses. -/
  | seniorReservationLapse (line : Nat)
  /-- R239: A home's 4 µs wait ends: the line is poisoned and the silent agent marked failed. -/
  | cohereTimeout (line : Nat)
  /-- R241: The host clears the POISON bit of a line. -/
  | coherePoisonClear (v : Word)
  /-- R246: The mailbox reads an action entry through READ_NA. -/
  | readEntry (v : Word)
  /-- R246: The mailbox writes an action entry in place or by copy-on-write in a glue-up. -/
  | writeEntry (v : Word)
  /-- R246: The mailbox reads a counter line with READ_LINE. -/
  | readCounters (v : Word)
  /-- R246: The mailbox reads and clears a counter line with CLEAR_LINE. -/
  | clearCounters (v : Word)
  /-- R253: A device disciplines its time to its parent by a link-level time transfer message. -/
  | fabricTimeTransfer (offsetNs : Int)
  /-- R255: A boundary report arrives from a child or partner and is merged and passed up. -/
  | fabricReport (link : LinkId) (r : FabReport)
  /-- R256: A device receives the coordinator's decision, which takes effect at the next fabric boundary. -/
  | fabricDecisionReceived (d : DecisionIn)
  /-- R265: A device with no decision for FABRIC_CLAMP_LIMIT aborts its fabric glue-ups alone. -/
  | fabricClampLimitExpiry
  /-- R266: A join request arrives at the coordinator for admission at a fabric boundary. -/
  | joinRequest (link : LinkId) (auth : Bool) (j : JoinReq)
  /-- R259: A fabric search is launched at the start of an owned slot. -/
  | fabricSearchLaunch
  /-- R258: The root takes a fabric search request at its slot time, stamps FE and sends it down, or refuses it.
  -/
  | fabricRequestAtRoot (r : FabRequest)
  /-- R260: A member receives the request and makes its urgent local search. -/
  | fabricSearchInstant (r : FabRequest)
  /-- R260: A member's local search not granted by the deadline contributes no result. -/
  | fabricGrantDeadline (ident : Nat)
  /-- R262: A child's reply reaches its parent and is merged. -/
  | fabricReply (link : LinkId) (ident : Nat) (r : FabReply)
  /-- R263: A child whose reply is 80 CCLK late is treated as absent. -/
  | fabricChildTimeout (ident : Nat) (link : LinkId)
  /-- R259: The merged fabric search result is available at the initiator. -/
  | fabricResult (ident : Nat)
  /-- R268: Each side sends a heartbeat every 10 µs. -/
  | heartbeatSend
  /-- R268: A heartbeat arrives and resets the run of misses. -/
  | heartbeatReceived (h : Heartbeat)
  /-- R268: 10 µs pass without a heartbeat and a miss is counted. -/
  | heartbeatMissed
  /-- R271: The follow side receives a mirrored operation and applies it or fails it. -/
  | mirroredOperation (m : MirrorOp)
  /-- R270: The lead receives the follow side's confirmation and gives the final reply. -/
  | mirrorConfirm (ref : Nat) (ok : Bool)
  /-- R272: The follow side receives PREPARE, puts the glue-ups in CLAMPING and returns READY. -/
  | prepare (ids : List Nat)
  /-- R272: The lead receives READY and sends COMMIT for a boundary. -/
  | ready (ids : List Nat)
  /-- R272: The follow side receives COMMIT and clamps at the named or next boundary. -/
  | commit (ids : List Nat) (boundary : Nat)
  /-- R272: With no READY by cycle −400 of the target boundary, the lead moves its target to a later boundary. -/
  | prepareRetarget
  /-- R272: The lead has no READY 100 µs after PREPARE, marks DIVERGED and clamps alone. -/
  | readyTimeout
  /-- R272: The follow side has no COMMIT 100 µs after READY, marks DIVERGED and clamps alone. -/
  | commitTimeout
  /-- R474: A partner receives PARTING and sets DIVERGED. -/
  | parting
  /-- R273: After the copy, at the next boundary, the target takes the source's epoch and both sides clear
  DIVERGED. -/
  | resyncSwitchover (epoch : BitVec 3) (img : ResyncImage)
  /-- R273: The mitre link is lost during a resync copy and the resync stops. -/
  | resyncAborted
  /-- R333: The PTP instance processes a received PTP message. -/
  | ptpMessage (m : PtpMsg)
  /-- R335: A PPS_IN rising edge is captured and may discipline device time. -/
  | ppsInEdge
  /-- R335: No PPS_IN edge for 1.1 s sets HOLDOVER. -/
  | ppsLost
  /-- R336: A period generator ticks, driving TIMER_OUT, slot cycles and mapper slots. -/
  | periodGeneratorTick (gen : Fin 64)
  /-- R342: At a PDU's transmit slot the mapper samples its routes, assembles the PDU and charges it to its queue.
  -/
  | transmitSlot (pdu : Nat)
  /-- R344: A PDU not started by its slot plus WINDOW_US is dropped. -/
  | pduWindowExpiry (pdu : Nat)
  /-- R339: A received mapper PDU is offered to the routes of its source list. -/
  | mapperPduOffer
  /-- R346: A slot-table cycle starts at a tick of its generator. -/
  | slotCycleStart (table : Nat)
  /-- R346: The next slot-table entry starts and sets the queue gates. -/
  | slotEntryStart (table : Nat)
  /-- R348: A committed swap exchanges active and standby copies at the first cycle start. -/
  | slotSwapSwitch (table : Nat)
  /-- R348: The copy of the new active table into the standby copy completes. -/
  | slotCopyBackDone (table : Nat)
  /-- R349: The follow side applies a mirrored active-copy write when the busy entry ends. -/
  | deferredSlotWrite (table : Nat)
  /-- R351: The first dominant edge on a designated channel starts the wake RC oscillator. -/
  | wakeMatcherEdge (chan : Nat)
  /-- R352: A decoded frame matches an enabled wake pattern and wakes the device. -/
  | wakeMatch (chan : Nat) (frame : SlowFrame)
  /-- R476: PRES_N falls, starting a press and acting as a wake source where enabled. -/
  | presNFall
  /-- R380: A press ends; a qualifying press opens or restarts the presence window. -/
  | presNRise (cycles : Nat)
  /-- R381: The presence window closes at the end of its 120 s. -/
  | presenceWindowExpiry
  /-- R381: Four samples with SEAL_N low close the presence window. -/
  | sealClosed
  /-- R386: A TAMP_N input low for four samples records a tamper, closes presence and signals a wipe. -/
  | tamperDetected (input : Fin 2)
  /-- R368: The flash key store erase completes and PENDING_WIPE clears. -/
  | keyStoreEraseDone
  /-- R400: A scratchpad port arbiter grants one waiting access and resolves same-word conflicts. -/
  | scratchAccessGrant (bank : Fin 16) (a : List ScratchReq) (b : List ScratchReq)
  /-- R408: The host path reads one scratchpad word. -/
  | scratchHostRead (v : Word)
  /-- R408: The host path writes one scratchpad word with byte enables. -/
  | scratchHostWrite (v : Word)
  /-- R406: The host path performs an atomic ADD on one scratchpad word. -/
  | scratchHostAdd (v : Word)
  /-- R406: The host path performs an atomic SWAP on one scratchpad word. -/
  | scratchHostSwap (v : Word)
  /-- R409: The ternary walk reads its next row at its rate. -/
  | gleanerTernRead
  /-- R409: The exact-match walk reads its next slot at its rate. -/
  | gleanerExactRead
  /-- R410: The scrub reads its next scratchpad word at its rate. -/
  | gleanerScrubRead
  /-- R139: The gleaner invalidates or repairs a queued or found failing entry. -/
  | gleanerFailureAction (exact : Bool)
  /-- R140: The partner receives a gleaner repair request and returns the slot contents. -/
  | gleanerRepairRequest (exact : Bool) (table : Nat) (key : Nat)
  /-- R140: The partner's rows arrive and are written over the failed copy. -/
  | gleanerRepairReply (exact : Bool) (table : Nat) (key : Nat) (d : RepairData)
  /-- R140: No repair reply within 20 µs and the gleaner invalidates instead. -/
  | gleanerRepairTimeout (exact : Bool) (table : Nat) (key : Nat)
  /-- R411: A due borrowed window starts once its bank is free of locks and transfers. -/
  | gleanerWindowStart
  /-- R412: A window completes its pattern test, restore and compare. -/
  | gleanerWindowEnd (patternOk : Bool) (restoreOk : Bool)
  /-- R414: An urgent access to a window word aborts the window and restores its rows. -/
  | urgentWindowAccess
  /-- R413: The host clears FAULT and GLEANER_FAULT_LAST. -/
  | gleanerFaultClear
  /-- R417: At a window boundary every requester's credit is set to its weight. -/
  | arbWindowRefill
  /-- R420: A lock held past its timeout is broken. -/
  | arbLockBroken (resource : Nat)
  /-- R423: A request waits longer than the starvation bound and is reported. -/
  | arbStarved (master : Nat) (scratch : Bool)
  /-- R423: A starvation bit clears 1 ms after the last crossing. -/
  | starvedBitClear (master : Nat) (scratch : Bool)
  /-- R4: A write to a register with no row of its own acts on each field by its kind, alias and lock. -/
  | registerWrite (path : Path) (addr : BitVec 24) (v : Word) (be : BitVec 4)
  /-- R435: A posted slow-domain write reaches its register. -/
  | postedWriteLanded (block : Nat)
  /-- R438: A read of a LO register latches the HI word into the path's shadow. -/
  | loRead (path : Path) (addr : BitVec 24)
  /-- R438: A write of a HI register holds the value in the path's write buffer. -/
  | hiWrite (path : Path) (addr : BitVec 24) (v : Word)
  /-- R438: A write of a LO register loads all 64 bits in one cycle. -/
  | loWrite (path : Path) (addr : BitVec 24) (v : Word)
  /-- R446: A read of LOCK_VIOL_ADDR returns it and arms the capture. -/
  | lockViolAddrRead (path : Path)
  /-- R446: A read of GLOBAL_POSTED_DROP_ADDR returns it and arms the capture. -/
  | postedDropAddrRead (path : Path)
  /-- R444: A write to a W1 lock bit locks, or permanently leaves unlocked, its lock group. -/
  | lockGroupSet (path : Path) (addr : BitVec 24) (v : Word)
  /-- R441: Staged values of the requested groups are taken and checked as one group. -/
  | applyStrobe (v : Word)
  /-- R441: The apply or rejection completes and the requested bits clear. -/
  | applyDone
  /-- R443: Staged values of the named groups are discarded. -/
  | applyDiscard (v : Word)
  /-- R455: A commit requests that the next pass's result load CFGCRC_REF. -/
  | cfgcrcCommit (v : Word)
  /-- R453: A configuration CRC pass starts every 64 µs of the age clock. -/
  | cfgcrcPassStart
  /-- R454: A pass ends, records its result and compares it with CFGCRC_REF. -/
  | cfgcrcPassEnd
  /-- R449: GLOBAL_MSI_REARM resends a vector whose condition is 1. -/
  | msiRearm (v : Word)
  /-- R461: HEATH_RECORD_CLEAR.ORDER clears the power-order record. -/
  | clearOrderRecord
  /-- R466: HEATH_RECORD_CLEAR.CLK clears CLK_LOST. -/
  | clearClkRecord
  /-- R480: HEATH_RECORD_CLEAR.THERM clears the thermal trip record. -/
  | clearThermRecord
  /-- R463: HEATH_RECORD_CLEAR.VAON_POR clears VAON_POR. -/
  | clearVaonPorRecord
  /-- R476: An SPI write of HEATH_WAKE_REQ wakes the device where enabled. -/
  | heathWakeReq
  /-- R477: POWER_CAL_CMD OP 0 reads the calibration value in force. -/
  | calRead (v : Word)
  /-- R477: POWER_CAL_CMD OP 1 writes a user calibration value. -/
  | calWrite (v : Word)
  /-- R477: The user calibration store is rewritten to flash. -/
  | calStoreWritten (ok : Bool)
  /-- R459: VAON comes up, resetting the Heath domain and setting the rail requests. -/
  | vaonPowerOn
  /-- R463: VAON below 1.5 V resets the Heath domain and its records. -/
  | vaonBrownout
  /-- R460: A rail crosses a threshold and the rail order is checked. -/
  | railChange (rail : Rail) (level : RailReading)
  /-- R464: RST_N low for 1 µs or more holds the core in reset, and wakes from standby. -/
  | rstNLow (ns : Nat)
  /-- R469: RST_N rises and a start begins. -/
  | rstNRise (ns : Nat)
  /-- R466: SYSCLK absent for two Heath cycles holds the core in reset. -/
  | sysclkLoss
  /-- R466: SYSCLK present for 1 ms after a loss starts the device. -/
  | sysclkRestored
  /-- R466: A missing REFCLK takes every port and link down. -/
  | refclkLoss
  /-- R466: REFCLK returns and the ports return. -/
  | refclkRestored
  /-- R466: The crystal stops and the RC oscillator replaces it. -/
  | xtalFail
  /-- R480: The sensor reports temperature every 1 ms and the warning follows it. -/
  | tempReading (t : Int)
  /-- R480: At 135 °C the core domain is stopped and held in reset. -/
  | thermalTrip
  /-- R480: With AUTO_RESTART, the junction falls below 105 °C and the device starts. -/
  | thermalRestart
  /-- R469: Core reset is released and the start sequence runs PLL lock, OTP load and boot. -/
  | startSequence
  /-- R468: The firmware has loaded every core and engine and sets FW_READY. -/
  | fwReady
  /-- R473: After the glue-up and Keep normalisation boundaries, the final reply is given and the standby state
  entered. -/
  | powerEntryComplete
  /-- R475: The device gates its clocks once no frame, command or boundary work is pending. -/
  | dozeEntry
  /-- R475: A command, frame byte or due slot or boundary returns the device from Doze. -/
  | dozeExit
  /-- R476: A WAKE_IN edge wakes the device or is captured as a time stamp. -/
  | wakeInEdge (pin : Fin 4) (rising : Bool)
  /-- R476: The real-time counter reaches the alarm and wakes the device. -/
  | rtcAlarm
  /-- R479: A lane idle for IDLE_US is gated. -/
  | laneGate (lane : Nat)
  /-- R479: A lane ungating completes after 1 µs. -/
  | laneUngateDone (lane : Nat)
  /-- R495: The device restarts 1 ms after the final reply of an update command. -/
  | updateRestart
  /-- R496: 600 s of trial pass without confirmation and the firmware falls back. -/
  | trialExpiry
  /-- R496: HEALTH_OK becomes 1 and, with AUTO, the firmware confirms the trial. -/
  | autoConfirm
  /-- R501: A chunk's flash erase, program and read-back complete and its record is written. -/
  | chunkWritten (ok : Bool)
  /-- R503: The image check of the inactive bank completes. -/
  | updateVerifyDone
  /-- R507: A target receives a relayed chunk into its inactive bank. -/
  | relayChunk (link : LinkId) (auth : Bool) (c : RelayChunk)
  /-- R507: The sender receives a chunk-done answer and sends the next chunk. -/
  | relayChunkDone (link : LinkId) (auth : Bool) (a : RelayAnswer)
  /-- R507: A relay target gives no answer within 1 s. -/
  | relayTargetTimeout (link : LinkId)
  /-- R514: Every settings record has executed and SETTINGS_SAVE APPLY replies. -/
  | settingsApplyDone
  /-- R266: A dovetail or mitre link completes training and comes up, setting its link status bit and letting a
  pending join request go up D0. -/
  | linkUp (link : LinkId) (delay : Nat)
  /-- R263: A dovetail or mitre link goes down, clearing its link status bit so that its subtree is absent in
  fabric searches and link-dependent commands fail. -/
  | linkDown (link : LinkId)
  /-- R326: A slow channel integrates on its bus after configuration and SLOWCH_STATUS.ACTIVE sets, entering the
  CHANNEL_ACTIVE event. -/
  | channelActive (chan : Nat)
  /-- R124: An entry that a shrink must move is still claimed by a host glue-up 1 s after the first attempt, and
  the resize stops with ENTRY_CLAIMED. -/
  | resizeClaimTimeout (table : Nat)
  /-- R274: A join still unanswered after 100 ms ends with FABRIC_NO_REPLY. -/
  | fabricJoinTimeout
  /-- R209: The flush walk reads its next bucket, at one per 8 CCLK of LS time, and queues deletions for visible
  entries of the port. -/
  | flushBucketRead (port : Nat)
  /-- R194: The rehash copies its next slot into the new region under the new seed, at one entry per 8 CCLK of LS
  time. -/
  | rehashEntryCopy
  /-- R380: SEAL_N goes high as the seal loop opens, setting SEAL_OPEN so that a later press can qualify. -/
  | sealOpened
  /-- R335: With PPS_OUT_EN, PPS_OUT rises when NSEC reaches 0 and falls when NSEC reaches 100,000,000. -/
  | ppsOutEdge
  /-- R335: TIMER_OUT returns low min(half the period, 1 ms) after the tick that raised it. -/
  | timerOutFall
  /-- R476: WAKE_OUT_N is released OUT_MS milliseconds after a wake drove it low. -/
  | wakeOutRelease
  /-- R344: A CAN transmission loses arbitration or meets a bus error, is counted, and the copy waits for a retry
  within its window. -/
  | arbitrationLost (chan : Nat)
  /-- R504: The flash append, or the compaction, of a settings-store change completes and SETTINGS_SAVE gives its
  final reply. -/
  | settingsStoreWritten (ok : Bool)
  /-- R393: The OTP burn of a life-cycle transition entry completes and LIFECYCLE_SET gives its final reply with
  the new state. -/
  | lifecycleBurnDone
deriving DecidableEq, Repr

end Sys2Proof
end

