-- ==== Sys2Proof/Decode.lean ====
section
/-! DEFINITION. The reading of a command from bits. No row of the opcode table gives bits: a command of this device is a
packet, an access, a message or an event, none of which is one word. The transactions of the SPI slave are the only commands that the
spec spells as bytes (Table 2.12). -/

namespace Sys2Proof

/-- The command that the `nbits` bits of `w` spell: none, since no row of the table has an encoding.
DESIGN CHOICE: log entry 6. -/
def decodeTableWord (_nbits _w : Nat) : Option Instr := none

/-- The number that bytes give, the first byte the most significant. -/
def bytesNat (b : List Byte) : Nat := b.foldl (fun n x => n * 256 + x.toNat) 0

/-- The transaction of the SPI slave that the bytes on SPI_MOSI spell, from the fall of SPI_CS_N to its rise (R54, Table 2.12): the
instruction code, and what follows it. A REG_READ or REG_WRITE that ends early, and a code outside the table, spell none.
DESIGN CHOICE: log entry 198. -/
def decodeSpi : List Byte → Option Instr
  | [] => none
  | code :: rest =>
    match code.toNat with
    | 0x02 => some (.cmdWrite rest)
    | 0x0B => some (.replyRead rest.length)
    | 0x05 => some .statusRead
    | 0x31 => if 8 ≤ rest.length then some (.regRead (BitVec.ofNat 24 (bytesNat (rest.take 3)))) else none
    | 0x32 =>
      if 7 ≤ rest.length then
        some (.regWrite (BitVec.ofNat 24 (bytesNat (rest.take 3))) (BitVec.ofNat 32 (bytesNat ((rest.drop 3).take 4).reverse)))
      else none
    | _ => none

end Sys2Proof
end

