-- ==== Sys2Proof/Config.lean ====
section
/-! DEFINITION. The free values: what the spec leaves open and the machine nevertheless produces. Each is an opaque
constant applied to the model's counter State.free (or to the operands it depends on), so that nothing in Lean can
evaluate it; an assumption-log entry names each use. -/

namespace Sys2Proof.Config

/-- A fresh 32-bit value that the spec does not state. -/
opaque freeWord : Nat → Word

/-- A fresh number that the spec does not state; each use says what bound applies. -/
opaque freeNat : Nat → Nat

/-- A fresh truth value that the spec does not state. -/
opaque freeBool : Nat → Bool

/-- The serial number that the OTP holds (R70).
DESIGN CHOICE: log entry 9. -/
opaque serial : BitVec 64

/-- Bits [27:0] of the JTAG IDCODE, of which the spec gives the version field alone (R1). -/
opaque idcodeRest : BitVec 28

/-- The factory value that the OTP holds for a calibration item and index (R477). -/
opaque factoryCal : Nat → Nat → Int

/-- The bytes of the firmware image with which the device came (R488). -/
opaque imageByte : Nat → Byte

/-- The public keys 0 to 3 of the boot ROM (R489). -/
opaque bootKey : Nat → Nat × Nat

/-- What the firmware makes of a settings record of one schema under another; none where it cannot translate it (R505).
DESIGN CHOICE: log entry 188. -/
opaque translate : Nat → Nat → List Byte → Option (List Byte)

/-- The spare columns that the fuses assign in a bank of the scratchpad (R404). -/
opaque spareColumns : Nat → Nat

end Sys2Proof.Config
end

