-- ==== Sys2Proof/Machine/Bits.lean ====
section
/-! DEFINITION. Bit fields, parity, byte order and small counting helpers, each used by many chapters. -/

namespace Sys2Proof.Machine

/-- A number as a register or parameter word. -/
def w32 (n : Nat) : Word := BitVec.ofNat 32 n

/-- The field of `len` bits whose lowest bit is bit `lo` (R11). -/
def fld (w : Word) (lo len : Nat) : Nat := w.toNat / 2 ^ lo % 2 ^ len

/-- Bit `i` of a word. -/
def bit (w : Word) (i : Nat) : Bool := fld w i 1 == 1

/-- The same field of a number. -/
def nfld (n lo len : Nat) : Nat := n / 2 ^ lo % 2 ^ len

/-- 1 for true, 0 for false. -/
def b2n (b : Bool) : Nat := if b then 1 else 0

/-- A number with the bits of `w` outside `mask` (a bit that must be 0 is set when this is not 0). -/
def strayBits (w : Word) (mask : Nat) : Bool := w &&& ~~~(w32 mask) != 0#32

/-- Parity of the low `k` bits of `n`: true when an odd number of them are 1. -/
def parityOf : Nat → Nat → Bool
  | 0, _ => false
  | k + 1, n => (n % 2 == 1) != parityOf k (n / 2)

/-- `k` bytes of `n`, the least significant first (R27). -/
def bytesLE : Nat → Nat → List Byte
  | 0, _ => []
  | k + 1, n => BitVec.ofNat 8 n :: bytesLE k (n / 256)

/-- `k` bytes of `n`, the most significant first (network order). -/
def bytesBE (k n : Nat) : List Byte := (bytesLE k n).reverse

/-- The number whose bytes, least significant first, are given. -/
def ofBytesLE : List Byte → Nat
  | [] => 0
  | b :: bs => b.toNat + 256 * ofBytesLE bs

/-- The number whose bytes, most significant first, are given. -/
def ofBytesBE (bs : List Byte) : Nat := bs.foldl (fun n b => n * 256 + b.toNat) 0

/-- The words that a list of bytes spells, little-endian, the last word padded with zeros. -/
def wordsOf : Nat → List Byte → List Word
  | 0, _ => []
  | k + 1, bs => w32 (ofBytesLE (bs.take 4)) :: wordsOf k (bs.drop 4)

/-- The bytes of a list of words. -/
def bytesOf : List Word → List Byte
  | [] => []
  | w :: ws => bytesLE 4 w.toNat ++ bytesOf ws

/-- Word `i` of a parameter list; 0 beyond its end. -/
def wd (ws : List Word) (i : Nat) : Word := ws.getD i 0#32

/-- The number whose 32-bit words, least significant first, are given. -/
def ofWords : List Word → Nat
  | [] => 0
  | w :: ws => w.toNat + 2 ^ 32 * ofWords ws

/-- `k` words of `n`, the least significant first. -/
def toWords : Nat → Nat → List Word
  | 0, _ => []
  | k + 1, n => w32 n :: toWords k (n / 2 ^ 32)

/-- The number set with one bit per member. -/
def bitmap (ns : List Nat) : Nat := ns.foldl (fun m n => m ||| 2 ^ n) 0

/-- Rounded-up quotient. -/
def ceilDiv (a b : Nat) : Nat := (a + b - 1) / b

/-- The first number below `n` that satisfies `p`. -/
def firstBelow (n : Nat) (p : Nat → Bool) : Option Nat := (List.range n).find? p

/-- Remove the first member that satisfies `p`. -/
def dropFirst {α : Type} (p : α → Bool) : List α → List α
  | [] => []
  | a :: as => if p a then as else a :: dropFirst p as

/-- Change the first member that satisfies `p`. -/
def mapFirst {α : Type} (p : α → Bool) (f : α → α) : List α → List α
  | [] => []
  | a :: as => if p a then f a :: as else a :: mapFirst p f as

/-- Replace the member at position `i`. -/
def setAt {α : Type} : List α → Nat → α → List α
  | [], _, _ => []
  | _ :: as, 0, v => v :: as
  | a :: as, i + 1, v => a :: setAt as i v

/-- Bring the member whose key is least to the front order: insertion sort by a key. -/
def insertBy {α : Type} (k : α → Nat) (a : α) : List α → List α
  | [] => [a]
  | b :: bs => if k a < k b then a :: b :: bs else b :: insertBy k a bs

/-- Sort by a key, keeping the order of equal members. -/
def sortBy {α : Type} (k : α → Nat) (as : List α) : List α := as.foldl (fun l a => insertBy k a l) []

end Sys2Proof.Machine
end

