-- ==== Sys2Proof/Machine/RegMap.lean ====
section
/-! DEFINITION. The register map of the native window (BAR0), written from the register tables of the spec
(Tables 2.10, 3.12, 5.11, 6.9, 7.11, 8.6, 8.7, 9.9, 9.10, 10.6 to 10.8, 11.6, 11.7, 12.6 to 12.8, 13.8 to 13.12,
14.8, 14.9, 15.8): one row per register, with the mask of the bits of each field kind (R4) and the reset value.
Addresses are native normal addresses (R428). -/

namespace Sys2Proof.Machine

/-- One row of a register table. `addr` is the native normal address of its first instance, `count` instances stand
`step` bytes apart in a block, and the block itself is repeated `blocks` times, 0x1000 apart (ETHPORT, SLOWCH).
The six masks say which bits belong to fields of which kind (R4); bits of no mask are reserved (R10). -/
structure RegRow where
  name : String
  addr : Nat
  step : Nat
  count : Nat
  blocks : Nat
  ctrl : Nat
  lock : Nat
  w1 : Nat
  cnt : Nat
  hs : Nat
  stat : Nat
  reset : Nat
deriving DecidableEq, Repr

/-- Register rows of the CMDQ block (R52; 02_command_packets.md). -/
def regRowsCmdq : List RegRow :=
  [ ⟨"CMDQ_CTRL", 0x20000, 0x4, 1, 1, 0x0, 0xFFFF0007, 0x0, 0x0, 0x0, 0x0, 0x10003⟩,
    ⟨"CMDQ_STATUS", 0x20004, 0x4, 1, 1, 0x0, 0x0, 0x0, 0x0, 0x0, 0xFFFFFFFF, 0x0⟩,
    ⟨"CMDQ_INBAND_MAC_LO", 0x20008, 0x4, 1, 1, 0x0, 0xFFFFFFFF, 0x0, 0x0, 0x0, 0x0, 0x0⟩,
    ⟨"CMDQ_INBAND_MAC_HI", 0x2000C, 0x4, 1, 1, 0x0, 0xFFFF, 0x0, 0x0, 0x0, 0x0, 0x0⟩,
    ⟨"CMDQ_INBAND_PORTS", 0x20010, 0x4, 1, 1, 0x0, 0xFFFFFFFF, 0x0, 0x0, 0x0, 0x0, 0x0⟩,
    ⟨"CMDQ_FWD_TIMEOUT", 0x20014, 0x4, 1, 1, 0xFFFF, 0x0, 0x0, 0x0, 0x0, 0x0, 0x64⟩,
    ⟨"CMDQ_MALFORMED_COUNT", 0x20020, 0x4, 1, 1, 0x0, 0x0, 0x0, 0xFFFFFFFF, 0x0, 0x0, 0x0⟩,
    ⟨"CMDQ_NOREPLY_FAIL_COUNT", 0x20024, 0x4, 1, 1, 0x0, 0x0, 0x0, 0xFFFFFFFF, 0x0, 0x0, 0x0⟩,
    ⟨"CMDQ_SEALED_REFUSED_COUNT", 0x20028, 0x4, 1, 1, 0x0, 0x0, 0x0, 0xFFFFFFFF, 0x0, 0x0, 0x0⟩,
    ⟨"CMDQ_INBAND_DROP_COUNT", 0x2002C, 0x4, 1, 1, 0x0, 0x0, 0x0, 0xFFFFFFFF, 0x0, 0x0, 0x0⟩,
    ⟨"CMDQ_SPI_OVERFLOW_COUNT", 0x20030, 0x4, 1, 1, 0x0, 0x0, 0x0, 0xFFFFFFFF, 0x0, 0x0, 0x0⟩,
    ⟨"CMDQ_LATE_REPLY_COUNT", 0x20034, 0x4, 1, 1, 0x0, 0x0, 0x0, 0xFFFFFFFF, 0x0, 0x0, 0x0⟩,
    ⟨"CMDQ_Qn_SQ_BASE_LO", 0x20100, 0x20, 16, 1, 0xFFFFF000, 0x0, 0x0, 0x0, 0x0, 0x0, 0x0⟩,
    ⟨"CMDQ_Qn_SQ_BASE_HI", 0x20104, 0x20, 16, 1, 0xFFFFFFFF, 0x0, 0x0, 0x0, 0x0, 0x0, 0x0⟩,
    ⟨"CMDQ_Qn_CQ_BASE_LO", 0x20108, 0x20, 16, 1, 0xFFFFF000, 0x0, 0x0, 0x0, 0x0, 0x0, 0x0⟩,
    ⟨"CMDQ_Qn_CQ_BASE_HI", 0x2010C, 0x20, 16, 1, 0xFFFFFFFF, 0x0, 0x0, 0x0, 0x0, 0x0, 0x0⟩,
    ⟨"CMDQ_Qn_CFG", 0x20110, 0x20, 16, 1, 0x80003FFF, 0x0, 0x0, 0x0, 0x0, 0x0, 0x0⟩,
    ⟨"CMDQ_Qn_RESET", 0x20114, 0x20, 16, 1, 0x0, 0x0, 0x0, 0x0, 0x1, 0x0, 0x0⟩,
    ⟨"CMDQ_Qn_STATUS", 0x20118, 0x20, 16, 1, 0x0, 0x0, 0x0, 0x0, 0x0, 0xFFFFFFFF, 0x0⟩,
    ⟨"CMDQ_Qn_DONE_COUNT", 0x2011C, 0x20, 16, 1, 0x0, 0x0, 0x0, 0xFFFFFFFF, 0x0, 0x0, 0x0⟩ ]

/-- Register rows of the ARRAY block (R106; 03_search_array.md). -/
def regRowsArray : List RegRow :=
  [ ⟨"ARRAY_CTRL", 0x30000, 0x4, 1, 1, 0x1, 0x0, 0x0, 0x0, 0x0, 0x0, 0x1⟩,
    ⟨"ARRAY_STATUS", 0x30004, 0x4, 1, 1, 0x0, 0x0, 0x0, 0x0, 0x0, 0xFFFFFFFF, 0x0⟩,
    ⟨"ARRAY_INT_EN", 0x30008, 0x4, 1, 1, 0x3, 0x0, 0x0, 0x0, 0x0, 0x0, 0x0⟩,
    ⟨"ARRAY_GOV_CTRL", 0x30010, 0x4, 1, 1, 0x0, 0x8000FFFF, 0x0, 0x0, 0x0, 0x0, 0x80008000⟩,
    ⟨"ARRAY_GOV_DEPTH", 0x30014, 0x4, 1, 1, 0x0, 0x3FFFF, 0x0, 0x0, 0x0, 0x0, 0x4000⟩,
    ⟨"ARRAY_GOV_LEVEL", 0x30018, 0x4, 1, 1, 0x0, 0x0, 0x0, 0x0, 0x0, 0xFFFFFFFF, 0x4000⟩,
    ⟨"ARRAY_GOV_HELD_COUNT", 0x30020, 0x4, 1, 1, 0x0, 0x0, 0x0, 0xFFFFFFFF, 0x0, 0x0, 0x0⟩,
    ⟨"ARRAY_GOV_HELD_CYCLES", 0x30024, 0x4, 1, 1, 0x0, 0x0, 0x0, 0xFFFFFFFF, 0x0, 0x0, 0x0⟩,
    ⟨"ARRAY_ACT_COUNT_LO", 0x30028, 0x4, 1, 1, 0x0, 0x0, 0x0, 0xFFFFFFFF, 0x0, 0x0, 0x0⟩,
    ⟨"ARRAY_ACT_COUNT_HI", 0x3002C, 0x4, 1, 1, 0x0, 0x0, 0x0, 0xFFFFFFFF, 0x0, 0x0, 0x0⟩,
    ⟨"ARRAY_PORT_WAIT_COUNT", 0x30030, 0x4, 1, 1, 0x0, 0x0, 0x0, 0xFFFFFFFF, 0x0, 0x0, 0x0⟩,
    ⟨"ARRAY_VERIFY_FALLBACK_COUNT", 0x30034, 0x4, 1, 1, 0x0, 0x0, 0x0, 0xFFFFFFFF, 0x0, 0x0, 0x0⟩,
    ⟨"ARRAY_DEGRADED_COUNT", 0x30038, 0x4, 1, 1, 0x0, 0x0, 0x0, 0xFFFFFFFF, 0x0, 0x0, 0x0⟩,
    ⟨"ARRAY_NO_TABLE_COUNT", 0x3003C, 0x4, 1, 1, 0x0, 0x0, 0x0, 0xFFFFFFFF, 0x0, 0x0, 0x0⟩,
    ⟨"ARRAY_EVENT_SUPPRESS_COUNT", 0x30040, 0x4, 1, 1, 0x0, 0x0, 0x0, 0xFFFFFFFF, 0x0, 0x0, 0x0⟩,
    ⟨"ARRAY_SEARCH_COUNT_n", 0x30100, 0x4, 9, 1, 0x0, 0x0, 0x0, 0xFFFFFFFF, 0x0, 0x0, 0x0⟩ ]

/-- Register rows of the GLUE block (R178; 05_glue_ups_and_epochs.md). -/
def regRowsGlue : List RegRow :=
  [ ⟨"GLUE_CTRL", 0x40000, 0x4, 1, 1, 0x1FF, 0x0, 0x0, 0x0, 0x0, 0x0, 0x13C⟩,
    ⟨"GLUE_EPOCH_STATUS", 0x40004, 0x4, 1, 1, 0x0, 0x0, 0x0, 0x0, 0x0, 0xFFFFFFFF, 0x0⟩,
    ⟨"GLUE_INT_EN", 0x40008, 0x4, 1, 1, 0x3, 0x0, 0x0, 0x0, 0x0, 0x0, 0x0⟩,
    ⟨"GLUE_QUANTUM", 0x40010, 0x4, 1, 1, 0x0, 0x3FF, 0x0, 0x0, 0x0, 0x0, 0xA⟩,
    ⟨"GLUE_RETRY_LIMIT", 0x40014, 0x4, 1, 1, 0x3FFF, 0x0, 0x0, 0x0, 0x0, 0x0, 0x3E8⟩,
    ⟨"GLUE_ADVANCE_COUNT", 0x40020, 0x4, 1, 1, 0x0, 0x0, 0x0, 0xFFFFFFFF, 0x0, 0x0, 0x0⟩,
    ⟨"GLUE_SWEEP_COUNT", 0x40024, 0x4, 1, 1, 0x0, 0x0, 0x0, 0xFFFFFFFF, 0x0, 0x0, 0x0⟩,
    ⟨"GLUE_CLAMP_COUNT", 0x40028, 0x4, 1, 1, 0x0, 0x0, 0x0, 0xFFFFFFFF, 0x0, 0x0, 0x0⟩,
    ⟨"GLUE_ABORT_COUNT", 0x4002C, 0x4, 1, 1, 0x0, 0x0, 0x0, 0xFFFFFFFF, 0x0, 0x0, 0x0⟩,
    ⟨"GLUE_WOUND_COUNT", 0x40030, 0x4, 1, 1, 0x0, 0x0, 0x0, 0xFFFFFFFF, 0x0, 0x0, 0x0⟩,
    ⟨"GLUE_TIMEOUT_COUNT", 0x40034, 0x4, 1, 1, 0x0, 0x0, 0x0, 0xFFFFFFFF, 0x0, 0x0, 0x0⟩,
    ⟨"GLUE_CLAIM_FAIL_COUNT", 0x40038, 0x4, 1, 1, 0x0, 0x0, 0x0, 0xFFFFFFFF, 0x0, 0x0, 0x0⟩,
    ⟨"GLUE_RETRY_EXPIRED_COUNT", 0x4003C, 0x4, 1, 1, 0x0, 0x0, 0x0, 0xFFFFFFFF, 0x0, 0x0, 0x0⟩,
    ⟨"GLUE_REUSE_DROP_COUNT", 0x40040, 0x4, 1, 1, 0x0, 0x0, 0x0, 0xFFFFFFFF, 0x0, 0x0, 0x0⟩,
    ⟨"GLUE_RECLAIM_COUNT", 0x40044, 0x4, 1, 1, 0x0, 0x0, 0x0, 0xFFFFFFFF, 0x0, 0x0, 0x0⟩,
    ⟨"GLUE_INFLIGHT_x", 0x40100, 0x4, 8, 1, 0x0, 0x0, 0x0, 0x0, 0x0, 0xFFFFFFFF, 0x0⟩,
    ⟨"GLUE_OPEN_MAP_k", 0x40120, 0x4, 8, 1, 0x0, 0x0, 0x0, 0x0, 0x0, 0xFFFFFFFF, 0x0⟩ ]

/-- Register rows of the EXACT block (R223; 06_exact_match_and_learning.md). -/
def regRowsExact : List RegRow :=
  [ ⟨"EXACT_CTRL", 0x50000, 0x4, 1, 1, 0xF, 0x0, 0x0, 0x0, 0x0, 0x0, 0xF⟩,
    ⟨"EXACT_STATUS", 0x50004, 0x4, 1, 1, 0x0, 0x0, 0x0, 0x0, 0x0, 0xFFFFFFFF, 0x0⟩,
    ⟨"EXACT_INT_EN", 0x50008, 0x4, 1, 1, 0x1F, 0x0, 0x0, 0x0, 0x0, 0x0, 0x0⟩,
    ⟨"EXACT_LEARN_WINDOW", 0x5000C, 0x4, 1, 1, 0xFFFF, 0x0, 0x0, 0x0, 0x0, 0x0, 0x3E8⟩,
    ⟨"EXACT_MOWER_TICK", 0x50010, 0x4, 1, 1, 0xFFFF, 0x0, 0x0, 0x0, 0x0, 0x0, 0x3E8⟩,
    ⟨"EXACT_MOWER_CLOCK", 0x50014, 0x4, 1, 1, 0x0, 0x0, 0x0, 0x0, 0x0, 0xFFFFFFFF, 0x0⟩,
    ⟨"EXACT_OVF_USED", 0x50018, 0x4, 1, 1, 0x0, 0x0, 0x0, 0x0, 0x0, 0xFFFFFFFF, 0x0⟩,
    ⟨"EXACT_OVF_THRESHOLD", 0x5001C, 0x4, 1, 1, 0x3FFF, 0x0, 0x0, 0x0, 0x0, 0x0, 0x1C00⟩,
    ⟨"EXACT_LEARN_QUEUE_LEVEL", 0x50020, 0x4, 1, 1, 0x0, 0x0, 0x0, 0x0, 0x0, 0xFFFFFFFF, 0x0⟩,
    ⟨"EXACT_FILTER_USED", 0x50024, 0x4, 1, 1, 0x0, 0x0, 0x0, 0x0, 0x0, 0xFFFFFFFF, 0x0⟩,
    ⟨"EXACT_HIT_COUNT", 0x50040, 0x4, 1, 1, 0x0, 0x0, 0x0, 0xFFFFFFFF, 0x0, 0x0, 0x0⟩,
    ⟨"EXACT_MISS_COUNT", 0x50044, 0x4, 1, 1, 0x0, 0x0, 0x0, 0xFFFFFFFF, 0x0, 0x0, 0x0⟩,
    ⟨"EXACT_LEARN_NOTIFY_COUNT", 0x50048, 0x4, 1, 1, 0x0, 0x0, 0x0, 0xFFFFFFFF, 0x0, 0x0, 0x0⟩,
    ⟨"EXACT_LEARN_SUPPRESS_COUNT", 0x5004C, 0x4, 1, 1, 0x0, 0x0, 0x0, 0xFFFFFFFF, 0x0, 0x0, 0x0⟩,
    ⟨"EXACT_MOVE_RACE_COUNT", 0x50050, 0x4, 1, 1, 0x0, 0x0, 0x0, 0xFFFFFFFF, 0x0, 0x0, 0x0⟩,
    ⟨"EXACT_MOVE_NOTIFY_COUNT", 0x50054, 0x4, 1, 1, 0x0, 0x0, 0x0, 0xFFFFFFFF, 0x0, 0x0, 0x0⟩,
    ⟨"EXACT_LEARN_DROP_COUNT", 0x50058, 0x4, 1, 1, 0x0, 0x0, 0x0, 0xFFFFFFFF, 0x0, 0x0, 0x0⟩,
    ⟨"EXACT_EVICT_COUNT", 0x5005C, 0x4, 1, 1, 0x0, 0x0, 0x0, 0xFFFFFFFF, 0x0, 0x0, 0x0⟩,
    ⟨"EXACT_AGED_COUNT", 0x50060, 0x4, 1, 1, 0x0, 0x0, 0x0, 0xFFFFFFFF, 0x0, 0x0, 0x0⟩,
    ⟨"EXACT_REHASH_NEEDED_COUNT", 0x50064, 0x4, 1, 1, 0x0, 0x0, 0x0, 0xFFFFFFFF, 0x0, 0x0, 0x0⟩,
    ⟨"EXACT_PARITY_COUNT", 0x50068, 0x4, 1, 1, 0x0, 0x0, 0x0, 0xFFFFFFFF, 0x0, 0x0, 0x0⟩,
    ⟨"EXACT_DEGRADED_COUNT", 0x5006C, 0x4, 1, 1, 0x0, 0x0, 0x0, 0xFFFFFFFF, 0x0, 0x0, 0x0⟩,
    ⟨"EXACT_EVENT_SUPPRESS_COUNT", 0x50070, 0x4, 1, 1, 0x0, 0x0, 0x0, 0xFFFFFFFF, 0x0, 0x0, 0x0⟩ ]

/-- Register rows of the COHERE block (R248; 07_action_memory_coherence.md). -/
def regRowsCohere : List RegRow :=
  [ ⟨"COHERE_CTRL", 0x60000, 0x4, 1, 1, 0x1, 0x0, 0x0, 0x0, 0x0, 0x0, 0x1⟩,
    ⟨"COHERE_STATUS", 0x60004, 0x4, 1, 1, 0x0, 0x0, 0x0, 0x0, 0x0, 0xFFFFFFFF, 0x0⟩,
    ⟨"COHERE_INT_EN", 0x60008, 0x4, 1, 1, 0x1F, 0x0, 0x0, 0x0, 0x0, 0x0, 0x0⟩,
    ⟨"COHERE_AGENT_FAILED", 0x6000C, 0x4, 1, 1, 0x0, 0x0, 0x0, 0x0, 0x0, 0xFFFFFFFF, 0x0⟩,
    ⟨"COHERE_CTR_BASE", 0x60010, 0x4, 1, 1, 0x0, 0x7FFFF, 0x0, 0x0, 0x0, 0x0, 0x70000⟩,
    ⟨"COHERE_CTR_LINES", 0x60014, 0x4, 1, 1, 0x0, 0xFFFFF, 0x0, 0x0, 0x0, 0x0, 0x10000⟩,
    ⟨"COHERE_COW_BASE", 0x60018, 0x4, 1, 1, 0x0, 0xFFFFF, 0x0, 0x0, 0x0, 0x0, 0xDC000⟩,
    ⟨"COHERE_COW_COUNT", 0x6001C, 0x4, 1, 1, 0x0, 0x1FFFFF, 0x0, 0x0, 0x0, 0x0, 0x4000⟩,
    ⟨"COHERE_COW_FREE", 0x60020, 0x4, 1, 1, 0x0, 0x0, 0x0, 0x0, 0x0, 0xFFFFFFFF, 0x4000⟩,
    ⟨"COHERE_POISON_LINES", 0x60024, 0x4, 1, 1, 0x0, 0x0, 0x0, 0x0, 0x0, 0xFFFFFFFF, 0x0⟩,
    ⟨"COHERE_POISON_LAST", 0x60028, 0x4, 1, 1, 0x0, 0x0, 0x0, 0x0, 0x0, 0xFFFFFFFF, 0x0⟩,
    ⟨"COHERE_POISON_CLEAR", 0x6002C, 0x4, 1, 1, 0x0, 0x0, 0x0, 0x0, 0x8007FFFF, 0x0, 0x0⟩,
    ⟨"COHERE_NACK_COUNT", 0x60040, 0x4, 1, 1, 0x0, 0x0, 0x0, 0xFFFFFFFF, 0x0, 0x0, 0x0⟩,
    ⟨"COHERE_SENIOR_COUNT", 0x60044, 0x4, 1, 1, 0x0, 0x0, 0x0, 0xFFFFFFFF, 0x0, 0x0, 0x0⟩,
    ⟨"COHERE_SENIOR_FULL_COUNT", 0x60048, 0x4, 1, 1, 0x0, 0x0, 0x0, 0xFFFFFFFF, 0x0, 0x0, 0x0⟩,
    ⟨"COHERE_TIMEOUT_COUNT", 0x6004C, 0x4, 1, 1, 0x0, 0x0, 0x0, 0xFFFFFFFF, 0x0, 0x0, 0x0⟩,
    ⟨"COHERE_POISON_USE_COUNT", 0x60050, 0x4, 1, 1, 0x0, 0x0, 0x0, 0xFFFFFFFF, 0x0, 0x0, 0x0⟩,
    ⟨"COHERE_DIR_EVICT_COUNT", 0x60054, 0x4, 1, 1, 0x0, 0x0, 0x0, 0xFFFFFFFF, 0x0, 0x0, 0x0⟩,
    ⟨"COHERE_DIR_PIN_NACK_COUNT", 0x60058, 0x4, 1, 1, 0x0, 0x0, 0x0, 0xFFFFFFFF, 0x0, 0x0, 0x0⟩,
    ⟨"COHERE_WB_CROSS_COUNT", 0x6005C, 0x4, 1, 1, 0x0, 0x0, 0x0, 0xFFFFFFFF, 0x0, 0x0, 0x0⟩,
    ⟨"COHERE_CTR_ACCESS_ERR_COUNT", 0x60060, 0x4, 1, 1, 0x0, 0x0, 0x0, 0xFFFFFFFF, 0x0, 0x0, 0x0⟩,
    ⟨"COHERE_NA_READ_COUNT", 0x60064, 0x4, 1, 1, 0x0, 0x0, 0x0, 0xFFFFFFFF, 0x0, 0x0, 0x0⟩,
    ⟨"COHERE_ATOMIC_COUNT", 0x60068, 0x4, 1, 1, 0x0, 0x0, 0x0, 0xFFFFFFFF, 0x0, 0x0, 0x0⟩,
    ⟨"COHERE_ACT_CMD", 0x60080, 0x4, 1, 1, 0xFF07, 0x0, 0x0, 0x0, 0x80000000, 0x0, 0x0⟩,
    ⟨"COHERE_ACT_INDEX", 0x60084, 0x4, 1, 1, 0xFFFFF, 0x0, 0x0, 0x0, 0x0, 0x0, 0x0⟩,
    ⟨"COHERE_ACT_RESULT", 0x60088, 0x4, 1, 1, 0x0, 0x0, 0x0, 0x0, 0x0, 0xFFFFFFFF, 0x0⟩,
    ⟨"COHERE_ACT_RINDEX", 0x6008C, 0x4, 1, 1, 0x0, 0x0, 0x0, 0x0, 0x0, 0xFFFFFFFF, 0x0⟩,
    ⟨"COHERE_ACT_ROPS", 0x60090, 0x4, 1, 1, 0x0, 0x0, 0x0, 0x0, 0x0, 0xFFFFFFFF, 0x0⟩,
    ⟨"COHERE_ACT_DATAn", 0x600A0, 0x4, 8, 1, 0xFFFFFFFF, 0x0, 0x0, 0x0, 0x0, 0x0, 0x0⟩,
    ⟨"COHERE_ACT_RDATAn", 0x600C0, 0x4, 16, 1, 0x0, 0x0, 0x0, 0x0, 0x0, 0xFFFFFFFF, 0x0⟩ ]

/-- Register rows of the COHERE block (R248; 07_action_memory_coherence.md). -/
def regRowsCohereB : List RegRow :=
  [ ⟨"COHERE_HOME_NACK_h", 0x60100, 0x4, 32, 1, 0x0, 0x0, 0x0, 0xFFFFFFFF, 0x0, 0x0, 0x0⟩ ]

/-- Register rows of the FABRIC block (R281; 08_dovetail_fabric_and_twin.md). -/
def regRowsFabric : List RegRow :=
  [ ⟨"FABRIC_CTRL", 0x130000, 0x4, 1, 1, 0x1, 0x0, 0x0, 0x0, 0x0, 0x0, 0x1⟩,
    ⟨"FABRIC_STATUS", 0x130004, 0x4, 1, 1, 0x0, 0x0, 0x0, 0x0, 0x0, 0xFFFFFFFF, 0x0⟩,
    ⟨"FABRIC_INT_EN", 0x130008, 0x4, 1, 1, 0x1FF, 0x0, 0x0, 0x0, 0x0, 0x0, 0x0⟩,
    ⟨"FABRIC_ID", 0x13000C, 0x4, 1, 1, 0x0, 0x0, 0x0, 0x0, 0x0, 0xFFFFFFFF, 0x0⟩,
    ⟨"FABRIC_TIME", 0x130010, 0x4, 1, 1, 0x0, 0x0, 0x0, 0x0, 0x0, 0xFFFFFFFF, 0x0⟩,
    ⟨"FABRIC_EPOCH", 0x130014, 0x4, 1, 1, 0x0, 0x0, 0x0, 0x0, 0x0, 0xFFFFFFFF, 0x0⟩,
    ⟨"FABRIC_GLUE_BASE", 0x130018, 0x4, 1, 1, 0x0, 0x0, 0x0, 0x0, 0x0, 0xFFFFFFFF, 0x0⟩,
    ⟨"FABRIC_OFFSET", 0x13001C, 0x4, 1, 1, 0x0, 0x0, 0x0, 0x0, 0x0, 0xFFFFFFFF, 0x0⟩,
    ⟨"FABRIC_MEMBERS", 0x130020, 0x4, 1, 1, 0x0, 0x0, 0x0, 0x0, 0x0, 0xFFFFFFFF, 0x0⟩,
    ⟨"FABRIC_CLAMP_LIMIT", 0x130024, 0x4, 1, 1, 0x3FFF, 0x0, 0x0, 0x0, 0x0, 0x0, 0xA⟩,
    ⟨"FABRIC_SEARCH_COUNT", 0x130040, 0x4, 1, 1, 0x0, 0x0, 0x0, 0xFFFFFFFF, 0x0, 0x0, 0x0⟩,
    ⟨"FABRIC_LOCAL_COUNT", 0x130044, 0x4, 1, 1, 0x0, 0x0, 0x0, 0xFFFFFFFF, 0x0, 0x0, 0x0⟩,
    ⟨"FABRIC_INCOMPLETE_COUNT", 0x130048, 0x4, 1, 1, 0x0, 0x0, 0x0, 0xFFFFFFFF, 0x0, 0x0, 0x0⟩,
    ⟨"FABRIC_LOCAL_LATE_COUNT", 0x13004C, 0x4, 1, 1, 0x0, 0x0, 0x0, 0xFFFFFFFF, 0x0, 0x0, 0x0⟩,
    ⟨"FABRIC_SLOT_COLLISION_COUNT", 0x130050, 0x4, 1, 1, 0x0, 0x0, 0x0, 0xFFFFFFFF, 0x0, 0x0, 0x0⟩,
    ⟨"FABRIC_SLOT_LATE_COUNT", 0x130054, 0x4, 1, 1, 0x0, 0x0, 0x0, 0xFFFFFFFF, 0x0, 0x0, 0x0⟩,
    ⟨"FABRIC_ABORT_COUNT", 0x130058, 0x4, 1, 1, 0x0, 0x0, 0x0, 0xFFFFFFFF, 0x0, 0x0, 0x0⟩,
    ⟨"FABRIC_SLOT_n", 0x130100, 0x4, 64, 1, 0x101FF, 0x0, 0x0, 0x0, 0x0, 0x0, 0x0⟩,
    ⟨"FABRIC_SLOT_ACT_n", 0x130200, 0x4, 64, 1, 0x0, 0x0, 0x0, 0x0, 0x0, 0xFFFFFFFF, 0x0⟩ ]

/-- Register rows of the MITRE block (R282; 08_dovetail_fabric_and_twin.md). -/
def regRowsMitre : List RegRow :=
  [ ⟨"MITRE_CTRL", 0x140000, 0x4, 1, 1, 0x1, 0x0, 0x0, 0x0, 0x0, 0x0, 0x1⟩,
    ⟨"MITRE_STATUS", 0x140004, 0x4, 1, 1, 0x0, 0x0, 0x0, 0x0, 0x0, 0xFFFFFFFF, 0x0⟩,
    ⟨"MITRE_INT_EN", 0x140008, 0x4, 1, 1, 0x7F, 0x0, 0x0, 0x0, 0x0, 0x0, 0x0⟩,
    ⟨"MITRE_ROLE", 0x14000C, 0x4, 1, 1, 0x0, 0x0, 0x0, 0x0, 0x0, 0xFFFFFFFF, 0x0⟩,
    ⟨"MITRE_HB_MISSED", 0x140010, 0x4, 1, 1, 0x0, 0x0, 0x0, 0xFFFFFFFF, 0x0, 0x0, 0x0⟩,
    ⟨"MITRE_PARTNER_LOST_COUNT", 0x140014, 0x4, 1, 1, 0x0, 0x0, 0x0, 0xFFFFFFFF, 0x0, 0x0, 0x0⟩,
    ⟨"MITRE_MIRROR_OPS_COUNT", 0x140018, 0x4, 1, 1, 0x0, 0x0, 0x0, 0xFFFFFFFF, 0x0, 0x0, 0x0⟩,
    ⟨"MITRE_MIRROR_FAIL_COUNT", 0x14001C, 0x4, 1, 1, 0x0, 0x0, 0x0, 0xFFFFFFFF, 0x0, 0x0, 0x0⟩,
    ⟨"MITRE_CLAMP_ALONE_COUNT", 0x140020, 0x4, 1, 1, 0x0, 0x0, 0x0, 0xFFFFFFFF, 0x0, 0x0, 0x0⟩,
    ⟨"MITRE_LATE_COMMIT_COUNT", 0x140024, 0x4, 1, 1, 0x0, 0x0, 0x0, 0xFFFFFFFF, 0x0, 0x0, 0x0⟩,
    ⟨"MITRE_RESYNC_BYTES_LO", 0x140028, 0x4, 1, 1, 0x0, 0x0, 0x0, 0xFFFFFFFF, 0x0, 0x0, 0x0⟩,
    ⟨"MITRE_RESYNC_BYTES_HI", 0x14002C, 0x4, 1, 1, 0x0, 0x0, 0x0, 0xFFFFFFFF, 0x0, 0x0, 0x0⟩,
    ⟨"MITRE_RESYNC_DROP_COUNT", 0x140030, 0x4, 1, 1, 0x0, 0x0, 0x0, 0xFFFFFFFF, 0x0, 0x0, 0x0⟩,
    ⟨"MITRE_REPAIR_COUNT", 0x140034, 0x4, 1, 1, 0x0, 0x0, 0x0, 0xFFFFFFFF, 0x0, 0x0, 0x0⟩ ]

/-- Register rows of the SWITCH block (R321; 09_frame_forwarding.md). -/
def regRowsSwitch : List RegRow :=
  [ ⟨"SWITCH_CTRL", 0x90000, 0x4, 1, 1, 0x1, 0x0, 0x0, 0x0, 0x0, 0x0, 0x1⟩,
    ⟨"SWITCH_STATUS", 0x90004, 0x4, 1, 1, 0x0, 0x0, 0x0, 0x0, 0x0, 0xFFFFFFFF, 0x0⟩,
    ⟨"SWITCH_INT_EN", 0x90008, 0x4, 1, 1, 0x3, 0x0, 0x0, 0x0, 0x0, 0x0, 0x0⟩,
    ⟨"SWITCH_BUDGET", 0x9000C, 0x4, 1, 1, 0x3FF, 0x0, 0x0, 0x0, 0x0, 0x0, 0x32⟩,
    ⟨"SWITCH_SHARED_SIZE", 0x90010, 0x4, 1, 1, 0x0, 0x0, 0x0, 0x0, 0x0, 0xFFFFFFFF, 0x16800⟩,
    ⟨"SWITCH_SHARED_USED", 0x90014, 0x4, 1, 1, 0x0, 0x0, 0x0, 0x0, 0x0, 0xFFFFFFFF, 0x0⟩,
    ⟨"SWITCH_CELLS_FREE", 0x90018, 0x4, 1, 1, 0x0, 0x0, 0x0, 0x0, 0x0, 0xFFFFFFFF, 0x18000⟩,
    ⟨"SWITCH_LATE_DROP_COUNT", 0x90020, 0x4, 1, 1, 0x0, 0x0, 0x0, 0xFFFFFFFF, 0x0, 0x0, 0x0⟩,
    ⟨"SWITCH_ROLE_WAVE_COUNT", 0x90024, 0x4, 1, 1, 0x0, 0x0, 0x0, 0xFFFFFFFF, 0x0, 0x0, 0x0⟩,
    ⟨"SWITCH_PARTIAL_COUNT", 0x90028, 0x4, 1, 1, 0x0, 0x0, 0x0, 0xFFFFFFFF, 0x0, 0x0, 0x0⟩,
    ⟨"SWITCH_EVENT_SUPPRESS_COUNT", 0x9002C, 0x4, 1, 1, 0x0, 0x0, 0x0, 0xFFFFFFFF, 0x0, 0x0, 0x0⟩,
    ⟨"SWITCH_MCAST_COPY_COUNT", 0x90030, 0x4, 1, 1, 0x0, 0x0, 0x0, 0xFFFFFFFF, 0x0, 0x0, 0x0⟩,
    ⟨"SWITCH_FIXED_LAT_MISS_n", 0x90100, 0x4, 32, 1, 0x0, 0x0, 0x0, 0xFFFFFFFF, 0x0, 0x0, 0x0⟩ ]

/-- Register rows of the ETHPORT block (R322; 09_frame_forwarding.md). -/
def regRowsEthport : List RegRow :=
  [ ⟨"ETHPORT_CTRL", 0xA0000, 0x4, 1, 32, 0x103FF, 0x0, 0x0, 0x0, 0x0, 0x0, 0x10000⟩,
    ⟨"ETHPORT_STATUS", 0xA0004, 0x4, 1, 32, 0x0, 0x0, 0x0, 0x0, 0x0, 0xFFFFFFFF, 0x0⟩,
    ⟨"ETHPORT_INT_EN", 0xA0008, 0x4, 1, 32, 0x3F, 0x0, 0x0, 0x0, 0x0, 0x0, 0x0⟩,
    ⟨"ETHPORT_MODE", 0xA000C, 0x4, 1, 32, 0x0, 0x0, 0x0, 0x0, 0x0, 0xFFFFFFFF, 0x24000000⟩,
    ⟨"ETHPORT_ING_USED", 0xA0010, 0x4, 1, 32, 0x0, 0x0, 0x0, 0x0, 0x0, 0xFFFFFFFF, 0x0⟩,
    ⟨"ETHPORT_ING_MIN", 0xA0014, 0x4, 1, 32, 0x0, 0x0, 0x0, 0x0, 0x0, 0xFFFFFFFF, 0x30⟩,
    ⟨"ETHPORT_ING_QUOTA", 0xA0018, 0x4, 1, 32, 0x0, 0x0, 0x0, 0x0, 0x0, 0xFFFFFFFF, 0x4000⟩,
    ⟨"ETHPORT_Qq_USED", 0xA0020, 0x10, 8, 32, 0x0, 0x0, 0x0, 0x0, 0x0, 0xFFFFFFFF, 0x0⟩,
    ⟨"ETHPORT_Qq_MIN", 0xA0024, 0x10, 8, 32, 0x0, 0x0, 0x0, 0x0, 0x0, 0xFFFFFFFF, 0x10⟩,
    ⟨"ETHPORT_Qq_QUOTA", 0xA0028, 0x10, 8, 32, 0x0, 0x0, 0x0, 0x0, 0x0, 0xFFFFFFFF, 0x3000⟩,
    ⟨"ETHPORT_RX_FRAMES_LO", 0xA0100, 0x4, 1, 32, 0x0, 0x0, 0x0, 0xFFFFFFFF, 0x0, 0x0, 0x0⟩,
    ⟨"ETHPORT_RX_FRAMES_HI", 0xA0104, 0x4, 1, 32, 0x0, 0x0, 0x0, 0xFFFFFFFF, 0x0, 0x0, 0x0⟩,
    ⟨"ETHPORT_RX_BYTES_LO", 0xA0108, 0x4, 1, 32, 0x0, 0x0, 0x0, 0xFFFFFFFF, 0x0, 0x0, 0x0⟩,
    ⟨"ETHPORT_RX_BYTES_HI", 0xA010C, 0x4, 1, 32, 0x0, 0x0, 0x0, 0xFFFFFFFF, 0x0, 0x0, 0x0⟩,
    ⟨"ETHPORT_TX_FRAMES_LO", 0xA0110, 0x4, 1, 32, 0x0, 0x0, 0x0, 0xFFFFFFFF, 0x0, 0x0, 0x0⟩,
    ⟨"ETHPORT_TX_FRAMES_HI", 0xA0114, 0x4, 1, 32, 0x0, 0x0, 0x0, 0xFFFFFFFF, 0x0, 0x0, 0x0⟩,
    ⟨"ETHPORT_TX_BYTES_LO", 0xA0118, 0x4, 1, 32, 0x0, 0x0, 0x0, 0xFFFFFFFF, 0x0, 0x0, 0x0⟩,
    ⟨"ETHPORT_TX_BYTES_HI", 0xA011C, 0x4, 1, 32, 0x0, 0x0, 0x0, 0xFFFFFFFF, 0x0, 0x0, 0x0⟩,
    ⟨"ETHPORT_FEC_CORR_COUNT", 0xA0120, 0x4, 1, 32, 0x0, 0x0, 0x0, 0xFFFFFFFF, 0x0, 0x0, 0x0⟩,
    ⟨"ETHPORT_FEC_UNCORR_COUNT", 0xA0124, 0x4, 1, 32, 0x0, 0x0, 0x0, 0xFFFFFFFF, 0x0, 0x0, 0x0⟩,
    ⟨"ETHPORT_DROP_r", 0xA0140, 0x4, 16, 32, 0x0, 0x0, 0x0, 0xFFFFFFFF, 0x0, 0x0, 0x0⟩ ]

/-- Register rows of the SLOWCH block (R363; 10_signals_periods_freshness.md). -/
def regRowsSlowch : List RegRow :=
  [ ⟨"SLOWCH_CTRL", 0xC0000, 0x4, 1, 64, 0x1, 0x0, 0x0, 0x0, 0x0, 0x0, 0x1⟩,
    ⟨"SLOWCH_STATUS", 0xC0004, 0x4, 1, 64, 0x0, 0x0, 0x0, 0x0, 0x0, 0xFFFFFFFF, 0x0⟩,
    ⟨"SLOWCH_INT_EN", 0xC0008, 0x4, 1, 64, 0x3F, 0x0, 0x0, 0x0, 0x0, 0x0, 0x0⟩,
    ⟨"SLOWCH_MODE", 0xC000C, 0x4, 1, 64, 0x0, 0x0, 0x0, 0x0, 0x0, 0xFFFFFFFF, 0x0⟩,
    ⟨"SLOWCH_ERR", 0xC0010, 0x4, 1, 64, 0x0, 0x0, 0x0, 0x0, 0x0, 0xFFFFFFFF, 0x0⟩,
    ⟨"SLOWCH_RECOVER", 0xC0014, 0x4, 1, 64, 0x0, 0x0, 0x0, 0x0, 0x1, 0x0, 0x0⟩,
    ⟨"SLOWCH_TDC", 0xC0018, 0x4, 1, 64, 0x0, 0x0, 0x0, 0x0, 0x0, 0xFFFFFFFF, 0x0⟩,
    ⟨"SLOWCH_PTP_ID", 0xC001C, 0x4, 1, 64, 0xFFFFFFFF, 0x0, 0x0, 0x0, 0x0, 0x0, 0x0⟩,
    ⟨"SLOWCH_ING_USED", 0xC0020, 0x4, 1, 64, 0x0, 0x0, 0x0, 0x0, 0x0, 0xFFFFFFFF, 0x0⟩,
    ⟨"SLOWCH_ING_MIN", 0xC0024, 0x4, 1, 64, 0x0, 0x0, 0x0, 0x0, 0x0, 0xFFFFFFFF, 0x4⟩,
    ⟨"SLOWCH_ING_QUOTA", 0xC0028, 0x4, 1, 64, 0x0, 0x0, 0x0, 0x0, 0x0, 0xFFFFFFFF, 0x100⟩,
    ⟨"SLOWCH_Q_USED", 0xC002C, 0x4, 1, 64, 0x0, 0x0, 0x0, 0x0, 0x0, 0xFFFFFFFF, 0x0⟩,
    ⟨"SLOWCH_Q_MIN", 0xC0030, 0x4, 1, 64, 0x0, 0x0, 0x0, 0x0, 0x0, 0xFFFFFFFF, 0x4⟩,
    ⟨"SLOWCH_Q_QUOTA", 0xC0034, 0x4, 1, 64, 0x0, 0x0, 0x0, 0x0, 0x0, 0xFFFFFFFF, 0x100⟩,
    ⟨"SLOWCH_RX_FRAMES", 0xC0100, 0x4, 1, 64, 0x0, 0x0, 0x0, 0xFFFFFFFF, 0x0, 0x0, 0x0⟩,
    ⟨"SLOWCH_TX_FRAMES", 0xC0104, 0x4, 1, 64, 0x0, 0x0, 0x0, 0xFFFFFFFF, 0x0, 0x0, 0x0⟩,
    ⟨"SLOWCH_RX_ERR_COUNT", 0xC0108, 0x4, 1, 64, 0x0, 0x0, 0x0, 0xFFFFFFFF, 0x0, 0x0, 0x0⟩,
    ⟨"SLOWCH_ARB_LOST_COUNT", 0xC010C, 0x4, 1, 64, 0x0, 0x0, 0x0, 0xFFFFFFFF, 0x0, 0x0, 0x0⟩,
    ⟨"SLOWCH_BUSOFF_COUNT", 0xC0110, 0x4, 1, 64, 0x0, 0x0, 0x0, 0xFFFFFFFF, 0x0, 0x0, 0x0⟩,
    ⟨"SLOWCH_REMOTE_COUNT", 0xC0114, 0x4, 1, 64, 0x0, 0x0, 0x0, 0xFFFFFFFF, 0x0, 0x0, 0x0⟩,
    ⟨"SLOWCH_DROP_r", 0xC0140, 0x4, 16, 64, 0x0, 0x0, 0x0, 0xFFFFFFFF, 0x0, 0x0, 0x0⟩ ]

/-- Register rows of the MAPPER block (R364; 10_signals_periods_freshness.md). -/
def regRowsMapper : List RegRow :=
  [ ⟨"MAPPER_CTRL", 0x100000, 0x4, 1, 1, 0x3, 0x0, 0x0, 0x0, 0x0, 0x0, 0x1⟩,
    ⟨"MAPPER_STATUS", 0x100004, 0x4, 1, 1, 0x0, 0x0, 0x0, 0x0, 0x0, 0xFFFFFFFF, 0x0⟩,
    ⟨"MAPPER_INT_EN", 0x100008, 0x4, 1, 1, 0x1, 0x0, 0x0, 0x0, 0x0, 0x0, 0x0⟩,
    ⟨"MAPPER_ETYPE", 0x10000C, 0x4, 1, 1, 0x0, 0xFFFF, 0x0, 0x0, 0x0, 0x0, 0x88B6⟩,
    ⟨"MAPPER_MAC_LO", 0x100010, 0x4, 1, 1, 0x0, 0xFFFFFFFF, 0x0, 0x0, 0x0, 0x0, 0x0⟩,
    ⟨"MAPPER_MAC_HI", 0x100014, 0x4, 1, 1, 0x0, 0xFFFF, 0x0, 0x0, 0x0, 0x0, 0x0⟩,
    ⟨"MAPPER_RX_PORTS", 0x100018, 0x4, 1, 1, 0x0, 0xFFFFFFFF, 0x0, 0x0, 0x0, 0x0, 0x0⟩,
    ⟨"MAPPER_ROUTES", 0x100020, 0x4, 1, 1, 0x0, 0x0, 0x0, 0x0, 0x0, 0xFFFFFFFF, 0x0⟩,
    ⟨"MAPPER_SOURCE_LISTS", 0x100024, 0x4, 1, 1, 0x0, 0x0, 0x0, 0x0, 0x0, 0xFFFFFFFF, 0x0⟩,
    ⟨"MAPPER_VALUE_COUNT", 0x100040, 0x4, 1, 1, 0x0, 0x0, 0x0, 0xFFFFFFFF, 0x0, 0x0, 0x0⟩,
    ⟨"MAPPER_OLDER_DISCARD_COUNT", 0x100044, 0x4, 1, 1, 0x0, 0x0, 0x0, 0xFFFFFFFF, 0x0, 0x0, 0x0⟩,
    ⟨"MAPPER_SHORT_COUNT", 0x100048, 0x4, 1, 1, 0x0, 0x0, 0x0, 0xFFFFFFFF, 0x0, 0x0, 0x0⟩,
    ⟨"MAPPER_FRESH_COUNT", 0x10004C, 0x4, 1, 1, 0x0, 0x0, 0x0, 0xFFFFFFFF, 0x0, 0x0, 0x0⟩,
    ⟨"MAPPER_STALE_COUNT", 0x100050, 0x4, 1, 1, 0x0, 0x0, 0x0, 0xFFFFFFFF, 0x0, 0x0, 0x0⟩,
    ⟨"MAPPER_PDU_SENT_COUNT", 0x100054, 0x4, 1, 1, 0x0, 0x0, 0x0, 0xFFFFFFFF, 0x0, 0x0, 0x0⟩,
    ⟨"MAPPER_PDU_LOST_COUNT", 0x100058, 0x4, 1, 1, 0x0, 0x0, 0x0, 0xFFFFFFFF, 0x0, 0x0, 0x0⟩,
    ⟨"MAPPER_PDU_EMPTY_COUNT", 0x10005C, 0x4, 1, 1, 0x0, 0x0, 0x0, 0xFFFFFFFF, 0x0, 0x0, 0x0⟩,
    ⟨"MAPPER_RX_UNKNOWN_COUNT", 0x100060, 0x4, 1, 1, 0x0, 0x0, 0x0, 0xFFFFFFFF, 0x0, 0x0, 0x0⟩,
    ⟨"MAPPER_RX_BAD_COUNT", 0x100064, 0x4, 1, 1, 0x0, 0x0, 0x0, 0xFFFFFFFF, 0x0, 0x0, 0x0⟩,
    ⟨"MAPPER_EVENT_SUPPRESS_COUNT", 0x100068, 0x4, 1, 1, 0x0, 0x0, 0x0, 0xFFFFFFFF, 0x0, 0x0, 0x0⟩ ]

/-- Register rows of the TIME block (R365; 10_signals_periods_freshness.md). -/
def regRowsTime : List RegRow :=
  [ ⟨"TIME_CTRL", 0x110000, 0x4, 1, 1, 0x1, 0x0, 0x0, 0x0, 0x0, 0x0, 0x1⟩,
    ⟨"TIME_STATUS", 0x110004, 0x4, 1, 1, 0x0, 0x0, 0x0, 0x0, 0x0, 0xFFFFFFFF, 0x0⟩,
    ⟨"TIME_INT_EN", 0x110008, 0x4, 1, 1, 0xF, 0x0, 0x0, 0x0, 0x0, 0x0, 0x0⟩,
    ⟨"TIME_NOW_NSEC", 0x110010, 0x4, 1, 1, 0x0, 0x0, 0x0, 0x0, 0x0, 0xFFFFFFFF, 0x0⟩,
    ⟨"TIME_NOW_SEC_LO", 0x110014, 0x4, 1, 1, 0x0, 0x0, 0x0, 0x0, 0x0, 0xFFFFFFFF, 0x0⟩,
    ⟨"TIME_NOW_SEC_HI", 0x110018, 0x4, 1, 1, 0x0, 0x0, 0x0, 0x0, 0x0, 0xFFFFFFFF, 0x0⟩,
    ⟨"TIME_AGE_LO", 0x110020, 0x4, 1, 1, 0x0, 0x0, 0x0, 0x0, 0x0, 0xFFFFFFFF, 0x0⟩,
    ⟨"TIME_AGE_HI", 0x110024, 0x4, 1, 1, 0x0, 0x0, 0x0, 0x0, 0x0, 0xFFFFFFFF, 0x0⟩,
    ⟨"TIME_RATE", 0x110028, 0x4, 1, 1, 0x0, 0x0, 0x0, 0x0, 0x0, 0xFFFFFFFF, 0x0⟩,
    ⟨"TIME_OFFSET", 0x11002C, 0x4, 1, 1, 0x0, 0x0, 0x0, 0x0, 0x0, 0xFFFFFFFF, 0x0⟩,
    ⟨"TIME_PPS_IN_NSEC", 0x110030, 0x4, 1, 1, 0x0, 0x0, 0x0, 0x0, 0x0, 0xFFFFFFFF, 0x0⟩,
    ⟨"TIME_PPS_IN_SEC_LO", 0x110034, 0x4, 1, 1, 0x0, 0x0, 0x0, 0x0, 0x0, 0xFFFFFFFF, 0x0⟩,
    ⟨"TIME_PPS_IN_SEC_HI", 0x110038, 0x4, 1, 1, 0x0, 0x0, 0x0, 0x0, 0x0, 0xFFFFFFFF, 0x0⟩,
    ⟨"TIME_CAPn_NSEC", 0x110040, 0x10, 4, 1, 0x0, 0x0, 0x0, 0x0, 0x0, 0xFFFFFFFF, 0x0⟩,
    ⟨"TIME_CAPn_SEC_LO", 0x110044, 0x10, 4, 1, 0x0, 0x0, 0x0, 0x0, 0x0, 0xFFFFFFFF, 0x0⟩,
    ⟨"TIME_CAPn_SEC_HI", 0x110048, 0x10, 4, 1, 0x0, 0x0, 0x0, 0x0, 0x0, 0xFFFFFFFF, 0x0⟩,
    ⟨"TIME_STEP_COUNT", 0x110080, 0x4, 1, 1, 0x0, 0x0, 0x0, 0xFFFFFFFF, 0x0, 0x0, 0x0⟩,
    ⟨"TIME_PPS_MISS_COUNT", 0x110084, 0x4, 1, 1, 0x0, 0x0, 0x0, 0xFFFFFFFF, 0x0, 0x0, 0x0⟩,
    ⟨"TIME_TS_LOST_COUNT", 0x110088, 0x4, 1, 1, 0x0, 0x0, 0x0, 0xFFFFFFFF, 0x0, 0x0, 0x0⟩,
    ⟨"TIME_SLOT_DEFER_COUNT", 0x11008C, 0x4, 1, 1, 0x0, 0x0, 0x0, 0xFFFFFFFF, 0x0, 0x0, 0x0⟩,
    ⟨"TIME_GEN0_PERIOD", 0x110100, 0x8, 1, 1, 0x0, 0x0, 0x0, 0x0, 0x0, 0xFFFFFFFF, 0x4E2⟩,
    ⟨"TIME_GENg_PERIOD", 0x110108, 0x8, 63, 1, 0x0, 0x0, 0x0, 0x0, 0x0, 0xFFFFFFFF, 0x0⟩,
    ⟨"TIME_GENg_PHASE", 0x110104, 0x8, 64, 1, 0x0, 0x0, 0x0, 0x0, 0x0, 0xFFFFFFFF, 0x0⟩,
    ⟨"TIME_GEN0_OWNERS", 0x110300, 0x4, 1, 1, 0x0, 0x0, 0x0, 0x0, 0x0, 0xFFFFFFFF, 0x8⟩,
    ⟨"TIME_GENg_OWNERS", 0x110304, 0x4, 63, 1, 0x0, 0x0, 0x0, 0x0, 0x0, 0xFFFFFFFF, 0x0⟩,
    ⟨"TIME_GATE_COPY_k", 0x111000, 0x4, 3, 1, 0x0, 0x0, 0x0, 0x0, 0x0, 0xFFFFFFFF, 0x0⟩,
    ⟨"TIME_GATE_PEND_k", 0x111010, 0x4, 3, 1, 0x0, 0x0, 0x0, 0x0, 0x0, 0xFFFFFFFF, 0x0⟩ ]

/-- Register rows of the SEC block (R397; 11_security_and_life_cycle.md). -/
def regRowsSec : List RegRow :=
  [ ⟨"SEC_CTRL", 0x120000, 0x4, 1, 1, 0x1, 0x0, 0x0, 0x0, 0x0, 0x0, 0x1⟩,
    ⟨"SEC_STATUS", 0x120004, 0x4, 1, 1, 0x0, 0x0, 0x0, 0x0, 0x0, 0xFFFFFFFF, 0x0⟩,
    ⟨"SEC_INT_EN", 0x120008, 0x4, 1, 1, 0xF, 0x0, 0x0, 0x0, 0x0, 0x0, 0x0⟩,
    ⟨"SEC_LC", 0x12000C, 0x4, 1, 1, 0x0, 0x0, 0x0, 0x0, 0x0, 0xFFFFFFFF, 0x0⟩,
    ⟨"SEC_SESSIONS_USED", 0x120010, 0x4, 1, 1, 0x0, 0x0, 0x0, 0x0, 0x0, 0xFFFFFFFF, 0x0⟩,
    ⟨"SEC_RX_ICV_FAIL_COUNT", 0x120020, 0x4, 1, 1, 0x0, 0x0, 0x0, 0xFFFFFFFF, 0x0, 0x0, 0x0⟩,
    ⟨"SEC_RX_REPLAY_COUNT", 0x120024, 0x4, 1, 1, 0x0, 0x0, 0x0, 0xFFFFFFFF, 0x0, 0x0, 0x0⟩,
    ⟨"SEC_RX_NO_SA_COUNT", 0x120028, 0x4, 1, 1, 0x0, 0x0, 0x0, 0xFFFFFFFF, 0x0, 0x0, 0x0⟩,
    ⟨"SEC_RX_UNTAGGED_COUNT", 0x12002C, 0x4, 1, 1, 0x0, 0x0, 0x0, 0xFFFFFFFF, 0x0, 0x0, 0x0⟩,
    ⟨"SEC_TX_MISMATCH_COUNT", 0x120030, 0x4, 1, 1, 0x0, 0x0, 0x0, 0xFFFFFFFF, 0x0, 0x0, 0x0⟩,
    ⟨"SEC_TX_EXHAUSTED_COUNT", 0x120034, 0x4, 1, 1, 0x0, 0x0, 0x0, 0xFFFFFFFF, 0x0, 0x0, 0x0⟩,
    ⟨"SEC_FABRIC_AUTH_FAIL_COUNT", 0x120038, 0x4, 1, 1, 0x0, 0x0, 0x0, 0xFFFFFFFF, 0x0, 0x0, 0x0⟩,
    ⟨"SEC_WIPE_COUNT", 0x12003C, 0x4, 1, 1, 0x0, 0x0, 0x0, 0xFFFFFFFF, 0x0, 0x0, 0x0⟩,
    ⟨"SEC_PORT_CFG_n", 0x120100, 0x4, 32, 1, 0x0, 0x0, 0x0, 0x0, 0x0, 0xFFFFFFFF, 0x0⟩,
    ⟨"SEC_CHAN_CFG_n", 0x120200, 0x4, 64, 1, 0x0, 0x0, 0x0, 0x0, 0x0, 0xFFFFFFFF, 0x0⟩ ]

/-- Register rows of the HEATH block (R398, R484, R436; 11_security_and_life_cycle.md, 14_power_clocks_start_up.md, 13_register_conventions.md). -/
def regRowsHeath : List RegRow :=
  [ ⟨"HEATH_PRES_STATUS", 0x10100, 0x4, 1, 1, 0x0, 0x0, 0x0, 0x0, 0x0, 0xFFFFFFFF, 0x0⟩,
    ⟨"HEATH_PRES_COUNT", 0x10104, 0x4, 1, 1, 0x0, 0x0, 0x0, 0xFFFFFFFF, 0x0, 0x0, 0x0⟩,
    ⟨"HEATH_PRES_REJECT_COUNT", 0x10108, 0x4, 1, 1, 0x0, 0x0, 0x0, 0xFFFFFFFF, 0x0, 0x0, 0x0⟩,
    ⟨"HEATH_TAMP_CTRL", 0x10110, 0x4, 1, 1, 0x0, 0x3, 0x0, 0x0, 0x0, 0x0, 0x3⟩,
    ⟨"HEATH_TAMPER_STATUS", 0x10114, 0x4, 1, 1, 0x0, 0x0, 0x0, 0x0, 0x0, 0xFFFFFFFF, 0x0⟩,
    ⟨"HEATH_TAMPER_FIRST", 0x10118, 0x4, 1, 1, 0x0, 0x0, 0x0, 0x0, 0x0, 0xFFFFFFFF, 0x0⟩,
    ⟨"HEATH_TAMPER_LAST", 0x1011C, 0x4, 1, 1, 0x0, 0x0, 0x0, 0x0, 0x0, 0xFFFFFFFF, 0x0⟩,
    ⟨"HEATH_CTRL", 0x10000, 0x4, 1, 1, 0x1, 0x0, 0x0, 0x0, 0x0, 0x0, 0x1⟩,
    ⟨"HEATH_STATUS", 0x10004, 0x4, 1, 1, 0x0, 0x0, 0x0, 0x0, 0x0, 0xFFFFFFFF, 0x10⟩,
    ⟨"HEATH_INT_EN", 0x10008, 0x4, 1, 1, 0x1F, 0x0, 0x0, 0x0, 0x0, 0x0, 0x0⟩,
    ⟨"HEATH_POWER_ORDER", 0x1000C, 0x4, 1, 1, 0x0, 0x0, 0x0, 0x0, 0x0, 0xFFFFFFFF, 0x0⟩,
    ⟨"HEATH_RECORD_CLEAR", 0x10010, 0x4, 1, 1, 0x0, 0x0, 0x0, 0x0, 0xF, 0x0, 0x0⟩,
    ⟨"HEATH_RTC_LO", 0x10014, 0x4, 1, 1, 0x0, 0x0, 0x0, 0x0, 0x0, 0xFFFFFFFF, 0x0⟩,
    ⟨"HEATH_RTC_HI", 0x10018, 0x4, 1, 1, 0x0, 0x0, 0x0, 0x0, 0x0, 0xFFFFFFFF, 0x0⟩,
    ⟨"HEATH_RTC_ALARM", 0x1001C, 0x4, 1, 1, 0xFFFFFFFF, 0x0, 0x0, 0x0, 0x0, 0x0, 0x0⟩,
    ⟨"HEATH_WAKE_CTRL", 0x10020, 0x4, 1, 1, 0xFFFF7FF1, 0x0, 0x0, 0x0, 0x0, 0x0, 0xA001000⟩,
    ⟨"HEATH_WAKE_CAUSE", 0x10024, 0x4, 1, 1, 0x0, 0x0, 0x0, 0x0, 0x0, 0xFFFFFFFF, 0x0⟩,
    ⟨"HEATH_WAKE_REQ", 0x10028, 0x4, 1, 1, 0x0, 0x0, 0x0, 0x0, 0x1, 0x0, 0x0⟩,
    ⟨"HEATH_THERM_CTRL", 0x1002C, 0x4, 1, 1, 0x0, 0x1, 0x0, 0x0, 0x0, 0x0, 0x1⟩,
    ⟨"HEATH_FALLOW_CTRL", 0x10030, 0x4, 1, 1, 0x0, 0x1, 0x0, 0x0, 0x0, 0x0, 0x1⟩,
    ⟨"HEATH_STATE", 0x10034, 0x4, 1, 1, 0x0, 0x0, 0x0, 0x0, 0x0, 0xFFFFFFFF, 0x0⟩,
    ⟨"HEATH_WAKE_COUNT", 0x10040, 0x4, 1, 1, 0x0, 0x0, 0x0, 0xFFFFFFFF, 0x0, 0x0, 0x0⟩,
    ⟨"HEATH_THERM_TRIP_COUNT", 0x10044, 0x4, 1, 1, 0x0, 0x0, 0x0, 0xFFFFFFFF, 0x0, 0x0, 0x0⟩,
    ⟨"HEATH_RETAIN_k", 0x10200, 0x4, 64, 1, 0xFFFFFFFF, 0x0, 0x0, 0x0, 0x0, 0x0, 0x0⟩,
    ⟨"HEATH_POSTED", 0x103FC, 0x4, 1, 1, 0x0, 0x0, 0x0, 0x0, 0x0, 0xFFFFFFFF, 0x0⟩ ]

/-- Register rows of the SCRATCH block (R425; 12_scratchpad_and_arbitration.md). -/
def regRowsScratch : List RegRow :=
  [ ⟨"SCRATCH_CTRL", 0x70000, 0x4, 1, 1, 0x1, 0x0, 0x0, 0x0, 0x0, 0x0, 0x1⟩,
    ⟨"SCRATCH_STATUS", 0x70004, 0x4, 1, 1, 0x0, 0x0, 0x0, 0x0, 0x0, 0xFFFFFFFF, 0x0⟩,
    ⟨"SCRATCH_INT_EN", 0x70008, 0x4, 1, 1, 0x3, 0x0, 0x0, 0x0, 0x0, 0x0, 0x0⟩,
    ⟨"SCRATCH_HOST_ADDR", 0x70010, 0x4, 1, 1, 0x3FFFF8, 0x0, 0x0, 0x0, 0x0, 0x0, 0x0⟩,
    ⟨"SCRATCH_HOST_CMD", 0x70014, 0x4, 1, 1, 0xFF13, 0x0, 0x0, 0x0, 0x80000000, 0x0, 0xFF00⟩,
    ⟨"SCRATCH_HOST_WDATA_LO", 0x70018, 0x4, 1, 1, 0xFFFFFFFF, 0x0, 0x0, 0x0, 0x0, 0x0, 0x0⟩,
    ⟨"SCRATCH_HOST_WDATA_HI", 0x7001C, 0x4, 1, 1, 0xFFFFFFFF, 0x0, 0x0, 0x0, 0x0, 0x0, 0x0⟩,
    ⟨"SCRATCH_HOST_RDATA_LO", 0x70020, 0x4, 1, 1, 0x0, 0x0, 0x0, 0x0, 0x0, 0xFFFFFFFF, 0x0⟩,
    ⟨"SCRATCH_HOST_RDATA_HI", 0x70024, 0x4, 1, 1, 0x0, 0x0, 0x0, 0x0, 0x0, 0xFFFFFFFF, 0x0⟩,
    ⟨"SCRATCH_HOST_RESULT", 0x70028, 0x4, 1, 1, 0x0, 0x0, 0x0, 0x0, 0x0, 0xFFFFFFFF, 0x0⟩,
    ⟨"SCRATCH_WRITE_LOST_COUNT", 0x70040, 0x4, 1, 1, 0x0, 0x0, 0x0, 0xFFFFFFFF, 0x0, 0x0, 0x0⟩,
    ⟨"SCRATCH_PARITY_COUNT", 0x70044, 0x4, 1, 1, 0x0, 0x0, 0x0, 0xFFFFFFFF, 0x0, 0x0, 0x0⟩,
    ⟨"SCRATCH_ATOMIC_COUNT", 0x70048, 0x4, 1, 1, 0x0, 0x0, 0x0, 0xFFFFFFFF, 0x0, 0x0, 0x0⟩,
    ⟨"SCRATCH_EVENT_SUPPRESS_COUNT", 0x7004C, 0x4, 1, 1, 0x0, 0x0, 0x0, 0xFFFFFFFF, 0x0, 0x0, 0x0⟩,
    ⟨"SCRATCH_CONFLICT_COUNT_m", 0x70100, 0x4, 8, 1, 0x0, 0x0, 0x0, 0xFFFFFFFF, 0x0, 0x0, 0x0⟩,
    ⟨"SCRATCH_SPARE_b", 0x70140, 0x4, 16, 1, 0x0, 0x0, 0x0, 0x0, 0x0, 0xFFFFFFFF, 0x0⟩ ]

/-- Register rows of the GLEANER block (R426; 12_scratchpad_and_arbitration.md). -/
def regRowsGleaner : List RegRow :=
  [ ⟨"GLEANER_CTRL", 0x170000, 0x4, 1, 1, 0x1F, 0x0, 0x0, 0x0, 0x0, 0x0, 0x1F⟩,
    ⟨"GLEANER_STATUS", 0x170004, 0x4, 1, 1, 0x0, 0x0, 0x0, 0x0, 0x0, 0xFFFFFFFF, 0x0⟩,
    ⟨"GLEANER_INT_EN", 0x170008, 0x4, 1, 1, 0x17FF1, 0x0, 0x0, 0x0, 0x0, 0x0, 0x0⟩,
    ⟨"GLEANER_TERN_RATE", 0x170010, 0x4, 1, 1, 0x7FF, 0x0, 0x0, 0x0, 0x0, 0x0, 0x40⟩,
    ⟨"GLEANER_EXACT_RATE", 0x170014, 0x4, 1, 1, 0x7FF, 0x0, 0x0, 0x0, 0x0, 0x0, 0x20⟩,
    ⟨"GLEANER_SCRUB_RATE", 0x170018, 0x4, 1, 1, 0x7FF, 0x0, 0x0, 0x0, 0x0, 0x0, 0x10⟩,
    ⟨"GLEANER_WIN_INTERVAL", 0x17001C, 0x4, 1, 1, 0xFFFF, 0x0, 0x0, 0x0, 0x0, 0x0, 0x3E8⟩,
    ⟨"GLEANER_FAULT_LAST", 0x170020, 0x4, 1, 1, 0x0, 0x0, 0x0, 0x0, 0x0, 0xFFFFFFFF, 0x0⟩,
    ⟨"GLEANER_FAULT_CLEAR", 0x170024, 0x4, 1, 1, 0x0, 0x0, 0x0, 0x0, 0x1, 0x0, 0x0⟩,
    ⟨"GLEANER_TERN_PASS_COUNT", 0x170040, 0x4, 1, 1, 0x0, 0x0, 0x0, 0xFFFFFFFF, 0x0, 0x0, 0x0⟩,
    ⟨"GLEANER_EXACT_PASS_COUNT", 0x170044, 0x4, 1, 1, 0x0, 0x0, 0x0, 0xFFFFFFFF, 0x0, 0x0, 0x0⟩,
    ⟨"GLEANER_SCRUB_PASS_COUNT", 0x170048, 0x4, 1, 1, 0x0, 0x0, 0x0, 0xFFFFFFFF, 0x0, 0x0, 0x0⟩,
    ⟨"GLEANER_TERN_ERR_COUNT", 0x17004C, 0x4, 1, 1, 0x0, 0x0, 0x0, 0xFFFFFFFF, 0x0, 0x0, 0x0⟩,
    ⟨"GLEANER_EXACT_ERR_COUNT", 0x170050, 0x4, 1, 1, 0x0, 0x0, 0x0, 0xFFFFFFFF, 0x0, 0x0, 0x0⟩,
    ⟨"GLEANER_SCRUB_ERR_COUNT", 0x170054, 0x4, 1, 1, 0x0, 0x0, 0x0, 0xFFFFFFFF, 0x0, 0x0, 0x0⟩,
    ⟨"GLEANER_FREE_FIX_COUNT", 0x170058, 0x4, 1, 1, 0x0, 0x0, 0x0, 0xFFFFFFFF, 0x0, 0x0, 0x0⟩,
    ⟨"GLEANER_INVALIDATE_COUNT", 0x17005C, 0x4, 1, 1, 0x0, 0x0, 0x0, 0xFFFFFFFF, 0x0, 0x0, 0x0⟩,
    ⟨"GLEANER_REPAIR_COUNT", 0x170060, 0x4, 1, 1, 0x0, 0x0, 0x0, 0xFFFFFFFF, 0x0, 0x0, 0x0⟩,
    ⟨"GLEANER_DEFER_COUNT", 0x170064, 0x4, 1, 1, 0x0, 0x0, 0x0, 0xFFFFFFFF, 0x0, 0x0, 0x0⟩,
    ⟨"GLEANER_WIN_COUNT", 0x170068, 0x4, 1, 1, 0x0, 0x0, 0x0, 0xFFFFFFFF, 0x0, 0x0, 0x0⟩,
    ⟨"GLEANER_WIN_ABORT_COUNT", 0x17006C, 0x4, 1, 1, 0x0, 0x0, 0x0, 0xFFFFFFFF, 0x0, 0x0, 0x0⟩,
    ⟨"GLEANER_WIN_FAULT_COUNT", 0x170070, 0x4, 1, 1, 0x0, 0x0, 0x0, 0xFFFFFFFF, 0x0, 0x0, 0x0⟩,
    ⟨"GLEANER_WIN_STALL_COUNT", 0x170074, 0x4, 1, 1, 0x0, 0x0, 0x0, 0xFFFFFFFF, 0x0, 0x0, 0x0⟩,
    ⟨"GLEANER_EVENT_SUPPRESS_COUNT", 0x170078, 0x4, 1, 1, 0x0, 0x0, 0x0, 0xFFFFFFFF, 0x0, 0x0, 0x0⟩ ]

/-- Register rows of the ARB block (R427; 12_scratchpad_and_arbitration.md). -/
def regRowsArb : List RegRow :=
  [ ⟨"ARB_CTRL", 0x80000, 0x4, 1, 1, 0x1, 0x0, 0x0, 0x0, 0x0, 0x0, 0x1⟩,
    ⟨"ARB_STATUS", 0x80004, 0x4, 1, 1, 0x0, 0x0, 0x0, 0x0, 0x0, 0xFFFFFFFF, 0x0⟩,
    ⟨"ARB_INT_EN", 0x80008, 0x4, 1, 1, 0x3, 0x0, 0x0, 0x0, 0x0, 0x0, 0x0⟩,
    ⟨"ARB_ARRAY_WINDOW", 0x80010, 0x4, 1, 1, 0xFFFF, 0x0, 0x0, 0x0, 0x0, 0x0, 0x100⟩,
    ⟨"ARB_SCRATCH_WINDOW", 0x80014, 0x4, 1, 1, 0xFFFF, 0x0, 0x0, 0x0, 0x0, 0x0, 0x100⟩,
    ⟨"ARB_ARRAY_STARVE", 0x80018, 0x4, 1, 1, 0xFFFF, 0x0, 0x0, 0x0, 0x0, 0x0, 0x400⟩,
    ⟨"ARB_SCRATCH_STARVE", 0x8001C, 0x4, 1, 1, 0xFFFF, 0x0, 0x0, 0x0, 0x0, 0x0, 0x800⟩,
    ⟨"ARB_LOCK_TIMEOUT", 0x80020, 0x4, 1, 1, 0x7F7F, 0x0, 0x0, 0x0, 0x0, 0x0, 0x4040⟩,
    ⟨"ARB_ARRAY_STARVED", 0x80024, 0x4, 1, 1, 0x0, 0x0, 0x0, 0x0, 0x0, 0xFFFFFFFF, 0x0⟩,
    ⟨"ARB_SCRATCH_STARVED", 0x80028, 0x4, 1, 1, 0x0, 0x0, 0x0, 0x0, 0x0, 0xFFFFFFFF, 0x0⟩,
    ⟨"ARB_KERF_COUNT", 0x80040, 0x4, 1, 1, 0x0, 0x0, 0x0, 0xFFFFFFFF, 0x0, 0x0, 0x0⟩,
    ⟨"ARB_PREEMPT_COUNT", 0x80044, 0x4, 1, 1, 0x0, 0x0, 0x0, 0xFFFFFFFF, 0x0, 0x0, 0x0⟩,
    ⟨"ARB_LOCK_COUNT", 0x80048, 0x4, 1, 1, 0x0, 0x0, 0x0, 0xFFFFFFFF, 0x0, 0x0, 0x0⟩,
    ⟨"ARB_LOCK_BREAK_COUNT", 0x8004C, 0x4, 1, 1, 0x0, 0x0, 0x0, 0xFFFFFFFF, 0x0, 0x0, 0x0⟩,
    ⟨"ARB_STARVE_COUNT", 0x80050, 0x4, 1, 1, 0x0, 0x0, 0x0, 0xFFFFFFFF, 0x0, 0x0, 0x0⟩,
    ⟨"ARB_EVENT_SUPPRESS_COUNT", 0x80054, 0x4, 1, 1, 0x0, 0x0, 0x0, 0xFFFFFFFF, 0x0, 0x0, 0x0⟩,
    ⟨"ARB_ARRAY_REQ_n", 0x80100, 0x4, 8, 1, 0x3FF, 0x0, 0x0, 0x0, 0x0, 0x0, 0x10⟩,
    ⟨"ARB_ARRAY_REQ_8", 0x80120, 0x4, 1, 1, 0x3FF, 0x0, 0x0, 0x0, 0x0, 0x0, 0x120⟩,
    ⟨"ARB_SCRATCH_REQ_m", 0x80140, 0x4, 6, 1, 0x3FF, 0x0, 0x0, 0x0, 0x0, 0x0, 0x10⟩,
    ⟨"ARB_SCRATCH_REQ_6", 0x80158, 0x4, 1, 1, 0x3FF, 0x0, 0x0, 0x0, 0x0, 0x0, 0x110⟩,
    ⟨"ARB_ARRAY_HINT_n", 0x80180, 0x4, 9, 1, 0x0, 0x0, 0x0, 0x0, 0x0, 0xFFFFFFFF, 0x0⟩,
    ⟨"ARB_ARRAY_WAIT_n", 0x801C0, 0x4, 9, 1, 0x0, 0x0, 0x0, 0xFFFFFFFF, 0x0, 0x0, 0x0⟩ ]

/-- Register rows of the GLOBAL block (R457; 13_register_conventions.md). -/
def regRowsGlobal : List RegRow :=
  [ ⟨"GLOBAL_DEVICE_ID", 0x0, 0x4, 1, 1, 0x0, 0x0, 0x0, 0x0, 0x0, 0xFFFFFFFF, 0x118432⟩,
    ⟨"GLOBAL_CTRL", 0x4, 0x4, 1, 1, 0x7, 0x100, 0x0, 0x0, 0x0, 0x0, 0x104⟩,
    ⟨"GLOBAL_STATUS", 0x8, 0x4, 1, 1, 0x0, 0x0, 0x0, 0x0, 0x0, 0xFFFFFFFF, 0x0⟩,
    ⟨"GLOBAL_STATUS_INT_EN", 0xC, 0x4, 1, 1, 0xF, 0x0, 0x0, 0x0, 0x0, 0x0, 0x0⟩,
    ⟨"GLOBAL_INT_STATUS", 0x10, 0x4, 1, 1, 0x0, 0x0, 0x0, 0x0, 0x0, 0xFFFFFFFF, 0x0⟩,
    ⟨"GLOBAL_INT_EN", 0x14, 0x4, 1, 1, 0x3FFFFF, 0x0, 0x0, 0x0, 0x0, 0x0, 0x0⟩,
    ⟨"GLOBAL_ETHPORT_INT", 0x18, 0x4, 1, 1, 0x0, 0x0, 0x0, 0x0, 0x0, 0xFFFFFFFF, 0x0⟩,
    ⟨"GLOBAL_SLOWCH_INT_LO", 0x1C, 0x4, 1, 1, 0x0, 0x0, 0x0, 0x0, 0x0, 0xFFFFFFFF, 0x0⟩,
    ⟨"GLOBAL_SLOWCH_INT_HI", 0x20, 0x4, 1, 1, 0x0, 0x0, 0x0, 0x0, 0x0, 0xFFFFFFFF, 0x0⟩,
    ⟨"GLOBAL_MSI_REARM", 0x24, 0x4, 1, 1, 0x3F, 0x0, 0x0, 0x0, 0x80000000, 0x0, 0x0⟩,
    ⟨"GLOBAL_INT_VEC_k", 0x30, 0x4, 5, 1, 0x3F3F3F3F, 0x0, 0x0, 0x0, 0x0, 0x0, 0x0⟩,
    ⟨"GLOBAL_INT_VEC_5", 0x44, 0x4, 1, 1, 0x3F3F, 0x0, 0x0, 0x0, 0x0, 0x0, 0x0⟩,
    ⟨"GLOBAL_EVENT_LEVEL", 0x50, 0x4, 1, 1, 0x0, 0x0, 0x0, 0x0, 0x0, 0xFFFFFFFF, 0x0⟩,
    ⟨"GLOBAL_EVENT_LOST_COUNT", 0x54, 0x4, 1, 1, 0x0, 0x0, 0x0, 0xFFFFFFFF, 0x0, 0x0, 0x0⟩,
    ⟨"GLOBAL_POSTED_MAP_k", 0x60, 0x4, 4, 1, 0x0, 0x0, 0x0, 0x0, 0x0, 0xFFFFFFFF, 0x0⟩,
    ⟨"GLOBAL_POSTED_DROP_ADDR", 0x70, 0x4, 1, 1, 0x0, 0x0, 0x0, 0x0, 0x0, 0xFFFFFFFF, 0x0⟩,
    ⟨"GLOBAL_POSTED_DROP_COUNT", 0x74, 0x4, 1, 1, 0x0, 0x0, 0x0, 0xFFFFFFFF, 0x0, 0x0, 0x0⟩,
    ⟨"GLOBAL_BAD_ACCESS_COUNT", 0x78, 0x4, 1, 1, 0x0, 0x0, 0x0, 0xFFFFFFFF, 0x0, 0x0, 0x0⟩ ]

/-- Register rows of the APPLY block (R457; 13_register_conventions.md). -/
def regRowsApply : List RegRow :=
  [ ⟨"APPLY_STROBE", 0x1000, 0x4, 1, 1, 0x0, 0x0, 0x0, 0x0, 0xFFFF, 0x0, 0x0⟩,
    ⟨"APPLY_STATUS", 0x1004, 0x4, 1, 1, 0x0, 0x0, 0x0, 0x0, 0x0, 0xFFFFFFFF, 0x0⟩,
    ⟨"APPLY_RESULT", 0x1008, 0x4, 1, 1, 0x0, 0x0, 0x0, 0x0, 0x0, 0xFFFFFFFF, 0x0⟩,
    ⟨"APPLY_CONFLICT_RES", 0x100C, 0x4, 1, 1, 0x0, 0x0, 0x0, 0x0, 0x0, 0xFFFFFFFF, 0x0⟩,
    ⟨"APPLY_DISCARD", 0x1010, 0x4, 1, 1, 0x0, 0x0, 0x0, 0x0, 0xFFFF, 0x0, 0x0⟩,
    ⟨"APPLY_COUNT", 0x1020, 0x4, 1, 1, 0x0, 0x0, 0x0, 0xFFFFFFFF, 0x0, 0x0, 0x0⟩,
    ⟨"APPLY_REJECT_COUNT", 0x1024, 0x4, 1, 1, 0x0, 0x0, 0x0, 0xFFFFFFFF, 0x0, 0x0, 0x0⟩ ]

/-- Register rows of the CFGCRC block (R457; 13_register_conventions.md). -/
def regRowsCfgcrc : List RegRow :=
  [ ⟨"CFGCRC_CTRL", 0x2000, 0x4, 1, 1, 0x0, 0x7, 0x0, 0x0, 0x0, 0x0, 0x0⟩,
    ⟨"CFGCRC_STATUS", 0x2004, 0x4, 1, 1, 0x0, 0x0, 0x0, 0x0, 0x0, 0xFFFFFFFF, 0x0⟩,
    ⟨"CFGCRC_INT_EN", 0x2008, 0x4, 1, 1, 0x7, 0x0, 0x0, 0x0, 0x0, 0x0, 0x0⟩,
    ⟨"CFGCRC_REF", 0x200C, 0x4, 1, 1, 0x0, 0xFFFFFFFF, 0x0, 0x0, 0x0, 0x0, 0x0⟩,
    ⟨"CFGCRC_COMMIT", 0x2010, 0x4, 1, 1, 0x0, 0x0, 0x0, 0x0, 0x1, 0x0, 0x0⟩,
    ⟨"CFGCRC_LAST", 0x2014, 0x4, 1, 1, 0x0, 0x0, 0x0, 0x0, 0x0, 0xFFFFFFFF, 0x0⟩,
    ⟨"CFGCRC_PASS_COUNT", 0x2018, 0x4, 1, 1, 0x0, 0x0, 0x0, 0xFFFFFFFF, 0x0, 0x0, 0x0⟩,
    ⟨"CFGCRC_MISMATCH_COUNT", 0x201C, 0x4, 1, 1, 0x0, 0x0, 0x0, 0xFFFFFFFF, 0x0, 0x0, 0x0⟩ ]

/-- Register rows of the LOCKCTL block (R457; 13_register_conventions.md). -/
def regRowsLockctl : List RegRow :=
  [ ⟨"LOCKCTL_STATUS", 0x3000, 0x4, 1, 1, 0x0, 0x0, 0x0, 0x0, 0x0, 0xFFFFFFFF, 0x0⟩,
    ⟨"LOCKCTL_INT_EN", 0x3004, 0x4, 1, 1, 0x1, 0x0, 0x0, 0x0, 0x0, 0x0, 0x0⟩,
    ⟨"LOCK_VIOL_COUNT", 0x3008, 0x4, 1, 1, 0x0, 0x0, 0x0, 0xFFFFFFFF, 0x0, 0x0, 0x0⟩,
    ⟨"LOCK_VIOL_ADDR", 0x300C, 0x4, 1, 1, 0x0, 0x0, 0x0, 0x0, 0x0, 0xFFFFFFFF, 0x0⟩,
    ⟨"LOCKCTL_STATE", 0x3010, 0x4, 1, 1, 0x0, 0x0, 0x0, 0x0, 0x0, 0xFFFFFFFF, 0x0⟩,
    ⟨"LOCKCTL_LOCK_g", 0x3100, 0x4, 32, 1, 0x0, 0x0, 0x1, 0x0, 0x0, 0x0, 0x0⟩ ]

/-- Register rows of the POWER block (R485; 14_power_clocks_start_up.md). -/
def regRowsPower : List RegRow :=
  [ ⟨"POWER_CTRL", 0x150000, 0x4, 1, 1, 0x1, 0x0, 0x0, 0x0, 0x0, 0x0, 0x1⟩,
    ⟨"POWER_STATUS", 0x150004, 0x4, 1, 1, 0x0, 0x0, 0x0, 0x0, 0x0, 0xFFFFFFFF, 0x0⟩,
    ⟨"POWER_INT_EN", 0x150008, 0x4, 1, 1, 0xF, 0x0, 0x0, 0x0, 0x0, 0x0, 0x0⟩,
    ⟨"POWER_LANE_CTRL", 0x15000C, 0x4, 1, 1, 0xFF0F, 0x0, 0x0, 0x0, 0x0, 0x0, 0xA08⟩,
    ⟨"POWER_THERM_WARN", 0x150010, 0x4, 1, 1, 0xFF, 0x0, 0x0, 0x0, 0x0, 0x0, 0x73⟩,
    ⟨"POWER_TEMP", 0x150014, 0x4, 1, 1, 0x0, 0x0, 0x0, 0x0, 0x0, 0xFFFFFFFF, 0x0⟩,
    ⟨"POWER_LANES", 0x150018, 0x4, 1, 1, 0x0, 0x0, 0x0, 0x0, 0x0, 0xFFFFFFFF, 0xFFF⟩,
    ⟨"POWER_CAL_SEL", 0x150020, 0x4, 1, 1, 0x3F0F, 0x0, 0x0, 0x0, 0x0, 0x0, 0x0⟩,
    ⟨"POWER_CAL_VALUE", 0x150024, 0x4, 1, 1, 0xFFFF, 0x0, 0x0, 0x0, 0x0, 0x0, 0x0⟩,
    ⟨"POWER_CAL_CMD", 0x150028, 0x4, 1, 1, 0x3, 0x0, 0x0, 0x0, 0x80000000, 0x0, 0x0⟩,
    ⟨"POWER_CAL_RESULT", 0x15002C, 0x4, 1, 1, 0x0, 0x0, 0x0, 0x0, 0x0, 0xFFFFFFFF, 0x0⟩,
    ⟨"POWER_DOZE_COUNT", 0x150040, 0x4, 1, 1, 0x0, 0x0, 0x0, 0xFFFFFFFF, 0x0, 0x0, 0x0⟩,
    ⟨"POWER_KEEP_COUNT", 0x150044, 0x4, 1, 1, 0x0, 0x0, 0x0, 0xFFFFFFFF, 0x0, 0x0, 0x0⟩,
    ⟨"POWER_WATCH_COUNT", 0x150048, 0x4, 1, 1, 0x0, 0x0, 0x0, 0xFFFFFFFF, 0x0, 0x0, 0x0⟩,
    ⟨"POWER_FALLOW_COUNT", 0x15004C, 0x4, 1, 1, 0x0, 0x0, 0x0, 0xFFFFFFFF, 0x0, 0x0, 0x0⟩,
    ⟨"POWER_ENTRY_DROP_COUNT", 0x150050, 0x4, 1, 1, 0x0, 0x0, 0x0, 0xFFFFFFFF, 0x0, 0x0, 0x0⟩,
    ⟨"POWER_LANE_UNGATE_COUNT", 0x150054, 0x4, 1, 1, 0x0, 0x0, 0x0, 0xFFFFFFFF, 0x0, 0x0, 0x0⟩ ]

/-- Register rows of the UPDATE block (R516; 15_firmware_update.md). -/
def regRowsUpdate : List RegRow :=
  [ ⟨"UPDATE_CTRL", 0x160000, 0x4, 1, 1, 0xFF01, 0x0, 0x0, 0x0, 0x0, 0x0, 0xA01⟩,
    ⟨"UPDATE_STATUS", 0x160004, 0x4, 1, 1, 0x0, 0x0, 0x0, 0x0, 0x0, 0xFFFFFFFF, 0x0⟩,
    ⟨"UPDATE_INT_EN", 0x160008, 0x4, 1, 1, 0x3F, 0x0, 0x0, 0x0, 0x0, 0x0, 0x0⟩,
    ⟨"UPDATE_LOCK", 0x16000C, 0x4, 1, 1, 0x0, 0x7, 0x0, 0x0, 0x0, 0x0, 0x7⟩,
    ⟨"UPDATE_STAGE", 0x160010, 0x4, 1, 1, 0x0, 0x0, 0x0, 0x0, 0x0, 0xFFFFFFFF, 0x0⟩,
    ⟨"UPDATE_BITMAP", 0x160014, 0x4, 1, 1, 0x0, 0x0, 0x0, 0x0, 0x0, 0xFFFFFFFF, 0x0⟩,
    ⟨"UPDATE_TRIAL_LEFT", 0x160018, 0x4, 1, 1, 0x0, 0x0, 0x0, 0x0, 0x0, 0xFFFFFFFF, 0x0⟩,
    ⟨"UPDATE_SETTINGS_GEN", 0x16001C, 0x4, 1, 1, 0x0, 0x0, 0x0, 0x0, 0x0, 0xFFFFFFFF, 0x0⟩,
    ⟨"UPDATE_CHUNK_COUNT", 0x160040, 0x4, 1, 1, 0x0, 0x0, 0x0, 0xFFFFFFFF, 0x0, 0x0, 0x0⟩,
    ⟨"UPDATE_CHUNK_REJECT_COUNT", 0x160044, 0x4, 1, 1, 0x0, 0x0, 0x0, 0xFFFFFFFF, 0x0, 0x0, 0x0⟩,
    ⟨"UPDATE_FLASH_ERR_COUNT", 0x160048, 0x4, 1, 1, 0x0, 0x0, 0x0, 0xFFFFFFFF, 0x0, 0x0, 0x0⟩,
    ⟨"UPDATE_RELAY_CHUNK_COUNT", 0x16004C, 0x4, 1, 1, 0x0, 0x0, 0x0, 0xFFFFFFFF, 0x0, 0x0, 0x0⟩ ]

/-- Every register of the native window (R456, Table 13.1). -/
def regRows : List RegRow :=
  regRowsCmdq ++ regRowsArray ++ regRowsGlue ++ regRowsExact ++ regRowsCohere ++ regRowsCohereB ++ regRowsFabric ++ regRowsMitre ++ regRowsSwitch ++ regRowsEthport ++ regRowsSlowch ++ regRowsMapper ++ regRowsTime ++ regRowsSec ++ regRowsHeath ++ regRowsScratch ++ regRowsGleaner ++ regRowsArb ++ regRowsGlobal ++ regRowsApply ++ regRowsCfgcrc ++ regRowsLockctl ++ regRowsPower ++ regRowsUpdate

/-- The row holds a register at native normal address `a`. -/
def RegRow.holds (r : RegRow) (a : Nat) : Bool :=
  decide (r.addr ≤ a) &&
    (let d := a - r.addr
     let b := d / 0x1000
     let o := d % 0x1000
     decide (b < r.blocks) && decide (o % r.step = 0) && decide (o / r.step < r.count))

/-- The row of the register at native normal address `a`; none for a location the tables do not list (R430). -/
def regRow? (a : Nat) : Option RegRow := regRows.find? (fun r => r.holds a)

/-- The reset value of the register at `a`; 0 where no register stands. -/
def resetOf (a : Nat) : Word := BitVec.ofNat 32 ((regRow? a).elim 0 (·.reset))

/-! ## Addresses by name -/

namespace Reg

abbrev cmdqCtrl : Nat := 0x20000
abbrev cmdqStatus : Nat := 0x20004
abbrev cmdqInbandMacLo : Nat := 0x20008
abbrev cmdqInbandMacHi : Nat := 0x2000C
abbrev cmdqInbandPorts : Nat := 0x20010
abbrev cmdqFwdTimeout : Nat := 0x20014
abbrev cmdqMalformedCount : Nat := 0x20020
abbrev cmdqNoreplyFailCount : Nat := 0x20024
abbrev cmdqSealedRefusedCount : Nat := 0x20028
abbrev cmdqInbandDropCount : Nat := 0x2002C
abbrev cmdqSpiOverflowCount : Nat := 0x20030
abbrev cmdqLateReplyCount : Nat := 0x20034
abbrev cmdqQSqBaseLo (n : Nat) : Nat := 0x20100 + 0x20 * n
abbrev cmdqQSqBaseHi (n : Nat) : Nat := 0x20104 + 0x20 * n
abbrev cmdqQCqBaseLo (n : Nat) : Nat := 0x20108 + 0x20 * n
abbrev cmdqQCqBaseHi (n : Nat) : Nat := 0x2010C + 0x20 * n
abbrev cmdqQCfg (n : Nat) : Nat := 0x20110 + 0x20 * n
abbrev cmdqQReset (n : Nat) : Nat := 0x20114 + 0x20 * n
abbrev cmdqQStatus (n : Nat) : Nat := 0x20118 + 0x20 * n
abbrev cmdqQDoneCount (n : Nat) : Nat := 0x2011C + 0x20 * n
abbrev arrayCtrl : Nat := 0x30000
abbrev arrayStatus : Nat := 0x30004
abbrev arrayIntEn : Nat := 0x30008
abbrev arrayGovCtrl : Nat := 0x30010
abbrev arrayGovDepth : Nat := 0x30014
abbrev arrayGovLevel : Nat := 0x30018
abbrev arrayGovHeldCount : Nat := 0x30020
abbrev arrayGovHeldCycles : Nat := 0x30024
abbrev arrayActCountLo : Nat := 0x30028
abbrev arrayActCountHi : Nat := 0x3002C
abbrev arrayPortWaitCount : Nat := 0x30030
abbrev arrayVerifyFallbackCount : Nat := 0x30034
abbrev arrayDegradedCount : Nat := 0x30038
abbrev arrayNoTableCount : Nat := 0x3003C
abbrev arrayEventSuppressCount : Nat := 0x30040
abbrev arraySearchCount (n : Nat) : Nat := 0x30100 + 0x4 * n
abbrev glueCtrl : Nat := 0x40000
abbrev glueEpochStatus : Nat := 0x40004
abbrev glueIntEn : Nat := 0x40008
abbrev glueQuantum : Nat := 0x40010
abbrev glueRetryLimit : Nat := 0x40014
abbrev glueAdvanceCount : Nat := 0x40020
abbrev glueSweepCount : Nat := 0x40024
abbrev glueClampCount : Nat := 0x40028
abbrev glueAbortCount : Nat := 0x4002C
abbrev glueWoundCount : Nat := 0x40030
abbrev glueTimeoutCount : Nat := 0x40034
abbrev glueClaimFailCount : Nat := 0x40038
abbrev glueRetryExpiredCount : Nat := 0x4003C
abbrev glueReuseDropCount : Nat := 0x40040
abbrev glueReclaimCount : Nat := 0x40044
abbrev glueInflight (n : Nat) : Nat := 0x40100 + 0x4 * n
abbrev glueOpenMap (n : Nat) : Nat := 0x40120 + 0x4 * n
abbrev exactCtrl : Nat := 0x50000
abbrev exactStatus : Nat := 0x50004
abbrev exactIntEn : Nat := 0x50008
abbrev exactLearnWindow : Nat := 0x5000C
abbrev exactMowerTick : Nat := 0x50010
abbrev exactMowerClock : Nat := 0x50014
abbrev exactOvfUsed : Nat := 0x50018
abbrev exactOvfThreshold : Nat := 0x5001C
abbrev exactLearnQueueLevel : Nat := 0x50020
abbrev exactFilterUsed : Nat := 0x50024
abbrev exactHitCount : Nat := 0x50040
abbrev exactMissCount : Nat := 0x50044
abbrev exactLearnNotifyCount : Nat := 0x50048
abbrev exactLearnSuppressCount : Nat := 0x5004C
abbrev exactMoveRaceCount : Nat := 0x50050
abbrev exactMoveNotifyCount : Nat := 0x50054
abbrev exactLearnDropCount : Nat := 0x50058
abbrev exactEvictCount : Nat := 0x5005C
abbrev exactAgedCount : Nat := 0x50060
abbrev exactRehashNeededCount : Nat := 0x50064
abbrev exactParityCount : Nat := 0x50068
abbrev exactDegradedCount : Nat := 0x5006C
abbrev exactEventSuppressCount : Nat := 0x50070
abbrev cohereCtrl : Nat := 0x60000
abbrev cohereStatus : Nat := 0x60004
abbrev cohereIntEn : Nat := 0x60008
abbrev cohereAgentFailed : Nat := 0x6000C
abbrev cohereCtrBase : Nat := 0x60010
abbrev cohereCtrLines : Nat := 0x60014
abbrev cohereCowBase : Nat := 0x60018
abbrev cohereCowCount : Nat := 0x6001C
abbrev cohereCowFree : Nat := 0x60020
abbrev coherePoisonLines : Nat := 0x60024
abbrev coherePoisonLast : Nat := 0x60028
abbrev coherePoisonClear : Nat := 0x6002C
abbrev cohereNackCount : Nat := 0x60040
abbrev cohereSeniorCount : Nat := 0x60044
abbrev cohereSeniorFullCount : Nat := 0x60048
abbrev cohereTimeoutCount : Nat := 0x6004C
abbrev coherePoisonUseCount : Nat := 0x60050
abbrev cohereDirEvictCount : Nat := 0x60054
abbrev cohereDirPinNackCount : Nat := 0x60058
abbrev cohereWbCrossCount : Nat := 0x6005C
abbrev cohereCtrAccessErrCount : Nat := 0x60060
abbrev cohereNaReadCount : Nat := 0x60064
abbrev cohereAtomicCount : Nat := 0x60068
abbrev cohereActCmd : Nat := 0x60080
abbrev cohereActIndex : Nat := 0x60084
abbrev cohereActResult : Nat := 0x60088
abbrev cohereActRindex : Nat := 0x6008C
abbrev cohereActRops : Nat := 0x60090
abbrev cohereActData (n : Nat) : Nat := 0x600A0 + 0x4 * n
abbrev cohereActRdata (n : Nat) : Nat := 0x600C0 + 0x4 * n
abbrev cohereHomeNack (n : Nat) : Nat := 0x60100 + 0x4 * n
abbrev fabricCtrl : Nat := 0x130000
abbrev fabricStatus : Nat := 0x130004
abbrev fabricIntEn : Nat := 0x130008
abbrev fabricId : Nat := 0x13000C
abbrev fabricTime : Nat := 0x130010
abbrev fabricEpoch : Nat := 0x130014
abbrev fabricGlueBase : Nat := 0x130018
abbrev fabricOffset : Nat := 0x13001C
abbrev fabricMembers : Nat := 0x130020
abbrev fabricClampLimit : Nat := 0x130024
abbrev fabricSearchCount : Nat := 0x130040
abbrev fabricLocalCount : Nat := 0x130044
abbrev fabricIncompleteCount : Nat := 0x130048
abbrev fabricLocalLateCount : Nat := 0x13004C
abbrev fabricSlotCollisionCount : Nat := 0x130050
abbrev fabricSlotLateCount : Nat := 0x130054
abbrev fabricAbortCount : Nat := 0x130058
abbrev fabricSlot (n : Nat) : Nat := 0x130100 + 0x4 * n
abbrev fabricSlotAct (n : Nat) : Nat := 0x130200 + 0x4 * n
abbrev mitreCtrl : Nat := 0x140000
abbrev mitreStatus : Nat := 0x140004
abbrev mitreIntEn : Nat := 0x140008
abbrev mitreRole : Nat := 0x14000C
abbrev mitreHbMissed : Nat := 0x140010
abbrev mitrePartnerLostCount : Nat := 0x140014
abbrev mitreMirrorOpsCount : Nat := 0x140018
abbrev mitreMirrorFailCount : Nat := 0x14001C
abbrev mitreClampAloneCount : Nat := 0x140020
abbrev mitreLateCommitCount : Nat := 0x140024
abbrev mitreResyncBytesLo : Nat := 0x140028
abbrev mitreResyncBytesHi : Nat := 0x14002C
abbrev mitreResyncDropCount : Nat := 0x140030
abbrev mitreRepairCount : Nat := 0x140034
abbrev switchCtrl : Nat := 0x90000
abbrev switchStatus : Nat := 0x90004
abbrev switchIntEn : Nat := 0x90008
abbrev switchBudget : Nat := 0x9000C
abbrev switchSharedSize : Nat := 0x90010
abbrev switchSharedUsed : Nat := 0x90014
abbrev switchCellsFree : Nat := 0x90018
abbrev switchLateDropCount : Nat := 0x90020
abbrev switchRoleWaveCount : Nat := 0x90024
abbrev switchPartialCount : Nat := 0x90028
abbrev switchEventSuppressCount : Nat := 0x9002C
abbrev switchMcastCopyCount : Nat := 0x90030
abbrev switchFixedLatMiss (n : Nat) : Nat := 0x90100 + 0x4 * n
abbrev ethportCtrl (p : Nat) : Nat := 0xA0000 + 0x1000 * p
abbrev ethportStatus (p : Nat) : Nat := 0xA0004 + 0x1000 * p
abbrev ethportIntEn (p : Nat) : Nat := 0xA0008 + 0x1000 * p
abbrev ethportMode (p : Nat) : Nat := 0xA000C + 0x1000 * p
abbrev ethportIngUsed (p : Nat) : Nat := 0xA0010 + 0x1000 * p
abbrev ethportIngMin (p : Nat) : Nat := 0xA0014 + 0x1000 * p
abbrev ethportIngQuota (p : Nat) : Nat := 0xA0018 + 0x1000 * p
abbrev ethportQUsed (p : Nat) (n : Nat) : Nat := 0xA0020 + 0x1000 * p + 0x10 * n
abbrev ethportQMin (p : Nat) (n : Nat) : Nat := 0xA0024 + 0x1000 * p + 0x10 * n
abbrev ethportQQuota (p : Nat) (n : Nat) : Nat := 0xA0028 + 0x1000 * p + 0x10 * n
abbrev ethportRxFramesLo (p : Nat) : Nat := 0xA0100 + 0x1000 * p
abbrev ethportRxFramesHi (p : Nat) : Nat := 0xA0104 + 0x1000 * p
abbrev ethportRxBytesLo (p : Nat) : Nat := 0xA0108 + 0x1000 * p
abbrev ethportRxBytesHi (p : Nat) : Nat := 0xA010C + 0x1000 * p
abbrev ethportTxFramesLo (p : Nat) : Nat := 0xA0110 + 0x1000 * p
abbrev ethportTxFramesHi (p : Nat) : Nat := 0xA0114 + 0x1000 * p
abbrev ethportTxBytesLo (p : Nat) : Nat := 0xA0118 + 0x1000 * p
abbrev ethportTxBytesHi (p : Nat) : Nat := 0xA011C + 0x1000 * p
abbrev ethportFecCorrCount (p : Nat) : Nat := 0xA0120 + 0x1000 * p
abbrev ethportFecUncorrCount (p : Nat) : Nat := 0xA0124 + 0x1000 * p
abbrev ethportDrop (p : Nat) (n : Nat) : Nat := 0xA0140 + 0x1000 * p + 0x4 * n
abbrev slowchCtrl (p : Nat) : Nat := 0xC0000 + 0x1000 * p
abbrev slowchStatus (p : Nat) : Nat := 0xC0004 + 0x1000 * p
abbrev slowchIntEn (p : Nat) : Nat := 0xC0008 + 0x1000 * p
abbrev slowchMode (p : Nat) : Nat := 0xC000C + 0x1000 * p
abbrev slowchErr (p : Nat) : Nat := 0xC0010 + 0x1000 * p
abbrev slowchRecover (p : Nat) : Nat := 0xC0014 + 0x1000 * p
abbrev slowchTdc (p : Nat) : Nat := 0xC0018 + 0x1000 * p
abbrev slowchPtpId (p : Nat) : Nat := 0xC001C + 0x1000 * p
abbrev slowchIngUsed (p : Nat) : Nat := 0xC0020 + 0x1000 * p
abbrev slowchIngMin (p : Nat) : Nat := 0xC0024 + 0x1000 * p
abbrev slowchIngQuota (p : Nat) : Nat := 0xC0028 + 0x1000 * p
abbrev slowchQUsed (p : Nat) : Nat := 0xC002C + 0x1000 * p
abbrev slowchQMin (p : Nat) : Nat := 0xC0030 + 0x1000 * p
abbrev slowchQQuota (p : Nat) : Nat := 0xC0034 + 0x1000 * p
abbrev slowchRxFrames (p : Nat) : Nat := 0xC0100 + 0x1000 * p
abbrev slowchTxFrames (p : Nat) : Nat := 0xC0104 + 0x1000 * p
abbrev slowchRxErrCount (p : Nat) : Nat := 0xC0108 + 0x1000 * p
abbrev slowchArbLostCount (p : Nat) : Nat := 0xC010C + 0x1000 * p
abbrev slowchBusoffCount (p : Nat) : Nat := 0xC0110 + 0x1000 * p
abbrev slowchRemoteCount (p : Nat) : Nat := 0xC0114 + 0x1000 * p
abbrev slowchDrop (p : Nat) (n : Nat) : Nat := 0xC0140 + 0x1000 * p + 0x4 * n
abbrev mapperCtrl : Nat := 0x100000
abbrev mapperStatus : Nat := 0x100004
abbrev mapperIntEn : Nat := 0x100008
abbrev mapperEtype : Nat := 0x10000C
abbrev mapperMacLo : Nat := 0x100010
abbrev mapperMacHi : Nat := 0x100014
abbrev mapperRxPorts : Nat := 0x100018
abbrev mapperRoutes : Nat := 0x100020
abbrev mapperSourceLists : Nat := 0x100024
abbrev mapperValueCount : Nat := 0x100040
abbrev mapperOlderDiscardCount : Nat := 0x100044
abbrev mapperShortCount : Nat := 0x100048
abbrev mapperFreshCount : Nat := 0x10004C
abbrev mapperStaleCount : Nat := 0x100050
abbrev mapperPduSentCount : Nat := 0x100054
abbrev mapperPduLostCount : Nat := 0x100058
abbrev mapperPduEmptyCount : Nat := 0x10005C
abbrev mapperRxUnknownCount : Nat := 0x100060
abbrev mapperRxBadCount : Nat := 0x100064
abbrev mapperEventSuppressCount : Nat := 0x100068
abbrev timeCtrl : Nat := 0x110000
abbrev timeStatus : Nat := 0x110004
abbrev timeIntEn : Nat := 0x110008
abbrev timeNowNsec : Nat := 0x110010
abbrev timeNowSecLo : Nat := 0x110014
abbrev timeNowSecHi : Nat := 0x110018
abbrev timeAgeLo : Nat := 0x110020
abbrev timeAgeHi : Nat := 0x110024
abbrev timeRate : Nat := 0x110028
abbrev timeOffset : Nat := 0x11002C
abbrev timePpsInNsec : Nat := 0x110030
abbrev timePpsInSecLo : Nat := 0x110034
abbrev timePpsInSecHi : Nat := 0x110038
abbrev timeCapNsec (n : Nat) : Nat := 0x110040 + 0x10 * n
abbrev timeCapSecLo (n : Nat) : Nat := 0x110044 + 0x10 * n
abbrev timeCapSecHi (n : Nat) : Nat := 0x110048 + 0x10 * n
abbrev timeStepCount : Nat := 0x110080
abbrev timePpsMissCount : Nat := 0x110084
abbrev timeTsLostCount : Nat := 0x110088
abbrev timeSlotDeferCount : Nat := 0x11008C
abbrev timeGen0Period : Nat := 0x110100
abbrev timeGenPeriod (n : Nat) : Nat := 0x110108 + 0x8 * n
abbrev timeGenPhase (n : Nat) : Nat := 0x110104 + 0x8 * n
abbrev timeGen0Owners : Nat := 0x110300
abbrev timeGenOwners (n : Nat) : Nat := 0x110304 + 0x4 * n
abbrev timeGateCopy (n : Nat) : Nat := 0x111000 + 0x4 * n
abbrev timeGatePend (n : Nat) : Nat := 0x111010 + 0x4 * n
abbrev secCtrl : Nat := 0x120000
abbrev secStatus : Nat := 0x120004
abbrev secIntEn : Nat := 0x120008
abbrev secLc : Nat := 0x12000C
abbrev secSessionsUsed : Nat := 0x120010
abbrev secRxIcvFailCount : Nat := 0x120020
abbrev secRxReplayCount : Nat := 0x120024
abbrev secRxNoSaCount : Nat := 0x120028
abbrev secRxUntaggedCount : Nat := 0x12002C
abbrev secTxMismatchCount : Nat := 0x120030
abbrev secTxExhaustedCount : Nat := 0x120034
abbrev secFabricAuthFailCount : Nat := 0x120038
abbrev secWipeCount : Nat := 0x12003C
abbrev secPortCfg (n : Nat) : Nat := 0x120100 + 0x4 * n
abbrev secChanCfg (n : Nat) : Nat := 0x120200 + 0x4 * n
abbrev heathPresStatus : Nat := 0x10100
abbrev heathPresCount : Nat := 0x10104
abbrev heathPresRejectCount : Nat := 0x10108
abbrev heathTampCtrl : Nat := 0x10110
abbrev heathTamperStatus : Nat := 0x10114
abbrev heathTamperFirst : Nat := 0x10118
abbrev heathTamperLast : Nat := 0x1011C
abbrev scratchCtrl : Nat := 0x70000
abbrev scratchStatus : Nat := 0x70004
abbrev scratchIntEn : Nat := 0x70008
abbrev scratchHostAddr : Nat := 0x70010
abbrev scratchHostCmd : Nat := 0x70014
abbrev scratchHostWdataLo : Nat := 0x70018
abbrev scratchHostWdataHi : Nat := 0x7001C
abbrev scratchHostRdataLo : Nat := 0x70020
abbrev scratchHostRdataHi : Nat := 0x70024
abbrev scratchHostResult : Nat := 0x70028
abbrev scratchWriteLostCount : Nat := 0x70040
abbrev scratchParityCount : Nat := 0x70044
abbrev scratchAtomicCount : Nat := 0x70048
abbrev scratchEventSuppressCount : Nat := 0x7004C
abbrev scratchConflictCount (n : Nat) : Nat := 0x70100 + 0x4 * n
abbrev scratchSpare (n : Nat) : Nat := 0x70140 + 0x4 * n
abbrev gleanerCtrl : Nat := 0x170000
abbrev gleanerStatus : Nat := 0x170004
abbrev gleanerIntEn : Nat := 0x170008
abbrev gleanerTernRate : Nat := 0x170010
abbrev gleanerExactRate : Nat := 0x170014
abbrev gleanerScrubRate : Nat := 0x170018
abbrev gleanerWinInterval : Nat := 0x17001C
abbrev gleanerFaultLast : Nat := 0x170020
abbrev gleanerFaultClear : Nat := 0x170024
abbrev gleanerTernPassCount : Nat := 0x170040
abbrev gleanerExactPassCount : Nat := 0x170044
abbrev gleanerScrubPassCount : Nat := 0x170048
abbrev gleanerTernErrCount : Nat := 0x17004C
abbrev gleanerExactErrCount : Nat := 0x170050
abbrev gleanerScrubErrCount : Nat := 0x170054
abbrev gleanerFreeFixCount : Nat := 0x170058
abbrev gleanerInvalidateCount : Nat := 0x17005C
abbrev gleanerRepairCount : Nat := 0x170060
abbrev gleanerDeferCount : Nat := 0x170064
abbrev gleanerWinCount : Nat := 0x170068
abbrev gleanerWinAbortCount : Nat := 0x17006C
abbrev gleanerWinFaultCount : Nat := 0x170070
abbrev gleanerWinStallCount : Nat := 0x170074
abbrev gleanerEventSuppressCount : Nat := 0x170078
abbrev arbCtrl : Nat := 0x80000
abbrev arbStatus : Nat := 0x80004
abbrev arbIntEn : Nat := 0x80008
abbrev arbArrayWindow : Nat := 0x80010
abbrev arbScratchWindow : Nat := 0x80014
abbrev arbArrayStarve : Nat := 0x80018
abbrev arbScratchStarve : Nat := 0x8001C
abbrev arbLockTimeout : Nat := 0x80020
abbrev arbArrayStarved : Nat := 0x80024
abbrev arbScratchStarved : Nat := 0x80028
abbrev arbKerfCount : Nat := 0x80040
abbrev arbPreemptCount : Nat := 0x80044
abbrev arbLockCount : Nat := 0x80048
abbrev arbLockBreakCount : Nat := 0x8004C
abbrev arbStarveCount : Nat := 0x80050
abbrev arbEventSuppressCount : Nat := 0x80054
abbrev arbArrayReq (n : Nat) : Nat := 0x80100 + 0x4 * n
abbrev arbArrayReq8 : Nat := 0x80120
abbrev arbScratchReq (n : Nat) : Nat := 0x80140 + 0x4 * n
abbrev arbScratchReq6 : Nat := 0x80158
abbrev arbArrayHint (n : Nat) : Nat := 0x80180 + 0x4 * n
abbrev arbArrayWait (n : Nat) : Nat := 0x801C0 + 0x4 * n
abbrev globalDeviceId : Nat := 0x0
abbrev globalCtrl : Nat := 0x4
abbrev globalStatus : Nat := 0x8
abbrev globalStatusIntEn : Nat := 0xC
abbrev globalIntStatus : Nat := 0x10
abbrev globalIntEn : Nat := 0x14
abbrev globalEthportInt : Nat := 0x18
abbrev globalSlowchIntLo : Nat := 0x1C
abbrev globalSlowchIntHi : Nat := 0x20
abbrev globalMsiRearm : Nat := 0x24
abbrev globalIntVec (n : Nat) : Nat := 0x30 + 0x4 * n
abbrev globalIntVec5 : Nat := 0x44
abbrev globalEventLevel : Nat := 0x50
abbrev globalEventLostCount : Nat := 0x54
abbrev globalPostedMap (n : Nat) : Nat := 0x60 + 0x4 * n
abbrev globalPostedDropAddr : Nat := 0x70
abbrev globalPostedDropCount : Nat := 0x74
abbrev globalBadAccessCount : Nat := 0x78
abbrev applyStrobe : Nat := 0x1000
abbrev applyStatus : Nat := 0x1004
abbrev applyResult : Nat := 0x1008
abbrev applyConflictRes : Nat := 0x100C
abbrev applyDiscard : Nat := 0x1010
abbrev applyCount : Nat := 0x1020
abbrev applyRejectCount : Nat := 0x1024
abbrev cfgcrcCtrl : Nat := 0x2000
abbrev cfgcrcStatus : Nat := 0x2004
abbrev cfgcrcIntEn : Nat := 0x2008
abbrev cfgcrcRef : Nat := 0x200C
abbrev cfgcrcCommit : Nat := 0x2010
abbrev cfgcrcLast : Nat := 0x2014
abbrev cfgcrcPassCount : Nat := 0x2018
abbrev cfgcrcMismatchCount : Nat := 0x201C
abbrev lockctlStatus : Nat := 0x3000
abbrev lockctlIntEn : Nat := 0x3004
abbrev lockViolCount : Nat := 0x3008
abbrev lockViolAddr : Nat := 0x300C
abbrev lockctlState : Nat := 0x3010
abbrev lockctlLock (n : Nat) : Nat := 0x3100 + 0x4 * n
abbrev heathCtrl : Nat := 0x10000
abbrev heathStatus : Nat := 0x10004
abbrev heathIntEn : Nat := 0x10008
abbrev heathPowerOrder : Nat := 0x1000C
abbrev heathRecordClear : Nat := 0x10010
abbrev heathRtcLo : Nat := 0x10014
abbrev heathRtcHi : Nat := 0x10018
abbrev heathRtcAlarm : Nat := 0x1001C
abbrev heathWakeCtrl : Nat := 0x10020
abbrev heathWakeCause : Nat := 0x10024
abbrev heathWakeReq : Nat := 0x10028
abbrev heathThermCtrl : Nat := 0x1002C
abbrev heathFallowCtrl : Nat := 0x10030
abbrev heathState : Nat := 0x10034
abbrev heathWakeCount : Nat := 0x10040
abbrev heathThermTripCount : Nat := 0x10044
abbrev heathRetain (n : Nat) : Nat := 0x10200 + 0x4 * n
abbrev heathPosted : Nat := 0x103FC
abbrev powerCtrl : Nat := 0x150000
abbrev powerStatus : Nat := 0x150004
abbrev powerIntEn : Nat := 0x150008
abbrev powerLaneCtrl : Nat := 0x15000C
abbrev powerThermWarn : Nat := 0x150010
abbrev powerTemp : Nat := 0x150014
abbrev powerLanes : Nat := 0x150018
abbrev powerCalSel : Nat := 0x150020
abbrev powerCalValue : Nat := 0x150024
abbrev powerCalCmd : Nat := 0x150028
abbrev powerCalResult : Nat := 0x15002C
abbrev powerDozeCount : Nat := 0x150040
abbrev powerKeepCount : Nat := 0x150044
abbrev powerWatchCount : Nat := 0x150048
abbrev powerFallowCount : Nat := 0x15004C
abbrev powerEntryDropCount : Nat := 0x150050
abbrev powerLaneUngateCount : Nat := 0x150054
abbrev updateCtrl : Nat := 0x160000
abbrev updateStatus : Nat := 0x160004
abbrev updateIntEn : Nat := 0x160008
abbrev updateLock : Nat := 0x16000C
abbrev updateStage : Nat := 0x160010
abbrev updateBitmap : Nat := 0x160014
abbrev updateTrialLeft : Nat := 0x160018
abbrev updateSettingsGen : Nat := 0x16001C
abbrev updateChunkCount : Nat := 0x160040
abbrev updateChunkRejectCount : Nat := 0x160044
abbrev updateFlashErrCount : Nat := 0x160048
abbrev updateRelayChunkCount : Nat := 0x16004C

end Reg

end Sys2Proof.Machine
end

