-- ==== Sys2Proof/Machine/StatePower.lean ====
section
/-! DEFINITION. The parts of State of Security, Presence and Life Cycle, of Scratchpad and Arbitration, of Power
States, Clocks and Start-up, and of Firmware and Settings Update. -/

namespace Sys2Proof.Machine

/-- A secure session (R370, R388, R391). `pn` is the next PN or the counter of a transmit session, and the lowest
acceptable next PN or LAST of a receive session. `low` is the lowest acceptable PN of a MACsec receive SA (R375). -/
structure Session where
  kind : Nat
  port : Nat
  an : Nat
  tagLen : Nat
  dflt : Bool
  sci : DWord
  chanId : Word
  window : Word
  pn : Nat
  low : Nat
  ssci : Word
  salt : BitVec 96
  key : List Byte
  exhausted : Bool
  threshold : Bool
  good : Nat
  failures : Nat
  replays : Nat
  unusable : Bool
deriving DecidableEq, Repr

/-- Words 0 to 3 of the security settings of a port or channel (R389). -/
structure SecCfg where
  w0 : Word
  window : Word
  sci : DWord
deriving DecidableEq, Repr

/-- The keys: KEK slots and the fabric key (R366, R367).
DESIGN CHOICE: log entry 148. -/
structure KeyStore where
  keks : SMap (Option (List Byte))
  fabric : Option (List Byte)
deriving DecidableEq, Repr

/-- Security. `log` is the OTP transition log, oldest first, `none` for an entry that fails its check (R383);
`burning` is the target of a burn in progress with the request that waits for it, `wipeEnd` the age clock at which the zeroing of the
secure region ends (R368). -/
structure SecSt where
  sessions : SMap (Option Session)
  cfg : SMap SecCfg
  keys : KeyStore
  flashKeys : KeyStore
  wipeEnd : Nat
  log : List (Option Nat)
  scrapped : Bool
  burning : Option (Nat × Request)
  internalFault : Bool
deriving DecidableEq, Repr

/-- A lock of an arbiter (R420): the resource (0 to 4095 for 2 × block + port of the array, 4096 + 2 × bank + port for
the scratchpad), the owner, and the remaining and the elapsed cycles. A lock of the array ends at the age clock `ends`, which is 0 for one of the
scratchpad. -/
structure ArbLock where
  resource : Nat
  owner : Nat
  left : Nat
  held : Nat
  ends : Nat
deriving DecidableEq, Repr

/-- A scratchpad access that waits in its port arbiter: for how many MCLK, whether it has stalled on a gleaner window, and
whether its wait has crossed the bound of R423. -/
structure ScratchWait where
  req : ScratchReq
  waited : Nat
  stalled : Bool
  starved : Bool
deriving DecidableEq, Repr

/-- A completed scratchpad access, for the reader of State: what it returned and its flags. `refused` is an access of a sequence
whose lock has been broken (R420). -/
structure ScratchDone where
  req : ScratchReq
  data : DWord
  lost : Bool
  secure : Bool
  badBytes : BitVec 8
  refused : Bool
deriving DecidableEq, Repr

/-- The scratchpad. `mem` holds bytes by offset (R399). `bad` lists the bytes whose parity fails (R402). `hostNext`
says that one request of the host path is remembered while another runs (R6). The clear at a start ends at the age clock `clearEnd`
(R403). -/
structure ScratchSt where
  mem : List Host.Cell
  bad : SMap Bool
  waits : List ScratchWait
  done : List ScratchDone
  hostNext : Bool
  clearEnd : Nat
deriving DecidableEq, Repr

/-- A borrowed window in progress (R411): bank, window number, and the age clock at its start. Its words are closed until it has been
restored, so that they hold what was saved.
DESIGN CHOICE: log entry 163. -/
structure Window where
  bank : Nat
  index : Nat
  since : Nat
deriving DecidableEq, Repr

/-- A repair request to the partner that is not yet answered (R140, R212). `key` is the first row of a
ternary slot in replica 0, or the bucket of the exact-match slot at position `pos`. -/
structure Repair where
  exact : Bool
  table : Nat
  key : Nat
  pos : Nat
  since : Nat
deriving DecidableEq, Repr

/-- The gleaner (R409 to R413): the next row, slot and word of its walks, the window in progress, the number of the
next window in R411's order, and the fault record. `ternAt`, `exactAt` and `scrubAt` are the times at which the next read of each walk is due,
in ps of the age clock (800 a CCLK). -/
structure GleanSt where
  ternNext : Nat
  exactNext : Nat
  scrubNext : Nat
  ternAt : Nat
  exactAt : Nat
  scrubAt : Nat
  window : Option Window
  nextWindow : Nat
  lastWindow : Nat
  fault : Bool
  repairs : List Repair
deriving DecidableEq, Repr

/-- The arbiters (R415 to R423). `credit` is keyed by 16 × arbiter + requester, `last` by arbiter (0 the array
arbiter, 1 + 2 × bank + port otherwise), where it holds the number after the requester most recently granted. The last two fields are the age clock of the last refill of either kind. `starvedAt` is keyed by requester for the array and 16 + master for the
scratchpad: 1 + the age clock of the last cycle over the bound. -/
structure ArbSt where
  credit : SMap Nat
  last : SMap Nat
  locks : List ArbLock
  starvedAt : SMap Nat
  arrayRefill : Nat
  scratchRefill : Nat
deriving DecidableEq, Repr

/-- The power states (Table 14.4). -/
inductive PowerState where
  | run | doze | keep | watch | fallow
deriving DecidableEq, Repr

/-- A wake that is latched or has happened (R476): cause, detail, channel. -/
structure Wake where
  cause : Nat
  detail : Nat
  chan : Nat
deriving DecidableEq, Repr

/-- An entry in progress (R473): the target, whether the boundary of step 3 has passed, since when, and a wake that came
meanwhile (R475). `asked` is set once HEATH_WAKE_REQ is among those (R6). -/
structure Entry where
  target : PowerState
  resolved : Bool
  since : Nat
  latched : Option Wake
  asked : Bool
deriving DecidableEq, Repr

/-- Power, clocks and start-up. `rails` holds the millivolts of each rail by number; `vio2Strap` is the level of the straps VIO2_SEL_k,
1 for VAON, and `vio2Sel` what the device has sampled of them (R522). The five `hold…` bits hold the core domain in reset. `ioFirst` is set from the
Heath-watch configuration until the core rails are up again (R460). `starting` lasts from a reset of the core domain to
FW_READY; `booted` is set once the boot of the start is done. `dozeOn` is set from POWER_STATE 1 to POWER_STATE 0;
the state is Doze while the clocks are gated. `lanes` are the powered lanes, one bit each; `laneIdle` is the age clock of a lane's last frame. `temp`
counts 0.25 °C. `user` holds the user calibration by 64 × item + index, `calWrites` the values not yet in the flash
store. `calReqs` counts the requests of POWER_CAL_CMD that wait for the firmware (R6).
DESIGN CHOICE: log entry 178. -/
structure PowerSt where
  state : PowerState
  rails : SMap Nat
  vio2Strap : BitVec 8
  vio2Sel : BitVec 8
  coreEn : Bool
  retEn : Bool
  ioEn : Bool
  holdRst : Bool
  holdOrder : Bool
  holdSysclk : Bool
  holdTherm : Bool
  holdVaon : Bool
  ioFirst : Bool
  starting : Bool
  booted : Bool
  fwReady : Bool
  recovery : Bool
  entry : Option Entry
  dozeOn : Bool
  refclkLost : Bool
  lanes : Nat
  laneIdle : SMap Nat
  ungating : List Nat
  temp : Int
  thermWarn : Bool
  user : SMap (Option Int)
  calFlash : SMap (Option Int)
  calWrites : Nat
  calReqs : Nat
deriving DecidableEq, Repr

/-- The Heath domain. `rtcAcc` carries the fraction of a Heath cycle in units of 1/1,250,000,000. `pressAt` is the
real-time count at a press's falling edge, `sealOk` whether SEAL_N was high throughout the press. -/
structure HeathSt where
  rtc : Nat
  rtcAcc : Nat
  xtalFail : Bool
  orderRec : Bool
  clkRec : Bool
  thermRec : Bool
  vaonPor : Bool
  presLow : Bool
  pressAt : Nat
  sealOpen : Bool
  sealOk : Bool
  windowEnd : Option Nat
  tampPresent : Bool
  tampCause : Nat
  tampCount : Nat
  tampFirst : Word
  tampLast : Word
  pendingWipe : Bool
  desig : List Nat
  patterns : SMap (List Word)
  wakeRc : Bool
  wakeOut : Option Nat
  wakeAt : Option Nat
  orderPending : Bool
  thermPending : Bool
deriving DecidableEq, Repr

/-- The boot pointer record (Table 15.3). -/
structure BootPtr where
  seq : Word
  active : Bool
  trial : Bool
  prevOk : Bool
  floorPending : Bool
  tries : Nat
  auto : Bool
  lastFallback : Nat
  trialStart : Word
deriving DecidableEq, Repr

/-- A settings store (R504): the half in force as its header and its live records, each a saved packet.
DESIGN CHOICE: log entry 187. -/
structure Store where
  valid : Bool
  schema : Nat
  gen : Nat
  base : Nat
  records : SMap (List Byte)
deriving DecidableEq, Repr

/-- What the running image's header says (Table 15.2). -/
structure Running where
  version : Word
  svn : Nat
  raise : Bool
  schema : Nat
  schemaMin : Nat
  revoke : Nat
  keyId : Nat
deriving DecidableEq, Repr

/-- A chunk whose flash write is under way (R501), and who waits for it: a command, or the relay from a link. -/
structure ChunkWrite where
  index : Nat
  total : Nat
  tag : Word
  check : Word
  data : List Byte
  who : Option Request
  link : Option LinkId
  retried : Bool
deriving DecidableEq, Repr

/-- One target of a relay: its link, the next chunk, its result once it has ended, and when it was last heard. -/
structure RelayTarget where
  link : LinkId
  next : Nat
  result : Option Nat
  since : Nat
deriving DecidableEq, Repr

/-- A relay that this device makes (R507), of the bank and under the image tag given. `who` is the command that asked for it; none for a RECURSE relay. -/
structure Relay where
  bank : Bool
  tag : Word
  targets : List RelayTarget
  recurse : Bool
  who : Option Request
deriving DecidableEq, Repr

/-- A change of the settings store whose flash append is under way (R504). -/
structure SettingsWrite where
  record : Nat
  packet : List Byte
  who : Request
deriving DecidableEq, Repr

/-- A running APPLY (R514). -/
structure SettingsApply where
  ok : Nat
  failed : Nat
  first : Option (Nat × Nat)
  who : Request
deriving DecidableEq, Repr

/-- Firmware and Settings Update. `onTrial`: the running image is on trial and not yet confirmed. `flash` holds the bytes of the boot pointer copies, the journal and the banks by
flash offset (Table 15.1); an erased byte is 0xFF and is not listed. `delivered` is the bank that still holds the image
with which the device came, whose bytes are open. `verifying` holds who asked for the check: a command, or none for a relay. The settings stores, whose layout the
spec leaves to the firmware, are held as what they store. `bootEvents` are the events (code, A, B) of the block that the next
FW_READY enters. -/
structure UpdSt where
  flash : SMap Byte
  delivered : Option Bool
  bank : Bool
  running : Running
  onTrial : Bool
  floor : Nat
  revoked : Nat
  headerFirst : Bool
  verified : Bool
  verifying : Option (Option Request)
  chunks : List ChunkWrite
  relay : Option Relay
  relayFrom : Option LinkId
  relayRecurse : Bool
  storeA : Store
  storeB : Store
  unreadable : Bool
  settings : List SettingsWrite
  apply : Option SettingsApply
  readyAt : Nat
  restart : Bool
  bootEvents : List (Nat × Word × Word)
deriving DecidableEq, Repr

/-- What the device has put on its interfaces, oldest first, for the reader of State: completions and messages on
PCI Express, the submission entries that it has read, the last bytes sent on SPI, register reads answered, frames sent, link messages, and
the copies that it has sent as the source of a resync, each with its epoch.
DESIGN CHOICE: log entry 10. -/
structure OutSt where
  completions : List PostedCompletion
  msi : List Nat
  fetches : List (Nat × Nat)
  spi : List Byte
  reads : List (Path × Nat × Word)
  frames : List (Nat × List Byte)
  links : List (LinkId × LinkMsg)
  images : List (BitVec 3 × ResyncImage)
deriving DecidableEq, Repr

end Sys2Proof.Machine
end

