-- ==== Sys2Proof/Machine/State.lean ====
section
/-! DEFINITION. The state of the device, the reasons a command can stop, and the state after reset. The parts of the
state are in the State…-files, one part for each chapter of the spec. -/

namespace Sys2Proof.Machine

/-- Why the device stops. The spec gives the device no behaviour that stops it: every register access completes
(R429, R430) and every command gets a reply (R32). There is therefore no constructor, and no command faults. -/
inductive Fault where
deriving DecidableEq, Repr

/-- Why a command has no meaning in the model. -/
inductive Refusal where
  /-- Raised by no meaning: the arm of a command that is still without one. Safe: nothing can be proved of it. -/
  | notModelled (mnemonic : String)
  /-- Raised by a register write that reaches the DEBUG block while the life-cycle state leaves it open. R430: the
  block "holds factory test and debug registers whose reads and writes this manual does not describe". Safe: the
  machine stops where the hardware goes on. -/
  | debugRegister
deriving DecidableEq, Repr

/-- The state of the device. `pending` is the queue of commands, oldest first. `free` counts the free values used so
far; it is the model's own field.
DESIGN CHOICE: log entry 1. -/
structure State where
  pending : List Instr
  free : Nat
  clk : ClkSt
  reg : RegSt
  evt : EvtSt
  cmdq : CmdqSt
  tern : TernSt
  glue : GlueSt
  exm : ExactSt
  coh : CohSt
  fab : FabSt
  twin : TwinSt
  sw : SwitchSt
  chans : SMap SlowCh
  mapper : MapperSt
  time : TimeSt
  sec : SecSt
  scr : ScratchSt
  glean : GleanSt
  arb : ArbSt
  pwr : PowerSt
  heath : HeathSt
  upd : UpdSt
  out : OutSt
deriving DecidableEq, Repr

/-! What an unlisted key of each sparse map reads as, and each part of the state after reset. -/

/-- Device time and the age clock start at 0 (R330, R331).
DESIGN CHOICE: log entry 12. -/
def clkReset : ClkSt := { age := 0, dt := 0, rate := 0 }

/-- A register path with nothing held (R438). -/
def pathReset : PathSt := { lastLo := 0, shadow := 0, held := 0 }

/-- Every register at its reset value (R430), nothing staged, posted or applied. -/
def regReset : RegSt where
  vals := []
  staged := []
  w1done := []
  pcie := pathReset
  spi := pathReset
  firmware := pathReset
  posted := []
  apply := []
  applyNext := 0
  lockSeen := false
  dropSeen := false
  crc := { running := false, lastStart := 0, commitWait := false, commitNext := false, passCommits := false, startVals := [], mismatch := false,
           latched := false }
  msiCond := 0

/-- The event queue is empty (R450). -/
def evtReset : EvtSt := { q := [], lost := false, recent := [] }

/-- A queue pair that has not been enabled. -/
def pair0 : QPair where
  run := false
  stopping := false
  stopped := false
  doorbellErr := false
  sqBase := 0
  cqBase := 0
  sqLog2 := 0
  cqLog2 := 0
  sqHead := 0
  sqTail := 0
  cqHead := 0
  cqTail := 0
  phase := true
  held := []

/-- The command path with no stream, command or reply. -/
def cmdqReset : CmdqSt where
  pairs := []
  cmds := []
  nextId := 1
  spiReplies := []
  spiOverflow := false
  inband := []
  waiters := []
  late := []

/-- A free row, as the array is cleared at a start (Table 14.3). -/
def row0 : Row where
  value := 0
  care := 0
  rangeEn := 0
  tag := 0
  birth := 0
  death := 0
  state := .free
  pri := 0
  parity := 0

/-- A result word of zeros, with its even parity bit. -/
def word0 : ResultWord := { index := 0, action := 0, parity := false }

/-- A free segment. -/
def segment0 : Segment := { table := 0, releasing := false }

/-- A table ID that names nothing. -/
def ternTable0 : TernTable := { vers := [], gen := 0, busy := .idle }

/-- A profile that has never been written. -/
def profile0 : ProfileSt := { vers := [], standby := none }

/-- The array and the ternary tables, empty, with the governor's pool at its reset depth of 16,384 activations. -/
def ternReset : TernSt where
  rows := []
  words := []
  segments := []
  tables := []
  profiles := []
  searches := []
  portFree := []
  laneNext := []
  rewriteAt := none
  govLevel := 16384 * 1250
  invalid := []
  gleanQ := []

/-- A glue-up ID that has never been used. -/
def glueUp0 : GlueUp where
  st := .free
  retry := false
  opener := .host
  age := 0
  ops := 0
  timeoutS := 0
  openedAt := 0
  reason := 0
  lastAbort := 0
  wounder := 0
  clampAt := 0
  clampEpoch := 0
  held := false

/-- Epoch 0 is current (R142) and every glue-up ID is free. -/
def glueReset : GlueSt := { c := 0, ups := [], nextAge := 0, lastBoundary := 0, retryQ := [], moves := [], touched := [] }

/-- A free slot of the exact-match store, as it is cleared at a start (Table 14.3). -/
def slot0 : Slot where
  key := 0
  action := 0
  ts := 0
  learned := false
  imgTag := 0
  imgBirth := 0
  imgDeath := 0
  parity := false
  tag := 0
  birth := 0
  death := 0
  state := .free
  tagParity := false
  ns := 0

/-- An exact-match table ID that names nothing. -/
def exactTable0 : ExactTable := { vers := [], gen := 0, descSeq := 0, busy := .idle, gone := none, nextAge := none }

/-- The exact-match store, empty. -/
def exactReset : ExactSt where
  slots := []
  tables := []
  filter := []
  learnQ := []
  rehash := none
  flushes := []
  inserts := []
  evicts := []
  written := (0, [])
  mower := { clock := 0, nextTick := 1000000000, sweep := none, queue := [], ids := [] }
  gleanQ := []

/-- A directory entry that is not in use. -/
def dir0 : DirEntry where
  line := 0
  dstate := .unused
  owner := 0
  sharers := 0
  pin := 0
  busy := false
  order := 0

/-- No same-cycle tie has been: agent 0 comes first. -/
def tie0 : Tie := { cycle := 0, first := 15 }

/-- A line that a cache does not hold. -/
def line0 : CacheLine := { state := .i, words := [], used := 0 }

/-- A copy-pool entry that is free. -/
def cow0 : CowEntry := { used := false, orig := 0, glue := 0 }

/-- Action memory reads as zeros until it is written, no line is cached, and the regions have their reset extents
(Table 7.1). -/
def cohReset : CohSt where
  mem := []
  poison := []
  poisonLast := 0
  dir := []
  order := 0
  caches := []
  reqs := []
  trans := []
  closing := []
  waiting := []
  held := []
  seniors := []
  failed := 0
  atomicAt := []
  gated := 0
  ctrBase := 0x70000
  ctrLines := 0x10000
  cowBase := 0xDC000
  cowCount := 0x4000
  defaulted := false
  cow := []
  mailbox := none
  mailboxHeld := false
  mailboxNext := false
  net := []
  ties := []
  lastWb := none

/-- The device has joined no fabric. -/
def fabReset : FabSt where
  joined := false
  node := 0
  side := 0
  level := 0
  depth := 0
  twinned := false
  glueBase := 0
  fe := 0
  offset := 0
  up := []
  members := []
  routes := []
  slots := []
  newSlots := false
  quantum := 0
  join := none
  pendJoins := []
  leaves := []
  report := none
  decision := none
  lastDecision := 0
  decidedAt := 0
  inPlaneAt := 0
  limits := []
  holders := []
  prevC := 0
  prevRoutes := []
  jobs := []
  launches := []
  lastLaunch := none
  nextIdent := 0

/-- The device is in no twin. -/
def twinReset : TwinSt where
  config := none
  formed := false
  partnerSeen := false
  diverged := false
  actingLead := false
  roleClash := false
  partnerAddr := none
  linkUp := false
  lastBeat := 0
  misses := 0
  lost := false
  lostAt := none
  parting := false
  lastSent := 0
  preps := []
  prepared := []
  mirrors := []
  nextRef := 0
  resync := none
  ingressHeld := false
  waitOps := []

/-- A role set that enables no role. -/
def roles0 : RoleSet := { w3 := 0, w4 := 0, miss := [0, 0, 0, 0, 0] }

/-- An Ethernet port at reset: MODE 0, MAX_FRAME 9,216 (Table 9.10). -/
def ethPort0 : EthPort where
  mode := 0
  lat := false
  defTc := 0
  trustPcp := false
  maxFrame := 9216
  portUser := 0
  roles := roles0
  mbps := 1000
  linkUp := false
  lossSince := none
  downAt := none
  seq := 0

/-- A holder of buffer cells at reset (R298, R321). Holders 0–31 are the Ethernet ingress ports, 32–95 the slow-channel
ingresses, 96 + 8n + q queue q of En, and 352 + n the queue of Sn. -/
def holder0 (h : Nat) : Holder :=
  if h < 32 then { min := 48, quota := 16384, used := 0, overQ := false, overAt := 0 }
  else if h < 96 then { min := 4, quota := 256, used := 0, overQ := false, overAt := 0 }
  else if h < 352 then { min := 16, quota := 12288, used := 0, overQ := false, overAt := 0 }
  else { min := 4, quota := 256, used := 0, overQ := false, overAt := 0 }

/-- A policer before POLICER_WRITE: not enabled. -/
def policer0 : Policer where
  rfc4115 := false
  aware := false
  enable := false
  lenAdj := 0
  cir := 0
  cbs := 0
  pir := 0
  pbs := 0
  act := 0

/-- A multicast group at reset: no member, PRUNE 1, GI 0 (R318). -/
def group0 : McGroup := { e := 0, sLo := 0, sHi := 0, gi := false, prune := true }

/-- A versioned object that has never been changed. -/
def versioned0 {α : Type} : Versioned α := { vers := [], pend := none }

/-- The switch core with no frame in the device. -/
def switchReset : SwitchSt where
  ports := []
  holders := []
  frames := []
  copies := []
  nextFrame := 1
  limitsWas := none
  policers := []
  everEnabled := []
  fills := []
  groups := []

/-- A slow channel before CHANNEL_CONFIG: MODE 0, off. -/
def slowCh0 : SlowCh where
  w0 := 0
  nomRate := 0
  dataRate := 0
  roles := roles0
  portUser := 0
  sp := 0
  tunnel := 0
  tunnelDa := 0
  active := false
  busOff := false
  recessive := false
  recover := false
  tec := 0
  rec_ := 0
  seq := 0
  rxBytes := 0
  txBytes := 0

/-- A route that is not defined. -/
def route0 : Route := { rec_ := [], value := none, last := none }

/-- A PDU that is not defined. -/
def pdu0 : Pdu := { rec_ := [], seq := 0, sent := 0, lost := 0, slot := 0, slotNs := 0 }

/-- The signal mapper with no route. -/
def mapperReset : MapperSt := { routes := [], pdus := [], offers := [] }

/-- A period generator without an owner. -/
def gen0 : Gen := { p := 0, phi := 0, owners := 0, lastTick := 0 }

/-- A slot table's entry at reset: every gate open, INTERVAL 1 (R345). -/
def slotEntry0 : Word := 0x000001FF#32

/-- A slot table's copy at reset (R345). -/
def slotCopy0 : SlotCopy := { length := 1, gen := 0, entries := [] }

/-- A slot table at reset. -/
def slotTable0 : SlotTable where
  copyA := slotCopy0
  copyB := slotCopy0
  activeB := false
  entry := 0
  cycleNs := 0
  pend := none
  swapPend := false
  swapFrom := 0
  copyBack := false
  deferred := []

/-- No capture. -/
def capture0 : Capture := { nsec := 0, sec := 0 }

/-- Time services after reset: no owner of a generator, no PTP, no pin in use. -/
def timeReset : TimeSt where
  gens := []
  tables := []
  ppsOutEn := false
  ppsInMode := 0
  timerGen := 0
  capture := 0
  ptp := 0
  ptpPorts := [0, 0, 0]
  ptpState := 0
  offset := 0
  ppsSeen := false
  holdover := false
  ppsLast := none
  ppsWait := 0
  ppsIn := capture0
  caps := []
  ppsOut := false
  timerOut := none

/-- No keys. -/
def keys0 : KeyStore := { keks := [], fabric := none }

/-- No security setting. -/
def secCfg0 : SecCfg := { w0 := 0, window := 0, sci := 0 }

/-- Security after reset of a device whose life cycle has not begun.
DESIGN CHOICE: log entry 13. -/
def secReset : SecSt where
  sessions := []
  cfg := []
  keys := keys0
  flashKeys := keys0
  wipeEnd := 0
  log := []
  scrapped := false
  burning := none
  internalFault := false

/-- The scratchpad, cleared (R403).
DESIGN CHOICE: log entry 17. -/
def scratchReset : ScratchSt := { mem := [], bad := [], waits := [], done := [], hostNext := false, clearEnd := 0 }

/-- The gleaner at the start of its walks. -/
def gleanReset : GleanSt where
  ternNext := 0
  exactNext := 0
  scrubNext := 0
  ternAt := 0
  exactAt := 0
  scrubAt := 0
  window := none
  nextWindow := 0
  lastWindow := 0
  fault := false
  repairs := []

/-- The arbiters with no credit and no lock.
DESIGN CHOICE: log entry 153. -/
def arbReset : ArbSt := { credit := [], last := [], locks := [], starvedAt := [], arrayRefill := 0, scratchRefill := 0 }

/-- The powered device in Run with the firmware not yet ready: every rail above 90 %, the lanes and cores powered. -/
def powerReset : PowerSt where
  state := .run
  rails := [(0, 1800), (1, 750), (2, 900), (3, 1200), (4, 1800), (5, 1800), (6, 1800), (7, 1800), (8, 1800), (9, 1800), (10, 1800),
    (11, 1800), (12, 1800)]
  vio2Strap := 0
  vio2Sel := 0
  coreEn := true
  retEn := false
  ioEn := true
  holdRst := false
  holdOrder := false
  holdSysclk := false
  holdTherm := false
  holdVaon := false
  ioFirst := false
  starting := true
  booted := true
  fwReady := false
  recovery := false
  entry := none
  dozeOn := false
  refclkLost := false
  lanes := 0xFF
  laneIdle := []
  ungating := []
  temp := 0
  thermWarn := false
  user := []
  calFlash := []
  calWrites := 0
  calReqs := 0

/-- The Heath domain after VAON power-on. -/
def heathReset : HeathSt where
  rtc := 0
  rtcAcc := 0
  xtalFail := false
  orderRec := false
  clkRec := false
  thermRec := false
  vaonPor := true
  presLow := false
  pressAt := 0
  sealOpen := false
  sealOk := false
  windowEnd := none
  tampPresent := false
  tampCause := 0
  tampCount := 0
  tampFirst := 0
  tampLast := 0
  pendingWipe := false
  desig := []
  patterns := []
  wakeRc := false
  wakeOut := none
  wakeAt := none
  orderPending := false
  thermPending := false

/-- A settings store that holds no record. -/
def store0 : Store := { valid := true, schema := 0, gen := 0, base := 0, records := [] }

/-- Firmware and settings of a device that runs the image with which it came, in bank A.
PRESUMED: log entry 14. -/
def updReset : UpdSt where
  flash := []
  delivered := some false
  bank := false
  running := { version := 0x00010000#32, svn := 0, raise := false, schema := 0, schemaMin := 0, revoke := 0, keyId := 0 }
  onTrial := false
  floor := 0
  revoked := 0
  headerFirst := false
  verified := false
  verifying := none
  chunks := []
  relay := none
  relayFrom := none
  relayRecurse := false
  storeA := store0
  storeB := store0
  unreadable := false
  settings := []
  apply := none
  readyAt := 0
  restart := false
  bootEvents := []

/-- Nothing has been sent yet. -/
def outReset : OutSt := { completions := [], msi := [], fetches := [], spi := [], reads := [], frames := [], links := [], images := [] }

/-- The device right after reset.
DESIGN CHOICE: log entries 11 and 15. -/
def State.reset : State where
  pending := []
  free := 0
  clk := clkReset
  reg := regReset
  evt := evtReset
  cmdq := cmdqReset
  tern := ternReset
  glue := glueReset
  exm := exactReset
  coh := cohReset
  fab := fabReset
  twin := twinReset
  sw := switchReset
  chans := []
  mapper := mapperReset
  time := timeReset
  sec := secReset
  scr := scratchReset
  glean := gleanReset
  arb := arbReset
  pwr := powerReset
  heath := heathReset
  upd := updReset
  out := outReset

end Sys2Proof.Machine
end

