-- ==== Sys2Proof/Machine/Ops.lean ====
section
/-! DEFINITION. The named operations that every chapter shares: registers and counters, locks, time, the event queue,
free values, messages, and how a command ends. -/

namespace Sys2Proof.Machine

/-! ## How a command ends -/

/-- The state `t` that a command makes of `s`, with what no such command has a path to as it was in `s`: the queue of commands, the
life-cycle log and the scratchpad bytes (R14, R383, R400).
DESIGN CHOICE: log entry 197. -/
def State.after (s t : State) : State :=
  { t with pending := s.pending, sec := { t.sec with log := s.sec.log }, scr := { t.scr with mem := s.scr.mem } }

/-- The outcome of a command that neither burns OTP nor writes the scratchpad. -/
def finish (s t : State) : Host.Outcome State Fault Refusal := .next (s.after t)

/-- The same for a command that may write the scratchpad. -/
def State.afterScr (s t : State) : State := { t with pending := s.pending, sec := { t.sec with log := s.sec.log } }

/-- The outcome of a command that may write the scratchpad. -/
def finishScr (s t : State) : Host.Outcome State Fault Refusal := .next (s.afterScr t)

/-- The same for a command that may reset the core domain: the scratchpad is as it was, or cleared (R403). -/
def State.afterReset (s t : State) : State :=
  { t with
    pending := s.pending, sec := { t.sec with log := s.sec.log }
    scr := { t.scr with mem := if t.scr.mem = [] then [] else s.scr.mem } }

/-- The outcome of a command that may reset the core domain. -/
def finishReset (s t : State) : Host.Outcome State Fault Refusal := .next (s.afterReset t)

/-- The same for a command that may burn a life-cycle entry. -/
def State.afterOtp (s t : State) : State := { t with pending := s.pending, scr := { t.scr with mem := s.scr.mem } }

/-- The outcome of a command that may burn a life-cycle entry. -/
def finishOtp (s t : State) : Host.Outcome State Fault Refusal := .next (s.afterOtp t)

/-! ## Registers -/

/-- The stored value of the register at native normal address `a`. -/
def State.rd (s : State) (a : Nat) : Word := smGet (resetOf a) s.reg.vals a

/-- Store `v` in the register at `a`. -/
def State.wr (s : State) (a : Nat) (v : Word) : State :=
  { s with reg := { s.reg with vals := smSet (resetOf a) s.reg.vals a v } }

/-- A field of a stored register. -/
def State.rf (s : State) (a lo len : Nat) : Nat := fld (s.rd a) lo len

/-- A bit of a stored register. -/
def State.rb (s : State) (a i : Nat) : Bool := bit (s.rd a) i

/-- The value with the bits of `mask` taken from `v`. -/
def merge (old v : Word) (mask : Nat) : Word := (old &&& ~~~(w32 mask)) ||| (v &&& w32 mask)

/-- A count of 32 bits holds at all ones (R5). -/
def sat32 (n : Nat) : Nat := min 0xFFFFFFFF n

/-- Count `n` in a CNT register, which holds at all ones (R5). -/
def State.cnt (s : State) (a n : Nat) : State := s.wr a (w32 (sat32 ((s.rd a).toNat + n)))

/-- The 64-bit value of the pair whose LO register stands at `a` (R438). -/
def State.rd64 (s : State) (a : Nat) : Nat := (s.rd a).toNat + 2 ^ 32 * (s.rd (a + 4)).toNat

/-- Store a 64-bit value in a pair. -/
def State.wr64 (s : State) (a n : Nat) : State := (s.wr a (w32 n)).wr (a + 4) (w32 (n / 2 ^ 32))

/-- Count in a CNT pair, which holds at all ones (R5, R438). -/
def State.cnt64 (s : State) (a n : Nat) : State := s.wr64 a (min (2 ^ 64 - 1) (s.rd64 a + n))

/-! ## Locks (R8, R9, R444 to R446) -/

/-- The lock group of the LOCK fields of the register at `a` (Table 13.5, R484, R516). -/
def lockGroup (a : Nat) : Option Nat :=
  if a = Reg.globalCtrl then some 0
  else if a = Reg.cmdqCtrl ∨ a = Reg.cmdqInbandMacLo ∨ a = Reg.cmdqInbandMacHi ∨ a = Reg.cmdqInbandPorts then some 1
  else if a = Reg.arrayGovCtrl ∨ a = Reg.arrayGovDepth then some 2
  else if a = Reg.glueQuantum then some 3
  else if a = Reg.cohereCtrBase ∨ a = Reg.cohereCtrLines ∨ a = Reg.cohereCowBase ∨ a = Reg.cohereCowCount then some 4
  else if a = Reg.mapperEtype ∨ a = Reg.mapperMacLo ∨ a = Reg.mapperMacHi ∨ a = Reg.mapperRxPorts then some 5
  else if a = Reg.heathTampCtrl then some 6
  else if a = Reg.cfgcrcCtrl ∨ a = Reg.cfgcrcRef then some 7
  else if a = Reg.heathThermCtrl then some 8
  else if a = Reg.heathFallowCtrl then some 9
  else if a = Reg.updateLock then some 10
  else none

/-- Lock group `g` is locked. -/
def State.groupLocked (s : State) (g : Nat) : Bool := s.rb (Reg.lockctlLock g) 0

/-- The LOCK fields of the register at `a` are locked. -/
def State.lockedAt (s : State) (a : Nat) : Bool := (lockGroup a).any s.groupLocked

/-- A write to a locked field (R9): counted, and its normal address captured while the capture is armed (R446). -/
def State.violate (s : State) (a : Nat) : State :=
  let s := s.cnt Reg.lockViolCount 1
  if s.rb Reg.lockViolAddr 31 ∧ ¬ s.reg.lockSeen then s
  else
    let s := s.wr Reg.lockViolAddr (w32 (2 ^ 31 + a))
    { s with reg := { s.reg with lockSeen := false } }

/-- Write the fields of `mask` in a lockable register as a command or a register write does (R8, R445). -/
def State.wrLock (s : State) (a : Nat) (v : Word) (mask : Nat) : State :=
  if s.lockedAt a then s.violate a else s.wr a (merge (s.rd a) v mask)

/-- SAFE_HOLD (R454): with ACTION 1 it follows MISMATCH, and with LATCH 1 it stays from a mismatch to a commit. -/
def State.safeHold (s : State) : Bool :=
  s.rb Reg.cfgcrcCtrl 1 && (s.reg.crc.mismatch || (s.rb Reg.cfgcrcCtrl 2 && s.reg.crc.latched))

/-! ## Free values -/

/-- The next free word.
DESIGN CHOICE: log entry 8. -/
def State.freeW (s : State) : Word × State := (Config.freeWord s.free, { s with free := s.free + 1 })

/-- The next free number below `n` (0 where `n` is 0). -/
def State.freeN (s : State) (n : Nat) : Nat × State := (Config.freeNat s.free % n, { s with free := s.free + 1 })

/-- The next free truth value. -/
def State.freeB (s : State) : Bool × State := (Config.freeBool s.free, { s with free := s.free + 1 })

/-- An unspecified run of bytes. -/
def State.freeBytes (s : State) (n : Nat) : List Byte × State :=
  ((List.range n).map (fun i => BitVec.ofNat 8 (Config.freeNat (s.free + i))), { s with free := s.free + n })

/-! ## Time (R330, R331, R467) -/

/-- One nanosecond of device time in the units of `ClkSt.dt`. -/
def dtUnit : Nat := 10 ^ 10

/-- Device time continues from 0 past this many units (R330). -/
def dtWrap : Nat := 2 ^ 48 * 10 ^ 9 * dtUnit

/-- Device time in whole nanoseconds: SEC × 10⁹ + NSEC. -/
def State.timeNs (s : State) : Nat := s.clk.dt / dtUnit

/-- DT_NS (R330). -/
def State.dtNs (s : State) : Nat := s.timeNs % 2 ^ 64

/-- DT_NS in whole microseconds. -/
def State.dtUs (s : State) : Nat := s.dtNs / 1000

/-- Device time that one CCLK adds, in units. -/
def State.tickUnits (s : State) : Nat := (8 * (10 ^ 9 + s.clk.rate)).toNat

/-- CCLK in a microsecond, a millisecond and a second (R11). -/
def usC : Nat := 1250
def msC : Nat := 1250000
def secC : Nat := 1250000000

/-- The governor's cap in activations per µs: CAP × 8, with values 0–31 acting as 32 (R98). -/
def State.govCap (s : State) : Nat := max 32 (s.rf Reg.arrayGovCtrl 0 16) * 8

/-- The most that the governor's pool holds, in 1/1,250 activation.
DESIGN CHOICE: log entry 208. -/
def State.govMax (s : State) : Nat := s.rf Reg.arrayGovDepth 0 18 * 1250

/-- The governor decides grants. -/
def State.govOn (s : State) : Bool := s.rb Reg.arrayGovCtrl 31

/-- `k` CCLK of the governor's pool (R98).
DESIGN CHOICE: log entry 33. -/
def State.govFill (s : State) (k : Nat) : Nat :=
  if s.govOn then min s.govMax (s.tern.govLevel + k * s.govCap) else s.tern.govLevel

/-- A lane's search is held by the governor. -/
def State.govHolding (s : State) : Bool := s.tern.searches.any (fun x => x.phase == .held)

/-- A frame in the device by its number. -/
def State.frame (s : State) (n : Nat) : Option Frame := s.sw.frames.find? (fun f => f.num == n)

/-- Take a search out of the array's list. -/
def State.endSearch (s : State) (x : Search) : State :=
  { s with tern := { s.tern with searches := s.tern.searches.erase x } }

/-- The fabric search with an ident. -/
def State.fabJob (s : State) (ident : Nat) : Option FabJob := s.fab.jobs.find? (fun j => j.req.ident == ident)

/-- Store a fabric search in place of the one with its ident. -/
def State.setJobF (s : State) (j : FabJob) : State :=
  let js := s.fab.jobs.filter (fun x => x.req.ident != j.req.ident)
  { s with fab := { s.fab with jobs := js ++ [j] } }

/-- The requesters, lanes 0 to 7 and LS as 8, with a search that waits for its grant, each with the cycle of the earliest issue. -/
def State.waitingLanes (s : State) : List (Nat × Nat) :=
  let xs := s.tern.searches.filter (fun x => x.phase == .waiting && !x.exact && decide (x.lane ≤ 8))
  (xs.map (·.lane)).eraseDups.map (fun l => (l, ((xs.filter (fun x => x.lane == l)).map (·.issued)).foldl min (2 ^ 80)))

/-- `k` CCLK pass: the age clock, device time, the governor's pool and the real-time counter. -/
def State.advance (s : State) (k : Nat) : State :=
  let s' := { s with
    clk := { s.clk with age := (s.clk.age + k) % 2 ^ 64, dt := (s.clk.dt + k * s.tickUnits) % dtWrap }
    tern := { s.tern with govLevel := s.govFill k }
    heath := { s.heath with
      rtc := (s.heath.rtc + (s.heath.rtcAcc + k * 32768) / secC) % 2 ^ 48
      rtcAcc := (s.heath.rtcAcc + k * 32768) % secC } }
  let s' := s.waitingLanes.foldl (fun t n => t.cnt (Reg.arbArrayWait n.1) (k - (n.2 - s.clk.age))) s'
  if s.govHolding then s'.cnt Reg.arrayGovHeldCycles k else s'

/-- Time passes until the age clock reads at least `t`; never backwards.
DESIGN CHOICE: log entry 3. -/
def State.until (s : State) (t : Nat) : State := s.advance (t - s.clk.age)

/-- Time passes until device time reads at least `ns` nanoseconds; never backwards. -/
def State.untilNs (s : State) (ns : Nat) : State :=
  if s.tickUnits = 0 then s else s.advance (ceilDiv (ns * dtUnit - s.clk.dt) s.tickUnits)

/-- The nominal of a rail in mV (Table 14.1): 0 VAON, 1 VDDC, 2 VDDA, 3 VDDAH, 4 VDDIO1, and 5 + k bank k of VDDIO2, whose nominal the
device has selected by the strap that it sampled (R522). -/
def State.nominal (s : State) (r : Nat) : Nat :=
  match r with
  | 0 => 1800
  | 1 => 750
  | 2 => 900
  | 3 => 1200
  | 4 => 1800
  | _ => if s.pwr.vio2Sel.getLsbD (r - 5) then 3300 else 1800

/-- The level of a rail by number (R460): its millivolts against 10 % and 90 % of the nominal. -/
def State.rail (s : State) (r : Nat) : RailLevel :=
  let mv := smGet 0 s.pwr.rails r
  if 10 * mv ≤ s.nominal r then .low
  else if 9 * s.nominal r ≤ 10 * mv then .high
  else if r = 1 ∧ 450 ≤ mv ∧ mv ≤ 550 then .ret
  else .mid

/-- Every rail is at 90 % of its nominal (R460). -/
def State.railsHigh (s : State) : Bool := (List.range 13).all (fun r => s.rail r == .high)

/-- The core domain runs: Run or Doze, nothing holds it in reset, and at a start every rail is present (R469).
DESIGN CHOICE: log entry 5. -/
def State.coreUp (s : State) : Bool :=
  (s.pwr.state == .run || s.pwr.state == .doze) &&
    !(s.pwr.holdRst || s.pwr.holdOrder || s.pwr.holdSysclk || s.pwr.holdTherm || s.pwr.holdVaon) &&
    (!s.pwr.starting || s.railsHigh)

/-- The firmware runs its full service: the start is over and no recovery is in force. -/
def State.fwUp (s : State) : Bool := s.coreUp && s.pwr.fwReady && !s.pwr.recovery

/-- Do `f` while the core domain runs; in reset or standby nothing happens.
DESIGN CHOICE: log entry 4. -/
def whileUp (s : State) (f : State → State) : State := if s.coreUp then f s else s

/-- Do `f` while the firmware runs. -/
def whileFw (s : State) (f : State → State) : State := if s.fwUp then f s else s

/-- Do `f` while commands are taken: by the firmware, or by a boot ROM in recovery (R44, R508). -/
def whileReady (s : State) (f : State → State) : State := if s.coreUp ∧ s.pwr.fwReady then f s else s

/-- The code of a power state (Table 14.4). -/
def PowerState.code : PowerState → Nat
  | .run => 0
  | .doze => 1
  | .keep => 2
  | .watch => 3
  | .fallow => 4

/-- HEATH_WAKE_CAUSE of a wake from the power state with a code, and WAKE_OUT_N where its cause is in WAKE_OUT_MASK (R476). -/
def State.wakeNote (s : State) (code cause detail chan : Nat) : State :=
  let s := s.wr Reg.heathWakeCause (w32 (cause + detail * 2 ^ 8 + chan * 2 ^ 16 + code * 2 ^ 24))
  let ends := s.heath.rtc + ceilDiv (s.rf Reg.heathWakeCtrl 24 8 * 32768) 1000
  if s.rb Reg.heathWakeCtrl (15 + cause) then { s with heath := { s.heath with wakeOut := some ends } } else s

/-- The record of a wake from a power state (R476). -/
def State.wakeFrom (s : State) (p : PowerState) (cause detail chan : Nat) : State :=
  (s.cnt Reg.heathWakeCount 1).wakeNote p.code cause detail chan

/-- The record of a wake from the power state in force. -/
def State.wakeRecord (s : State) (cause detail chan : Nat) : State := s.wakeFrom s.pwr.state cause detail chan

/-- The device leaves Doze (R475).
DESIGN CHOICE: log entry 182. -/
def State.leaveDoze (s : State) : State :=
  if s.pwr.state = .doze then { s with pwr := { s.pwr with state := .run } } else s

/-- The device leaves Doze within `k` CCLK; without effect in any other state. -/
def State.leaveDozeIn (s : State) (k : Nat) : State := if s.pwr.state = .doze then (s.advance k).leaveDoze else s

/-- A command that arrives ends Doze, as a wake with cause 6, and waits for the 2 µs of the exit (R43, R475, R476). -/
def State.rouse (s : State) : State := if s.pwr.state = .doze then (s.wakeRecord 6 0 0).leaveDozeIn (2 * usC) else s

/-- Time passes until the real-time counter reads at least `t`; never backwards. The core domain's clocks run along
while it runs. -/
def State.untilRtc (s : State) (t : Nat) : State :=
  if t ≤ s.heath.rtc then s
  else if s.coreUp then s.advance (ceilDiv ((t - s.heath.rtc) * secC - s.heath.rtcAcc) 32768)
  else { s with heath := { s.heath with rtc := t, rtcAcc := 0 } }

/-! ## Events (R450, R451, R108) -/

/-- The event enable that gates an event of block `blk` and code `code` of instance `inst` (R450). -/
def State.evtOn (s : State) (blk code inst : Nat) : Bool :=
  match blk with
  | 0x00 => s.rb Reg.globalCtrl 2
  | 0x01 => s.rb Reg.heathCtrl 0
  | 0x03 => s.rb Reg.arrayCtrl 0
  | 0x04 => s.rb Reg.glueCtrl 8
  | 0x05 => if code = 1 then s.rb Reg.exactCtrl 0 else s.rb Reg.gleanerCtrl 4
  | 0x06 => s.rb Reg.cohereCtrl 0
  | 0x07 => s.rb Reg.scratchCtrl 0
  | 0x08 => s.rb Reg.arbCtrl 0
  | 0x09 => s.rb Reg.switchCtrl 0
  | 0x0A => s.rb (Reg.ethportCtrl inst) 16
  | 0x0C => s.rb (Reg.slowchCtrl (inst - 64)) 0
  | 0x10 => s.rb Reg.mapperCtrl 0
  | 0x11 => s.rb Reg.timeCtrl 0
  | 0x12 => s.rb Reg.secCtrl 0
  | 0x13 => s.rb Reg.fabricCtrl 0
  | 0x14 => s.rb Reg.mitreCtrl 0
  | 0x15 => s.rb Reg.powerCtrl 0
  | 0x16 => s.rb Reg.updateCtrl 0
  | 0x17 => s.rb Reg.gleanerCtrl 4
  | _ => true

/-- Put an entry into the event queue of 1,024 entries (R450). -/
def State.putEvent (s : State) (blk code inst : Nat) (a b : Word) : State :=
  if s.evt.q.length ≥ 1024 then
    let s := s.cnt Reg.globalEventLostCount 1
    { s with evt := { s.evt with lost := true } }
  else
    let w0 := w32 (blk * 256 + code + inst * 2 ^ 16 + b2n s.evt.lost * 2 ^ 31)
    { s with evt := { s.evt with q := s.evt.q ++ [⟨w0, w32 s.dtUs, a, b⟩], lost := false } }

/-- Enter an event while its enable is 1. -/
def State.event (s : State) (blk code inst : Nat) (a b : Word) : State :=
  if s.evtOn blk code inst then s.putEvent blk code inst a b else s

/-- Enter an event under the suppression rule (R108). A suppressed event counts in `sup` instead. -/
def State.eventSup (s : State) (blk code inst : Nat) (a b : Word) (key : List Nat) (sup : Nat) : State :=
  if ¬ s.evtOn blk code inst then s
  else if ((s.evt.recent.filter (fun e => e.block == blk)).take 16).any
      (fun e => e.key == key && decide (s.clk.age - e.at_ < msC)) then s.cnt sup 1
  else if s.evt.q.length ≥ 1024 then s.putEvent blk code inst a b
  else
    let s' := s.putEvent blk code inst a b
    let mine := (s.evt.recent.filter (fun e => e.block == blk)).take 15
    let rest := s.evt.recent.filter (fun e => e.block != blk)
    { s' with evt := { s'.evt with recent := ⟨blk, key, s.clk.age⟩ :: mine ++ rest } }

/-! ## Messages -/

/-- Send a message on a dovetail or mitre link. -/
def State.send (s : State) (l : LinkId) (m : LinkMsg) : State :=
  { s with out := { s.out with links := s.out.links ++ [(l, m)] } }

/-- Send a message on the coherence network that leaves after `d` CCLK; one hop takes 6 CCLK (R231). -/
def State.cohPut (s : State) (src d : Nat) (m : CohMsg) : State :=
  { s with coh := { s.coh with net := s.coh.net ++ [⟨src, s.clk.age + d + 6, m⟩] } }

/-! ## Small reads of other chapters' state -/

/-- The life-cycle state (Table 2.13): the target of the last good entry, or SCRAPPED; 0 BLANK before any. -/
def State.lifeCycle (s : State) : Nat :=
  if s.sec.scrapped then 5 else ((s.sec.log.filterMap id).getLast?).getD 0

/-- The presence window is open (R380). -/
def State.presence (s : State) : Bool := s.heath.windowEnd.isSome

/-- The epoch quantum Q in µs (R144): 1 to 1,000. -/
def State.quantum (s : State) : Nat := min 1000 (max 1 (s.rf Reg.glueQuantum 0 10))

/-- The age of an epoch number seen from the current one: (C − e) mod 8. -/
def epochAge (c e : BitVec 3) : Nat := (c - e).toNat

/-- This device is the follow side of a twin it is configured for. -/
def State.isFollow (s : State) : Bool := s.twin.config == some true

/-- The fabric address of a node and side (R251). -/
def fabAddr (node side : Nat) : Nat := 2 * node + side

/-- This device's own fabric address; 0 outside a fabric. -/
def State.ownAddr (s : State) : Nat := if s.fab.joined then fabAddr s.fab.node s.fab.side else 0

end Sys2Proof.Machine
end

