-- ==== Sys2Proof/Machine/Buffer.lean ====
section
/-! DEFINITION. The packet buffer's accounts (R298 to R303), the drop counters (Table 9.8) and the entry of a copy into
an egress queue. -/

namespace Sys2Proof.Machine

/-- The holder of an ingress, in INGRESS encoding. -/
def ingHolder (i : Nat) : Nat := if i < 64 then i else 32 + (i - 64)

/-- The holder of an egress queue. A slow channel has one queue. -/
def queueHolder (port q : Nat) : Nat := if port < 64 then 96 + 8 * port + q else 352 + (port - 64)

/-- A holder. -/
def State.holder (s : State) (h : Nat) : Holder := smGet (holder0 h) s.sw.holders h

/-- Store a holder. -/
def State.setHolder (s : State) (h : Nat) (x : Holder) : State :=
  { s with sw := { s.sw with holders := smSet (holder0 h) s.sw.holders h x } }

/-- Σ MIN over all holders: 6,144 at reset (R321), and the change of every holder that is listed. -/
def State.sumMin (s : State) : Nat :=
  s.sw.holders.foldl (fun n p => n + p.2.min - (holder0 p.1).min) 6144

/-- SHARED_SIZE (R298). -/
def State.sharedSize (s : State) : Nat := 98304 - s.sumMin

/-- SHARED_USED (R298). A holder that is not listed uses nothing. -/
def State.sharedUsed (s : State) : Nat := s.sw.holders.foldl (fun n p => n + (p.2.used - p.2.min)) 0

/-- Cells that a frame of `bytes` takes (R298). -/
def cellsOf (bytes : Nat) : Nat := ceilDiv bytes 256

/-- Set or clear OVER_QUOTA of a holder at an instant (R301). -/
def Holder.over (x : Holder) (o : Bool) (now : Nat) : Holder :=
  { x with overQ := o, overAt := if o then (if x.overQ then x.overAt else now) else 0 }

/-- The accounts under the limits that a charge in this CCLK is tested against: those before a QUEUE_CONFIG of the same CCLK (R303). -/
def State.chargeLimits (s : State) : State :=
  match s.sw.limitsWas with
  | none => s
  | some (t, old) =>
    if t ≠ s.clk.age then s
    else (old.map (·.1) ++ s.sw.holders.map (·.1)).foldl (fun r h =>
      r.setHolder h { smGet (holder0 h) old h with used := (s.holder h).used }) s

/-- Charge `n` cells to holder `h` (R299); none when it is refused. Cells of a frame whose first cell was charged at `first`, before the
holder became OVER_QUOTA, are charged without the quota test (R300).
DEDUCED: log entry 109. -/
def State.chargeFrom (s : State) (h n first : Nat) : Option State :=
  let t := s.chargeLimits
  let x := t.holder h
  let begun := x.overQ && decide (first < x.overAt)
  let need := (x.used + n - x.min) - (x.used - x.min)
  if x.overQ ∧ ¬ begun then none
  else if ¬ begun ∧ x.used + n > x.quota then none
  else if 0 < need ∧ (t.sharedUsed > t.sharedSize ∨ t.sharedUsed + need > t.sharedSize) then none
  else
    let y := { s.holder h with used := x.used + n }
    some (s.setHolder h (y.over (y.overQ || decide (y.quota < y.used)) s.clk.age))

/-- Charge `n` cells whose first is charged now. -/
def State.charge (s : State) (h n : Nat) : Option State := s.chargeFrom h n s.clk.age

/-- Release `n` cells of holder `h`; OVER_QUOTA clears when the usage falls below the quota (R301). -/
def State.uncharge (s : State) (h n : Nat) : State :=
  let y := { s.holder h with used := (s.holder h).used - n }
  s.setHolder h (y.over (y.overQ && decide (y.quota ≤ y.used)) s.clk.age)

/-- The block of a port or channel in INGRESS encoding. -/
def portBase (i : Nat) : Nat := if i < 64 then 0xA0000 + 0x1000 * i else 0xC0000 + 0x1000 * (i - 64)

/-- Count a drop for reason `r` of Table 9.8 at a port or channel. -/
def State.drop (s : State) (port r : Nat) : State := s.cnt (portBase port + 0x140 + 4 * (r - 1)) 1

/-- An Ethernet port. -/
def State.ethPort (s : State) (n : Nat) : EthPort := smGet ethPort0 s.sw.ports n

/-- Store an Ethernet port. -/
def State.setEth (s : State) (n : Nat) (p : EthPort) : State :=
  { s with sw := { s.sw with ports := smSet ethPort0 s.sw.ports n p } }

/-- A slow channel. -/
def State.chan (s : State) (n : Nat) : SlowCh := smGet slowCh0 s.chans n

/-- Store a slow channel. -/
def State.setChan (s : State) (n : Nat) (c : SlowCh) : State := { s with chans := smSet slowCh0 s.chans n c }

/-- MODE of a slow channel (R324). -/
def SlowCh.mode (c : SlowCh) : Nat := fld c.w0 8 3

/-- An egress port or channel, in INGRESS encoding, that is enabled and up (R285, R326). -/
def State.egressUp (s : State) (i : Nat) : Bool :=
  if i < 32 then (s.ethPort i).mode != 0 && (s.ethPort i).linkUp
  else if 64 ≤ i ∧ i < 128 then (s.chan (i - 64)).mode != 0 && (s.chan (i - 64)).active && !(s.chan (i - 64)).busOff
  else false

end Sys2Proof.Machine
end

