-- ==== Sys2Proof/Machine/Cmd.lean ====
section
/-! DEFINITION. The command envelope (R27 to R45, R534): opcodes, defined ranges, checks, packets, and the delivery of
replies to the stream that a command came from. -/

namespace Sys2Proof.Machine

/-! ## Opcodes (Table 2.14) -/

namespace Op

abbrev identify : Nat := 0xCC00
abbrev echo : Nat := 0xCC01
abbrev eventPop : Nat := 0xCC02
abbrev capacityReport : Nat := 0xCC03
abbrev powerReport : Nat := 0xCC04
abbrev profileWrite : Nat := 0xCC10
abbrev profileRead : Nat := 0xCC11
abbrev search : Nat := 0xCC12
abbrev governorSet : Nat := 0xCC13
abbrev tableCreate : Nat := 0xCC14
abbrev tableResize : Nat := 0xCC15
abbrev tableDestroy : Nat := 0xCC16
abbrev entryWrite : Nat := 0xCC17
abbrev entryRead : Nat := 0xCC18
abbrev searchNext : Nat := 0xCC19
abbrev glueOpen : Nat := 0xCC20
abbrev glueClamp : Nat := 0xCC21
abbrev glueAbort : Nat := 0xCC22
abbrev glueStatus : Nat := 0xCC23
abbrev epochConfig : Nat := 0xCC24
abbrev exactTableCreate : Nat := 0xCC30
abbrev exactInsert : Nat := 0xCC31
abbrev exactDelete : Nat := 0xCC32
abbrev exactRead : Nat := 0xCC33
abbrev learnPop : Nat := 0xCC34
abbrev flushByPort : Nat := 0xCC35
abbrev mowerConfig : Nat := 0xCC36
abbrev exactRehash : Nat := 0xCC37
abbrev fabricJoin : Nat := 0xCC40
abbrev fabricLeave : Nat := 0xCC41
abbrev fabricStatus : Nat := 0xCC42
abbrev fabricSearch : Nat := 0xCC43
abbrev twinConfig : Nat := 0xCC44
abbrev twinResync : Nat := 0xCC45
abbrev twinStatus : Nat := 0xCC46
abbrev portConfig : Nat := 0xCC50
abbrev queueConfig : Nat := 0xCC51
abbrev policerWrite : Nat := 0xCC52
abbrev policerRead : Nat := 0xCC53
abbrev mcastGroupWrite : Nat := 0xCC54
abbrev frameBudgetSet : Nat := 0xCC55
abbrev portStats : Nat := 0xCC56
abbrev channelConfig : Nat := 0xCC60
abbrev routeWrite : Nat := 0xCC61
abbrev routeRead : Nat := 0xCC62
abbrev periodConfig : Nat := 0xCC63
abbrev slotWrite : Nat := 0xCC64
abbrev slotSwap : Nat := 0xCC65
abbrev timeConfig : Nat := 0xCC66
abbrev timeRead : Nat := 0xCC67
abbrev wakePatternWrite : Nat := 0xCC68
abbrev sessionCreate : Nat := 0xCC70
abbrev sessionDelete : Nat := 0xCC71
abbrev sessionStatus : Nat := 0xCC72
abbrev tamperRead : Nat := 0xCC73
abbrev powerState : Nat := 0xCC80
abbrev wakeConfig : Nat := 0xCC81
abbrev updateChunk : Nat := 0xCC90
abbrev updateVerify : Nat := 0xCC91
abbrev updateActivate : Nat := 0xCC92
abbrev updateConfirm : Nat := 0xCC93
abbrev updateStatus : Nat := 0xCC94
abbrev updateRelay : Nat := 0xCC95
abbrev settingsSave : Nat := 0xCC96
abbrev lifecycleSet : Nat := 0xCCF0
abbrev keyLoad : Nat := 0xCCF1
abbrev calRestoreFactory : Nat := 0xCCF2
abbrev fabricKeySet : Nat := 0xCCF3
abbrev forceFallback : Nat := 0xCCF4
abbrev tamperClear : Nat := 0xCCF5

end Op

/-- The assigned opcodes. -/
def opAssigned (op : Nat) : Bool :=
  [ Op.identify, Op.echo, Op.eventPop, Op.capacityReport, Op.powerReport, Op.profileWrite,
    Op.profileRead, Op.search, Op.governorSet, Op.tableCreate, Op.tableResize, Op.tableDestroy,
    Op.entryWrite, Op.entryRead, Op.searchNext, Op.glueOpen, Op.glueClamp, Op.glueAbort,
    Op.glueStatus, Op.epochConfig, Op.exactTableCreate, Op.exactInsert, Op.exactDelete, Op.exactRead,
    Op.learnPop, Op.flushByPort, Op.mowerConfig, Op.exactRehash, Op.fabricJoin, Op.fabricLeave,
    Op.fabricStatus, Op.fabricSearch, Op.twinConfig, Op.twinResync, Op.twinStatus, Op.portConfig,
    Op.queueConfig, Op.policerWrite, Op.policerRead, Op.mcastGroupWrite, Op.frameBudgetSet, Op.portStats,
    Op.channelConfig, Op.routeWrite, Op.routeRead, Op.periodConfig, Op.slotWrite, Op.slotSwap,
    Op.timeConfig, Op.timeRead, Op.wakePatternWrite, Op.sessionCreate, Op.sessionDelete, Op.sessionStatus,
    Op.tamperRead, Op.powerState, Op.wakeConfig, Op.updateChunk, Op.updateVerify, Op.updateActivate,
    Op.updateConfirm, Op.updateStatus, Op.updateRelay, Op.settingsSave, Op.lifecycleSet, Op.keyLoad,
    Op.calRestoreFactory, Op.fabricKeySet, Op.forceFallback, Op.tamperClear ].contains op

/-- CLASS of an opcode (R28). -/
def classOf (op : Nat) : Nat := (op - 0xCC00) / 16

/-- The assigned classes (Table 2.2). -/
def classAssigned (c : Nat) : Bool := decide (c < 10) || c == 15

/-- The PLEN of the command is in its defined range (R534); `max` is the transport's maximum.
DEDUCED: log entry 27. -/
def plenOk (op plen max : Nat) : Bool :=
  if op = Op.echo then decide (plen ≤ max)
  else if op = Op.profileWrite then decide (3 ≤ plen ∧ plen ≤ max)
  else if op = Op.search then decide (4 ≤ plen ∧ plen ≤ max)
  else if op = Op.searchNext then decide (3 ≤ plen ∧ plen ≤ max)
  else if op = Op.entryWrite then decide (2 ≤ plen ∧ plen ≤ max)
  else if op = Op.exactTableCreate then decide (1 ≤ plen ∧ plen ≤ max)
  else if op = Op.exactInsert then decide (5 ≤ plen ∧ plen ≤ max)
  else if op = Op.exactDelete ∨ op = Op.exactRead ∨ op = Op.fabricSearch then decide (4 ≤ plen ∧ plen ≤ max)
  else if op = Op.slotWrite then decide (2 ≤ plen ∧ plen ≤ max)
  else if op = Op.sessionCreate then decide (4 ≤ plen ∧ plen ≤ max)
  else if op = Op.updateChunk then decide (4 ≤ plen ∧ plen ≤ max)
  else if op = Op.settingsSave then decide (1 ≤ plen ∧ plen ≤ max)
  else if op = Op.glueClamp then decide (1 ≤ plen ∧ plen ≤ 8)
  else if op = Op.queueConfig then decide (plen % 3 = 0 ∧ 3 ≤ plen ∧ plen ≤ 96)
  else if op = Op.routeWrite then decide (plen % 8 = 0 ∧ 8 ≤ plen ∧ plen ≤ 128)
  else if op = Op.wakePatternWrite then decide (plen % 8 = 1 ∧ plen ≤ 129)
  else if op = Op.identify ∨ op = Op.powerReport ∨ op = Op.fabricStatus ∨ op = Op.twinStatus ∨ op = Op.timeRead ∨
      op = Op.tamperRead ∨ op = Op.updateVerify ∨ op = Op.updateStatus ∨ op = Op.calRestoreFactory ∨
      op = Op.forceFallback ∨ op = Op.tamperClear then plen == 0
  else if op = Op.governorSet ∨ op = Op.entryRead ∨ op = Op.mowerConfig ∨ op = Op.exactRehash ∨ op = Op.fabricJoin ∨
      op = Op.wakeConfig ∨ op = Op.updateRelay then plen == 2
  else if op = Op.tableCreate ∨ op = Op.periodConfig then plen == 3
  else if op = Op.slotSwap then plen == 4
  else if op = Op.mcastGroupWrite then plen == 5
  else if op = Op.policerWrite then plen == 7
  else if op = Op.timeConfig ∨ op = Op.keyLoad ∨ op = Op.fabricKeySet then plen == 9
  else if op = Op.portConfig then plen == 10
  else if op = Op.channelConfig then plen == 15
  else plen == 1

/-! ## Requests -/

/-- The largest request, in parameter words, of a stream's transport (Table 2.8): of a forwarded command, that of the transport
at its entry device. -/
def maxWords : StreamId → Nat
  | .pcie _ => 16380
  | .spi => 1020
  | .inband _ _ _ => 2048
  | .entry _ _ limit => limit
  | .mirror _ _ => 16380
  | .internal | .own => 16380

/-- NO_REPLY of a request (Table 2.3). -/
def Request.noReply (q : Request) : Bool := q.flags.getLsbD 0

/-- ORDERED of a request. -/
def Request.ordered (q : Request) : Bool := q.flags.getLsbD 1

/-- FABRIC_FWD of a request. -/
def Request.fwd (q : Request) : Bool := q.flags.getLsbD 2

/-- TARGET.ADDR of a request (Table 2.4). -/
def Request.addr (q : Request) : Nat := nfld q.target.toNat 0 10

/-- TARGET.SIDE of a request. -/
def Request.side (q : Request) : Nat := nfld q.target.toNat 10 2

/-- Parameter word `i`. -/
def Request.w (q : Request) (i : Nat) : Word := wd q.words i

/-- A field of parameter word `i`. -/
def Request.f (q : Request) (i lo len : Nat) : Nat := fld (q.w i) lo len

/-- A bit of parameter word `i`. -/
def Request.b (q : Request) (i n : Nat) : Bool := bit (q.w i) n

/-- Parameter word `i` sets a bit outside `mask`. -/
def Request.stray (q : Request) (i mask : Nat) : Bool := strayBits (q.w i) mask

/-! ## Status codes (Tables 2.6 and 2.7) -/

namespace St
abbrev ok : Nat := 0x0000
abbrev pending : Nat := 0x0001
abbrev badVersion : Nat := 0x0101
abbrev badClass : Nat := 0x0102
abbrev badOpcode : Nat := 0x0103
abbrev badLength : Nat := 0x0104
abbrev badFlags : Nat := 0x0105
abbrev badTarget : Nat := 0x0106
abbrev tooLarge : Nat := 0x0107
abbrev noStream : Nat := 0x0201
abbrev tagInUse : Nat := 0x0301
abbrev presenceRequired : Nat := 0x0401
abbrev sealedTransport : Nat := 0x0402
abbrev classDisabled : Nat := 0x0403
abbrev fabricNodeAbsent : Nat := 0x0501
abbrev fabricNoReply : Nat := 0x0502
abbrev notInFabric : Nat := 0x0503
abbrev partnerAbsent : Nat := 0x0504
abbrev internalFault : Nat := 0x0601
abbrev entryClaimed : Nat := 0x0330
abbrev glueCapacity : Nat := 0x0230
abbrev applyConflict : Nat := 0x03B0
abbrev powerBusy : Nat := 0x03C0
abbrev recoveryMode : Nat := 0x03D2
abbrev lcRefused : Nat := 0x0490
end St

/-- Checks 5 and 6 of R40 (Table 2.6): FLAGS and TARGET of a command of class `cls`; 0 when both pass. -/
def envelope (cls : Nat) (q : Request) : Nat :=
  if q.flags.toNat / 8 ≠ 0 then St.badFlags
  else if q.side = 3 ∨ nfld q.target.toNat 12 4 ≠ 0 ∨ (q.side = 2 ∧ (cls = 2 ∨ cls = 15)) then St.badTarget
  else 0

/-! ## Packets -/

/-- The 16 bytes of a header (Table 2.1). -/
def header (version cls op : Nat) (tag : Word) (plen flags target status : Nat) : List Byte :=
  [BitVec.ofNat 8 version, BitVec.ofNat 8 cls] ++ bytesLE 2 op ++ bytesLE 4 tag.toNat ++ bytesLE 2 plen ++
    bytesLE 2 flags ++ bytesLE 2 target ++ bytesLE 2 status

/-- A reply packet: the request's fields echoed, and the payload cut to `room` words with TRUNCATED set (R35). -/
def replyPacket (cls op : Nat) (q : Request) (status : Nat) (side : Bool) (room : Nat) (payload : List Word) :
    List Byte × Bool :=
  let cut := decide (room < payload.length)
  let body := payload.take room
  let flags := q.flags.toNat % 8 + b2n cut * 2 ^ 13 + b2n side * 2 ^ 14 + 2 ^ 15
  (header 3 cls op q.tag body.length flags q.target.toNat status ++ bytesOf body, cut)

/-! ## Streams and commands -/

/-- A queue pair. -/
def State.pair (s : State) (n : Nat) : QPair := smGet pair0 s.cmdq.pairs n

/-- Store a queue pair. -/
def State.setPair (s : State) (n : Nat) (p : QPair) : State :=
  { s with cmdq := { s.cmdq with pairs := smSet pair0 s.cmdq.pairs n p } }

/-- The record of a command that its stream has just accepted. -/
def Cmd.fresh (id op : Nat) (q : Request) (buf : Option SqBuf) (vtag : Option Nat) : Cmd where
  id := id
  op := op
  q := q
  buf := buf
  vtag := vtag
  phase := .accepted
  mute := false
  sentAt := 0
  finals := 1
  away := []
  side := false

/-- Commands that run (Table 2.10, RUNNING): those that have started and are not final. -/
def State.runningCmds (s : State) : Nat :=
  (s.cmdq.cmds.filter (fun c => c.phase != .accepted && c.phase != .replied)).length

/-- The record of an outstanding command by stream and tag (R62). -/
def State.cmdOf (s : State) (q : Request) : Option Cmd :=
  s.cmdq.cmds.find? (fun c => c.q.stream == q.stream && c.q.tag == q.tag)

/-- Change the record of an outstanding command. -/
def State.updCmd (s : State) (id : Nat) (f : Cmd → Cmd) : State :=
  { s with cmdq := { s.cmdq with cmds := s.cmdq.cmds.map (fun c => if c.id = id then f c else c) } }

/-- STOPPED of a pair is set once it has stopped fetching and has nothing left to post (R52). -/
def State.pairSettle (s : State) (n : Nat) : State :=
  let p := s.pair n
  let busy := s.cmdq.cmds.any (fun c => decide (∃ k, c.q.stream = .pcie k ∧ k.val = n) && !c.mute)
  if p.stopping ∧ ¬ busy ∧ p.held = [] then s.setPair n { p with stopped := true, stopping := false } else s

/-- The bytes of an in-band reply frame (R58), padded to the 64-byte minimum frame without its FCS. -/
def inbandFrame (s : State) (dst : Nat) (vtag : Option Nat) (packet : List Byte) : List Byte :=
  let mac := bytesLE 4 (s.rd Reg.cmdqInbandMacLo).toNat ++ bytesLE 2 (s.rf Reg.cmdqInbandMacHi 0 16)
  let tag := vtag.elim [] (fun t => bytesBE 2 0x8100 ++ bytesBE 2 t)
  let f := bytesBE 6 dst ++ mac ++ tag ++ bytesBE 2 0x88B5 ++ packet
  f ++ List.replicate (60 - f.length) 0

/-- Put a frame of the device's own into the egress queue of port En (R58): charged like any copy, and dropped with
QUOTA or PORT_DOWN as a copy is (R300, R307).
DESIGN CHOICE: log entry 22. -/
def State.queueOwn (s : State) (port q : Nat) (bytes : List Byte) : State :=
  let n := cellsOf (bytes.length + 4)
  if ¬ s.egressUp port then s.drop port 13
  else match s.charge (queueHolder port q) n with
    | none => s.drop port 12
    | some s =>
      { s with sw := { s.sw with copies := s.sw.copies ++ [{
          frame := 0, ingress := port, port := port, queue := q, cells := n, bytes := bytes, image := false, session := 0,
          deadline := none, pdu := none, released := true, eligible := true, relAt := s.clk.age, sending := false, wire := [] }] } }

/-- Remember a final reply of an in-band stream: the 16 most recent (R59). -/
def State.keepReply (s : State) (port : Fin 32) (src : BitVec 48) (vid : BitVec 12) (tag : Word) (p : List Byte) :
    State :=
  { s with cmdq := { s.cmdq with inband := s.cmdq.inband.map (fun st =>
      if st.port = port ∧ st.src = src ∧ st.vid = vid then { st with kept := ((tag, p) :: st.kept).take 16 } else st) } }

/-- The link that leads to a fabric address (R251, R252): the mitre link for 1024 and for the other side of this node,
a down link for a node of this subtree, and otherwise D0, which the root does not have. -/
def State.route (s : State) (addr : Nat) : Option LinkId :=
  if addr = 1024 then some .mitre
  else if ¬ s.fab.joined then none
  else if addr / 2 = s.fab.node then (if addr % 2 ≠ s.fab.side ∧ s.fab.twinned then some .mitre else none)
  else match smGet LinkId.d0 s.fab.routes (addr / 2) with
    | .d0 => if s.fab.level = 0 then none else some .d0
    | l => some l

/-- Send towards a fabric address; a message without a route is lost. -/
def State.sendTo (s : State) (addr : Nat) (m : LinkMsg) : State := (s.route addr).elim s (fun l => s.send l m)

/-- A final status of a settings record that APPLY executes (R514). -/
def applyCount (a : SettingsApply) (record status : Nat) : SettingsApply :=
  if status = St.ok then { a with ok := a.ok + 1 }
  else { a with failed := a.failed + 1, first := a.first.or (some (record, status)) }

/-- The opcode's word 0 carries GLUE in bits [15:8]. -/
def opGlued (op : Nat) : Bool :=
  [0, Op.entryWrite, Op.exactInsert, Op.exactDelete, Op.policerWrite, Op.mcastGroupWrite, Op.slotWrite, Op.slotSwap].contains op

/-- A mirrored operation could not be applied: its glue-up here, marked with reason TWIN while it is still OPEN, lacks it. -/
def State.markMissed (s : State) (op : Nat) (q : Request) (status : Nat) : State :=
  let id := q.f 0 8 8
  let g := smGet glueUp0 s.glue.ups id
  if status = St.ok ∨ ¬ opGlued op ∨ g.st ≠ .opened then s
  else { s with glue := { s.glue with ups := smSet glueUp0 s.glue.ups id { g with reason := 5 } } }

/-- Hand a reply to its stream: `id` is the command's record, 0 for none; `cls` and `op` are echoed.
DESIGN CHOICE: log entries 31 and 203. -/
def State.toStream (s : State) (id cls op : Nat) (q : Request) (buf : Option SqBuf) (vtag : Option Nat) (mute : Bool)
    (status : Nat) (side final : Bool) (payload : List Word) : State :=
  match q.stream with
  | .pcie n =>
    if mute then s
    else
      let room := min 16380 ((buf.elim 65536 (·.len) - 16) / 4)
      let (p, cut) := replyPacket cls op q status side room payload
      let pr := s.pair n
      s.setPair n { pr with held := pr.held ++ [⟨id, q.tag, status, buf, cut, final, p⟩] }
  | .spi =>
    let (p, _) := replyPacket cls op q status side 1020 payload
    { s with cmdq := { s.cmdq with spiReplies := s.cmdq.spiReplies ++ [p] } }
  | .inband port src vid =>
    let (p, _) := replyPacket cls op q status side 2048 payload
    let s := if final then s.keepReply port src vid q.tag p else s
    s.queueOwn port (s.ethPort port).defTc (inbandFrame s src.toNat vtag p)
  | .entry src ref _ => s.sendTo src (.reply ⟨ref, src, op, status, side, payload⟩)
  | .mirror ref _ => if final then (s.markMissed op q status).send .mitre (.confirm ref (status == St.ok)) else s
  | .internal =>
    if final then { s with upd := { s.upd with apply := s.upd.apply.map (fun a => applyCount a q.tag.toNat status) } }
    else s
  | .own => s

/-- A failure of a command with NO_REPLY (R34). -/
def State.noReplyFail (s : State) (op : Nat) (q : Request) (status : Nat) : State :=
  if status = St.ok then s
  else (s.cnt Reg.cmdqNoreplyFailCount 1).event 0x02 0x01 0 q.tag (w32 (status + op % 2 ^ 16 * 2 ^ 16))

/-- A sealed command was turned away for presence or for its transport (R67, R69). -/
def State.sealedCount (s : State) (status : Nat) : State :=
  if status = St.presenceRequired ∨ status = St.sealedTransport then s.cnt Reg.cmdqSealedRefusedCount 1 else s

/-- This side's SIDE flag in a reply (Table 2.3): set by the follow side for a command sent to both sides, by the role in which it
started the command. -/
def State.sideFlag (s : State) (q : Request) : Bool :=
  match s.cmdOf q with
  | some c => c.side
  | none => q.side == 2 && s.isFollow

/-- An operation that the lead has mirrored to this side. -/
def Request.mirrored (q : Request) : Bool :=
  match q.stream with
  | .mirror _ _ => true
  | _ => false

/-- Where the lead has put a mirrored operation. -/
def Request.places (q : Request) : List Nat :=
  match q.stream with
  | .mirror _ p => p
  | _ => []

/-- The opcode that the model gives the mailbox's WRITE_ENTRY, which has none. -/
abbrev Op.writeEntry : Nat := 0

/-- Operations that count for the running request of the action mailbox. -/
def State.mailboxOps (s : State) (n : Nat) : State :=
  { s with coh := { s.coh with mailbox := s.coh.mailbox.map (fun m => { m with ops := m.ops + n }) } }

/-- An INTERNAL_FAULT that is reported counts against the health of the firmware on trial (R496). -/
def State.noteFault (s : State) (status : Nat) : State :=
  if status = St.internalFault then { s with sec := { s.sec with internalFault := true } } else s

/-- A result of the action mailbox (R245, R247): STATUS with the flags of word 0, RINDEX and ROPS. A final one ends the
request. -/
def State.mailboxResult (s : State) (status : Nat) (w : List Word) : State :=
  let s := (s.noteFault status).wr Reg.cohereActResult (w32 (status + (wd w 0).toNat))
  let s := (s.wr Reg.cohereActRindex (wd w 1)).wr Reg.cohereActRops (wd w 2)
  if status = St.pending then s else { s with coh := { s.coh with mailbox := none } }

/-- The PENDING reply of a command (R33): PLEN 0, and none with NO_REPLY. -/
def State.replyPending (s : State) (op : Nat) (q : Request) : State :=
  if op = Op.writeEntry ∧ ¬ q.mirrored then s.mailboxResult St.pending [] else
  let c := s.cmdOf q
  let s := c.elim s (fun c => s.updCmd c.id (fun c => { c with phase := .pending }))
  if q.noReply then s
  else s.toStream (c.elim 0 (·.id)) (classOf op) op q (c.bind (·.buf)) (c.bind (·.vtag)) (c.any (·.mute)) St.pending (s.sideFlag q) false []

/-- A reply of the command waits in the queue pair of its stream. -/
def State.replyHeld (s : State) (c : Cmd) : Bool :=
  match c.q.stream with
  | .pcie n => (s.pair n).held.any (fun r => r.cmd == c.id)
  | _ => false

/-- A command has ended here. It is outstanding until its last final reply has been sent (R62, R66): on a queue pair until the
completion has been posted. -/
def State.closeCmd (s : State) (q : Request) : State :=
  match s.cmdOf q with
  | none => s
  | some c =>
    if 1 < c.finals then s.updCmd c.id (fun c => { c with finals := c.finals - 1 })
    else if s.replyHeld c then s.updCmd c.id (fun c => { c with phase := .replied })
    else
      let s := { s with cmdq := { s.cmdq with cmds := s.cmdq.cmds.filter (fun d => d.id != c.id) } }
      match q.stream with
      | .pcie n => s.pairSettle n
      | _ => s

/-- The final reply of a command with the SIDE flag given (R32, R34, R35). -/
def State.replyFrom (s : State) (op : Nat) (q : Request) (status : Nat) (side : Bool) (payload : List Word) : State :=
  if op = Op.writeEntry ∧ ¬ q.mirrored then s.mailboxResult status payload else
  let s := s.sealedCount status
  let s := s.noteFault status
  let c := s.cmdOf q
  let s := if q.noReply then s.noReplyFail op q status
    else s.toStream (c.elim 0 (·.id)) (classOf op) op q (c.bind (·.buf)) (c.bind (·.vtag)) (c.any (·.mute)) status side true payload
  s.closeCmd q

/-- The final reply of a command that this device executed. The lead of a twin holds the reply of a mirrored operation
back until the follow side has confirmed it (R270). -/
def State.reply (s : State) (op : Nat) (q : Request) (status : Nat) (payload : List Word) : State :=
  let mine (m : MirrorWait) : Bool := m.op == op && m.q == q && m.final.isNone
  if s.twin.mirrors.any mine then
    let ms := mapFirst mine (fun m => { m with final := some (status, payload) }) s.twin.mirrors
    { s with twin := { s.twin with mirrors := ms } }
  else s.replyFrom op q status (s.sideFlag q) payload

/-- How the body of a command ends: with its final reply; with PENDING and a wait for a later event, with what is known
of the payload; with PENDING and a wait that the body has recorded; or with no reply yet. -/
inductive CmdEnd where
  | final (status : Nat) (payload : List Word)
  | pend (on : WaitOn) (payload : List Word)
  | pendElse
  | quiet
deriving DecidableEq, Repr

/-- A command that ends with a status and no payload. -/
def fin (st : Nat) : CmdEnd := .final st []

/-- Record that the final reply of a command waits. -/
def State.wait (s : State) (on : WaitOn) (op : Nat) (q : Request) (status : Nat) (payload : List Word) : State :=
  { s with cmdq := { s.cmdq with waiters := s.cmdq.waiters ++ [⟨on, op, q, status, payload⟩] } }

/-- Give the final replies that wait for `on`; `f` says what each one is. -/
def State.wakeWith (s : State) (on : WaitOn) (f : Waiter → Nat × List Word) : State :=
  let ws := s.cmdq.waiters.filter (fun w => w.on == on)
  let s := { s with cmdq := { s.cmdq with waiters := s.cmdq.waiters.filter (fun w => w.on != on) } }
  ws.foldl (fun s w => s.reply w.op w.q (f w).1 (f w).2) s

/-- Give the final replies that wait for `on`, with a status and a payload. -/
def State.wake (s : State) (on : WaitOn) (status : Nat) (payload : List Word) : State :=
  s.wakeWith on (fun _ => (status, payload))

/-- Some command waits for `on`. -/
def State.waits (s : State) (on : WaitOn) : Bool := s.cmdq.waiters.any (fun w => w.on == on)

/-- This device mirrors its changes: the lead side of a twin that is not DIVERGED (R270). -/
def State.mirroring (s : State) : Bool := s.twin.formed && !s.twin.diverged && s.twin.config == some false

/-- This device refuses mirrored commands and named glue-ups: the follow side of a twin that is not DIVERGED
(R172, R269, R270). -/
def State.followRefuses (s : State) : Bool := s.twin.formed && !s.twin.diverged && s.twin.config == some true

/-- The follow side refuses a request that the lead has not mirrored to it. -/
def State.refuses (s : State) (q : Request) : Bool := s.followRefuses && !q.mirrored

/-- FOLLOW_SIDE (Table 5.8).
DESIGN CHOICE: log entry 25. -/
abbrev St.followSide : Nat := 0x0530

/-- Carry a change to the follow side (R270) as an opcode and the parameter words given, with the glue-up in bits [15:8] of
word 0, and with the place that the lead has given it. `q` is the request whose final reply waits for the confirmation. -/
def State.mirrorAt (s : State) (op : Nat) (q : Request) (glue : Nat) (ws : List Word) (places : List Nat) : State :=
  if ¬ (s.mirroring ∨ s.twin.resync.any (·.source)) then s
  else
    let words := match ws with
      | [] => []
      | w :: ws => (if glue = 0 then w else merge w (w32 (glue * 256)) 0xFF00) :: ws
    let ref := s.twin.nextRef
    let s := s.send .mitre (.mirror ⟨ref, op, places, words⟩)
    { s with twin := { s.twin with nextRef := ref + 1, mirrors := s.twin.mirrors ++ [⟨ref, op, q, glue, none⟩] } }

/-- Carry a change that has no place of its own. -/
def State.mirrorAs (s : State) (op : Nat) (q : Request) (glue : Nat) (ws : List Word) : State := s.mirrorAt op q glue ws []

/-- Carry a change to the follow side with the request's own words.
DESIGN CHOICE: log entry 26. -/
def State.mirror (s : State) (op : Nat) (q : Request) (glue : Nat) : State := s.mirrorAs op q glue q.words

/-- The opcodes that a boot ROM in recovery takes (R508). -/
def recoveryOp (op : Nat) : Bool :=
  [Op.identify, Op.echo, Op.updateChunk, Op.updateVerify, Op.updateActivate, Op.updateStatus].contains op

/-- A sealed command that starts now would be refused: no presence window is open (R67). -/
def State.sealedRefused (s : State) (op : Nat) : Bool := classOf op == 15 && !s.presence && !s.pwr.recovery

/-- The checks at the target device that hold for every command (R40, R67, R385, R473, R508); 0 when they pass. Presence counts
at the start of a command: one that has a record has passed it when it started (R68). -/
def State.targetChecks (s : State) (op : Nat) (q : Request) : Nat :=
  if s.pwr.recovery ∧ ¬ recoveryOp op then St.recoveryMode
  else if (s.cmdOf q).isNone ∧ s.sealedRefused op then St.presenceRequired
  else if s.lifeCycle = 5 ∧ classOf op ≠ 0 then St.lcRefused
  else if s.pwr.entry.isSome ∧ classOf op ≠ 0 then St.powerBusy
  else 0

/-- Whether the firmware executes the command now: it runs, and the command, where it was accepted through a
transport, has started (R44, R61). -/
def State.mayRun (s : State) (q : Request) : Bool :=
  s.coreUp && s.pwr.fwReady && (s.cmdOf q).all (fun c => c.phase == .running)

/-- How a command's body ends it. -/
def endCmd (op : Nat) (q : Request) : State × CmdEnd → State
  | (t, .final st w) => t.reply op q st w
  | (t, .pend on w) => (t.replyPending op q).wait on op q St.ok w
  | (t, .pendElse) => t.replyPending op q
  | (t, .quiet) => t

/-- The run of a started command: the length, FLAGS and TARGET checks (R40, R534), the checks at the target device,
and then its own body.
DESIGN CHOICE: log entry 7. -/
def runCmd (op : Nat) (q : Request) (body : State → Request → State × CmdEnd) (s : State) : State :=
  if ¬ s.mayRun q then s
  else if ¬ plenOk op q.words.length (maxWords q.stream) then s.reply op q St.badLength []
  else if envelope (classOf op) q ≠ 0 then s.reply op q (envelope (classOf op) q) []
  else if s.targetChecks op q ≠ 0 then s.reply op q (s.targetChecks op q) []
  else endCmd op q (body s q)

end Sys2Proof.Machine
end

