-- ==== Sys2Proof/Machine/Epoch.lean ====
section
/-! DEFINITION. Epochs in flight (R142, R143), visibility (R146) and versioned objects (R149). -/

namespace Sys2Proof.Machine

/-- The age of epoch number `x` (R142). -/
def State.ageOf (s : State) (x : BitVec 3) : Nat := epochAge s.glue.c x

/-- The in-flight count of an epoch number (R143): frames stamped with it and searches granted in it that have not
been delivered. A host search of LS is delivered within its own command. -/
def State.inflightCount (s : State) (x : BitVec 3) : Nat :=
  (s.sw.frames.filter (fun f => f.counted && f.epoch == x)).length + (s.fab.jobs.filter (fun j => j.granted == some x)).length

/-- The epoch is in flight: it is current, or its count is not zero (R143). -/
def State.inflight (s : State) (x : BitVec 3) : Bool := x == s.glue.c || s.inflightCount x != 0

/-- The eight epoch numbers. -/
def epochs : List (BitVec 3) := [0, 1, 2, 3, 4, 5, 6, 7]

/-- The oldest epoch in flight, O (R143). -/
def State.oldest (s : State) : BitVec 3 :=
  (epochs.filter s.inflight).foldl (fun o x => if s.ageOf o < s.ageOf x then x else o) s.glue.c

/-- The in-flight mask, bit x for epoch number x.
DEDUCED: log entry 175. -/
def State.inflightMask (s : State) : Nat := bitmap ((epochs.filter s.inflight).map (·.toNat))

/-- An object in state `st` with BIRTH and DEATH is visible in epoch `e` (Table 5.1). -/
def State.visible (s : State) (st : RowState) (birth death e : BitVec 3) : Bool :=
  match st with
  | .live => decide (s.ageOf e ≤ s.ageOf birth)
  | .dying => decide (s.ageOf e ≤ s.ageOf birth) && decide (s.ageOf death < s.ageOf e)
  | _ => false

/-- The object is visible in some epoch still in flight. -/
def State.visibleSome (s : State) (st : RowState) (birth death : BitVec 3) : Bool :=
  (epochs.filter s.inflight).any (fun e => s.visible st birth death e)

/-- The version of an object that epoch `e` uses: the newest one born at `e` or before (R149). -/
def State.verAt {α : Type} (s : State) (vs : List (Ver α)) (e : BitVec 3) : Option α :=
  (vs.find? (fun v => decide (s.ageOf e ≤ s.ageOf v.birth))).map (·.val)

/-- The version of the current epoch. -/
def State.verNow {α : Type} (s : State) (vs : List (Ver α)) : Option α := s.verAt vs s.glue.c

/-- Drop the versions that are retired: those whose successor is no younger than the oldest epoch in flight (R149).
DESIGN CHOICE: log entry 38. -/
def dropRetired {α : Type} (old : BitVec 3 → Bool) : List (Ver α) → List (Ver α)
  | [] => []
  | v :: vs => if old v.birth then [v] else v :: dropRetired old vs

/-- The versions not yet retired. -/
def State.liveVers {α : Type} (s : State) (vs : List (Ver α)) : List (Ver α) :=
  dropRetired (fun b => decide (s.ageOf s.oldest ≤ s.ageOf b)) vs

/-- What a rewrite cycle makes of an object's versions: retired ones go, and an old BIRTH settles at O (Table 5.2). `next`
is a version that takes effect for the epoch `c'`; where it is an object's first, `first` is what it replaces, which the epochs in flight go
on using (R95, R149). -/
def State.rewriteVers {α : Type} (s : State) (vs : List (Ver α)) (first : Option α) (next : Option α) (c' : BitVec 3) : List (Ver α) :=
  let o := s.oldest
  let vs := if vs.isEmpty ∧ next.isSome then (first.map (⟨o, ·⟩)).toList else vs
  let vs := (s.liveVers vs).map (fun v => if s.ageOf o < s.ageOf v.birth then { v with birth := o } else v)
  match next with
  | none => vs
  | some x => ⟨c', x⟩ :: vs

/-- A replaced version waits for reclamation and its death epoch, the successor's birth, is current (R145). -/
def State.versWait {α : Type} (s : State) (vs : List (Ver α)) : Bool :=
  match s.liveVers vs with
  | v :: _ :: _ => v.birth == s.glue.c
  | _ => false

end Sys2Proof.Machine
end

