-- ==== Sys2Proof/Machine/Cohere.lean ====
section
/-! DEFINITION. Action memory and the coherence network (R224 to R244): homes and directories, caches, the messages
between them, dead agents, poison, and the atomic operations on counter lines. -/

namespace Sys2Proof.Machine

/-! ## Lines (R224, R225) -/

/-- Replace this part of the state. -/
def State.setCoh (s : State) (c : CohSt) : State := { s with coh := c }

/-- The home slice of a line. -/
def homeOf (l : Nat) : Nat := l % 32

/-- The directory key of way `w` of the set of a line. -/
def wayKey (l w : Nat) : Nat := 16 * (64 * homeOf l + l / 32 % 64) + w

/-- The line is in action memory. -/
def lineValid (l : Nat) : Bool := decide (l < 2 ^ 19)

/-- The line is in the counter region in force. -/
def State.ctrLine (s : State) (l : Nat) : Bool := decide (s.coh.ctrBase ≤ l) && decide (l < s.coh.ctrBase + s.coh.ctrLines)

/-- A line as memory holds it. -/
def State.memLine (s : State) (l : Nat) : List Word := (List.range 16).map (fun i => smGet 0 s.coh.mem (16 * l + i))

/-- The map with words written from key `k` on. -/
def putWords (m : SMap Word) (k : Nat) : List Word → SMap Word
  | [] => m
  | w :: ws => putWords (smSet 0 m k w) (k + 1) ws

/-- The POISON bit of a line. -/
def State.poisoned (s : State) (l : Nat) : Bool := smGet false s.coh.poison l

/-- Set or clear the POISON bit of a line. -/
def State.setPoison (s : State) (l : Nat) (b : Bool) : State :=
  s.setCoh { s.coh with poison := smSet false s.coh.poison l b }

/-- Write all 64 bytes of a line, which clears its POISON bit (R241). -/
def State.setMemLine (s : State) (l : Nat) (ws : List Word) : State :=
  (s.setCoh { s.coh with mem := putWords s.coh.mem (16 * l) ((List.range 16).map (wd ws)) }).setPoison l false

/-! ## Directory and caches (R226, R229) -/

/-- The ways of a line's set that are in use. -/
def State.waysOf (s : State) (l : Nat) : List (Nat × DirEntry) :=
  (List.range 16).filterMap (fun w =>
    let e := smGet dir0 s.coh.dir (wayKey l w)
    if e.dstate == .unused then none else some (wayKey l w, e))

/-- The directory entry of a line, with its key. -/
def State.dirOf (s : State) (l : Nat) : Option (Nat × DirEntry) := (s.waysOf l).find? (fun x => x.2.line == l)

/-- Store a directory entry. -/
def State.setDir (s : State) (k : Nat) (e : DirEntry) : State :=
  s.setCoh { s.coh with dir := smSet dir0 s.coh.dir k e }

/-- Every way of the line's set is pinned (R238). -/
def State.setPinned (s : State) (l : Nat) : Bool := ((s.waysOf l).filter (fun x => x.2.pin != 0)).length == 16

/-- An unused way of the line's set. -/
def State.freeWay (s : State) (l : Nat) : Option Nat :=
  ((List.range 16).map (wayKey l)).find? (fun k => (smGet dir0 s.coh.dir k).dstate == .unused)

/-- A directory entry for a line, allocated now. -/
def State.putDir (s : State) (k l : Nat) (d : DirState) (owner : Nat) (sharers : BitVec 12) (pin : Nat) : State :=
  let s := s.setDir k ⟨l, d, BitVec.ofNat 4 owner, sharers, BitVec.ofNat 8 pin, false, s.coh.order⟩
  s.setCoh { s.coh with order := s.coh.order + 1 }

/-- One agent as a SHARERS field. -/
def sharer (a : Nat) : BitVec 12 := BitVec.ofNat 12 (2 ^ a)

/-- The agents of a SHARERS field. -/
def sharersOf (b : BitVec 12) : List Nat := (List.range 12).filter (fun a => b.getLsbD a)

/-- The agents that the directory lists for a line with an owner. -/
def DirEntry.owned (e : DirEntry) : Bool := e.dstate == .excl || e.dstate == .owned

/-- An entry without its owner: SHARED where sharers or a pin remain, unused otherwise.
DESIGN CHOICE: log entry 78. -/
def DirEntry.orphan (e : DirEntry) : DirEntry :=
  if e.sharers = 0 ∧ e.pin = 0 then dir0 else { e with dstate := .shared, owner := 0 }

/-- The key of a line in an agent's cache. -/
def cacheKey (a l : Nat) : Nat := 2 ^ 19 * a + l

/-- A line in an agent's cache. -/
def State.cached (s : State) (a l : Nat) : CacheLine := smGet line0 s.coh.caches (cacheKey a l)

/-- Store a line in an agent's cache. -/
def State.setCached (s : State) (a l : Nat) (c : CacheLine) : State :=
  s.setCoh { s.coh with caches := smSet line0 s.coh.caches (cacheKey a l) c }

/-- An agent drops a line. -/
def State.uncache (s : State) (a l : Nat) : State := s.setCached a l line0

/-- Sets of an agent's cache (Table 7.2). -/
def cacheSets (a : Nat) : Nat := if a < 8 then 128 else 64

/-- The cache holds dirty data in this state (Table 7.3). -/
def Moesi.dirty : Moesi → Bool
  | .m => true
  | .o => true
  | _ => false

/-- The cache supplies data on a forward in this state (Table 7.3). -/
def Moesi.supplies : Moesi → Bool
  | .m => true
  | .o => true
  | .e => true
  | _ => false

/-- Agent `a` has failed (R239). -/
def State.agentFailed (s : State) (a : Nat) : Bool := s.coh.failed.getLsbD a

/-- Agent `a` is power-gated (R228). -/
def State.agentGated (s : State) (a : Nat) : Bool := s.coh.gated.getLsbD a

/-- The agent or home (16 + its number) that a message goes to. -/
def CohMsg.dest : CohMsg → Nat
  | .fwdS a _ _ | .fwdM a _ _ | .fwdNa a _ _ | .inv a _ | .recall a _ => a
  | .nack a _ _ _ | .err a _ | .data a _ _ _ _ | .grant a _ _ | .atomicRes a _ _ _ _ => a
  | .invAck _ l | .fwdDone _ l | .fwdMiss _ l | .wb _ l _ | .request _ l _ | .atomic _ l _ => 16 + homeOf l

/-- The agent that a message comes from or goes to. -/
def CohMsg.agent : CohMsg → Nat
  | .fwdS a _ _ | .fwdM a _ _ | .fwdNa a _ _ | .inv a _ | .recall a _ => a
  | .nack a _ _ _ | .err a _ | .data a _ _ _ _ | .grant a _ _ | .atomicRes a _ _ _ _ => a
  | .invAck a _ | .fwdDone a _ | .fwdMiss a _ | .wb a _ _ | .request a _ _ | .atomic a _ _ => a

/-- The line of a message. -/
def CohMsg.line : CohMsg → Nat
  | .fwdS _ l _ | .fwdM _ l _ | .fwdNa _ l _ | .inv _ l | .recall _ l => l
  | .nack _ l _ _ | .err _ l | .data _ l _ _ _ | .grant _ l _ | .atomicRes _ l _ _ _ => l
  | .invAck _ l | .fwdDone _ l | .fwdMiss _ l | .wb _ l _ | .request _ l _ | .atomic _ l _ => l

/-- The class of a message: 0 DAT, 1 RSP, 2 FWD, 3 REQ (R230). -/
def CohMsg.cls : CohMsg → Nat
  | .data .. | .grant .. | .wb .. | .atomicRes .. => 0
  | .invAck .. | .fwdDone .. | .fwdMiss .. | .nack .. | .err .. => 1
  | .fwdS .. | .fwdM .. | .fwdNa .. | .inv .. | .recall .. => 2
  | .request .. | .atomic .. => 3

/-- Take a message off the network. -/
def State.offNet (s : State) (n : NetMsg) : State := s.setCoh { s.coh with net := s.coh.net.erase n }

/-- The writeback of a line by an agent that is in flight. -/
def State.wbOf (s : State) (a l : Nat) : Option (List Word) :=
  s.coh.net.findSome? (fun n => match n.msg with
    | .wb b k ws => if b = a ∧ k = l then some ws else none
    | _ => none)

/-- The most recent tie of a class at a home. -/
def State.tieOf (s : State) (d c : Nat) : Tie := smGet tie0 s.coh.ties (4 * d + c)

/-- Where a message stands in the input order of its destination (R232): the cycle first, and at a home then DAT before RSP before REQ,
and the agents in their rotated order. -/
def State.inputRank (s : State) (n : NetMsg) : Nat :=
  let d := n.msg.dest
  if d < 16 then n.due * 64
  else n.due * 64 + 16 * n.msg.cls + (n.msg.agent + 31 - (s.tieOf d n.msg.cls).first) % 16

/-- The message that is taken first when `m` is to be taken: at a home the first in its input order (R232), at an agent the first of its
class and sender (R231).
DESIGN CHOICE: log entry 216. -/
def State.turn (s : State) (m : CohMsg) : Option NetMsg :=
  (s.coh.net.find? (fun n => n.msg == m)).bind (fun n =>
    (sortBy s.inputRank (s.coh.net.filter (fun x => x.msg.dest == m.dest && decide (x.due ≤ n.due) &&
      (decide (16 ≤ m.dest) || (x.src == n.src && x.msg.cls == m.cls))))).head?)

/-- Note which agent comes first where several messages of one class meet at a home in one cycle (R232). -/
def State.noteTie (s : State) (n : NetMsg) : State :=
  let d := n.msg.dest
  let c := n.msg.cls
  if d < 16 ∨ (s.tieOf d c).cycle = n.due + 1 ∨
      (s.coh.net.filter (fun x => x.msg.dest == d && x.msg.cls == c && x.due == n.due)).length < 2 then s
  else s.setCoh { s.coh with ties := smSet tie0 s.coh.ties (4 * d + c) ⟨n.due + 1, n.msg.agent⟩ }

/-- What a line holds for every agent: the owner's copy unless the owner has failed (R239), a writeback in flight, or memory. -/
def State.lineWords (s : State) (l : Nat) : List Word :=
  match [8, 9, 10, 11].find? (fun a => (s.cached a l).state.dirty && !s.agentFailed a) with
  | some a => (s.cached a l).words
  | none => ([8, 9, 10, 11].findSome? (fun a => s.wbOf a l)).getD (s.memLine l)

/-! ## Poison (R240) -/

/-- A use of a poisoned line by an agent: counted, and entered under the suppression rule. -/
def State.usePoison (s : State) (a l : Nat) : State :=
  (s.cnt Reg.coherePoisonUseCount 1).eventSup 0x06 0x02 0 (w32 (l + homeOf l * 2 ^ 24)) (w32 a) [l]
    Reg.arrayEventSuppressCount

/-- A use of a line by an agent; a poisoned line is noted. -/
def State.useLine (s : State) (a l : Nat) : State := if s.poisoned l then s.usePoison a l else s

/-! ## Home transactions (R232 to R239) -/

/-- The transaction that is open on a line and waits for other agents. -/
def State.transOf (s : State) (l : Nat) : Option CohTrans := s.coh.trans.find? (fun t => t.line == l)

/-- A transaction of the line is open: it waits for other agents, or DATA or GRANT from the home has not left yet (R233). -/
def State.lineBusy (s : State) (l : Nat) : Bool := (s.transOf l).isSome || decide (s.clk.age < smGet 0 s.coh.closing l)

/-- BUSY of a line's directory entry. -/
def State.setBusy (s : State) (l : Nat) (b : Bool) : State :=
  (s.dirOf l).elim s (fun x => s.setDir x.1 { x.2 with busy := b })

/-- Open a transaction. -/
def State.openTrans (s : State) (t : CohTrans) : State :=
  (s.setCoh { s.coh with trans := s.coh.trans ++ [t] }).setBusy t.line true

/-- Remove the transaction of a line. -/
def State.endTrans (s : State) (l : Nat) : State :=
  (s.setCoh { s.coh with trans := s.coh.trans.filter (fun t => t.line != l) }).setBusy l false

/-- Change the transaction of a line. -/
def State.updTrans (s : State) (l : Nat) (f : CohTrans → CohTrans) : State :=
  s.setCoh { s.coh with trans := s.coh.trans.map (fun t => if t.line = l then f t else t) }

/-- A home sends a message that leaves `d` cycles from now; nothing more goes to a failed agent (R233, R239). -/
def State.homeSend (s : State) (d : Nat) (m : CohMsg) : State :=
  if s.agentFailed m.dest then s else s.cohPut (16 + homeOf m.line) d m

/-- A home sends messages that leave in the next cycle. -/
def State.homeSendAll (s : State) (ms : List CohMsg) : State := ms.foldl (fun s m => s.homeSend 1 m) s

/-- A home sends DATA or GRANT, and the transaction closes as the message leaves. -/
def State.closeWith (s : State) (d : Nat) (m : CohMsg) : State :=
  let s := s.homeSend d m
  s.setCoh { s.coh with
    closing := smSet 0 (s.coh.closing.filter (fun x => decide (s.clk.age < x.2))) m.line (s.clk.age + d) }

/-- The victim of the line's set: the least recently allocated way that is neither BUSY nor pinned (R236). -/
def State.victimWay (s : State) (l : Nat) : Option (Nat × DirEntry) :=
  ((s.waysOf l).filter (fun x => !x.2.busy && !s.lineBusy x.2.line && x.2.pin == 0)).foldl (fun b x => match b with
    | none => some x
    | some y => if x.2.order < y.2.order then some x else some y) none

/-- The reservations of a home. -/
def State.seniorsAt (s : State) (h : Nat) : List Senior := s.coh.seniors.filter (fun x => homeOf x.line == h)

/-- The oldest reservation of a line (R234). -/
def State.seniorOf (s : State) (l : Nat) : Option Senior := s.coh.seniors.find? (fun x => x.line == l)

/-- Enter a senior reservation for a request that has received its fourth NACK or a later one, or let a standing one
begin its microsecond again (R234). -/
def State.reserve (s : State) (a l k : Nat) : State :=
  if s.coh.seniors.any (fun x => x.line == l && x.agent == a) then
    s.setCoh { s.coh with
        seniors := s.coh.seniors.map (fun x => if x.line = l ∧ x.agent = a then { x with at_ := s.clk.age } else x) }
  else if k < 4 then s
  else if 16 ≤ (s.seniorsAt (homeOf l)).length then (if k = 4 then s.cnt Reg.cohereSeniorFullCount 1 else s)
  else (s.setCoh { s.coh with seniors := s.coh.seniors ++ [⟨l, a, s.clk.age⟩] }).cnt Reg.cohereSeniorCount 1

/-- A home NACKs the `k`th time a request of an agent (R234). -/
def State.noteNack (s : State) (a l k : Nat) : State :=
  ((s.cnt Reg.cohereNackCount 1).cnt (Reg.cohereHomeNack (homeOf l)) 1).reserve a l k

/-- NACK a request that is to come again (R234); `pinned` for a fully pinned set (R238). -/
def State.nackReq (s : State) (r : CohReq) (pinned : Bool) : State :=
  let k := r.nacks + 1
  let s := s.setCoh { s.coh with
    reqs := s.coh.reqs.map (fun x => if x.agent = r.agent ∧ x.line = r.line then { x with nacks := k } else x) }
  (s.noteNack r.agent r.line k).homeSend 1 (.nack r.agent r.line (min k 4) pinned)

/-- Refuse a request with ERR (R233). -/
def State.errReq (s : State) (a l : Nat) : State := s.cohPut (16 + homeOf l) 1 (.err a l)

/-- Refuse a request that Table 7.6 answers with ERR. -/
def State.ctrErr (s : State) (a l : Nat) : State := (s.errReq a l).cnt Reg.cohereCtrAccessErrCount 1

/-- DATA from memory.
DESIGN CHOICE: log entry 79. -/
def State.supply (s : State) (r : CohReq) (st : Option Moesi) : State :=
  s.closeWith 5 (.data r.agent r.line st (s.poisoned r.line) (s.memLine r.line))

/-- GRANT. -/
def State.giveGrant (s : State) (r : CohReq) : State := s.closeWith 1 (.grant r.agent r.line (s.poisoned r.line))

/-- The state that the home grants to a request where no other copy stands in its way (Table 7.6). -/
def CohReq.granted (r : CohReq) (shared : Bool) : Option Moesi :=
  match r.kind with
  | .getS => some (if shared ∨ r.agent < 8 then .s else .e)
  | .readNa => none
  | _ => some .m

/-- The pin that a request brings: GET_M for a glue-up's copy line (R237). -/
def CohReq.pinOf (r : CohReq) (old : BitVec 8) : BitVec 8 := if r.glue = 0 then old else BitVec.ofNat 8 r.glue

/-- Serve from memory a request whose line has no directory entry, in the way given. -/
def State.allocate (s : State) (r : CohReq) (k : Nat) : State :=
  let st := r.granted false
  let s := if st = some .s then s.putDir k r.line .shared 0 (sharer r.agent) 0
    else s.putDir k r.line .excl r.agent 0 r.glue
  s.supply r st

/-- What a closed transaction leaves of a directory entry for its request (Table 7.6). `miss` says that the owner no longer
held the line. -/
def State.settleDir (s : State) (k : Nat) (e : DirEntry) (r : CohReq) (miss : Bool) : State :=
  match r.kind with
  | .getS =>
    let dirty := !miss && (s.cached e.owner.toNat r.line).state == .o
    let own := if miss || !e.owned then 0 else sharer e.owner.toNat
    if dirty then s.setDir k { e with dstate := .owned, sharers := e.sharers ||| sharer r.agent }
    else s.setDir k { e with dstate := .shared, owner := 0, sharers := e.sharers ||| sharer r.agent ||| own }
  | .readNa => if miss then s.setDir k e.orphan else s
  | _ => s.setDir k { e with dstate := .excl, owner := BitVec.ofNat 4 r.agent, sharers := 0, pin := r.pinOf e.pin }

/-- An eviction begins for a request that needs the way (R236). -/
def State.evictFor (s : State) (r : CohReq) (v : DirEntry) : State :=
  let acks := sharersOf v.sharers
  let owner := if v.owned then [v.owner.toNat] else []
  let s := (s.cnt Reg.cohereDirEvictCount 1).homeSendAll
    (acks.map (fun a => CohMsg.inv a v.line) ++ owner.map (fun a => CohMsg.recall a v.line))
  s.openTrans {
    line := v.line, req := none, acks := acks, fwdFrom := none, wbFrom := owner.head?, grant := false, sent := false
    forSet := some r, since := s.clk.age }

/-- Serve a request whose line has no directory entry: allocate, evict, or NACK (R236, R238). A victim that no cache need
give up is free at once. -/
def State.needWay (s : State) (r : CohReq) : State :=
  match s.freeWay r.line with
  | some k => s.allocate r k
  | none =>
    if s.setPinned r.line then (s.cnt Reg.cohereDirPinNackCount 1).nackReq r true
    else if 2 ≤ (s.coh.trans.filter (fun t => t.forSet.isSome && homeOf t.line == homeOf r.line)).length then s.nackReq r false
    else match s.victimWay r.line with
      | none => s.nackReq r false
      | some (k, v) =>
        if v.sharers = 0 ∧ ¬ v.owned then (((s.cnt Reg.cohereDirEvictCount 1).setDir k dir0).allocate r k)
        else s.evictFor r v

/-- Open the transaction of a request that waits for other agents. -/
def State.awaitFor (s : State) (r : CohReq) (acks : List Nat) (fwd : Option Nat) (grant : Bool) : State :=
  s.openTrans {
    line := r.line, req := some r, acks := acks, fwdFrom := fwd, wbFrom := none, grant := grant, sent := false
    forSet := none, since := s.clk.age }

/-- The home's action on a request for a line with a directory entry (Table 7.6).
DESIGN CHOICE: log entry 75. -/
def State.serveEntry (s : State) (r : CohReq) (k : Nat) (e : DirEntry) : State :=
  let own := e.owner.toNat
  let listed := (e.dstate == .shared && e.sharers.getLsbD r.agent) ||
    (e.dstate == .owned && (e.sharers.getLsbD r.agent || own == r.agent))
  let others := (sharersOf e.sharers).filter (· != r.agent)
  let grant := r.kind == .upgrade && listed
  match r.kind with
  | .getS =>
    if e.owned then (s.homeSend 1 (.fwdS own r.line r.agent)).awaitFor r [] (some own) false
    else (s.settleDir k e r false).supply r (some .s)
  | .readNa =>
    if e.owned then (s.homeSend 1 (.fwdNa own r.line r.agent)).awaitFor r [] (some own) false
    else s.supply r none
  | _ =>
    let acks := if grant ∧ e.dstate = .owned ∧ own ≠ r.agent then others ++ [own] else others
    let invs := acks.map (fun a => CohMsg.inv a r.line)
    if grant then
      if acks.isEmpty then (s.settleDir k e r false).giveGrant r
      else (s.homeSendAll invs).awaitFor r acks none true
    else if e.owned then (s.homeSendAll (CohMsg.fwdM own r.line r.agent :: invs)).awaitFor r acks (some own) false
    else if acks.isEmpty then (s.settleDir k e r false).supply r (some .m)
    else (s.homeSendAll invs).awaitFor r acks none false

/-- The request waits for the writeback of its own agent (R235). -/
def State.holdReq (s : State) (r : CohReq) : State :=
  s.setCoh { s.coh with waiting := s.coh.waiting ++ [⟨r, s.clk.age⟩] }

/-- A home processes a request (R232 to R239). One that comes in the cycle in which a writeback of its line landed is taken in the
next (R235). A request of the recorded owner whose writeback is in flight is held for it. -/
def State.handleReq (s : State) (r : CohReq) : State :=
  let s := if s.coh.lastWb = some (r.line, s.clk.age) then s.advance 1 else s
  if s.agentFailed r.agent then s.errReq r.agent r.line
  else if s.ctrLine r.line ∧ r.kind ≠ .readNa then s.ctrErr r.agent r.line
  else if s.lineBusy r.line then s.nackReq r false
  else if (s.seniorOf r.line).any (fun x => x.agent != r.agent) then s.nackReq r false
  else
    let e := s.dirOf r.line
    let mine := e.any (fun x => x.2.owned && x.2.owner.toNat == r.agent && !(r.kind == .upgrade && x.2.dstate == .owned))
    let writes := r.kind == .getM || r.kind == .upgrade
    if mine ∧ (s.wbOf r.agent r.line).isSome then s.holdReq r
    else if writes ∧ e.any (fun x => x.2.pin != 0 && x.2.pin.toNat != r.glue) then s.nackReq r false
    else
      let s := s.setCoh { s.coh with
        seniors := s.coh.seniors.filter (fun x => !(x.line == r.line && x.agent == r.agent)) }
      match e with
      | some (k, x) => s.serveEntry r k x
      | none => if r.kind = .readNa then s.supply r none else s.needWay r

/-- A transaction closes when nothing is awaited any more (R233, R236). The data, where the owner did not send it, comes
from memory.
DESIGN CHOICE: log entry 77. -/
def State.tryClose (s : State) (l : Nat) : State :=
  match s.transOf l with
  | none => s
  | some t =>
    if t.acks ≠ [] ∨ t.fwdFrom.isSome ∨ t.wbFrom.isSome then s
    else
      let miss := !t.sent
      let s := s.endTrans l
      match t.req, s.dirOf l with
      | some r, some (k, e) =>
        let s := if t.sent then s
          else if t.grant then s.giveGrant r
          else s.supply r (r.granted true)
        s.settleDir k e r miss
      | some r, none =>
        if t.sent then s
        else if t.grant then s.giveGrant r
        else if r.kind = .readNa then s.supply r none
        else (s.freeWay l).elim (s.supply r (r.granted true)) (fun k => s.allocate r k)
      | none, e =>
        let s := e.elim s (fun x => s.setDir x.1 dir0)
        t.forSet.elim s (fun r => s.handleReq r)

/-- A writeback lands at the home, which never refuses it (R235): memory is written, and what waited for it goes on. -/
def State.landWb (s : State) (a l : Nat) (ws : List Word) : State :=
  let s := s.setMemLine l ws
  let s := s.setCoh { s.coh with lastWb := some (l, s.clk.age) }
  let s : State := match s.dirOf l with
    | some (k, e) =>
      if e.owned ∧ e.owner.toNat = a ∧ (s.transOf l).all (fun t => t.wbFrom == none && t.fwdFrom == none)
      then s.setDir k e.orphan else s
    | none => s
  let s := (s.updTrans l (fun t => if t.wbFrom = some a then { t with wbFrom := none } else t)).tryClose l
  let mine := s.coh.waiting.filter (fun x => x.req.agent == a && x.req.line == l)
  let s := s.setCoh { s.coh with waiting := s.coh.waiting.filter (fun x => !(x.req.agent == a && x.req.line == l)) }
  mine.foldl (fun s x => s.handleReq x.req) s

/-- An agent with two writebacks in flight to a home waits until the older has landed (R231). -/
def State.wbRoom (s : State) (a h : Nat) : State :=
  let ws := s.coh.net.filterMap (fun n => match n.msg with
    | .wb b l w => if b = a ∧ homeOf l = h then some (n, l, w) else none
    | _ => none)
  match ws with
  | (n, l, w) :: _ :: _ => ((s.until n.due).offNet n).landWb a l w
  | _ => s

/-- A core cache writes a line back. -/
def State.sendWb (s : State) (a l d : Nat) (ws : List Word) : State :=
  (s.wbRoom a (homeOf l)).cohPut a d (.wb a l ws)

/-- A cache takes a line in a state. A full set gives up its least recently used line: a dirty one is written back.
DESIGN CHOICE: log entry 74. -/
def State.fill (s : State) (a l : Nat) (st : Moesi) (ws : List Word) : State :=
  let sets := cacheSets a
  let inSet := s.coh.caches.filter (fun x => x.1 / 2 ^ 19 == a && x.1 % 2 ^ 19 % sets == l % sets && x.1 % 2 ^ 19 != l)
  let s := if inSet.length < 8 then s
    else match inSet.foldl (fun b x => match b with
        | none => some x
        | some y => if x.2.used < y.2.used then some x else some y) none with
      | none => s
      | some (k, c) =>
        let v := k % 2 ^ 19
        let s := s.uncache a v
        if c.state.dirty then s.sendWb a v 0 c.words else s
  let s := s.setCached a l ⟨st, (List.range 16).map (wd ws), s.coh.order⟩
  s.setCoh { s.coh with order := s.coh.order + 1 }

/-! ## Messages at caches (R228, R233, R235) -/

/-- The agent's own DATA or GRANT for the line is in flight, so it holds a forward or an INV (R233). -/
def State.dataDue (s : State) (a l : Nat) : Bool :=
  s.coh.net.any (fun n => match n.msg with
    | .data b k _ _ _ => b == a && k == l
    | .grant b k _ => b == a && k == l
    | _ => false)

/-- The cycles in which an agent answers: the next one, or at once where its gate controller does (R228, R233). -/
def State.answerIn (s : State) (a : Nat) : Nat := if s.agentGated a then 0 else 1

/-- An agent sends messages in answer. -/
def State.answerAll (s : State) (a : Nat) (ms : List CohMsg) : State :=
  ms.foldl (fun s m => s.cohPut a (s.answerIn a) m) s

/-- An agent acts on a forward or an INV that it has received. -/
def State.obey (s : State) (m : CohMsg) : State :=
  match m with
  | .fwdS o l q =>
    let c := s.cached o l
    if s.agentGated o ∨ ¬ c.state.supplies then s.answerAll o [.fwdMiss o l]
    else
      (s.setCached o l { c with state := if c.state = .e then .s else .o }).answerAll o
        [.data q l (some .s) (s.poisoned l) c.words, .fwdDone o l]
  | .fwdM o l q =>
    let c := s.cached o l
    if s.agentGated o ∨ ¬ c.state.supplies then s.answerAll o [.fwdMiss o l]
    else (s.uncache o l).answerAll o [.data q l (some .m) (s.poisoned l) c.words, .fwdDone o l]
  | .fwdNa o l q =>
    let c := s.cached o l
    if s.agentGated o ∨ ¬ c.state.supplies then s.answerAll o [.fwdMiss o l]
    else s.answerAll o [.data q l none (s.poisoned l) c.words, .fwdDone o l]
  | .recall o l =>
    let c := s.cached o l
    if s.agentGated o ∨ ¬ c.state.supplies then s.answerAll o [.fwdMiss o l]
    else (s.uncache o l).sendWb o l 1 c.words
  | .inv a l => (s.uncache a l).answerAll a [.invAck a l]
  | _ => s

/-- A forward or an INV reaches its agent. -/
def State.heed (s : State) (m : CohMsg) : State :=
  if s.agentFailed m.agent then s
  else if s.dataDue m.agent m.line then s.setCoh { s.coh with held := s.coh.held ++ [m] }
  else s.obey m

/-- The messages that an agent held for its DATA are acted on. -/
def State.releaseHeld (s : State) (a l : Nat) : State :=
  let mine (m : CohMsg) : Bool := m.agent == a && m.line == l
  (s.coh.held.filter mine).foldl State.obey (s.setCoh { s.coh with held := s.coh.held.filter (fun m => !mine m) })

/-! ## Answers at the home -/

/-- A home takes an answer, and closes the transaction if nothing more is awaited. -/
def State.answered (s : State) (l : Nat) (f : CohTrans → CohTrans) : State := (s.updTrans l f).tryClose l

/-- INV_ACK: the agent's SHARERS bit is cleared (R229). -/
def State.tookAck (s : State) (a l : Nat) : State :=
  let s := (s.dirOf l).elim s (fun x => s.setDir x.1 { x.2 with sharers := x.2.sharers &&& ~~~(sharer a) })
  s.answered l (fun t => { t with acks := t.acks.erase a })

/-- FWD_DONE. -/
def State.tookDone (s : State) (a l : Nat) : State :=
  s.answered l (fun t => if t.fwdFrom = some a then { t with fwdFrom := none, sent := true } else t)

/-- FWD_MISS (R235): the home waits for the WB that is on its way. -/
def State.tookMiss (s : State) (a l : Nat) : State :=
  let coming := (s.wbOf a l).map (fun _ => a)
  let now := s.clk.age
  (s.cnt Reg.cohereWbCrossCount 1).answered l (fun t =>
    if t.fwdFrom = some a then { t with fwdFrom := none, wbFrom := coming, since := now }
    else if t.wbFrom = some a then { t with wbFrom := coming, since := now } else t)

/-! ## Atomic operations (R243, R244, R310, R311) -/

/-- A counter word. -/
def State.ctrWord (s : State) (l w : Nat) : DWord :=
  BitVec.ofNat 64 ((smGet 0 s.coh.mem (16 * l + 2 * w)).toNat + 2 ^ 32 * (smGet 0 s.coh.mem (16 * l + 2 * w + 1)).toNat)

/-- The eight words of a counter line. -/
def State.ctrWords (s : State) (l : Nat) : List DWord := (List.range 8).map (s.ctrWord l)

/-- Write a counter word. -/
def State.setCtr (s : State) (l w : Nat) (v : DWord) : State :=
  s.setCoh { s.coh with mem := putWords s.coh.mem (16 * l + 2 * w) (toWords 2 v.toNat) }

/-- Addition that holds at all ones. -/
def satAdd (x y : DWord) : DWord := BitVec.ofNat 64 (min (2 ^ 64 - 1) (x.toNat + y.toNat))

/-- Units of a bucket in a byte (Table 9.5). -/
def bucketUnit : Nat := 8000000

/-- The policer update of R311: the result colour (0 green, 1 yellow, 2 red) and the eight words it leaves. -/
def meterLine (p : Policer) (ws : List DWord) (bytes colour now : Nat) : Nat × List DWord :=
  let w (i : Nat) : Nat := (ws.getD i 0).toNat
  let dt := if now < w 2 then 0 else now - w 2
  let c := min (w 0 + p.cir * dt) (p.cbs * bucketUnit)
  let x := min (w 1 + p.pir * dt) (p.pbs * bucketUnit)
  let len := ((bytes : Int) + p.lenAdj).toNat
  let n := len * bucketUnit
  let inp := if p.aware then colour else 0
  let (res, c, x) :=
    if ¬ p.rfc4115 then
      if inp = 2 ∨ x < n then (2, c, x)
      else if inp = 1 ∨ c < n then (1, c, x - n)
      else (0, c - n, x - n)
    else if inp = 0 ∧ n ≤ c then (0, c - n, x)
    else if inp ≠ 2 ∧ n ≤ x then (1, c, x - n)
    else (2, c, x)
  let inc (i k : Nat) : DWord := satAdd (ws.getD i 0) (BitVec.ofNat 64 k)
  let counts := match res with
    | 0 => [inc 3 1, inc 4 len, ws.getD 5 0, ws.getD 6 0, ws.getD 7 0]
    | 1 => [ws.getD 3 0, ws.getD 4 0, inc 5 1, inc 6 len, ws.getD 7 0]
    | _ => [ws.getD 3 0, ws.getD 4 0, ws.getD 5 0, ws.getD 6 0, inc 7 1]
  (res, [BitVec.ofNat 64 c, BitVec.ofNat 64 x, BitVec.ofNat 64 now] ++ counts)

/-- The policer settings that epoch `e` uses (R313). -/
def State.policerAt (s : State) (p : Nat) (e : BitVec 3) : Policer :=
  (s.verAt (smGet versioned0 s.sw.policers p).vers e).getD policer0

/-- Write the eight words of a counter line. -/
def State.setCtrLine (s : State) (l : Nat) (ws : List DWord) : State :=
  (List.range 8).foldl (fun s i => s.setCtr l i (ws.getD i 0)) s

/-- An atomic operation on a counter line (Table 7.7): the state after it, what it returns, and the colour of METER. -/
def State.atomicDo (s : State) (l : Nat) (op : AtomicOp) : State × List DWord × Nat :=
  match op with
  | .add w a => (s.setCtr l w (satAdd (s.ctrWord l w) a), [s.ctrWord l w], 0)
  | .add2 w a b =>
    let w := w.val / 2 * 2
    ((s.setCtr l w (satAdd (s.ctrWord l w) a)).setCtr l (w + 1) (satAdd (s.ctrWord l (w + 1)) b),
      [s.ctrWord l w, s.ctrWord l (w + 1)], 0)
  | .swap w v => (s.setCtr l w v, [s.ctrWord l w], 0)
  | .cas w x v => (if s.ctrWord l w = x then s.setCtr l w v else s, [s.ctrWord l w], 0)
  | .readLine => (s, s.ctrWords l, 0)
  | .clearLine => (s.setCtrLine l (List.replicate 8 0), s.ctrWords l, 0)
  | .meter p e bytes colour =>
    let (res, ws) := meterLine (s.policerAt p.toNat e) (s.ctrWords l) bytes colour.val s.dtNs
    (s.setCtrLine l ws, ws, res)

/-- The home of a line starts an atomic operation once it has started the one before, at most one per CCLK (R244). -/
def State.atomicSlot (s : State) (l : Nat) : State :=
  let s := s.until (smGet 0 s.coh.atomicAt (homeOf l))
  s.setCoh { s.coh with atomicAt := smSet 0 s.coh.atomicAt (homeOf l) (s.clk.age + 1) }

/-- A home carries out an atomic operation of an agent, with its count; none where the line is poisoned, which is then noted as a use
by the agent. -/
def State.atomicAct (s : State) (a l : Nat) (op : AtomicOp) : State × Option (List DWord × Nat) :=
  let s := s.atomicSlot l
  if s.poisoned l then (s.usePoison a l, none)
  else
    let (t, ws, c) := (s.cnt Reg.cohereAtomicCount 1).atomicDo l op
    (t, some (ws, c))

/-- An atomic operation of the device's own, none where it is refused with ERR (R239) or the line is poisoned. -/
def State.atomicBy (s : State) (a l : Nat) (op : AtomicOp) : State × Option (List DWord × Nat) :=
  if s.agentFailed a then (s, none) else s.atomicAct a l op

/-- ATOMIC at its home (Table 7.6). -/
def State.handleAtomic (s : State) (a l : Nat) (op : AtomicOp) : State :=
  if s.agentFailed a then s.errReq a l
  else if 12 ≤ a ∨ ¬ s.ctrLine l then s.ctrErr a l
  else match s.atomicAct a l op with
    | (s, none) => s.homeSend 5 (.atomicRes a l true [] 0)
    | (s, some (ws, c)) => s.homeSend 5 (.atomicRes a l false ws c)

/-! ## Answers at the requester -/

/-- The request of an agent for a line. -/
def State.reqOf (s : State) (a l : Nat) : Option CohReq := s.coh.reqs.find? (fun r => r.agent == a && r.line == l)

/-- Change the request of an agent for a line. -/
def State.updReq (s : State) (a l : Nat) (f : CohReq → CohReq) : State :=
  s.setCoh { s.coh with reqs := s.coh.reqs.map (fun r => if r.agent = a ∧ r.line = l then f r else r) }

/-- The request of an agent for a line is answered. -/
def State.endReq (s : State) (a l : Nat) : State :=
  s.setCoh { s.coh with reqs := s.coh.reqs.filter (fun r => !(r.agent == a && r.line == l)) }

/-- NACK (R234): the requester backs off for 16 × 2^(k−1) CCLK. A lane turned away by a fully pinned set sends READ_NA at once (R238).
DESIGN CHOICE: log entry 76. -/
def State.tookNack (s : State) (a l k : Nat) (pinned : Bool) : State :=
  if (s.reqOf a l).isNone then s
  else if a < 8 ∧ pinned then (s.updReq a l (fun r => { r with kind := .readNa })).cohPut a 0 (.request a l .readNa)
  else s.updReq a l (fun r => { r with resendAt := some (s.clk.age + 16 * 2 ^ (k - 1)) })

/-- DATA: the requester takes the line in the state granted. A poisoned line is not cached (R240). -/
def State.tookData (s : State) (a l : Nat) (st : Option Moesi) (poison : Bool) (ws : List Word) : State :=
  let s := s.endReq a l
  let s := if poison then s.usePoison a l else st.elim s (fun st => s.fill a l st ws)
  s.releaseHeld a l

/-- GRANT: the requester owns the copy that it holds. -/
def State.tookGrant (s : State) (a l : Nat) (poison : Bool) : State :=
  let s := s.endReq a l
  let c := s.cached a l
  let s := if poison then s.usePoison a l else if c.state = .i then s else s.setCached a l { c with state := .m }
  s.releaseHeld a l

/-- A request reaches its home, with the count of READ_NA. -/
def State.tookRequest (s : State) (a l : Nat) (kind : CohReqKind) : State :=
  let s := if kind = .readNa then s.cnt Reg.cohereNaReadCount 1 else s
  (s.reqOf a l).elim s (fun r => if r.kind = kind then s.handleReq r else s)

/-! ## Delivery (R230 to R232) -/

/-- A message in flight arrives and is consumed. -/
def State.takeMsg (s : State) (n : NetMsg) : State :=
  let s := ((s.until n.due).noteTie n).offNet n
  match n.msg with
  | .invAck a l => s.tookAck a l
  | .fwdDone a l => s.tookDone a l
  | .fwdMiss a l => s.tookMiss a l
  | .nack a l k pinned => s.tookNack a l k pinned
  | .err a l => s.endReq a l
  | .data a l st poison ws => s.tookData a l st poison ws
  | .grant a l poison => s.tookGrant a l poison
  | .wb a l ws => s.landWb a l ws
  | .atomicRes _ _ _ _ _ => s
  | .request a l kind => s.tookRequest a l kind
  | .atomic a l op => s.handleAtomic a l op
  | .fwdS .. | .fwdM .. | .fwdNa .. | .inv .. | .recall .. => s.heed n.msg

/-- Take messages until `m` has been taken. -/
def State.takeUntil : Nat → CohMsg → State → State
  | 0, _, s => s
  | k + 1, m, s =>
    match s.turn m with
    | none => s
    | some n => if n.msg = m then s.takeMsg n else State.takeUntil k m (s.takeMsg n)

/-- A message in flight is delivered, after those that come before it. -/
def State.receiveMsg (s : State) (m : CohMsg) : State := s.takeUntil (s.coh.net.length + 1) m

/-- A message that reaches its home in this cycle. -/
def State.reachHome (s : State) (a : Nat) (m : CohMsg) : State :=
  (s.setCoh { s.coh with net := s.coh.net ++ [⟨a, s.clk.age, m⟩] }).receiveMsg m

/-! ## Requests at the home -/

/-- A request arrives at its home: a resent one, which is in flight, or a new one of an agent with none on the line. -/
def State.arrive (s : State) (a l glue : Nat) (kind : CohReqKind) : State :=
  match s.reqOf a l with
  | some r => if r.kind = kind then s.receiveMsg (.request a l kind) else s
  | none =>
    let r : CohReq := { agent := a, line := l, kind := kind, glue := glue % 256, nacks := 0, resendAt := none }
    (s.setCoh { s.coh with
      reqs := s.coh.reqs ++ [r], gated := if a < 8 then s.coh.gated else s.coh.gated &&& ~~~(BitVec.ofNat 16 (2 ^ a)) }).reachHome a
        (.request a l kind)

/-- GET_S (R233). -/
def execGetS (agent line : Nat) (s : State) : Host.Outcome State Fault Refusal :=
  finish s (whileUp s fun s => if lineValid line ∧ agent < 12 then s.arrive agent line 0 .getS else s)

/-- GET_M (R233, R237). -/
def execGetM (agent line glue : Nat) (s : State) : Host.Outcome State Fault Refusal :=
  finish s (whileUp s fun s => if lineValid line ∧ 8 ≤ agent ∧ agent < 12 then s.arrive agent line glue .getM else s)

/-- UPGRADE (R233, R237). -/
def execUpgrade (agent line glue : Nat) (s : State) : Host.Outcome State Fault Refusal :=
  finish s (whileUp s fun s => if lineValid line ∧ 8 ≤ agent ∧ agent < 12 then s.arrive agent line glue .upgrade else s)

/-- READ_NA (R233). -/
def execReadNa (agent line : Nat) (s : State) : Host.Outcome State Fault Refusal :=
  finish s (whileUp s fun s => if lineValid line ∧ agent < 16 then s.arrive agent line 0 .readNa else s)

/-- ATOMIC (R233, R243). -/
def execAtomic (agent line : Nat) (op : AtomicOp) (s : State) : Host.Outcome State Fault Refusal :=
  finish s (whileUp s fun s => if lineValid line ∧ agent < 16 then s.reachHome agent (.atomic agent line op) else s)

/-! ## Messages in flight -/

/-- FWD_S: the owner sends the line in S. -/
def execFwdS (owner line requester : Nat) (s : State) : Host.Outcome State Fault Refusal :=
  finish s (whileUp s fun s => s.receiveMsg (.fwdS owner line requester))

/-- FWD_M: the owner sends the line in M and invalidates. -/
def execFwdM (owner line requester : Nat) (s : State) : Host.Outcome State Fault Refusal :=
  finish s (whileUp s fun s => s.receiveMsg (.fwdM owner line requester))

/-- FWD_NA: the owner sends a copy and keeps the state. -/
def execFwdNa (owner line requester : Nat) (s : State) : Host.Outcome State Fault Refusal :=
  finish s (whileUp s fun s => s.receiveMsg (.fwdNa owner line requester))

/-- INV: a sharer invalidates. -/
def execInv (agent line : Nat) (s : State) : Host.Outcome State Fault Refusal :=
  finish s (whileUp s fun s => s.receiveMsg (.inv agent line))

/-- RECALL: the owner writes the line back and invalidates. -/
def execRecall (agent line : Nat) (s : State) : Host.Outcome State Fault Refusal :=
  finish s (whileUp s fun s => s.receiveMsg (.recall agent line))

/-- INV_ACK. -/
def execInvAck (agent line : Nat) (s : State) : Host.Outcome State Fault Refusal :=
  finish s (whileUp s fun s => s.receiveMsg (.invAck agent line))

/-- FWD_DONE. -/
def execFwdDone (agent line : Nat) (s : State) : Host.Outcome State Fault Refusal :=
  finish s (whileUp s fun s => s.receiveMsg (.fwdDone agent line))

/-- FWD_MISS (R235). -/
def execFwdMiss (agent line : Nat) (s : State) : Host.Outcome State Fault Refusal :=
  finish s (whileUp s fun s => s.receiveMsg (.fwdMiss agent line))

/-- WB: a writeback in flight lands, or one that a core cache has sent of its own accord for a dirty line. -/
def execWb (agent line : Nat) (words : List Word) (s : State) : Host.Outcome State Fault Refusal :=
  finish s (whileUp s fun s =>
    let c := s.cached agent line
    if s.coh.net.any (fun n => n.msg == .wb agent line words) then s.receiveMsg (.wb agent line words)
    else if 8 ≤ agent ∧ agent < 12 ∧ lineValid line ∧ c.state.dirty then
      ((s.uncache agent line).wbRoom agent (homeOf line)).reachHome agent (.wb agent line c.words)
    else s)

/-- NACK (R234, R238). -/
def execNack (agent line k : Nat) (s : State) : Host.Outcome State Fault Refusal :=
  finish s (whileUp s fun s =>
    if s.coh.net.any (fun n => n.msg == .nack agent line k true) then s.receiveMsg (.nack agent line k true)
    else s.receiveMsg (.nack agent line k false))

/-- NACK_RESEND (R234). -/
def execNackResend (agent line : Nat) (s : State) : Host.Outcome State Fault Refusal :=
  finish s (whileUp s fun s =>
    match s.reqOf agent line with
    | none => s
    | some r => match r.resendAt with
      | none => s
      | some t =>
        ((s.until t).updReq agent line (fun r => { r with resendAt := none })).cohPut agent 0 (.request agent line r.kind))

/-- ERR: the request is refused. -/
def execErr (agent line : Nat) (s : State) : Host.Outcome State Fault Refusal :=
  finish s (whileUp s fun s => s.receiveMsg (.err agent line))

/-- DATA. -/
def execData (agent line : Nat) (state : Option Moesi) (poison : Bool) (words : List Word) (s : State) :
    Host.Outcome State Fault Refusal :=
  finish s (whileUp s fun s => s.receiveMsg (.data agent line state poison words))

/-- GRANT. -/
def execGrant (agent line : Nat) (poison : Bool) (s : State) : Host.Outcome State Fault Refusal :=
  finish s (whileUp s fun s => s.receiveMsg (.grant agent line poison))

/-- ATOMIC_RES: the requester has its result. -/
def execAtomicRes (agent line : Nat) (poison : Bool) (words : List DWord) (colour : Nat) (s : State) :
    Host.Outcome State Fault Refusal :=
  finish s (whileUp s fun s => s.receiveMsg (.atomicRes agent line poison words colour))

/-! ## Timeouts (R234, R239) -/

/-- SENIOR_RESERVATION_LAPSE: a reservation of the line whose request has not returned within 1 µs lapses. -/
def execSeniorReservationLapse (line : Nat) (s : State) : Host.Outcome State Fault Refusal :=
  finish s (whileUp s fun s =>
    match s.coh.seniors.foldl (fun b x => if x.line ≠ line then b else match b with
        | none => some x
        | some y => if x.at_ < y.at_ then some x else some y) none with
    | none => s
    | some x =>
      let s := s.until (x.at_ + usC)
      s.setCoh { s.coh with seniors := s.coh.seniors.erase x })

/-- A silent agent is marked failed and leaves every directory entry of the home. -/
def State.failAgent (s : State) (h a : Nat) : State :=
  let out (e : DirEntry) : DirEntry :=
    if homeOf e.line ≠ h then e
    else
      let e := { e with sharers := e.sharers &&& ~~~(if a < 12 then sharer a else 0) }
      if e.owned ∧ e.owner.toNat = a then e.orphan
      else if e.dstate = .shared ∧ e.sharers = 0 ∧ e.pin = 0 ∧ ¬ e.busy then dir0 else e
  s.setCoh { s.coh with
      failed := s.coh.failed ||| BitVec.ofNat 16 (2 ^ a), dir := smMap dir0 (fun _ e => out e) s.coh.dir }

/-- Agents have not answered their home for a line within 4 µs: the line is poisoned and the agents are failed (R239).
DESIGN CHOICE: log entry 80. -/
def State.silentOn (s : State) (l : Nat) (silent : List Nat) : State :=
  let s := s.setPoison l true
  let s := s.setCoh { s.coh with poisonLast := w32 (l + silent.headD 0 * 2 ^ 24) }
  silent.foldl (fun s a =>
    ((s.failAgent (homeOf l) a).cnt Reg.cohereTimeoutCount 1).event 0x06 0x01 0 (w32 (l + homeOf l * 2 ^ 24)) (w32 a)) s

/-- The wait of a line's home for other agents, or for the writeback of an agent whose request it holds, ends after 5,000 CCLK (R239). -/
def State.timeoutLine (s : State) (l : Nat) : State :=
  match s.transOf l, s.coh.waiting.find? (fun x => x.req.line == l) with
  | some t, _ =>
    let s := (s.until (t.since + 5000)).silentOn l (t.acks ++ t.fwdFrom.toList ++ t.wbFrom.toList)
    s.answered l (fun t => { t with acks := [], fwdFrom := none, wbFrom := none })
  | none, some x =>
    let s := (s.until (x.since + 5000)).silentOn l [x.req.agent]
    (s.setCoh { s.coh with waiting := s.coh.waiting.erase x }).endReq x.req.agent l
  | none, none => s

/-- COHERE_TIMEOUT (R239). -/
def execCohereTimeout (line : Nat) (s : State) : Host.Outcome State Fault Refusal :=
  finish s (whileUp s fun s => s.timeoutLine line)

/-- COHERE_POISON_CLEAR: GO clears the POISON bit of a line (R241). -/
def State.poisonClear (s : State) (v : Word) : State := if bit v 31 then s.setPoison (fld v 0 19) false else s

/-- COHERE_POISON_CLEAR. -/
def execCoherePoisonClear (v : Word) (s : State) : Host.Outcome State Fault Refusal :=
  finish s (whileUp s fun s => s.poisonClear v)

/-! ## Accesses that the device makes within a larger command -/

/-- What is in flight about a line arrives, but for requests and what turns one away, and its home's waits end (R242). -/
def State.settle : Nat → Nat → State → State
  | 0, _, s => s
  | k + 1, l, s =>
    let mine := s.coh.net.filter (fun n => n.msg.line == l && match n.msg with
      | .request .. | .atomic .. | .atomicRes .. | .nack .. | .err .. => false
      | _ => true)
    match (sortBy (fun n : NetMsg => n.due) mine).head? with
    | some n => State.settle k l (s.receiveMsg n.msg)
    | none =>
      if (s.transOf l).isSome ∨ s.coh.waiting.any (fun x => x.req.line == l) then State.settle k l (s.timeoutLine l) else s

/-- Everything in flight about a line arrives. -/
def State.settleLine (s : State) (l : Nat) : State :=
  let s := State.settle 256 l s
  if s.clk.age < smGet 0 s.coh.closing l then s.until (smGet 0 s.coh.closing l) else s

/-- A request of an agent, with all its messages, passes the line's home: while a transaction is open it is NACKed and comes again
(R232, R234), and while the line is reserved for another agent it waits for that reservation to lapse. -/
def State.passHome (s : State) (a l : Nat) : State :=
  let s := if s.lineBusy l then (s.noteNack a l 1).advance 16 else s
  let s := s.settleLine l
  let others := s.coh.seniors.filter (fun x => x.line == l && x.agent != a)
  let s := if others.isEmpty then s else others.foldl (fun s x => s.until (x.at_ + usC)) (s.noteNack a l 1)
  s.setCoh { s.coh with seniors := s.coh.seniors.filter (fun x => x.line != l) }

/-- Take a line out of every cache and out of the directory, its data going to memory. -/
def State.flushLine (s : State) (l : Nat) : State :=
  let s := s.settleLine l
  let ws := s.lineWords l
  let s := if [8, 9, 10, 11].any (fun a => (s.cached a l).state.dirty && !s.agentFailed a) then s.setMemLine l ws else s
  let s := (List.range 12).foldl (fun s a => s.uncache a l) s
  (s.dirOf l).elim s (fun x => s.setDir x.1 dir0)

/-- A way for a line: an unused one, or that of a victim that is evicted at once. -/
def State.takeWay (s : State) (l : Nat) : State × Option Nat :=
  match s.freeWay l with
  | some k => (s, some k)
  | none => match s.victimWay l with
    | some (k, v) => ((s.flushLine v.line).cnt Reg.cohereDirEvictCount 1, some k)
    | none => (s, none)

/-- A way for a line, once the transactions of its set have ended where no way is to be had before; none where the set is fully pinned. -/
def State.makeWay (s : State) (l : Nat) : State × Option Nat :=
  match s.takeWay l with
  | (s, some k) => (s, some k)
  | (s, none) =>
    if s.setPinned l then (s, none)
    else
      let s := (s.waysOf l).foldl (fun s x => s.settleLine x.2.line) s
      s.takeWay l

/-- The copy in its cache makes a read of the line a hit; note the use. -/
def State.touchLine (s : State) (a l : Nat) : State :=
  let c := s.cached a l
  let s := s.setCached a l { c with used := s.coh.order }
  s.setCoh { s.coh with order := s.coh.order + 1 }

/-- A request for a new directory entry meets a fully pinned set (R238). -/
def State.pinNack (s : State) (a l : Nat) : State := (s.cnt Reg.cohereDirPinNackCount 1).noteNack a l 1

/-- A lane reads a line through its cache, the messages of the read all delivered: the words, and whether the read has failed. It fails
on a poisoned line, which is not cached (R240), and for a failed agent, which gets ERR (R239). Where the set is fully pinned the lane
reads without caching (R238).
DESIGN CHOICE: log entry 82. -/
def State.laneRead (s : State) (a l : Nat) : State × List Word × Bool :=
  if (s.cached a l).state ≠ .i ∧ ¬ s.poisoned l then (s.touchLine a l, (s.cached a l).words, false)
  else if s.agentFailed a then (s, [], true)
  else
    let s := s.passHome a l
    let ws := s.lineWords l
    if s.poisoned l then (s.usePoison a l, ws, true)
    else match s.dirOf l with
      | some (k, e) =>
        let c := s.cached e.owner.toNat l
        let r : CohReq := { agent := a, line := l, kind := .getS, glue := 0, nacks := 0, resendAt := none }
        let s := if e.owned ∧ c.state.supplies then
            s.setCached e.owner.toNat l { c with state := if c.state = .e then .s else .o } else s
        ((s.settleDir k e r (e.owned && !c.state.supplies)).fill a l .s ws, ws, false)
      | none =>
        match s.makeWay l with
        | (s, some k) => ((s.putDir k l .shared 0 (sharer a) 0).fill a l .s ws, ws, false)
        | (s, none) => ((s.pinNack a l).cnt Reg.cohereNaReadCount 1, ws, false)

/-- The eight words of an action entry in its line's words (R224). -/
def entryIn (i : Nat) (ws : List Word) : List Word := (ws.drop (8 * (i % 2))).take 8

/-- The eight words of an action entry. -/
def State.entryWords (s : State) (i : Nat) : List Word := entryIn i (s.lineWords (i / 2))

/-- The line's words with an action entry replaced. -/
def State.lineWith (s : State) (i : Nat) (data : List Word) : List Word :=
  let ws := s.lineWords (i / 2)
  let d := (List.range 8).map (wd data)
  if i % 2 = 0 then d ++ ws.drop 8 else ws.take 8 ++ d

/-- The agent by which the firmware reads and writes action entries. -/
abbrev mailboxAgent : Nat := 8

/-- The line's home NACKs a GET_M that names glue-up `g` (0 for none) because of pins: the line's own, or those of its whole set
(R237, R238). -/
def State.pinBlocks (s : State) (l g : Nat) : Bool :=
  match s.dirOf l with
  | some (_, e) => e.pin != 0 && e.pin.toNat != g
  | none => s.setPinned l

/-- The firmware writes an action entry from a core data cache (R226): every other copy of the line is invalidated, and the line stands
in M in the cache of C0, pinned for a glue-up where one is named (R237).
DESIGN CHOICE: log entry 81. -/
def State.fwWrite (s : State) (i : Nat) (data : List Word) (pin : Nat) : State :=
  let l := i / 2
  let s := s.passHome mailboxAgent l
  let ws := s.lineWith i data
  let old := ((s.dirOf l).map (·.2.pin.toNat)).getD 0
  let s := s.flushLine l
  match s.makeWay l with
  | (s, some k) => (s.putDir k l .excl mailboxAgent 0 (if pin = 0 then old else pin)).fill mailboxAgent l .m ws
  | (s, none) => s.setMemLine l ws

/-- An agent has a request that is not served yet. -/
def State.agentReads (s : State) (a : Nat) : Bool := s.coh.reqs.any (fun r => r.agent == a)

/-- A cache is power-gated (R228): a core cache writes back first; every line is dropped and the gate controller answers.
DESIGN CHOICE: log entry 87. -/
def State.gateCache (s : State) (a : Nat) : State :=
  let mine := s.coh.caches.filter (fun x => x.1 / 2 ^ 19 == a)
  let s := mine.foldl (fun s x =>
    let l := x.1 % 2 ^ 19
    let s := s.uncache a l
    if x.2.state.dirty then s.landWb a l x.2.words else s) s
  s.setCoh { s.coh with gated := s.coh.gated ||| BitVec.ofNat 16 (2 ^ a) }

/-- Every line that a cache holds in M or O, or that a WB carries, is written to memory.
DESIGN CHOICE: log entry 88. -/
def State.writeBack (s : State) : State :=
  let s := s.coh.net.foldl (fun s n => match n.msg with
    | .wb _ l ws => s.setMemLine l ws
    | _ => s) s
  s.coh.caches.foldl (fun s x => if x.2.state.dirty then s.setMemLine (x.1 % 2 ^ 19) x.2.words else s) s

/-- A cache wakes with every line in I (R228). -/
def State.ungateCache (s : State) (a : Nat) : State :=
  s.setCoh { s.coh with gated := s.coh.gated &&& ~~~(BitVec.ofNat 16 (2 ^ a)) }

/-- The firmware gates C1 to C3 while they are idle, and wakes them when it has work for them (R479). When a core is idle the spec
leaves open: a free value says it, and a core with a request or an answer of its own outstanding is not.
DESIGN CHOICE: log entry 180. -/
def State.gateCores (s : State) : State :=
  let (n, s) := s.freeN 8
  [9, 10, 11].foldl (fun s a =>
    if ¬ n.testBit (a - 9) then s.ungateCache a
    else if s.agentGated a ∨ s.agentReads a ∨ s.coh.net.any (fun x => x.msg.dest == a) then s
    else s.gateCache a) s

/-- The powered cores as CORES_ON shows them (Table 14.9). -/
def State.coresOn (s : State) : Nat := bitmap ((List.range 4).filter (fun n => !s.agentGated (8 + n)))

/-- A directory entry without its pin; one that no cache holds either is not in use. -/
def DirEntry.unpinned (e : DirEntry) : DirEntry :=
  if e.dstate = .shared ∧ e.sharers = 0 ∧ ¬ e.busy then dir0 else { e with pin := 0 }

/-- Every home clears PIN in every entry pinned by one of the glue-ups (R237). -/
def State.unpin (s : State) (ids : List Nat) : State :=
  let f (e : DirEntry) : DirEntry := if ids.contains e.pin.toNat then e.unpinned else e
  s.setCoh { s.coh with dir := smMap dir0 (fun _ e => f e) s.coh.dir }

end Sys2Proof.Machine
end

