-- ==== Sys2Proof/Machine/Array.lean ====
section
/-! DEFINITION. The search array (R73 to R89, R97 to R108, R113 to R116): rows and their parity, the match rule, where
the entries of a table stand, resolution with verify-on-hit, and the governor. -/

namespace Sys2Proof.Machine

/-! ## Parity (R73, R74, R116) -/

/-- The code of a row state (Table 5.1). -/
def RowState.code : RowState → Nat
  | .free => 0
  | .live => 1
  | .dying => 2
  | .veneer => 3

/-- The hidden field and the priority of a row as one number, under PARITY[4]. -/
def Row.hidden (r : Row) : Nat :=
  r.pri.toNat + 2 ^ 16 * (r.rangeEn.toNat + 4 * (r.tag.toNat + 256 * (r.birth.toNat + 8 * (r.death.toNat + 8 * r.state.code))))

/-- The five even parity bits of what a row holds (Table 3.1). -/
def Row.fresh (r : Row) : BitVec 5 :=
  let g (k : Nat) : Nat :=
    b2n (parityOf 20 (nfld r.value.toNat (20 * k) 20) != parityOf 20 (nfld r.care.toNat (20 * k) 20))
  BitVec.ofNat 5 (g 0 + 2 * g 1 + 4 * g 2 + 8 * g 3 + 16 * b2n (parityOf 34 r.hidden))

/-- A whole-row write: every parity bit computed afresh (R74). -/
def Row.sealed (r : Row) : Row := { r with parity := r.fresh }

/-- A partial rewrite: each parity bit changes by the parity of the bits that change (R74). -/
def Row.rewrite (old new : Row) : Row := { new with parity := old.parity ^^^ old.fresh ^^^ new.fresh }

/-- Every parity bit of a row fits (R86). -/
def Row.ok (r : Row) : Bool := r.parity == r.fresh

/-- The even parity bit of a result word (R116). -/
def resultParity (index : BitVec 21) (action : BitVec 20) : Bool :=
  parityOf 21 index.toNat != parityOf 20 action.toNat

/-- A result word as it is written. -/
def mkWord (index action : Nat) : ResultWord :=
  let i := BitVec.ofNat 21 index
  let a := BitVec.ofNat 20 action
  ⟨i, a, resultParity i a⟩

/-- The parity bit of a result word fits. -/
def ResultWord.ok (w : ResultWord) : Bool := w.parity == resultParity w.index w.action

/-! ## Matching a row (R75) -/

/-- A key slice matches what a row compares; visibility apart. -/
def Row.compares (r : Row) (k : BitVec 80) : Bool :=
  let slice (lo : Nat) : Bool :=
    let v := nfld k.toNat lo 16
    decide (nfld r.value.toNat lo 16 ≤ v ∧ v ≤ nfld r.care.toNat lo 16)
  let out : BitVec 80 := (if r.rangeEn.getLsbD 0 then 0xFFFF#80 else 0) ||| (if r.rangeEn.getLsbD 1 then 0xFFFF00000000#80 else 0)
  (!r.rangeEn.getLsbD 0 || slice 0) && (!r.rangeEn.getLsbD 1 || slice 32) &&
    ((r.value ^^^ k) &&& r.care &&& ~~~out) == 0

/-- A row matches a key slice in epoch `e`. -/
def State.matchRow (s : State) (r : Row) (k : BitVec 80) (e : BitVec 3) : Bool :=
  s.visible r.state r.birth r.death e && r.compares k

/-! ## Where entries stand (R76, R109 to R118) -/

/-- Rows of an entry: W / 80. -/
def TernDesc.rowsPer (d : TernDesc) : Nat := 2 ^ d.width

/-- Entries in a segment (Table 4.1). -/
def TernDesc.eps (d : TernDesc) : Nat := 16384 / d.rowsPer

/-- Key width in bits. -/
def TernDesc.bits (d : TernDesc) : Nat := 80 * d.rowsPer

/-- Key words of a width: 3, 5, 10 or 20 (R103). -/
def kwOf (width : Nat) : Nat :=
  match width with
  | 0 => 3
  | 1 => 5
  | 2 => 10
  | _ => 20

/-- PARTS. -/
def TernDesc.parts (d : TernDesc) : Nat := 2 ^ d.partLog2

/-- The segments of partition `p` in replica `r`, in assignment order. -/
def TernDesc.setOf (d : TernDesc) (p r : Nat) : List Nat := d.sets.getD (p * d.replicas + r) []

/-- The first row of slot `n` of a search set. -/
def TernDesc.rowAt (d : TernDesc) (p r n : Nat) : Nat :=
  (d.setOf p r).getD (n / d.eps) 0 * 16384 + n % d.eps * d.rowsPer

/-- Slots of a partition. -/
def TernDesc.slots (d : TernDesc) : Nat := d.segs * d.eps

/-- The slot of a search set whose first row is `a`. -/
def TernDesc.slotAt (d : TernDesc) (p r a : Nat) : Option Nat :=
  ((d.setOf p r).idxOf? (a / 16384)).map (fun i => i * d.eps + a % 16384 / d.rowsPer)

/-- The partition of a key (R113). -/
def TernDesc.partOf (d : TernDesc) (key : Nat) : Nat := nfld key d.partLsb d.partLog2

/-- Row `j` of the entry whose first row is `a`. -/
def State.row (s : State) (a : Nat) : Row := smGet row0 s.tern.rows a

/-- The rows of the entry whose first row is `a`. -/
def State.entryRows (s : State) (d : TernDesc) (a : Nat) : List Row := (List.range d.rowsPer).map (fun j => s.row (a + j))

/-- The result word of the entry whose first row is `a`. -/
def State.word (s : State) (a : Nat) : ResultWord := smGet word0 s.tern.words a

/-- The slots of a search set that are not free, in physical order (R114). -/
def State.usedSlots (s : State) (d : TernDesc) (p r : Nat) : List Nat :=
  sortBy id (s.tern.rows.filterMap (fun x =>
    if x.2.state != .free && x.1 % d.rowsPer == 0 then d.slotAt p r x.1 else none))

/-- Store the rows of an entry whose first row is `a`. -/
def State.setRows (s : State) (a : Nat) : List Row → State
  | [] => s
  | r :: rs => ({ s with tern := { s.tern with rows := smSet row0 s.tern.rows a r } }).setRows (a + 1) rs

/-- Store a result word. -/
def State.setWord (s : State) (a : Nat) (w : ResultWord) : State :=
  { s with tern := { s.tern with words := smSet word0 s.tern.words a w } }

/-- Every row of the entry and its result word pass parity (R86, R116). -/
def State.entryOk (s : State) (d : TernDesc) (a : Nat) : Bool := (s.entryRows d a).all Row.ok && (s.word a).ok

/-- The entry whose first row is `a` matches a key in epoch `e` (R78). -/
def State.entryMatches (s : State) (d : TernDesc) (a key : Nat) (e : BitVec 3) : Bool :=
  (List.range d.rowsPer).all (fun j => s.matchRow (s.row (a + j)) (BitVec.ofNat 80 (key / 2 ^ (80 * j))) e)

/-! ## Resolution (R84 to R88) -/

/-- A matching entry: its first row, entry index, ACTION, PRI, and whether it passes verification. -/
structure Cand where
  row : Nat
  index : Nat
  action : Nat
  pri : Nat
  ok : Bool
deriving DecidableEq, Repr

/-- The rank of an entry by what its rows and its result word hold, as a number: the lower, the higher it ranks (R84, R85).
DEDUCED: log entry 32. -/
def rankOf (resolution pri index : Nat) : Nat :=
  if resolution = 0 then (65535 - pri) * 2 ^ 21 + index else index

/-- The entries of a search set that satisfy `p`, highest rank first. -/
def State.cands (s : State) (d : TernDesc) (part r : Nat) (p : Nat → Bool) : List Cand :=
  let cs := (s.usedSlots d part r).filterMap (fun n =>
    let a := d.rowAt part r n
    if p a then some ⟨a, (s.word a).index.toNat, (s.word a).action.toNat, (s.row a).pri.toNat, s.entryOk d a⟩ else none)
  sortBy (fun c => rankOf d.resolution c.pri c.index) cs

/-- The rank of an entry in the priority tree of its block: by PRI in explicit-priority mode, and then by physical order, which
placement keeps in index order wherever the index decides (R84, R85, R119). The result word is not read before the read-back. -/
def treeRank (resolution pri slot : Nat) : Nat := if resolution = 0 then (65535 - pri) * 2 ^ 21 + slot else slot

/-- The blocks of a list of rows, each once. -/
def blocksOf (rows : List Nat) : List Nat := (rows.map (· / 1024)).eraseDups

/-- The candidates of one block, of entries in rank order: two in single-match mode, eight in multi-match mode (R86, R88). -/
def blockPicks (multi : Bool) (xs : List Pick) (b : Nat) : List Pick :=
  (xs.filter (fun x => x.row / 1024 == b)).take (if multi then 8 else 2)

/-- The candidates that the blocks of a search set fix (Table 3.3, cycles 6 to 18): of the entries that satisfy `p`, by `rank` of
the first row and the slot. -/
def State.picks (s : State) (d : TernDesc) (part r : Nat) (rank : Nat → Nat → Nat) (multi : Bool) (p : Nat → Bool) : List Pick :=
  let xs := (s.usedSlots d part r).filterMap (fun n =>
    let a := d.rowAt part r n
    if p a then some (⟨a, n, rank a n⟩ : Pick) else none)
  let xs := sortBy (·.rank) xs
  (blocksOf (xs.map (·.row))).flatMap (blockPicks multi xs)

/-- A candidate read back (Table 3.3, cycles 19 to 22). -/
def State.readBack (s : State) (d : TernDesc) (x : Pick) : Cand :=
  ⟨x.row, (s.word x.row).index.toNat, (s.word x.row).action.toNat, (s.row x.row).pri.toNat, s.entryOk d x.row⟩

/-- What a block reports: the surviving candidates, its flag, and the first rows of the failed candidates. -/
structure BlockReport where
  hits : List Cand
  fallback : Bool
  flag : Option BlockFlag
  failed : List Nat
deriving DecidableEq, Repr

/-- The report of one block from its candidates in rank order (R86, R88). -/
def blockReport (multi : Bool) (cs : List Cand) : BlockReport :=
  let bad := cs.filter (fun c => !c.ok)
  let failed := bad.map (·.row)
  let idx := bad.map (·.index)
  if multi then
    ⟨cs.filter (·.ok), false, if bad.isEmpty then none else some ⟨true, idx⟩, failed⟩
  else match cs with
    | [] => ⟨[], false, none, failed⟩
    | [c] => if c.ok then ⟨[c], false, none, failed⟩ else ⟨[], true, some ⟨false, idx⟩, failed⟩
    | c :: c' :: _ =>
      if c.ok then ⟨[c], false, none, failed⟩
      else if c'.ok then ⟨[c'], true, some ⟨false, idx⟩, failed⟩
      else ⟨[], false, some ⟨true, idx⟩, failed⟩

/-- A hit as the result unit forms it (R104, R115). -/
def TernDesc.hit (d : TernDesc) (c : Cand) : Hit :=
  ⟨c.index, (d.actionBase + c.action) % 2 ^ 20, if d.resolution = 0 then c.pri else 0⟩

/-- The read-back of the candidates and the merged result (R87, R88), in the order of `rank`: `count` results in multi-match mode, one
otherwise. -/
def State.verify (s : State) (d : TernDesc) (picks : List Pick) (rank : Cand → Nat) (multi : Bool) (count : Nat) : SearchRes :=
  let reports := (blocksOf (picks.map (·.row))).map (fun b =>
    blockReport multi ((picks.filter (fun x => x.row / 1024 == b)).map (s.readBack d)))
  let hits := sortBy rank (reports.flatMap (·.hits))
  { hits := (hits.take (if multi then count else 1)).map d.hit
    degraded := reports.any (fun b => b.flag.any (·.degraded))
    fallback := reports.any (·.fallback)
    flags := reports.filterMap (·.flag)
    failed := reports.flatMap (·.failed) }

/-- The candidates of a search of a table for a key in epoch `e`. -/
def State.picksIn (s : State) (d : TernDesc) (r key : Nat) (e : BitVec 3) (multi : Bool) : List Pick :=
  s.picks d (d.partOf key) r (fun a n => treeRank d.resolution (s.row a).pri.toNat n) multi (fun a => s.entryMatches d a key e)

/-- The order of a search's results. -/
def TernDesc.rankCand (d : TernDesc) (c : Cand) : Nat := rankOf d.resolution c.pri c.index

/-- The result of a search of a table for a key in epoch `e`, while nothing changes the array. -/
def State.searchIn (s : State) (d : TernDesc) (r key : Nat) (e : BitVec 3) (multi : Bool) (count : Nat) : SearchRes :=
  s.verify d (s.picksIn d r key e multi) d.rankCand multi count

/-! ## Tables by ID -/

/-- A ternary table ID. -/
def State.ternTable (s : State) (t : Nat) : TernTable := smGet ternTable0 s.tern.tables t

/-- Store a ternary table. -/
def State.setTern (s : State) (t : Nat) (x : TernTable) : State :=
  { s with tern := { s.tern with tables := smSet ternTable0 s.tern.tables t x } }

/-- The descriptor that epoch `e` uses. -/
def State.ternDesc (s : State) (t : Nat) (e : BitVec 3) : Option TernDesc := (s.verAt (s.ternTable t).vers e).bind id

/-- The descriptor of the current epoch. -/
def State.ternNow (s : State) (t : Nat) : Option TernDesc := s.ternDesc t s.glue.c

/-- An exact-match table ID. -/
def State.exTable (s : State) (t : Nat) : ExactTable := smGet exactTable0 s.exm.tables t

/-- Store an exact-match table. -/
def State.setEx (s : State) (t : Nat) (x : ExactTable) : State :=
  { s with exm := { s.exm with tables := smSet exactTable0 s.exm.tables t x } }

/-- The exact-match descriptor that epoch `e` uses. -/
def State.exDesc (s : State) (t : Nat) (e : BitVec 3) : Option ExactDesc := (s.verAt (s.exTable t).vers e).bind id

/-- The exact-match descriptor of the current epoch. -/
def State.exNow (s : State) (t : Nat) : Option ExactDesc := s.exDesc t s.glue.c

/-! ## Activation, ports and the governor (R79 to R81, R97 to R99) -/

/-- The blocks that a search of a replica activates: those of the set with a row visible in an epoch in flight (R97). -/
def State.activated (s : State) (d : TernDesc) (parts : List Nat) (r : Nat) : List Nat :=
  blocksOf (s.tern.rows.filterMap (fun x =>
    if parts.any (fun part => (d.setOf part r).contains (x.1 / 16384)) && s.visibleSome x.2.state x.2.birth x.2.death then some x.1 else none))

/-- CCLK for which a search occupies its port (Table 3.2). -/
def occupancy (width : Nat) (multi : Bool) : Nat :=
  if multi then 4 else match width with
    | 0 => 1
    | 1 => 1
    | 2 => 2
    | _ => 4

/-- The age clock from which port letter `l` (0 A, 1 B) is free on all of the blocks. -/
def State.portFreeAt (s : State) (bs : List Nat) (l : Nat) : Nat :=
  bs.foldl (fun t b => max t (smGet 0 s.tern.portFree (2 * b + l))) 0

/-- The time that stands for a port which a held search keeps (R98): beyond every age. -/
def neverFree : Nat := 2 ^ 80

/-- A held search keeps port letter `l` of one of the blocks. -/
def State.portHeld (s : State) (bs : List Nat) (l : Nat) : Bool :=
  s.tern.searches.any (fun x => x.phase == .held && x.port == l && x.blocks.any bs.contains)

/-- The first cycle from `t` on that is no rewrite cycle (R82, R416). -/
def State.pastRewrite (s : State) (t : Nat) : Nat := if s.tern.rewriteAt = some t then t + 1 else t

/-- The age clock from which a search may have port letter `l` on every one of its blocks. -/
def State.portOpenAt (s : State) (bs : List Nat) (l : Nat) : Nat :=
  if s.portHeld bs l then neverFree else s.pastRewrite (max s.clk.age (s.portFreeAt bs l))

/-- The replica and port of a search (R80): the port free soonest, then the lowest replica, then A before B. -/
def State.choosePort (s : State) (d : TernDesc) (parts : List Nat) : Nat × Nat × Nat :=
  let opts := (List.range d.replicas).flatMap (fun r =>
    let bs := s.activated d parts r
    [(r, 0, s.portOpenAt bs 0), (r, 1, s.portOpenAt bs 1)])
  opts.foldl (fun b o => if o.2.2 < b.2.2 then o else b) (opts.headD (0, 0, s.clk.age))

/-- Occupy port letter `l` on the blocks until the age clock reads `t`. -/
def State.occupy (s : State) (bs : List Nat) (l t : Nat) : State :=
  { s with tern := { s.tern with portFree := bs.foldl (fun m b => smSet 0 m (2 * b + l) t) s.tern.portFree } }

/-- Charge `n` activations to the governor and count them (R98). -/
def State.activate (s : State) (n : Nat) : State :=
  let s := if s.govOn then { s with tern := { s.tern with govLevel := s.tern.govLevel - n * 1250 } } else s
  s.cnt64 Reg.arrayActCountLo n

/-- The events of a result (R107, R108), its counters (Table 3.12) and its failures for the gleaner (R138). `lane` is 8
for LS.
DESIGN CHOICE: log entry 53. -/
def State.noteResult (s : State) (table : Nat) (e : BitVec 3) (lane : Nat) (r : SearchRes) : State :=
  let s := if r.fallback then s.cnt Reg.arrayVerifyFallbackCount 1 else s
  let s := if r.degraded then s.cnt Reg.arrayDegradedCount 1 else s
  let s := r.flags.foldl (fun s f =>
    let i1 := f.failed.headD 0
    let two := decide (1 < f.failed.length)
    let i2 := if two then f.failed.getD 1 0 else 0
    let key := if two then [table, i1, i2] else [table, i1]
    s.eventSup 0x03 (if f.degraded then 0x02 else 0x01) 0 (w32 (i1 + table * 2 ^ 24))
      (w32 (i2 + b2n two * 2 ^ 21 + e.toNat * 2 ^ 24 + lane * 2 ^ 28)) key Reg.arrayEventSuppressCount) s
  let fresh := r.failed.filter (fun a => !s.tern.gleanQ.any (fun f => f.table == table && f.row == a))
  { s with tern := { s.tern with gleanQ := s.tern.gleanQ ++ fresh.map (fun a => ⟨table, a, false⟩) } }

/-- The credit of a requester in an arbiter: 0 is the array arbiter, 1 + 2 × bank + port a scratchpad arbiter (R417). -/
def State.credit (s : State) (arbiter n : Nat) : Nat := smGet 0 s.arb.credit (16 * arbiter + n)

/-- Set a credit. -/
def State.setCredit (s : State) (arbiter n c : Nat) : State :=
  { s with arb := { s.arb with credit := smSet 0 s.arb.credit (16 * arbiter + n) c } }

/-- A grant of `len` cycles to requester `n`: its credit is charged, holding at 0, and the rotation goes on behind it (R416,
R417). -/
def State.chargeReq (s : State) (arbiter n len : Nat) : State :=
  let s := s.setCredit arbiter n (s.credit arbiter n - len)
  { s with arb := { s.arb with last := smSet 0 s.arb.last arbiter (n + 1) } }

end Sys2Proof.Machine
end

