-- ==== Sys2Proof/Machine/Grant.lean ====
section
/-! DEFINITION. The issue of searches and their grants (R19, R79 to R83, R89, R97 to R99, R416 to R419): the ranking that all arbiters
share, the bids of searches, the governor, and what LS does with the array. -/

namespace Sys2Proof.Machine

/-! ## Ranking (R416, R417) -/

/-- The PRIO of a requester register. -/
def prioOf (w : Word) : Nat := fld w 8 2

/-- The WEIGHT of a requester register. -/
def weightOf (w : Word) : Nat := fld w 0 8

/-- The rank of a request as a number: the lower, the earlier it is served. `size` is the number of requesters. -/
def State.rankReq (s : State) (arbiter size n prio : Nat) (urgent : Bool) : Nat :=
  let turn := (n + size - smGet 0 s.arb.last arbiter % size) % size
  (((if urgent then 0 else 1) * 4 + (3 - prio)) * 256 + (255 - s.credit arbiter n)) * size + turn

/-! ## Issue (R19, R81, R422) -/

/-- What the issue of a search costs its lane, in CCLK (R19). -/
def issueCost (lane width : Nat) (exact : Bool) : Nat := if lane = 8 then 4 else if exact then 1 else occupancy width false

/-- The issue cost of a search. -/
def Search.cost (x : Search) : Nat := issueCost x.lane x.width x.exact

/-- The cycle in which a lane can issue one more search. -/
def State.nextIssue (s : State) (lane : Nat) : Nat := max s.clk.age (smGet 0 s.tern.laneNext lane)

/-- A lane's next issue moves on to a cycle. -/
def State.setIssue (s : State) (lane t : Nat) : State := { s with tern := { s.tern with laneNext := smSet 0 s.tern.laneNext lane t } }

/-- A search joins those of its lane, in the next free issue cycle. An exact-match search is under way from there on.
DESIGN CHOICE: log entry 35. -/
def State.issueSearch (s : State) (x : Search) : State :=
  let t := s.nextIssue x.lane
  let s := s.setIssue x.lane (t + x.cost)
  { s with tern := { s.tern with searches := s.tern.searches ++ [{ x with issued := t, at_ := t }] } }

/-- The wave of a role. -/
def waveOf (role : Nat) : Nat := if role < 3 then 0 else 1

/-- A search overtakes an earlier one of its lane that waits: it is of the same frame and wave, and the other has had a turn hint of 2 or more
(R422). -/
def State.overtakes (s : State) (x y : Search) : Bool :=
  y.waited && y.frame == x.frame && waveOf y.role == waveOf x.role && decide (2 ≤ s.rf (Reg.arbArrayHint y.lane) 0 8)

/-- The earlier searches of the lane let this one out: none of them waits for its port without being overtaken. -/
def State.laneOpen (s : State) (x : Search) : Bool :=
  (s.tern.searches.takeWhile (· != x)).all (fun y => y.lane != x.lane || y.exact || y.phase != .waiting || s.overtakes x y)

/-- The cycle from which the lane of a search is done with issuing those granted last. -/
def State.laneFree (s : State) (x : Search) : Nat :=
  (s.tern.searches.filter (fun g => g.lane == x.lane && !g.exact && g.phase == .granted)).foldl (fun t g => max t (g.at_ + g.cost)) x.issued

/-- Put off the searches of a lane that it has not issued yet: the first of them until `next`. Answers the cycle after the last. -/
def putOff (lane : Nat) (keep : Search → Bool) : Nat → List Search → Nat × List Search
  | next, [] => (next, [])
  | next, y :: ys =>
    if y.lane = lane ∧ y.phase = .waiting ∧ ¬ keep y then
      let i := max y.issued next
      let r := putOff lane keep (i + y.cost) ys
      (r.1, { y with issued := i, at_ := if y.exact then i else y.at_ } :: r.2)
    else let r := putOff lane keep next ys; (r.1, y :: r.2)

/-- The grant of a search in this cycle puts off those behind it in its lane: the cycles that it has waited add to its issue cycles (R81). -/
def State.reissue (s : State) (x : Search) : State :=
  let xs := s.tern.searches
  let r := putOff x.lane (fun y => s.overtakes y x) (s.clk.age + x.cost) ((xs.dropWhile (· != x)).drop 1)
  let s : State := { s with tern := { s.tern with searches := xs.takeWhile (· != x) ++ x :: r.2 } }
  s.setIssue x.lane (max r.1 (smGet 0 s.tern.laneNext x.lane))

/-! ## Bids -/

/-- A waiting search with the replica, port letter and blocks that it would take, and the age clock from which they are free. A held
search keeps the port that it has won. -/
structure Bid where
  desc : TernDesc
  replica : Nat
  letter : Nat
  free : Nat
  blocks : List Nat
deriving DecidableEq, Repr

/-- The bid of a search; none when its table has no descriptor in its epoch. -/
def State.bid (s : State) (x : Search) : Option Bid :=
  (s.ternDesc x.table x.epoch).map (fun d =>
    let parts := [d.partOf x.key.toNat]
    if x.phase = .held then
      { desc := d, replica := x.replica, letter := x.port, free := s.pastRewrite s.clk.age, blocks := s.activated d parts x.replica }
    else
    let (r, l, t) := s.choosePort d parts
    { desc := d, replica := r, letter := l, free := t, blocks := s.activated d parts r })

/-- The fabric search that a local search is for. -/
def State.jobOf (s : State) (x : Search) : Option FabJob := if x.lane = 8 ∧ x.frame = 0 then s.fabJob x.role else none

/-- A multi-match search. -/
def State.isMulti (s : State) (x : Search) : Bool := (s.jobOf x).any (fun j => j.req.multi)

/-- How many results a search asks for. -/
def State.countOf (s : State) (x : Search) : Nat := (s.jobOf x).elim 1 (fun j => j.req.count)

/-- The CCLK for which a search occupies its port. -/
def State.lengthOf (s : State) (x : Search) : Nat := occupancy x.width (s.isMulti x)

/-- Replace a search. -/
def State.setSearch (s : State) (old new : Search) : State :=
  { s with tern := { s.tern with searches := mapFirst (· == old) (fun _ => new) s.tern.searches } }

/-- The waiting searches of the array, held ones first and oldest first, and then by rank.
DESIGN CHOICE: log entry 207. -/
def State.ranked (s : State) : List Search :=
  let xs := s.tern.searches.filter (fun x => !x.exact)
  let held := sortBy (fun x : Search => x.issued) (xs.filter (fun x => x.phase == .held))
  let rank (x : Search) : Nat := s.rankReq 0 9 x.lane (prioOf (s.rd (Reg.arbArrayReq x.lane))) x.urgent
  held ++ sortBy rank (xs.filter (fun x => x.phase == .waiting))

/-! ## Read-back (R86, R89) -/

/-- What the read-back of a search gives as the array stands. -/
def State.resultOf (s : State) (x : Search) : SearchRes :=
  (s.ternDesc x.table x.epoch).elim ⟨[], false, false, [], []⟩ (fun d => s.verify d x.picks d.rankCand (s.isMulti x) (s.countOf x))

/-- Every granted search whose read-back is over has its result, before what comes next changes the array (Table 3.3, cycles 19 to
22). -/
def State.readBacks (s : State) : State :=
  let due (x : Search) : Bool := !x.exact && x.phase == .granted && x.res.isNone && decide (x.at_ + 22 ≤ s.clk.age)
  { s with tern := { s.tern with searches := s.tern.searches.map (fun x => if due x then { x with res := some (s.resultOf x) } else x) } }

/-! ## Granting -/

/-- The grant deadline of a local search for the fabric, cycle 90 + 160j, has passed (R260). -/
def State.fabLate (s : State) (x : Search) : Bool :=
  (s.jobOf x).any (fun j => decide (j.req.launched + ceilDiv ((90 + 160 * (s.fab.depth - 1)) * 4) 5 < s.timeNs))

/-- A search is still to be worked on: its frame exists and its deadline has not come, or its grant deadline in the fabric has not. -/
def State.wanted (s : State) (x : Search) : Bool :=
  if x.lane = 8 then !s.fabLate x else (s.frame x.frame).any (fun f => decide (s.clk.age < f.deadline))

/-- Grant a search: its activations are charged, and its candidates are those that the array holds now (R83, R89). -/
def State.grantBid (s : State) (x : Search) (b : Bid) : State :=
  let job := s.jobOf x
  let len := s.lengthOf x
  let picks := s.picksIn b.desc b.replica x.key.toNat x.epoch (s.isMulti x)
  let y : Search := { x with
    phase := .granted, at_ := s.clk.age, replica := b.replica, port := b.letter, blocks := b.blocks, picks := picks, res := none }
  let s := (((s.activate b.blocks.length).cnt (Reg.arraySearchCount x.lane) 1).occupy b.blocks b.letter (s.clk.age + len)).chargeReq 0 x.lane len
  let s : State := if x.starved then { s with arb := { s.arb with starvedAt := smSet 0 s.arb.starvedAt x.lane (s.clk.age + 1) } } else s
  let s := (s.reissue x).setSearch x y
  job.elim s (fun j => s.setJobF { j with granted := some x.epoch })

/-- The granted requester withdraws, because its frame is at its deadline: a kerf cycle, in which the port stays idle (R419). -/
def State.kerf (s : State) (x : Search) (b : Bid) : State :=
  ((s.endSearch x).occupy b.blocks b.letter (s.clk.age + 1)).cnt Reg.arbKerfCount 1

/-- The governor decides on a search that has passed arbitration (R98). -/
def State.governed (s : State) (x : Search) (b : Bid) : State :=
  let n := b.blocks.length
  let ahead := (s.ranked.filter (fun y => y.phase == .held)).head?
  if s.govOn ∧ 0 < n ∧ s.tern.govLevel < n * 1250 then
    if x.phase = .held then s else (s.setSearch x { x with phase := .held, replica := b.replica, port := b.letter, blocks := b.blocks }).cnt Reg.arrayGovHeldCount 1
  else if s.govOn ∧ 0 < n ∧ ahead.any (fun y => y != x) then s
  else if s.wanted x then s.grantBid x b
  else if x.lane = 8 then s
  else s.kerf x b

/-! ## What LS does with the array -/

/-- Time passes until the governor has granted the searches that it holds, oldest first, at most `k` of them; it stops where the bucket can never
hold enough. -/
def State.serveHeld : Nat → State → State
  | 0, s => s
  | k + 1, s =>
    match s.ranked.find? (fun x => x.phase == .held && s.wanted x) with
    | none => s
    | some x =>
      match s.bid x with
      | none => State.serveHeld k (s.endSearch x)
      | some b =>
        let n := b.blocks.length * 1250
        if s.govOn ∧ s.govMax < n then s
        else
          let wait := if s.govOn then ceilDiv (n - s.tern.govLevel) s.govCap else 0
          let s := s.until (max b.free (s.clk.age + wait))
          State.serveHeld k (s.governed x b)

/-- A search that LS makes of one search set (R19, R79 to R81, R97, R98): it waits for its issue, for what the governor holds, for its port and
for the governor's bucket, and is granted. None when the governor can never grant it. -/
def State.lsGrant (s : State) (d : TernDesc) (part : Nat) (multi : Bool) : Option (State × Nat) :=
  let s := s.until (s.nextIssue 8)
  let s := s.serveHeld s.tern.searches.length
  let (r, l, t) := s.choosePort d [part]
  let bs := s.activated d [part] r
  let n := bs.length
  let s1 := if s.clk.age < t ∧ t < neverFree then ((s.until t).cnt Reg.arrayPortWaitCount 1).cnt (Reg.arbArrayWait 8) (t - s.clk.age) else s
  if neverFree ≤ t then none
  else if s1.govOn ∧ 0 < n ∧ (s1.govHolding ∨ s1.govMax < n * 1250) then none
  else
    let short := if s1.govOn then n * 1250 - s1.tern.govLevel else 0
    let s2 := if short = 0 then s1
      else
        let k := ceilDiv short s1.govCap
        ((s1.advance k).cnt Reg.arrayGovHeldCount 1).cnt Reg.arrayGovHeldCycles k
    let s3 := (s2.activate n).cnt (Reg.arraySearchCount 8) 1
    let len := occupancy d.width multi
    some (((s3.occupy bs l (s3.clk.age + len)).chargeReq 0 8 len).setIssue 8 (s3.clk.age + 4), r)

/-- A host search by key through LS: what the array holds at the grant is compared, and the result comes 40 CCLK later (R89). -/
def State.lsSearch (s : State) (table : Nat) (d : TernDesc) (key : Nat) (multi : Bool) (count : Nat) :
    Option (State × SearchRes) :=
  (s.lsGrant d (d.partOf key) multi).map (fun x =>
    let res := x.1.searchIn d x.2 key x.1.glue.c multi count
    ((x.1.advance 40).noteResult table x.1.glue.c 8 res, res))

/-- LS issues an exact-match search (R19). -/
def State.lsIssue (s : State) : State :=
  let s := s.until (s.nextIssue 8)
  s.setIssue 8 (s.clk.age + 4)

/-- The arbiter number of a lock's resource in an event (Table 13.6). -/
def arbiterOf (resource : Nat) : Nat := if resource < 4096 then 0 else resource - 4095

/-- The lock timeout of an arbiter kind in its cycles (R420): `at_` is the place of its field. -/
def State.lockTimeout (s : State) (at_ : Nat) : Nat := min 64 (max 1 (s.rf Reg.arbLockTimeout at_ 7))

/-- A lock is broken (R420). -/
def State.breakLock (s : State) (k : ArbLock) : State :=
  let s : State := { s with arb := { s.arb with locks := s.arb.locks.filter (fun x => x != k) } }
  (s.cnt Reg.arbLockBreakCount 1).event 0x08 0x02 0 (w32 (arbiterOf k.resource)) (w32 k.owner)

/-- A row write of `n` rows through LS (R82, R415): it waits for a port of its block, the one free soonest, and occupies it for one CCLK a row.
With `lock` the firmware locks that port for as long, or until the lock breaks at its timeout; it locks the port again for the rows refused
(R420). -/
def State.takePort (s : State) (block n : Nat) (lock : Bool) : State :=
  let at_ (l : Nat) : Nat := s.pastRewrite (max s.clk.age (s.portFreeAt [block] l))
  let l := if at_ 1 < at_ 0 then 1 else 0
  let wait := at_ l - s.clk.age
  let s := (s.advance wait).cnt (Reg.arbArrayWait 8) wait
  let s := (s.occupy [block] l (s.clk.age + n)).chargeReq 0 8 n
  if lock then
    let ks := s.arb.locks.filter (fun k => decide (4096 ≤ k.resource ∨ s.clk.age < k.ends))
    let k : ArbLock := { resource := 2 * block + l, owner := 8, left := 0, held := 0, ends := s.clk.age + n }
    let m := ceilDiv n (s.lockTimeout 0)
    let s := (List.range (m - 1)).foldl (fun s _ => s.breakLock k) { s with arb := { s.arb with locks := ks } }
    ({ s with arb := { s.arb with locks := s.arb.locks ++ [k] } }).cnt Reg.arbLockCount m
  else s

/-- Write the rows of an entry and its result word at a first row, through LS.
DESIGN CHOICE: log entry 211. -/
def State.lsWrite (s : State) (a : Nat) (rows : List Row) (w : ResultWord) (lock : Bool) : State :=
  let s := (s.takePort (a / 1024) rows.length lock).readBacks
  (s.setRows a rows).setWord a w

end Sys2Proof.Machine
end

