-- ==== Sys2Proof/Machine/Keys.lean ====
section
/-! DEFINITION. Key profiles and the building of keys (R90 to R96), and the commands of the search array (R101 to R105). -/

namespace Sys2Proof.Machine

/-! ## Parsing a frame (R93, R94) -/

/-- What the parser finds in a frame. An anchor that the frame does not have is none. -/
structure Parsed where
  l2 : Option Nat
  l3 : Option Nat
  l4 : Option Nat
  slow : Option Nat
  vid : Nat
  pcp : Nat
  tagged : Bool
  etype : Nat
  ipproto : Nat
  ipv4 : Bool
  ipv6 : Bool
  l4valid : Bool
  fragment : Bool
deriving DecidableEq, Repr

/-- Byte `i` of a frame; 0 beyond its end. -/
def byteAt (f : List Byte) (i : Nat) : Nat := (f.getD i 0).toNat

/-- Bytes `i` and `i + 1`, most significant first. -/
def half (f : List Byte) (i : Nat) : Nat := byteAt f i * 256 + byteAt f (i + 1)

/-- The Ethertype at `i` is a VLAN tag's (Table 3.5). -/
def isVlan (f : List Byte) (i : Nat) : Bool := half f i == 0x8100 || half f i == 0x88A8

/-- Parse a frame of KIND `kind` (R93).
DESIGN CHOICE: log entry 206. -/
def parseFrame (kind : Nat) (f : List Byte) : Parsed :=
  if kind ≠ 0 then
    { l2 := none, l3 := none, l4 := none, slow := some 16, vid := 0, pcp := 0, tagged := false, etype := 0, ipproto := 0
      ipv4 := false, ipv6 := false, l4valid := false, fragment := false }
  else
    let t1 := isVlan f 12
    let t2 := t1 && isVlan f 16
    let e := if t2 then 20 else if t1 then 16 else 12
    let et := half f e
    let p := e + 2
    let ver := byteAt f p / 16
    let ihl := byteAt f p % 16
    let v4 := et == 0x0800 && ver == 4 && decide (5 ≤ ihl)
    let v6 := et == 0x86DD && ver == 6
    let frag := v4 && half f (p + 6) % 0x2000 != 0
    let proto := if v4 then byteAt f (p + 9) else if v6 then byteAt f (p + 6) else 0
    { l2 := some p
      l3 := if v4 || v6 then some p else none
      l4 := if frag then none else if v4 then some (p + 4 * ihl) else if v6 then some (p + 40) else none
      slow := none
      vid := if t1 then half f 14 % 4096 else 0
      pcp := if t1 then half f 14 / 8192 else 0
      tagged := t1
      etype := et
      ipproto := proto
      ipv4 := v4
      ipv6 := v6
      l4valid := (v4 || v6) && (proto == 6 || proto == 17 || proto == 132) && !frag
      fragment := frag }

/-- The metadata vector as a number of 256 bits, SRC_BIT 0 its highest (Table 3.6). -/
def metadata (p : Parsed) (ingress egress kind length chanId cls portUser : Nat) : Nat :=
  let put (n bit width v : Nat) : Nat := n + v % 2 ^ width * 2 ^ (256 - bit - width)
  let n := put 0 0 8 ingress
  let n := put n 8 8 egress
  let n := put n 16 12 p.vid
  let n := put n 28 3 p.pcp
  let n := put n 31 1 (b2n p.tagged)
  let n := put n 32 16 p.etype
  let n := put n 48 8 p.ipproto
  let n := put n 56 1 (b2n p.ipv4)
  let n := put n 57 1 (b2n p.ipv6)
  let n := put n 58 1 (b2n p.l4valid)
  let n := put n 59 1 (b2n p.fragment)
  let n := put n 60 4 kind
  let n := put n 64 16 length
  let n := put n 80 32 chanId
  let n := put n 112 16 cls
  put n 128 32 portUser

/-! ## Extraction (R91, R92) -/

/-- Source bit `i` of a frame from byte offset `off`, in network order: 0 beyond the frame or the 384-byte window. -/
def frameBit (f : List Byte) (off i : Nat) : Nat :=
  let b := off + i / 8
  if 384 ≤ b then 0 else byteAt f b / 2 ^ (7 - i % 8) % 2

/-- Source bit `i` of an anchor (Table 3.5). -/
def srcBit (p : Parsed) (f : List Byte) (md : Nat) (const : DWord) (anchor i : Nat) : Nat :=
  match anchor with
  | 0 => frameBit f 0 i
  | 1 => p.l2.elim 0 (fun o => frameBit f o i)
  | 2 => p.l3.elim 0 (fun o => frameBit f o i)
  | 3 => p.l4.elim 0 (fun o => frameBit f o i)
  | 4 => p.slow.elim 0 (fun o => frameBit f o i)
  | 8 => if i < 256 then md / 2 ^ (255 - i) % 2 else 0
  | 14 => if i < 64 then const.toNat / 2 ^ (63 - i) % 2 else 0
  | _ => 0

/-- Apply one extraction instruction to a key (R91, R92). -/
def extract (p : Parsed) (f : List Byte) (md : Nat) (const : DWord) (key : Nat) (ins : Word) : Nat :=
  let anchor := fld ins 0 4
  let src := fld ins 4 11
  let len := fld ins 15 6 + 1
  let dst := fld ins 21 10
  let v := (List.range len).foldl (fun n i => n * 2 + srcBit p f md const anchor (src + i)) 0
  key - nfld key dst len * 2 ^ dst + v * 2 ^ dst

/-- The key that a profile builds. -/
def Profile.key (pr : Profile) (p : Parsed) (f : List Byte) (md : Nat) : Nat :=
  pr.instrs.foldl (extract p f md pr.const) 0

/-- A profile that has never been written (R102). -/
def profileOff : Profile := { width := 0, table := 0, wave := 0, const := 0, instrs := [] }

/-- The record of a profile. -/
def State.profileSt (s : State) (n : Nat) : ProfileSt := smGet profile0 s.tern.profiles n

/-- Store the record of a profile. -/
def State.setProfile (s : State) (n : Nat) (x : ProfileSt) : State :=
  { s with tern := { s.tern with profiles := smSet profile0 s.tern.profiles n x } }

/-- The version of a profile that epoch `e` uses (R95). -/
def State.profile (s : State) (n : Nat) (e : BitVec 3) : Profile := (s.verAt (s.profileSt n).vers e).getD profileOff

/-! ## PROFILE_WRITE and PROFILE_READ -/

/-- An instruction that PROFILE_WRITE refuses (Table 3.8). -/
def badInstr (width : Nat) (ins : Word) : Bool :=
  let anchor := fld ins 0 4
  let src := fld ins 4 11
  let len := fld ins 15 6 + 1
  let dst := fld ins 21 10
  !([0, 1, 2, 3, 4, 8, 14].contains anchor) || bit ins 31 || decide (80 * 2 ^ width < dst + len) ||
    (anchor == 8 && decide (256 < src + len)) || (anchor == 14 && decide (64 < src + len))

/-- PROFILE_WRITE (R95, R101). -/
def State.profileWrite (s : State) (q : Request) : State × CmdEnd :=
  let n := q.f 0 0 6
  let width := q.f 0 8 2
  let count := q.f 0 24 5
  let st := s.profileSt n
  let ins := (q.words.drop 3).take count
  if s.refuses q then (s, fin St.followSide)
  else if q.stray 0 0x1FFF133F ∨ q.f 0 16 8 = 255 then (s, fin 0x0113)
  else if 24 < count ∨ q.words.length ≠ 3 + count then (s, fin St.badLength)
  else if ins.any (badInstr width) then (s, fin 0x0114)
  else if st.standby.isSome ∨ 1 < (s.liveVers st.vers).length then (s, fin 0x0310)
  else
    let pr : Profile := { width := width, table := q.f 0 16 8, wave := q.f 0 12 1
                          const := BitVec.ofNat 64 ((q.w 1).toNat + 2 ^ 32 * (q.w 2).toNat), instrs := ins }
    let s := s.setProfile n { st with standby := some pr }
    (s.mirror Op.profileWrite q 0, .pend (.profile n) [])

/-- PROFILE_WRITE. -/
def execProfileWrite (q : Request) (s : State) : Host.Outcome State Fault Refusal :=
  finish s (runCmd Op.profileWrite q State.profileWrite s)

/-- PROFILE_READ (R102). -/
def State.profileRead (s : State) (q : Request) : State × CmdEnd :=
  let n := q.f 0 0 6
  if q.stray 0 0x3F then (s, fin 0x0113)
  else
    let p := s.profile n s.glue.c
    (s, .final St.ok ([w32 (n + p.width * 2 ^ 8 + p.wave * 2 ^ 12 + p.table * 2 ^ 16 + p.instrs.length * 2 ^ 24)] ++
      toWords 2 p.const.toNat ++ p.instrs))

/-- PROFILE_READ. -/
def execProfileRead (q : Request) (s : State) : Host.Outcome State Fault Refusal :=
  finish s (runCmd Op.profileRead q State.profileRead s)

/-! ## SEARCH -/

/-- The three words of a result (Table 3.11). -/
def Hit.words (h : Hit) : List Word := [w32 h.index, w32 h.action, w32 h.pri]

/-- SEARCH (R103, R104).
DESIGN CHOICE: log entry 30. DEDUCED: log entry 36. -/
def State.search (s : State) (q : Request) : State × CmdEnd :=
  let multi := q.b 0 12
  let count := q.f 0 16 4
  let build := q.b 0 24
  let len := if build then q.f 9 0 16 else 0
  let pr := s.profile (q.f 0 26 6) s.glue.c
  let width := if build then pr.width else q.f 0 8 2
  let table := if build then pr.table else q.f 0 0 8
  let plen := if build then 10 + ceilDiv len 4 else 1 + kwOf width
  if q.stray 0 0xFD0F13FF ∨ (build ∧ q.stray 9 0xFFFF) then (s, fin 0x0113)
  else if multi ∧ (count = 0 ∨ 8 < count) then (s, fin 0x0112)
  else if build ∧ 384 < len then (s, fin 0x0117)
  else if q.words.length ≠ plen then (s, fin St.badLength)
  else if build ∧ pr.table = 0 then (s, fin 0x0113)
  else if (s.exNow table).isSome then (s, fin 0x0115)
  else match s.ternNow table with
    | none => (s, fin 0x0110)
    | some d =>
      if d.width ≠ width then (s, fin 0x0111)
      else
        let md := ofBytesBE (bytesOf ((q.words.drop 1).take 8))
        let frame := (bytesOf (q.words.drop 10)).take len
        let p := parseFrame (md / 2 ^ 192 % 16) frame
        let key := if build then pr.key p frame md else ofWords ((q.words.drop 1).take (kwOf width)) % 2 ^ d.bits
        match s.lsSearch table d key multi count with
        | none => (s, .quiet)
        | some (t, r) =>
          let w0 := w32 (r.hits.length + b2n r.degraded * 16 + b2n r.fallback * 32 + t.glue.c.toNat * 2 ^ 8 + table * 2 ^ 16)
          (t, .final St.ok (w0 :: r.hits.flatMap Hit.words ++ if build then toWords (kwOf width) key else []))

/-- SEARCH. -/
def execSearch (q : Request) (s : State) : Host.Outcome State Fault Refusal :=
  finish s (runCmd Op.search q State.search s)

/-! ## GOVERNOR_SET -/

/-- A change of the governor's registers cuts the level to the new depth at once (R100). -/
def State.govCut (s : State) : State := { s with tern := { s.tern with govLevel := min s.tern.govLevel s.govMax } }

/-- GOVERNOR_SET (R105). -/
def State.governorSet (s : State) (q : Request) : State × CmdEnd :=
  if q.f 0 0 16 < 32 ∨ q.f 1 0 18 < 256 ∨ q.stray 0 0x8000FFFF ∨ q.stray 1 0x3FFFF then (s, fin 0x0116)
  else
    let s := s.wrLock Reg.arrayGovCtrl (q.w 0) 0x8000FFFF
    let s := (s.wrLock Reg.arrayGovDepth (q.w 1) 0x3FFFF).govCut
    (s, .final St.ok [s.rd Reg.arrayGovCtrl, s.rd Reg.arrayGovDepth])

/-- GOVERNOR_SET. -/
def execGovernorSet (q : Request) (s : State) : Host.Outcome State Fault Refusal :=
  finish s (runCmd Op.governorSet q State.governorSet s)

end Sys2Proof.Machine
end

