-- ==== Sys2Proof/Machine/Glue.lean ====
section
/-! DEFINITION. Glue-ups (R155 to R168, R172 to R177): their states, claims and operations, how they clamp and abort, and
the class 2 commands. -/

namespace Sys2Proof.Machine

/-! ## States (R155 to R157) -/

/-- A glue-up. -/
def State.glueUp (s : State) (id : Nat) : GlueUp := smGet glueUp0 s.glue.ups id

/-- Store a glue-up. -/
def State.setGlue (s : State) (id : Nat) (g : GlueUp) : State :=
  { s with glue := { s.glue with ups := smSet glueUp0 s.glue.ups id g } }

/-- The code of a glue-up state (Table 5.4). -/
def GlueState.code : GlueState → Nat
  | .free => 0
  | .opened => 1
  | .clamping => 2
  | .settling => 3
  | .aborting => 4

/-- The glue-up IDs. -/
def glueIds : List Nat := (List.range 255).map (· + 1)

/-- The FREE glue-up IDs. -/
def State.freeIds (s : State) : List Nat := glueIds.filter (fun i => (s.glueUp i).st == .free)

/-- The ID is a fabric ID: from GLUE_BASE to 254 while GLUE_BASE is not zero (R264). -/
def State.fabricId (s : State) (id : Nat) : Bool :=
  s.fab.joined && s.fab.glueBase != 0 && decide (s.fab.glueBase ≤ id) && decide (id ≤ 254)

/-- The lowest FREE ID that is not a fabric ID, while at least `keep` IDs are FREE (R157, R264). -/
def State.pickId (s : State) (keep : Nat) : Option Nat :=
  if s.freeIds.length < keep then none else s.freeIds.find? (fun i => !s.fabricId i)

/-- GLUE_CTRL.DEFAULT_TIMEOUT_S (Table 5.11). -/
def State.defaultTimeout (s : State) : Nat := max 1 (s.rf Reg.glueCtrl 0 8)

/-- GLUE_RETRY_LIMIT in CCLK (Table 5.11). -/
def State.retryLimit (s : State) : Nat := min 10000 (max 1 (s.rf Reg.glueRetryLimit 0 14)) * msC

/-- Open a glue-up with the next age (R155, R156).
DESIGN CHOICE: log entry 56. -/
def State.openGlue (s : State) (id : Nat) (retry : Bool) (timeout : Nat) (opener : GlueBy) : State :=
  let g := s.glueUp id
  let g := { g with
    st := .opened, retry := retry, opener := opener, age := s.glue.nextAge, ops := 0, openedAt := s.clk.age, reason := 0
    timeoutS := (if timeout = 0 then s.defaultTimeout else timeout), held := false }
  let s := s.setGlue id g
  { s with glue := { s.glue with nextAge := s.glue.nextAge + 1 } }

/-- A glue-up becomes FREE. What GLUE_STATUS reports of its past stays (Table 5.10). -/
def State.freeGlue (s : State) (id : Nat) : State :=
  let g := s.glueUp id
  let s := s.setGlue id { g with st := .free, retry := false, opener := .host, ops := 0, held := false }
  { s with glue := { s.glue with touched := s.glue.touched.filter (fun x => x.1 != id) } }

/-- X is older than Y (R156). -/
def olderAge (x y : Word) : Bool := decide (1 ≤ (y - x).toNat) && decide ((y - x).toNat ≤ 2 ^ 31)

/-- An OPEN glue-up enters ABORTING for a reason of Table 5.6, and is counted (Table 5.11).
DESIGN CHOICE: log entry 41. -/
def State.abortGlue (s : State) (id reason wounder : Nat) : State :=
  let g := s.glueUp id
  if g.st ≠ .opened then s
  else
    let s := s.setGlue id { g with
      st := .aborting, reason := reason, lastAbort := reason, wounder := if reason = 2 then wounder else g.wounder }
    let s := s.cnt Reg.glueAbortCount 1
    let s := if reason = 2 then s.cnt Reg.glueWoundCount 1 else s
    if reason = 3 then s.cnt Reg.glueTimeoutCount 1 else s

/-- Tell the follow side that a glue-up of the lead aborts, with its reason in bits [15:8] (R270). -/
def State.tellAbort (s : State) (id reason : Nat) : State :=
  if s.mirroring then
    let ref := s.twin.nextRef
    let s : State := { s with twin := { s.twin with nextRef := ref + 1 } }
    s.send .mitre (.mirror ⟨ref, Op.glueAbort, [], [w32 (id + reason * 256)]⟩)
  else s

/-- Add operations to a glue-up. -/
def State.addOps (s : State) (id n : Nat) : State :=
  let g := s.glueUp id
  s.setGlue id { g with ops := g.ops + n }

/-! ## Clamping (R165, R264, R272) -/

/-- The epoch boundary that follows the last one: the first multiple of Q at least Q after it (R144), in ns. -/
def State.nextBoundary (s : State) : Nat :=
  let q := s.quantum * 1000
  ceilDiv (s.glue.lastBoundary + q).toNat q * q

/-- The first boundary that lies at least `cclk` after now, in ns of device time. -/
def State.boundaryAfter (s : State) (cclk : Nat) : Nat :=
  let q := s.quantum * 1000
  let t := (s.clk.dt + cclk * s.tickUnits + dtUnit - 1) / dtUnit
  max s.nextBoundary (ceilDiv t q * q)

/-- Glue-ups enter CLAMPING. Fabric IDs wait for the coordinator (R264). In a twin that mirrors, the lead sends PREPARE
and holds them for its target boundary (R272); `mir` says whether their changes are mirrored (R203). -/
def State.toClampingIf (s : State) (mir : Bool) (ids : List Nat) : State :=
  let now := s.clk.age
  let two := mir && s.mirroring && !ids.any s.fabricId && !ids.isEmpty
  let s := ids.foldl (fun s id =>
    let g := s.glueUp id
    s.setGlue id { g with st := .clamping, clampAt := now, held := two || s.fabricId id }) s
  if ¬ two then s
  else
    let s := s.send .mitre (.prepare ids)
    let p : PrepJob := { ids := ids, target := s.boundaryAfter 1000, since := now, committed := false, alone := false }
    { s with twin := { s.twin with preps := s.twin.preps ++ [p] } }

/-- Glue-ups whose changes are mirrored enter CLAMPING. -/
def State.toClamping (s : State) (ids : List Nat) : State := s.toClampingIf true ids

/-! ## Operations and claims (R128, R129, R158 to R161, R168) -/

/-- What an attempt of an operation in a glue-up comes to: done, with the operations it adds and its reply; refused
with a status, or with one and what the refusal itself changes and reports; a target claimed by another glue-up; make-room moves begun; or done at once,
outside any glue-up. -/
inductive GlueRes where
  | done (s : State) (ops : Nat) (payload : List Word)
  | refuse (status : Nat)
  | fail (s : State) (status : Nat) (payload : List Word)
  | claimed (holder : Nat)
  | moving (s : State)
  | direct (s : State) (payload : List Word)
deriving DecidableEq, Repr

/-- GLUE_FULL (R159, R161). -/
abbrev St.glueFull : Nat := 0x0231

/-- The statuses of R161 for a named glue-up that cannot take an operation; 0 when it can. -/
def State.glueOpen? (s : State) (id : Nat) : Nat :=
  match (s.glueUp id).st with
  | .free => 0x0131
  | .opened => 0
  | .clamping => 0x0331
  | .settling => 0x0331
  | .aborting => 0x0332

/-- A glue-up whose failed claims are retried by the firmware (R168). A mirrored operation always waits (R271). -/
def State.retries (s : State) (id : Nat) (q : Request) : Bool :=
  (s.glueUp id).retry || (s.glueUp id).opener != .host || q.mirrored

/-- A claim found another holder (R168): counted, and an older RETRY glue-up of the host wounds an OPEN holder.
DESIGN CHOICE: log entry 54. -/
def State.claimFail (s : State) (id holder : Nat) : State :=
  let s := s.cnt Reg.glueClaimFailCount 1
  let r := s.glueUp id
  let h := s.glueUp holder
  if r.retry ∧ r.opener = .host ∧ olderAge r.age h.age ∧ h.st = .opened then (s.abortGlue holder 2 id).tellAbort holder 2 else s

/-- An operation waits in the firmware's retry queue (R168). -/
def State.queueRetry (s : State) (id op : Nat) (q : Request) (since : Nat) : State :=
  { s with glue := { s.glue with retryQ := s.glue.retryQ ++ [⟨id, op, q, since⟩] } }

/-- An implicit glue-up whose command failed holding nothing returns to FREE at once (R128). -/
def State.dropImplicit (s : State) (id : Nat) : State := s.freeGlue id

/-- A glue-up holds a claim or an operation. -/
def State.holds (s : State) (id : Nat) : Bool :=
  (s.glueUp id).ops != 0 || s.tern.rows.any (fun x => x.2.tag.toNat == id && x.2.state != .free) ||
    s.exm.slots.any (fun x => x.2.tag.toNat == id && x.2.state != .free) || s.coh.cow.any (fun x => x.2.used && x.2.glue == id) ||
    s.glue.moves.any (fun m => m.id == id) || s.exm.inserts.any (fun i => i.id == id)

/-- The command of an implicit glue-up fails with a status: a glue-up that holds nothing is FREE at once; one that holds claims or
operations enters ABORTING, and the reply follows its rewrite cycle (R128). -/
def State.failImplicit (s : State) (id op : Nat) (q : Request) (status : Nat) (w : List Word) : State :=
  if s.holds id then ((s.abortGlue id 8 0).tellAbort id 8).wait (.abort id) op q status w
  else (s.dropImplicit id).reply op q status w

/-- The firmware's own glue-up joins the next advance. -/
def State.clampLocal (s : State) (id : Nat) : State :=
  s.setGlue id { s.glueUp id with st := .clamping, clampAt := s.clk.age, held := false }

/-- An operation that has waited fails with a status, in a glue-up of the host, of its own command, or of the firmware. -/
def State.failOp (s : State) (id op : Nat) (q : Request) (status : Nat) (w : List Word) : State :=
  match (s.glueUp id).opener with
  | .implicit => s.failImplicit id op q status w
  | .maintenance => s.freeGlue id
  | _ => s.reply op q status w

/-- The clamp of an implicit glue-up whose change is in veneer (R128). -/
def State.clampImplicit (s : State) (mir : Bool) (id ops : Nat) : State := (s.addOps id ops).toClampingIf mir [id]

/-- A refusal that has a counter of its own: REHASH_NEEDED (R191). -/
def State.noteRefuse (s : State) (status : Nat) : State :=
  if status = 0x0240 then s.cnt Reg.exactRehashNeededCount 1 else s

/-- Where glue-up `g` has put the pending insert of a ternary index. -/
def State.pendRow (s : State) (t i g : Nat) : Option Nat :=
  (s.ternNow t).bind (fun d => (s.tern.rows.find? (fun x =>
    x.2.state == .veneer && x.2.tag.toNat == g && x.1 % d.rowsPer == 0 &&
      (smGet segment0 s.tern.segments (x.1 / 16384)).table == t && (s.word x.1).index.toNat == i)).map (·.1))

/-- The rows of a write that makes room: that of its entry, and the source and the destination of each move. -/
def State.jobRows (s : State) (t i g : Nat) : List Nat :=
  match s.glue.moves.find? (fun m => m.id == g && m.table == t && m.index == i && !m.finished), s.ternNow t with
  | some m, some d => (m.place :: m.moves.flatMap (fun x => [x.1, x.2])).map (d.rowAt m.part 0)
  | _, _ => []

/-- The places that an operation of a glue-up has been given (Table 8.4): the row of a ternary entry with its moves, or the copy of an
action entry. -/
def State.placesOf (s : State) (op : Nat) (q : Request) (g : Nat) : List Nat :=
  if op = Op.entryWrite then
    (s.pendRow (q.f 0 0 8) (q.f 1 0 21) g).elim (s.jobRows (q.f 0 0 8) (q.f 1 0 21) g) (fun a => [a])
  else if op = Op.writeEntry then
    ((s.coh.cow.find? (fun x => x.2.used && x.2.glue == g && x.2.orig == q.f 1 0 20)).map (·.1)).toList
  else []

/-- Carry an operation to the follow side when it is one that is mirrored. -/
def State.mirrorIf (s : State) (mir : Bool) (op : Nat) (q : Request) (g : Nat) : State :=
  if mir then s.mirrorAt op q g q.words (s.placesOf op q g) else s

/-- A command that accepts a glue-up, once its earlier checks have passed (R128, R129, R160, R168). `act` attempts the
operation in the glue-up given; `mir` says whether a twin's lead mirrors it. -/
def State.glueBody (s : State) (op : Nat) (q : Request) (mir : Bool) (act : State → Nat → GlueRes) : State × CmdEnd :=
  let g := q.f 0 8 8
  if g ≠ 0 then
    if s.glueOpen? g ≠ 0 then (s, fin (s.glueOpen? g))
    else match act s g with
      | .done t n w =>
        if 4096 < (t.glueUp g).ops + n then (s, fin St.glueFull)
        else ((t.addOps g n).mirrorIf mir op q g, .final St.ok w)
      | .refuse st => (s.noteRefuse st, fin st)
      | .fail t st w => (t, .final st w)
      | .direct t w => (t.mirrorIf mir op q g, .final St.ok w)
      | .moving t => (t.mirrorIf mir op q g, .pendElse)
      | .claimed h =>
        let t := s.claimFail g h
        if s.retries g q then (t.queueRetry g op q s.clk.age, .pendElse) else (t, fin St.entryClaimed)
  else match s.pickId 2 with
    | none => (s, fin 0x0223)
    | some id =>
      let o := s.openGlue id false 0 .implicit
      match act o id with
      | .done t n w =>
        if 4096 < (t.glueUp id).ops + n then (o.dropImplicit id, fin St.glueFull)
        else ((t.mirrorIf mir op q id).clampImplicit mir id n, .pend (.implicit id) w)
      | .refuse st => ((o.dropImplicit id).noteRefuse st, fin st)
      | .fail t st w => (t.dropImplicit id, .final st w)
      | .direct t w => ((t.dropImplicit id).mirrorIf mir op q id, .final St.ok w)
      | .moving t => (t.mirrorIf mir op q id, .pendElse)
      | .claimed h => ((o.claimFail id h).queueRetry id op q s.clk.age, .pendElse)

/-- A mirrored command that accepts a glue-up: the follow side refuses it (R270), and `pre` is the status of its checks
that come before those of the glue-up, 0 when they pass. -/
def State.glueOp (s : State) (op : Nat) (q : Request) (pre : Nat) (act : State → Nat → GlueRes) : State × CmdEnd :=
  if s.refuses q then (s, fin St.followSide)
  else if pre ≠ 0 then (s, fin pre)
  else s.glueBody op q true act

/-- One more attempt of a waiting operation (R168). `undo` takes back what its earlier attempts have left in veneer. -/
def State.glueRetry (s : State) (r : RetryOp) (mir : Bool) (undo : State → State) (act : State → Nat → GlueRes) : State :=
  let implicit := (s.glueUp r.id).opener == .implicit
  let out (s : State) : State := { s with glue := { s.glue with retryQ := s.glue.retryQ.erase r } }
  let refuse (s : State) (st : Nat) (w : List Word) : State := ((undo (out s)).noteRefuse st).failOp r.id r.op r.q st w
  if s.glueOpen? r.id ≠ 0 then (out s).reply r.op r.q (s.glueOpen? r.id) []
  else match act s r.id with
    | .done t n w =>
      if 4096 < (t.glueUp r.id).ops + n then refuse s St.glueFull []
      else if implicit then
        (((out t).mirrorIf mir r.op r.q r.id).clampImplicit mir r.id n).wait (.implicit r.id) r.op r.q St.ok w
      else if (t.glueUp r.id).opener = .maintenance then ((out t).addOps r.id n).clampLocal r.id
      else (((out t).addOps r.id n).mirrorIf mir r.op r.q r.id).reply r.op r.q St.ok w
    | .refuse st => refuse s st []
    | .fail t st w => refuse t st w
    | .direct t w =>
      let t := out t
      if implicit then (t.dropImplicit r.id).reply r.op r.q St.ok (setAt w 1 (w32 s.glue.c.toNat)) else t.reply r.op r.q St.ok w
    | .moving t => (out t).mirrorIf mir r.op r.q r.id
    | .claimed h =>
      let t := s.claimFail r.id h
      if s.retries r.id r.q then t else refuse t St.entryClaimed []

/-! ## Class 2 commands (R173 to R177) -/

/-- GLUE_OPEN (R173). -/
def State.glueOpenCmd (s : State) (q : Request) : State × CmdEnd :=
  let id := q.f 0 0 8
  if q.stray 0 0x00FF01FF then (s, fin 0x0130)
  else if s.refuses q then (s, fin St.followSide)
  else if id ≠ 0 ∧ (s.glueUp id).st ≠ .free then (s, fin 0x0333)
  else if s.freeIds.length < 2 then (s, fin 0x0223)
  else match (if id = 0 then s.pickId 2 else some id) with
    | none => (s, fin 0x0223)
    | some i =>
      let s := s.openGlue i (q.b 0 8) (q.f 0 16 8) .host
      (s.mirrorAs Op.glueOpen q 0 [merge (q.w 0) (w32 i) 0xFF],
        .final St.ok [w32 i, (s.glueUp i).age])

/-- GLUE_OPEN. -/
def execGlueOpen (q : Request) (s : State) : Host.Outcome State Fault Refusal :=
  finish s (runCmd Op.glueOpen q State.glueOpenCmd s)

/-- The status of a named glue-up for GLUE_CLAMP and GLUE_ABORT; 0 when it is OPEN. -/
def State.clampCheck (s : State) (ids : List Nat) : Nat :=
  ((ids.map s.glueOpen?).find? (· != 0)).getD 0

/-- GLUE_CLAMP (R165, R166, R174). -/
def State.glueClampCmd (s : State) (q : Request) : State × CmdEnd :=
  let ids := q.words.map (fun w => fld w 0 8)
  let ops := (ids.map (fun i => (s.glueUp i).ops)).foldl (· + ·) 0
  if q.words.any (fun w => strayBits w 0xFF) ∨ ids.contains 0 ∨ ids.eraseDups.length ≠ ids.length then (s, fin 0x0130)
  else if s.refuses q then (s, fin St.followSide)
  else if s.clampCheck ids ≠ 0 then (s, fin (s.clampCheck ids))
  else if ids.any s.fabricId ∧ ids.any (fun i => !s.fabricId i) then (s, fin 0x0162)
  else if ids.all (fun i => (s.glueUp i).ops == 0) then
    ((ids.foldl State.freeGlue s).mirrorAs Op.glueClamp q 0 (ids.map (fun i => w32 (i + 256))),
      .final St.ok [w32 s.glue.c.toNat])
  else
    let s := if ids.any s.fabricId then s.mirrorAs Op.glueClamp q 0 q.words else s
    (s.toClamping ids, .pend (.clamp ids) [w32 (ops * 2 ^ 16)])

/-- GLUE_CLAMP. -/
def execGlueClamp (q : Request) (s : State) : Host.Outcome State Fault Refusal :=
  finish s (runCmd Op.glueClamp q State.glueClampCmd s)

/-- GLUE_ABORT (R175). -/
def State.glueAbortCmd (s : State) (q : Request) : State × CmdEnd :=
  let id := q.f 0 0 8
  if q.stray 0 0xFF ∨ id = 0 then (s, fin 0x0130)
  else if s.refuses q then (s, fin St.followSide)
  else if s.glueOpen? id ≠ 0 then (s, fin (s.glueOpen? id))
  else ((s.abortGlue id 1 0).mirror Op.glueAbort q 0, .pend (.abort id) [])

/-- GLUE_ABORT. -/
def execGlueAbort (q : Request) (s : State) : Host.Outcome State Fault Refusal :=
  finish s (runCmd Op.glueAbort q State.glueAbortCmd s)

/-- The largest number of ways that a glue-up pins in one directory set (Table 5.10). -/
def State.maxPins (s : State) (id : Nat) : Nat :=
  let sets := (s.coh.dir.filter (fun x => x.2.pin.toNat == id)).map (fun x => x.1 / 16)
  sets.foldl (fun m k => max m (sets.filter (· == k)).length) 0

/-- Counts of glue-ups in a state. -/
def State.countGlue (s : State) (st : GlueState) : Nat := (s.glue.ups.filter (fun x => x.2.st == st)).length

/-- GLUE_STATUS (R176).
DEDUCED: log entry 42. -/
def State.glueStatusCmd (s : State) (q : Request) : State × CmdEnd :=
  let id := q.f 0 0 8
  let g := s.glueUp id
  if q.stray 0 0xFF then (s, fin 0x0130)
  else if s.refuses q then (s, fin St.followSide)
  else if id = 0 then
    (s, .final St.ok [
      w32 (s.glue.c.toNat + s.oldest.toNat * 2 ^ 4 + s.inflightMask * 2 ^ 8 + s.countGlue .opened * 2 ^ 16 +
        s.countGlue .clamping * 2 ^ 24), w32 s.quantum])
  else
    let waiting := (s.glue.retryQ.filter (fun r => r.id == id)).length
    (s, .final St.ok [
      w32 (g.st.code + b2n g.retry * 8 + b2n (g.opener != .host) * 16 + g.lastAbort * 2 ^ 8 + g.ops * 2 ^ 16), g.age,
      w32 (waiting + g.wounder * 2 ^ 16), w32 (g.clampEpoch.toNat + s.maxPins id * 2 ^ 8)])

/-- GLUE_STATUS. -/
def execGlueStatus (q : Request) (s : State) : Host.Outcome State Fault Refusal :=
  finish s (runCmd Op.glueStatus q State.glueStatusCmd s)

/-- EPOCH_CONFIG (R177). -/
def State.epochConfig (s : State) (q : Request) : State × CmdEnd :=
  if q.stray 0 0x3FF ∨ q.f 0 0 10 = 0 ∨ 1000 < q.f 0 0 10 then (s, fin 0x0132)
  else if s.refuses q then (s, fin St.followSide)
  else
    let s := s.wrLock Reg.glueQuantum (q.w 0) 0x3FF
    (s, .final St.ok [w32 s.quantum])

/-- EPOCH_CONFIG. -/
def execEpochConfig (q : Request) (s : State) : Host.Outcome State Fault Refusal :=
  finish s (runCmd Op.epochConfig q State.epochConfig s)

/-- GLUE_TIMEOUT: a glue-up of the host that has been OPEN for its timeout aborts (R167, Table 5.6). -/
def execGlueTimeout (id : Nat) (s : State) : Host.Outcome State Fault Refusal :=
  finish s (whileFw s fun s =>
    let g := s.glueUp id
    if g.st = .opened ∧ g.opener = .host ∧ ¬ s.followRefuses then
      ((s.until (g.openedAt + g.timeoutS * secC)).abortGlue id 3 0).tellAbort id 3
    else s)

end Sys2Proof.Machine
end

