-- ==== Sys2Proof/Machine/Ternary.lean ====
section
/-! DEFINITION. Entries of ternary tables (R116 to R121, R127, R162): where they stand, who claims them, how a new one is
placed in rank order, and how rows are written. -/

namespace Sys2Proof.Machine

/-! ## Entries that stand in slots -/

/-- A slot that is not free: its hidden field and PRI, and its result word. -/
structure Place where
  part : Nat
  slot : Nat
  row : Nat
  state : RowState
  tag : Nat
  birth : BitVec 3
  death : BitVec 3
  index : Nat
  action : Nat
  pri : Nat
deriving DecidableEq, Repr

/-- The first of some replicas that satisfies `ok`, or replica 0. -/
def TernDesc.pickReplica (d : TernDesc) (ok : Nat → Bool) : Nat := ((List.range d.replicas).find? ok).getD 0

/-- The slot `n` of partition `p`, as the lowest replica holds it whose copy passes parity. Where none passes, its result word is that of the
lowest replica whose word does.
DESIGN CHOICE: log entry 43. -/
def State.placeAt (s : State) (d : TernDesc) (p n : Nat) : Place :=
  let a := d.rowAt p 0 n
  let good (r : Nat) : Bool := s.entryOk d (d.rowAt p r n)
  let k := if (List.range d.replicas).any good then d.pickReplica good else d.pickReplica (fun r => (s.word (d.rowAt p r n)).ok)
  let r := s.row (d.rowAt p (d.pickReplica good) n)
  let w := s.word (d.rowAt p k n)
  { part := p, slot := n, row := a, state := r.state, tag := r.tag.toNat, birth := r.birth, death := r.death
    index := w.index.toNat, action := w.action.toNat, pri := r.pri.toNat }

/-- The slots of a table that are not free. -/
def State.places (s : State) (d : TernDesc) : List Place :=
  (List.range d.parts).flatMap (fun p =>
    ((sortBy id ((List.range d.replicas).flatMap (s.usedSlots d p))).eraseDups.map (s.placeAt d p)).filter (fun x => x.state != .free))

/-- The slot holds a committed entry or a pending insert; not one that waits for reclamation. -/
def Place.stands (x : Place) : Bool := x.state == .live || (x.state == .veneer && x.tag != 0)

/-- The committed entry at an index. -/
def committed (ps : List Place) (i : Nat) : Option Place := ps.find? (fun x => x.state == .live && x.index == i)

/-- The pending insert of glue-up `g` at an index. -/
def pendingOf (ps : List Place) (g i : Nat) : Option Place :=
  ps.find? (fun x => x.state == .veneer && x.tag == g && g != 0 && x.index == i)

/-- The glue-up that claims a slot (R158, R171); 0 for none. -/
def State.slotHolder (s : State) (t p n tag : Nat) : Nat :=
  if tag ≠ 0 then tag
  else ((s.glue.moves.find? (fun m => m.table == t && m.part == p && m.claimed.contains n)).map (·.id)).getD 0

/-- A place's holder. -/
def State.holderOf (s : State) (t : Nat) (x : Place) : Nat := s.slotHolder t x.part x.slot x.tag

/-- The glue-up that claims an entry index of a table; 0 for none. -/
def State.indexHolder (s : State) (t i : Nat) (ps : List Place) : Nat :=
  let hs := ((ps.filter (fun x => x.stands && x.index == i)).map (s.holderOf t)) ++
    ((s.glue.moves.filter (fun m => (m.table == t && m.index == i) || m.claims.contains (t, i))).map (·.id))
  (hs.find? (· != 0)).getD 0

/-! ## Writing rows -/

/-- The bits of a row that lie in an enabled range slice. -/
def sliceMask (re : Nat) : Nat := (if re % 2 = 1 then 0xFFFF else 0) + (if re / 2 % 2 = 1 then 0xFFFF00000000 else 0)

/-- Row `j` of a new entry (R76, R77, R127), in a state with a TAG: PRI stands in row 0 alone. -/
def NewEntry.row (e : NewEntry) (j : Nat) (st : RowState) (tag : Nat) : Row :=
  let re := nfld e.rangeEn (2 * j) 2
  let v := nfld e.value (80 * j) 80
  let c := nfld e.care (80 * j) 80
  Row.sealed {
    value := BitVec.ofNat 80 (v &&& (c ||| sliceMask re)), care := BitVec.ofNat 80 c, rangeEn := BitVec.ofNat 2 re
    tag := BitVec.ofNat 8 tag, birth := 0, death := 0, state := st, pri := if j = 0 then BitVec.ofNat 16 e.pri else 0, parity := 0 }

/-- The rows of a new entry. -/
def NewEntry.rows (e : NewEntry) (d : TernDesc) (st : RowState) (tag : Nat) : List Row :=
  (List.range d.rowsPer).map (fun j => e.row j st tag)

/-- Write rows and a result word into slot `n` of every replica of partition `p` (R118). -/
def State.writeSlot (s : State) (d : TernDesc) (p n : Nat) (rows : List Row) (w : ResultWord) : State :=
  (List.range d.replicas).foldl (fun s r => (s.setRows (d.rowAt p r n) rows).setWord (d.rowAt p r n) w) s

/-- The same through LS, replica by replica; a relocation locks its ports (R82, R420). -/
def State.landSlot (s : State) (d : TernDesc) (p n : Nat) (rows : List Row) (w : ResultWord) (lock : Bool) : State :=
  (List.range d.replicas).foldl (fun s r => s.lsWrite (d.rowAt p r n) rows w lock) s

/-- Rewrite the hidden field of every row of slot `n` in every replica (R74, R77). -/
def State.hideSlot (s : State) (d : TernDesc) (p n : Nat) (f : Row → Row) : State :=
  (List.range d.replicas).foldl (fun s r =>
    let a := d.rowAt p r n
    s.setRows a ((s.entryRows d a).map (fun x => x.rewrite (f x)))) s

/-- Set the TAG of an entry: a claim on its slot (R158, R162). -/
def State.tagSlot (s : State) (d : TernDesc) (p n g : Nat) : State :=
  s.hideSlot d p n (fun r => { r with tag := BitVec.ofNat 8 g })

/-- Set a slot's rows to the free state. -/
def State.freeSlot (s : State) (d : TernDesc) (p n : Nat) : State :=
  s.hideSlot d p n (fun r => { r with state := .free, tag := 0 })

/-- The entry in slot `n` as a new entry, for a copy or a replacement of it. -/
def State.readEntry (s : State) (d : TernDesc) (a : Nat) : NewEntry :=
  let rows := s.entryRows d a
  let cat (w : Nat) (f : Row → Nat) : Nat := (rows.foldr (fun r n => f r + 2 ^ w * n) 0)
  { index := (s.word a).index.toNat, pri := (s.row a).pri.toNat, rangeEn := cat 2 (fun r => r.rangeEn.toNat)
    value := cat 80 (fun r => r.value.toNat), care := cat 80 (fun r => r.care.toNat), action := (s.word a).action.toNat }

/-! ## Overlap (R119) -/

/-- Some number of `k` bits lies in lo … hi and agrees with `v` under `c`. -/
def rangeMeets : Nat → Nat → Nat → Nat → Nat → Bool
  | 0, lo, hi, _, _ => decide (lo ≤ hi)
  | k + 1, lo, hi, v, c =>
    let h := 2 ^ k
    if hi < lo then false
    else
      let b := v / h % 2
      let free := c / h % 2 == 0
      ((free || b == 0) && decide (lo < h) && rangeMeets k lo (min hi (h - 1)) (v % h) (c % h)) ||
        ((free || b == 1) && decide (h ≤ hi) && rangeMeets k (max lo h - h) (hi - h) (v % h) (c % h))

/-- Two rows have a common key in the slice whose lowest bit is `lo`. -/
def sliceMeets (x y : Row) (lo i : Nat) : Bool :=
  let f (n : BitVec 80) : Nat := nfld n.toNat lo 16
  match x.rangeEn.getLsbD i, y.rangeEn.getLsbD i with
  | true, true => decide (max (f x.value) (f y.value) ≤ min (f x.care) (f y.care))
  | true, false => rangeMeets 16 (f x.value) (f x.care) (f y.value) (f y.care)
  | false, true => rangeMeets 16 (f y.value) (f y.care) (f x.value) (f x.care)
  | false, false => nfld ((x.value ^^^ y.value) &&& x.care &&& y.care).toNat lo 16 == 0

/-- Two rows have a common key. -/
def rowMeets (x y : Row) : Bool :=
  let rest := (x.value ^^^ y.value) &&& x.care &&& y.care
  sliceMeets x y 0 0 && sliceMeets x y 32 1 && nfld rest.toNat 16 16 == 0 && nfld rest.toNat 48 32 == 0

/-- An entry as placement sees it: slot, index, PRI, rows, and whether it leaves with the glue-up that the new entry joins, so that no
epoch sees the two together. -/
structure Item where
  slot : Nat
  index : Nat
  pri : Nat
  rows : List Row
  leaving : Bool
deriving DecidableEq, Repr

/-- Two entries must stand in index order (R119). -/
def mustOrder (resolution : Nat) (x y : Item) : Bool :=
  resolution == 1 || (x.pri == y.pri && (x.rows.zip y.rows).all (fun z => rowMeets z.1 z.2))

/-! ## Placement (R119) -/

/-- The first of `fuel` numbers from `n` on that satisfies `p`. -/
def firstFrom : Nat → Nat → (Nat → Bool) → Option Nat
  | 0, _, _ => none
  | k + 1, n, p => if p n then some n else firstFrom k (n + 1) p

/-- The last number below `n` that satisfies `p`. -/
def lastBelow : Nat → (Nat → Bool) → Option Nat
  | 0, _ => none
  | n + 1, p => if p n then some n else lastBelow n p

/-- A way to place a new entry: the relocations as (source, destination) slots in the order in which they are made, and
the slot that the entry takes. -/
structure Plan where
  moves : List (Nat × Nat)
  place : Nat
deriving DecidableEq, Repr

/-- The relocations of a chain of occupied slots, each into the slot before it, the first into `f`. -/
def shiftInto : Nat → List Nat → List (Nat × Nat)
  | _, [] => []
  | f, c :: cs => (c, f) :: shiftInto c cs

/-- Put `k` slots apart: the plan of step 2 that shifts `chain`, nearest to `f` first. -/
def shiftPlan (f : Nat) (chain : List Nat) : Plan := ⟨shiftInto f chain, (chain.getLast?).getD f⟩

/-- Rank order holds among items: whoever must precede stands before. -/
def inOrder (resolution : Nat) (xs : List Item) : Bool :=
  xs.all (fun x => xs.all (fun y => !(decide (x.index < y.index) && mustOrder resolution x y) || decide (x.slot < y.slot)))

/-- Make one relocation. -/
def moveItem (xs : List Item) (m : Nat × Nat) : List Item :=
  xs.map (fun x => if x.slot = m.1 then { x with slot := m.2 } else x)

/-- A plan keeps rank order at every step and ends with the new entry in order among those that stay. -/
def planHolds (resolution : Nat) (new : Item) : List Item → List (Nat × Nat) → Nat → Bool
  | xs, [], place => inOrder resolution xs && inOrder resolution ({ new with slot := place } :: xs.filter (fun x => !x.leaving))
  | xs, m :: ms, place =>
    let ys := moveItem xs m
    inOrder resolution ys && planHolds resolution new ys ms place

/-- Everything that must follow the new entry, by any chain of orders; `up` false gives what must precede it. -/
def closure (resolution : Nat) (up : Bool) (xs : List Item) : Nat → List Item → List Item
  | 0, ys => ys
  | k + 1, ys =>
    let more := xs.filter (fun x => !ys.any (fun y => y.slot == x.slot) && ys.any (fun y =>
      mustOrder resolution x y && (if up then decide (y.index < x.index) else decide (x.index < y.index))))
    if more.isEmpty then ys else closure resolution up xs k (ys ++ more)

/-- Make room with one free slot. `ls` are the slots of what must precede the new entry, `us` of what must follow it. Whatever of
`ls` stands above the hole comes down into it, nearest first, and otherwise whatever of `us` stands below it goes up; so neither
set changes its own order, and the hole ends between them. -/
def partThrough : Nat → List Nat → List Nat → Nat → List (Nat × Nat) × Nat
  | 0, _, _, hole => ([], hole)
  | k + 1, ls, us, hole =>
    match (sortBy id (ls.filter (fun n => decide (hole < n)))).head? with
    | some n =>
      let r := partThrough k (hole :: ls.erase n) us n
      ((n, hole) :: r.1, r.2)
    | none =>
      match (sortBy id (us.filter (fun n => decide (n < hole)))).getLast? with
      | none => ([], hole)
      | some n =>
        let r := partThrough k ls (hole :: us.erase n) n
        ((n, hole) :: r.1, r.2)

/-- Move slots, given in the order in which they are to stand away from the new entry, each to the free slot at its place in
`frees`; the new entry takes the first free slot. The farthest moves first. -/
def spread (slots frees : List Nat) : List Plan :=
  match frees with
  | [] => []
  | f :: fs => if fs.length < slots.length then [] else [⟨(slots.zip fs).reverse, f⟩]

/-- The plans of step 3: what must follow the new entry goes behind it, what must precede it goes before it, whole sets of them or
only those that stand wrongly, or both sets are parted through one free slot.
DESIGN CHOICE: log entry 44. -/
def rebuildPlans (resolution : Nat) (new : Item) (xs : List Item) (frees : List Nat) (lo hi : Nat) : List Plan :=
  let n := xs.length
  let slots (ys : List Item) : List Nat := sortBy id (ys.map (·.slot))
  let us := slots (closure resolution true xs n (xs.filter (fun x => !x.leaving && decide (new.index < x.index) && mustOrder resolution new x)))
  let ls := slots (closure resolution false xs n (xs.filter (fun x => !x.leaving && decide (x.index < new.index) && mustOrder resolution new x)))
  let above := frees.filter (fun f => decide (lo ≤ f))
  let below := (frees.filter (fun f => decide (f < hi))).reverse
  let beyond := above.filter (fun f => decide (us.foldl max lo ≤ f))
  let before := below.filter (fun f => decide (f ≤ ls.foldl min hi))
  let near := frees.filter (fun f => decide (hi ≤ f ∧ f < lo)) ++ above.take 1 ++ below.take 1
  spread (us.filter (fun n => decide (n < lo))) above ++ spread ((ls.filter (fun n => decide (hi ≤ n))).reverse) below ++
    spread us (above.take 1 ++ beyond.filter (fun f => !(above.take 1).contains f)) ++
    spread ls.reverse (below.take 1 ++ before.filter (fun f => !(below.take 1).contains f)) ++
    near.map (fun f => let r := partThrough ((n + 1) * (n + 1)) ls us f; ⟨r.1, r.2⟩)

/-- The best of some plans: the first with the fewest relocations. -/
def leastMoves : List Plan → Option Plan
  | [] => none
  | p :: ps =>
    match leastMoves ps with
    | none => some p
    | some q => if q.moves.length < p.moves.length then some q else some p

/-- What placing a new entry comes to. -/
inductive Placement where
  | at_ (p : Plan)
  | full
  | noRoom
deriving DecidableEq, Repr

/-- The slots of a partition that inserts may use: a shrink leaves out the segments it releases (R124). -/
def State.insertLimit (s : State) (t : Nat) (d : TernDesc) : Nat :=
  match (s.ternTable t).busy with
  | .shrinking k _ _ => min k d.segs * d.eps
  | .swapping k _ _ => min k d.segs * d.eps
  | _ => d.slots

/-- A slot of partition `p` is free for an operation of glue-up `g` that holds the slots `mine` (R120): its rows are free, and no
move claims it, but for one of its own or one of `g` that is done with it. -/
def State.slotFree (s : State) (t : Nat) (d : TernDesc) (p g : Nat) (mine : List Nat) (n : Nat) : Bool :=
  (List.range d.replicas).all (fun r => (s.row (d.rowAt p r n)).state == .free) &&
    (mine.contains n || !s.glue.moves.any (fun m =>
      m.table == t && m.part == p && m.claimed.contains n && !(m.id == g && m.finished)))

/-- The item of a place, for a new entry of glue-up `g`. -/
def State.item (s : State) (d : TernDesc) (g : Nat) (x : Place) : Item :=
  ⟨x.slot, x.index, x.pri, s.entryRows d x.row, x.state == .live && x.tag == g && g != 0⟩

/-- Place a new entry in partition `p` for glue-up `g` (R119). `own` lists slots that are not free yet and that the
command may count on: those that free at reclamation (R171); `mine` those that it has claimed already. -/
def State.placeEntry (s : State) (t : Nat) (d : TernDesc) (p g : Nat) (e : NewEntry) (own mine : List Nat) : Placement :=
  let limit := s.insertLimit t d
  let ps := (s.places d).filter (fun x => x.part == p)
  let xs := (ps.filter Place.stands).map (s.item d g)
  let new : Item := ⟨0, e.index, e.pri, e.rows d .veneer g, false⟩
  let ruled := xs.filter (fun x => mustOrder d.resolution new x && !x.leaving)
  let lo := (ruled.filter (fun x => decide (x.index < e.index))).foldl (fun m x => max m (x.slot + 1)) 0
  let hi := (ruled.filter (fun x => decide (e.index < x.index))).foldl (fun m x => min m x.slot) limit
  let free := s.slotFree t d p g mine
  match firstFrom (min hi limit - lo) lo free with
  | some n => .at_ ⟨[], n⟩
  | none =>
    if (firstFrom limit 0 free).isNone then .full
    else
      let later (n : Nat) : Bool := ps.any (fun x => x.slot == n && x.state == .veneer && x.tag == 0) || own.contains n
      let use (n : Nat) : Bool := free n || later n
      let occupied := sortBy id (xs.map (·.slot))
      let plan : Option Plan :=
        if lo ≤ hi then
          let mid := (firstFrom (min hi limit - lo) lo use).map (fun n => (⟨[], n⟩ : Plan))
          let down := (lastBelow lo use).map (fun f => shiftPlan f (occupied.filter (fun n => decide (f < n ∧ n < lo))))
          let up := (firstFrom (limit - hi) hi use).map (fun f =>
            shiftPlan f (occupied.filter (fun n => decide (hi ≤ n ∧ n < f))).reverse)
          leastMoves (mid.toList ++ down.toList ++ up.toList)
        else
          let frees := (List.range limit).filter use
          leastMoves ((rebuildPlans d.resolution new xs frees lo hi).filter (fun q =>
            decide (q.moves.length ≤ ps.length) && planHolds d.resolution new xs q.moves q.place))
      match plan with
      | none => .noRoom
      | some q => .at_ q

/-! ## One entry's change in a glue-up (R121, R128, R129, R158, R162) -/

/-- The pending insert of an index in a glue-up is taken back. -/
def State.cancelInsert (s : State) (d : TernDesc) (x : Option Place) : State :=
  x.elim s (fun x => s.freeSlot d x.part x.slot)

/-- The first holder, other than `g`, of the slots that a plan touches. -/
def State.planHolder (s : State) (t p g : Nat) (ps : List Place) (q : Plan) : Option Nat :=
  let touched := q.place :: q.moves.flatMap (fun m => [m.1, m.2])
  let hs := touched.map (fun n =>
    s.slotHolder t p n (((ps.find? (fun x => x.part == p && x.slot == n && x.stands)).map (·.tag)).getD 0))
  hs.find? (fun h => h != 0 && h != g)

/-- The (source, destination) pairs of a list of slots. -/
def slotPairs : List Nat → List (Nat × Nat)
  | a :: b :: xs => (a, b) :: slotPairs xs
  | _ => []

/-- Where a command's entry goes: a mirrored ENTRY_WRITE has its slot and its moves from the lead (Table 8.4). -/
def State.placeFor (s : State) (t : Nat) (d : TernDesc) (p g : Nat) (e : NewEntry) (op : Nat) (q : Request) : Placement :=
  match (if op = Op.entryWrite then q.places else []).filterMap (d.slotAt p 0) with
  | n :: ms => .at_ ⟨slotPairs ms, n⟩
  | [] => s.placeEntry t d p g e [] []

/-- The glue-up has counted an operation for an index or a key of a table (R121). -/
def State.isTouched (s : State) (g t i : Nat) : Bool := s.glue.touched.contains (g, t, i)

/-- Note that a glue-up has counted an operation for an index or a key. -/
def State.touch (s : State) (g t i : Nat) : State :=
  if s.isTouched g t i then s else { s with glue := { s.glue with touched := s.glue.touched ++ [(g, t, i)] } }

/-- The job of an earlier write of the same index that still makes room in the same glue-up. -/
def State.jobFor (s : State) (g t i : Nat) : Option MakeRoom :=
  s.glue.moves.find? (fun m => m.id == g && m.table == t && m.index == i && !m.finished)

/-- A later command of the same glue-up replaces a write that still makes room (R121): the write ends with what it has done.
DESIGN CHOICE: log entry 212. -/
def State.supersede (s : State) (g t i : Nat) : State :=
  match s.jobFor g t i with
  | none => s
  | some m =>
    let s : State := { s with glue := { s.glue with moves := s.glue.moves.erase m } }
    let s := (s.touch g t i).setGlue g { s.glueUp g with ops := (s.glueUp g).ops + m.base }
    if m.op = Op.entryWrite then s.reply m.op m.q St.ok [w32 (m.base + 2 * m.done + m.done * 2 ^ 16), 0] else s

/-- Write an entry in glue-up `g`: its new version goes into a slot as a veneer, and the committed one gets a pending
delete. `op` and `q` are the command that waits if make-room moves are needed. -/
def State.putEntry (s : State) (t : Nat) (d : TernDesc) (e : NewEntry) (g op : Nat) (q : Request) : GlueRes :=
  let ps := s.places d
  let p := d.partOf e.value
  let old := committed ps e.index
  let mine := pendingOf ps g e.index
  let h := s.indexHolder t e.index ps
  if h ≠ 0 ∧ h ≠ g then .claimed h
  else
    let s := s.supersede g t e.index
    let base := if s.isTouched g t e.index then 0 else if old.isSome then 2 else 1
    let s := s.cancelInsert d mine
    let left := 4096 - (s.glueUp g).ops
    match s.placeFor t d p g e op q with
    | .full => .refuse 0x0220
    | .noRoom => .refuse 0x0222
    | .at_ plan =>
      let r := plan.moves.length
      match s.planHolder t p g ps plan with
      | some h => .claimed h
      | none =>
        if r = 0 ∧ s.slotFree t d p g [] plan.place then
          let s := old.elim s (fun x => s.tagSlot d x.part x.slot g)
          .done (s.landSlot d p plan.place (e.rows d .veneer g) (mkWord e.index e.action) false |>.touch g t e.index) base [w32 base, 0]
        else if left < 2 * r then .refuse 0x0222
        else if left < base + 2 * r then .refuse St.glueFull
        else
          let touched := plan.place :: plan.moves.flatMap (fun m => [m.1, m.2])
          let job : MakeRoom := {
            id := g, op := op, q := q, table := t, part := p, index := e.index, entry := e
            moves := plan.moves, place := plan.place
            claimed := touched.eraseDups, base := base, done := 0, moving := none, redo := false, waitSince := none
            stuck := none, since := s.clk.age, claims := [], finished := false }
          .moving { s with glue := { s.glue with moves := s.glue.moves ++ [job] } }

/-- Delete an index in glue-up `g`. -/
def State.dropEntry (s : State) (t : Nat) (d : TernDesc) (i g : Nat) : GlueRes :=
  let ps := s.places d
  let old := committed ps i
  let mine := pendingOf ps g i
  let h := s.indexHolder t i ps
  if old.isNone ∧ mine.isNone ∧ (s.jobFor g t i).isNone then
    if s.tern.invalid.contains (t, i) then
      .direct { s with tern := { s.tern with invalid := s.tern.invalid.erase (t, i) } } [0, 0]
    else .refuse 0x0124
  else if h ≠ 0 ∧ h ≠ g then .claimed h
  else
    let s := (s.supersede g t i).cancelInsert d mine
    let n := if s.isTouched g t i then 0 else 1
    .done ((old.elim s (fun x => s.tagSlot d x.part x.slot g)).touch g t i) n [w32 n, 0]

end Sys2Proof.Machine
end

