-- ==== Sys2Proof/Machine/TernFail.lean ====
section
/-! DEFINITION. Parity failures of ternary rows (R137 to R141): repair from a replica, repair from the partner, and
invalidation. -/

namespace Sys2Proof.Machine

/-- Every version of a table's descriptor that is in use. -/
def State.ternDescs (s : State) (t : Nat) : List TernDesc := (s.ternTable t).vers.filterMap (·.val)

/-- The slot of a table that a row belongs to: its descriptor, partition, replica and slot. A row of a segment that the table holds and that
no version of its descriptor has yet, or has still, is in a slot of a set of its own. -/
def State.findSlot (s : State) (t a : Nat) : Option (TernDesc × Nat × Nat × Nat) :=
  let own (d : TernDesc) : Option (TernDesc × Nat × Nat × Nat) :=
    let d' : TernDesc := { d with partLog2 := 0, replicas := 1, segs := 1, sets := [[a / 16384]] }
    if (smGet segment0 s.tern.segments (a / 16384)).table = t then (d'.slotAt 0 0 a).map (fun n => (d', 0, 0, n)) else none
  ((s.ternDescs t).findSome? (fun d => (List.range d.parts).findSome? (fun p => (List.range d.replicas).findSome? (fun r =>
    (d.slotAt p r a).map (fun n => (d, p, r, n)))))).or ((s.ternDescs t).head?.bind own)

/-- The slot is claimed by a glue-up that has still to clamp or abort (R141). A TAG that names no such glue-up is no claim. -/
def State.slotClaimed (s : State) (t p n tag : Nat) : Bool :=
  let h := s.slotHolder t p n tag
  h != 0 && (s.glueUp h).st != .free && (s.glueUp h).st != .settling

/-- GEN of a ternary table goes up by 1 (R132). -/
def State.ternGen (s : State) (t : Nat) : State := let x := s.ternTable t; s.setTern t { x with gen := x.gen + 1 }

/-- An event of the gleaner on a ternary entry (Table 13.6). -/
def State.gleanEvent (s : State) (code t i b : Nat) : State :=
  s.event 0x17 code 0 (w32 (i % 2 ^ 21 + t * 2 ^ 24)) (w32 b)

/-- Invalidate an entry (R139): it is visible in no epoch at once and its slot waits as though it had died in the current
epoch. A version that has died already keeps its DEATH, and its index takes no mark.
DESIGN CHOICE: log entry 52. -/
def State.invalidate (s : State) (t : Nat) (d : TernDesc) (p n : Nat) : State :=
  let x := s.placeAt d p n
  let s' := s.hideSlot d p n (fun r =>
    { r with state := .veneer, tag := 0, death := if r.state == .dying then r.death else s.glue.c })
  let inv := if x.state == .live ∧ !s.tern.invalid.contains (t, x.index) then s.tern.invalid ++ [(t, x.index)] else s.tern.invalid
  ((({ s' with tern := { s'.tern with invalid := inv } }).ternGen t).cnt Reg.gleanerInvalidateCount 1).gleanEvent 0x01 t x.index 0

/-- Copy the rows and the result word of replica `r` over every replica of the slot that fails parity (R141). -/
def State.repairFrom (s : State) (t : Nat) (d : TernDesc) (p n r : Nat) : State :=
  let a := d.rowAt p r n
  let rows := s.entryRows d a
  let w := s.word a
  let s := (List.range d.replicas).foldl (fun s k =>
    let b := d.rowAt p k n
    if s.entryOk d b then s else s.lsWrite b (rows.map Row.sealed) w true) s
  (s.cnt Reg.gleanerRepairCount 1).gleanEvent 0x02 t w.index.toNat 0

/-- The device is in a twin whose partner can repair: formed and not DIVERGED (R140, R212). -/
def State.canAsk (s : State) : Bool := s.twin.formed && !s.twin.diverged

/-- Ask the partner for the copy of a slot, once (R140, R212). -/
def State.askRepair (s : State) (exact : Bool) (t key pos : Nat) : State :=
  if s.glean.repairs.any (fun r => r.exact == exact && r.table == t && r.key == key) then s
  else
    let s := s.send .mitre (.repairRequest exact t key)
    { s with glean := { s.glean with repairs := s.glean.repairs ++ [⟨exact, t, key, pos, s.clk.age⟩] } }

/-- Act on a slot of a table (R138 to R141): the replicas that pass repair those that fail; where none passes, the partner is
asked or the entry is invalidated. A slot with no failure needs nothing. -/
def State.mendSlot (s : State) (t : Nat) (d : TernDesc) (p n : Nat) : State :=
  let ok (r : Nat) : Bool := s.entryOk d (d.rowAt p r n)
  let x := s.placeAt d p n
  if (List.range d.replicas).all ok then s
  else if (List.range d.replicas).any ok then s.repairFrom t d p n (d.pickReplica ok)
  else if x.state == .veneer ∧ x.tag = 0 then s
  else if s.canAsk then s.askRepair false t x.row x.row
  else s.invalidate t d p n

end Sys2Proof.Machine
end

