-- ==== Sys2Proof/Machine/ExactStore.lean ====
section
/-! DEFINITION. The exact-match store (R179 to R190): slots and their parity, the hash, searching, and claims, in both copies while a rehash
builds one (R194). -/

namespace Sys2Proof.Machine

/-! ## Slots (R179, R180, R189) -/

/-- The first overflow position (R207). -/
abbrev ovfBase : Nat := 0x100000

/-- A slot by position. -/
def State.slot (s : State) (p : Nat) : Slot := smGet slot0 s.exm.slots p

/-- Store a slot. -/
def State.setSlot (s : State) (p : Nat) (x : Slot) : State :=
  { s with exm := { s.exm with slots := smSet slot0 s.exm.slots p x } }

/-- Bits [126:0] of an image as one number. -/
def Slot.image (x : Slot) : Nat :=
  x.key.toNat + 2 ^ 80 * (x.action.toNat + 2 ^ 20 * (x.ts.toNat + 2 ^ 12 * (b2n x.learned +
    2 * (x.imgTag.toNat + 2 ^ 8 * (x.imgBirth.toNat + 8 * x.imgDeath.toNat)))))

/-- The tag-table word of a slot as one number. -/
def Slot.tagWord (x : Slot) : Nat := x.tag.toNat + 256 * (x.birth.toNat + 8 * (x.death.toNat + 8 * x.state.code))

/-- The image passes parity. -/
def Slot.imageOk (x : Slot) : Bool := x.parity == parityOf 127 x.image

/-- The tag-table word passes parity. -/
def Slot.tagOk (x : Slot) : Bool := x.tagParity == parityOf 16 x.tagWord

/-- The image and the tag-table word pass parity (R188). -/
def Slot.ok (x : Slot) : Bool := x.imageOk && x.tagOk

/-- A whole-slot write by the firmware: copies of the tag table in the image, and both parity bits afresh. -/
def Slot.sealed (x : Slot) : Slot :=
  let y := { x with imgTag := x.tag, imgBirth := x.birth, imgDeath := x.death }
  { y with parity := parityOf 127 y.image, tagParity := parityOf 16 y.tagWord }

/-- A rewrite of the tag-table word alone: its parity bit changes by the bits that change (R180). -/
def Slot.retag (x y : Slot) : Slot := { y with tagParity := x.tagParity != (parityOf 16 x.tagWord != parityOf 16 y.tagWord) }

/-- A write of TIMESTAMP alone (R189). -/
def Slot.stamp (x : Slot) (c : BitVec 12) : Slot :=
  let y := { x with ts := c }
  { y with parity := x.parity != (parityOf 127 x.image != parityOf 127 y.image) }

/-- The age of an entry in ticks (R204). -/
def State.ageTicks (s : State) (x : Slot) : Nat := (s.exm.mower.clock - x.ts).toNat

/-! ## Hash (R185, R186) -/

/-- One bit step of CRC-32C, reflected. -/
def crcBit (r : Nat) : Nat := if r % 2 = 1 then (r / 2) ^^^ 0x82F63B78 else r / 2

/-- One byte of CRC-32C. -/
def crcByte (r b : Nat) : Nat := crcBit (crcBit (crcBit (crcBit (crcBit (crcBit (crcBit (crcBit (r ^^^ b))))))))

/-- CRC-32C of some bytes with the register preset to `seed`, and the final complement. -/
def crc32c (seed : Nat) (bs : List Nat) : Nat := (bs.foldl crcByte seed) ^^^ 0xFFFFFFFF

/-- H of a key of `kb` bytes: over 32 bytes, the key's and then zeros. -/
def exactHash (kb key seed : Nat) : Nat :=
  crc32c seed ((List.range 32).map (fun k => if k < kb then key / 256 ^ k % 256 else 0))

/-- Slots of an entry: 1 for 80 bits, 2 for 160 (R181). -/
def ExactDesc.w (d : ExactDesc) : Nat := d.width + 1

/-- The bucket of a key. -/
def ExactDesc.bucketOf (d : ExactDesc) (key : Nat) : Nat := d.base + exactHash (10 * d.w) key d.seed.toNat % 2 ^ d.log2

/-- Positions of the table's region. -/
def ExactDesc.inRegion (d : ExactDesc) (p : Nat) : Bool := decide (4 * d.base ≤ p ∧ p < 4 * (d.base + 2 ^ d.log2))

/-- The slots of an entry at a position. -/
def unit (w p : Nat) : List Nat := (List.range w).map (p + ·)

/-- The stored key of the entry at `p`. -/
def State.keyAt (s : State) (w p : Nat) : Nat :=
  (s.slot p).key.toNat + (if w = 2 then (s.slot (p + 1)).key.toNat * 2 ^ 80 else 0)

/-- The first positions of the table's overflow slots that are listed. -/
def State.ovfOf (s : State) (d : ExactDesc) : List Nat :=
  s.exm.slots.filterMap (fun x => if ovfBase ≤ x.1 ∧ x.1 % d.w = 0 ∧ x.2.ns.toNat = d.ns then some x.1 else none)

/-- The first positions of a bucket. -/
def bucketUnits (w b : Nat) : List Nat := (List.range (4 / w)).map (fun i => 4 * b + w * i)

/-- The positions at which a key can stand in a table. -/
def State.homes (s : State) (d : ExactDesc) (key : Nat) : List Nat := bucketUnits d.w (d.bucketOf key) ++ s.ovfOf d

/-- The first positions of a table's slots that are not FREE, in walk order (R207). -/
def State.exactEntries (s : State) (d : ExactDesc) : List Nat :=
  s.exm.slots.filterMap (fun x => if x.2.state != .free && x.1 % d.w == 0 &&
    (d.inRegion x.1 || (decide (ovfBase ≤ x.1) && x.2.ns.toNat == d.ns)) then some x.1 else none)

/-! ## Searching (R187, R188, R216) -/

/-- The result of an exact-match search: the entry hit, its ACTION, whether a slot read failed parity, and the failing
slots. -/
structure ExactRes where
  hit : Option Nat
  action : Nat
  degraded : Bool
  failing : List Nat
deriving DecidableEq, Repr

/-- Search a table for a key in epoch `e`. `strict` sets aside slots that fail parity, as a traffic search does. -/
def State.exactSearch (s : State) (d : ExactDesc) (key : Nat) (e : BitVec 3) (strict : Bool) : ExactRes :=
  let same (p : Nat) : Bool := s.keyAt d.w p == key
  let good (p : Nat) : Bool := (unit d.w p).all (fun p => (s.slot p).ok)
  let seen (p : Nat) : Bool := (unit d.w p).all (fun p => let x := s.slot p; s.visible x.state x.birth x.death e)
  let b := d.bucketOf key
  let bad := ((List.range 4).map (4 * b + ·) ++ ((s.ovfOf d).filter same).flatMap (unit d.w)).filter (fun p => !(s.slot p).ok)
  let hit := (s.homes d key).find? (fun p => same p && seen p && (!strict || good p))
  { hit := hit, action := (hit.map (fun p => (s.slot p).action.toNat)).getD 0, degraded := !bad.isEmpty, failing := bad }

/-- The event of a slot that failed parity, suppressed as R108 says (R210). -/
def State.parityEvent (s : State) (t : Nat) (e : BitVec 3) (p : Nat) : State :=
  s.eventSup 0x05 0x01 0 (w32 (p + t * 2 ^ 24)) (w32 e.toNat) [t, p] Reg.exactEventSuppressCount

/-- Report slots that failed parity in a search or a read (R188, R210).
DEDUCED: log entry 73. -/
def State.noteFailing (s : State) (t : Nat) (e : BitVec 3) (bad : List Nat) : State :=
  bad.foldl (fun s p =>
    let s := (s.cnt Reg.exactParityCount 1).parityEvent t e p
    if s.exm.gleanQ.any (fun f => f.table == t && f.row == p) then s
    else { s with exm := { s.exm with gleanQ := s.exm.gleanQ ++ [⟨t, p, false⟩] } }) s

/-! ## Tables -/

/-- The status of a table ID that an exact-match command names: NOT_EXACT, TABLE_UNDEFINED, or 0. -/
def State.exactCheck (s : State) (t : Nat) : Nat :=
  if s.ternTable t ≠ ternTable0 then 0x0143 else if s.exTable t = exactTable0 then 0x0110 else 0

/-- A destroy of the table is in progress. -/
def ExactTable.going (x : ExactTable) : Bool := x.busy != .idle

/-- GEN of an exact-match table goes up by 1. -/
def State.exactGen (s : State) (t : Nat) : State := let x := s.exTable t; s.setEx t { x with gen := x.gen + 1 }

/-- The copies of a table that writes go to: the one in force, and the new build of a rehash up to its swap (R194). -/
def State.copiesOf (s : State) (t : Nat) (d : ExactDesc) : List ExactDesc :=
  d :: (match s.exm.rehash with
    | some r => if r.table = t ∧ r.new ≠ d then (match r.phase with | .draining _ => [] | _ => [r.new]) else []
    | none => [])

/-- The exact-match table that a position belongs to, by any descriptor in use. -/
def State.ownerAt (s : State) (p : Nat) : Option (Nat × ExactDesc) :=
  let ns := (s.slot p).ns.toNat
  let fits (d : ExactDesc) : Bool := if p < ovfBase then d.inRegion p else d.ns == ns
  let all := s.exm.tables.flatMap (fun x => (x.2.vers.filterMap (·.val) ++ x.2.gone.toList).map (fun d => (x.1, d))) ++
    (match s.exm.rehash with | some r => [(r.table, r.old), (r.table, r.new)] | none => [])
  all.find? (fun x => fits x.2)

/-! ## Claims (R158, R190, R193) -/

/-- The committed entry of a key in a copy of its table.
DESIGN CHOICE: log entry 61. -/
def State.liveAt (s : State) (d : ExactDesc) (key : Nat) : Option Nat :=
  (s.homes d key).find? (fun p => (s.slot p).state == .live && s.keyAt d.w p == key)

/-- The pending insert of a key by glue-up `g`. -/
def State.pendAt (s : State) (d : ExactDesc) (key g : Nat) : Option Nat :=
  (s.homes d key).find? (fun p => (s.slot p).state == .veneer && (s.slot p).tag.toNat == g && g != 0 && s.keyAt d.w p == key)

/-- The glue-up other than `g` that claims a key; none when no other does. -/
def State.keyHolder (s : State) (t : Nat) (d : ExactDesc) (key g : Nat) : Option Nat :=
  let tags := (s.homes d key).filterMap (fun p =>
    let x := s.slot p
    if s.keyAt d.w p == key && (x.state == .live || x.state == .veneer) then some x.tag.toNat else none)
  let waits := (s.exm.inserts.filter (fun i => i.table == t && i.key == key)).map (·.id)
  let claims := (s.glue.moves.filter (fun m => (m.table == t && m.index == key) || m.claims.contains (t, key))).map (·.id)
  (tags ++ waits ++ claims).find? (fun h => h != 0 && h != g)

/-- Set the TAG of an entry's slots. -/
def State.tagUnit (s : State) (w p g : Nat) : State :=
  (unit w p).foldl (fun s p => let x := s.slot p; s.setSlot p (x.retag { x with tag := BitVec.ofNat 8 g })) s

/-- Set an entry's slots FREE. -/
def State.freeUnit (s : State) (w p : Nat) : State :=
  (unit w p).foldl (fun s p => let x := s.slot p; s.setSlot p (x.retag { x with state := .free, tag := 0 })) s

/-- The first positions of an entry at `p` and of its copy in the other build of a rehash (R194). -/
def State.bothCopies (s : State) (t : Nat) (d : ExactDesc) (p : Nat) : List Nat :=
  let key := s.keyAt d.w p
  let cs := (s.exNow t).elim [d] (s.copiesOf t)
  p :: cs.filterMap (fun c => (s.homes c key).find? (fun p' =>
    p' != p && s.keyAt c.w p' == key && (s.slot p').tagWord == (s.slot p).tagWord && c != d))

/-- Give the committed entry of a key a pending delete, in every copy (R193, R194). -/
def State.claimKey (s : State) (t : Nat) (d : ExactDesc) (key g : Nat) : State :=
  (s.copiesOf t d).foldl (fun s c => (s.liveAt c key).elim s (fun p => s.tagUnit c.w p g)) s

/-- Take back the pending insert of a key by glue-up `g`, in every copy. -/
def State.dropPend (s : State) (t : Nat) (d : ExactDesc) (key g : Nat) : State :=
  (s.copiesOf t d).foldl (fun s c => (s.pendAt c key g).elim s (fun p => s.freeUnit c.w p)) s

/-- Note that the firmware writes some slots in this CCLK (R189). -/
def State.noteWritten (s : State) (ps : List Nat) : State :=
  let old := if s.exm.written.1 = s.clk.age then s.exm.written.2 else []
  { s with exm := { s.exm with written := (s.clk.age, old ++ ps) } }

/-- The firmware has written the slot in this CCLK. -/
def State.justWritten (s : State) (p : Nat) : Bool := s.exm.written.1 == s.clk.age && s.exm.written.2.contains p

/-- Write an entry's slots whole (R181, R189). -/
def State.writeUnit (s : State) (d : ExactDesc) (p key action : Nat) (learned : Bool) (ts : BitVec 12) (st : RowState)
    (g : Nat) : State :=
  (List.range d.w).foldl (fun s i =>
    let first := i == 0
    s.setSlot (p + i) (Slot.sealed { slot0 with
      key := BitVec.ofNat 80 (key / 2 ^ (80 * i)), action := if first then BitVec.ofNat 20 action else 0
      ts := if first then ts else 0, learned := first && learned, tag := BitVec.ofNat 8 g, state := st
      ns := if ovfBase ≤ p then BitVec.ofNat 7 d.ns else 0 })) (s.noteWritten (unit d.w p))

end Sys2Proof.Machine
end

