-- ==== Sys2Proof/Machine/TernCmd.lean ====
section
/-! DEFINITION. The commands on ternary tables (R122 to R136) and what completes them: creation, resizing, destruction,
ENTRY_WRITE with its make-room moves (R171), ENTRY_READ and SEARCH_NEXT. -/

namespace Sys2Proof.Machine

/-! ## Segments (R109, R110, R114) -/

/-- A segment. -/
def State.segment (s : State) (n : Nat) : Segment := smGet segment0 s.tern.segments n

/-- The free segments, lowest first. -/
def State.freeSegs (s : State) : List Nat := (List.range 128).filter (fun n => (s.segment n).table == 0)

/-- The first `k` groups of `n` segments (R114). -/
def groups (free : List Nat) (k n : Nat) : List (List Nat) := (List.range k).map (fun i => (free.drop (i * n)).take n)

/-- The segments that a command takes its own from: those that the lead has assigned, for a mirrored one (Table 8.4). -/
def State.segsFor (s : State) (q : Request) : List Nat := if q.places = [] then s.freeSegs else q.places

/-- Rows and result words of some segments are set to the free state (R110). -/
def State.clearSegs (s : State) (segs : List Nat) : State :=
  { s with tern := { s.tern with
      rows := s.tern.rows.filter (fun x => !segs.contains (x.1 / 16384))
      words := s.tern.words.filter (fun x => !segs.contains (x.1 / 16384)) } }

/-- Give segments to a table, or free them with table 0. -/
def State.giveSegs (s : State) (segs : List Nat) (x : Segment) : State :=
  { s with tern := { s.tern with segments := segs.foldl (fun m n => smSet segment0 m n x) s.tern.segments } }

/-- Segments are powered up and cleared for a table, which takes 2 µs (R110).
DESIGN CHOICE: log entry 49. -/
def State.takeSegs (s : State) (segs : List Nat) (t : Nat) : State :=
  if segs = [] then s else ((s.advance (2 * usC)).clearSegs segs).giveSegs segs ⟨t, false⟩

/-- The reply of TABLE_CREATE and TABLE_RESIZE: how many segments, and their bitmap (R122). -/
def segReply (sets : List (List Nat)) : List Word := w32 sets.flatten.length :: toWords 4 (bitmap sets.flatten)

/-- A table ID is taken: a table holds it, or one that was destroyed still drains. -/
def State.tableTaken (s : State) (t : Nat) : Bool := decide (s.ternTable t ≠ ternTable0) || decide (s.exTable t ≠ exactTable0)

/-! ## TABLE_CREATE -/

/-- TABLE_CREATE at the side that executes it (R112, R122). -/
def State.tableCreateDo (s : State) (q : Request) : State × CmdEnd :=
  let t := q.f 0 0 8
  let width := q.f 0 8 2
  let pl := q.f 0 13 2
  let reps := q.f 0 16 2 + 1
  let segs := q.f 0 20 5
  let lsb := q.f 1 0 10
  let free := s.segsFor q
  let n := 2 ^ pl * reps
  if t = 0 ∨ t = 255 then (s, fin 0x0120)
  else if segs = 0 ∨ 16 < segs ∨ 128 < n * segs ∨ (pl ≠ 0 ∧ 80 * 2 ^ width < lsb + pl) ∨ q.stray 0 0x01F373FF ∨
      q.stray 1 0x3FF ∨ q.stray 2 0xFFFFF then (s, fin 0x0121)
  else if s.tableTaken t then (s, fin 0x0320)
  else if free.length < n * segs then (s, fin 0x0221)
  else
    let sets := groups free n segs
    let d : TernDesc := {
      width := width, resolution := q.f 0 12 1, partLog2 := pl, partLsb := lsb, replicas := reps, segs := segs
      actionBase := q.f 2 0 20, sets := sets }
    let s := s.takeSegs sets.flatten t
    (s.setTern t { vers := [⟨s.glue.c, some d⟩], gen := 0, busy := .idle }, .final St.ok (segReply sets))

/-- The segments that a command has assigned: it runs from this state to `t`. -/
def State.newSegs (s t : State) : List Nat :=
  (t.tern.segments.filter (fun x => x.2.table != 0 && (s.segment x.1).table == 0)).map (·.1)

/-- A command that the lead mirrors and the follow side refuses (R270): `f` is what it does. -/
def State.mirrored (s : State) (op : Nat) (q : Request) (f : State → State × CmdEnd) : State × CmdEnd :=
  if s.refuses q then (s, fin St.followSide)
  else match f s with
    | (t, .final st w) => if st = St.ok then (t.mirrorAt op q 0 q.words (s.newSegs t), .final st w) else (t, .final st w)
    | (t, e) => (t.mirrorAt op q 0 q.words (s.newSegs t), e)

/-- TABLE_CREATE. -/
def execTableCreate (q : Request) (s : State) : Host.Outcome State Fault Refusal :=
  finish s (runCmd Op.tableCreate q (fun s q => s.mirrored Op.tableCreate q (fun s => s.tableCreateDo q)) s)

/-! ## Table maintenance (R124, R170) -/

/-- Copy an entry into slot `n` as a veneer of glue-up `g` and give its source a pending delete (R170). None where no
replica of the source passes parity. -/
def State.relocate (s : State) (d : TernDesc) (x : Place) (n g : Nat) : Option State :=
  let ok (r : Nat) : Bool := s.entryOk d (d.rowAt x.part r x.slot)
  if (List.range d.replicas).any ok then
    let a := d.rowAt x.part (d.pickReplica ok) x.slot
    let rows := (s.entryRows d a).map (fun r =>
      Row.sealed { r with state := .veneer, tag := BitVec.ofNat 8 g, birth := 0, death := 0 })
    some ((s.landSlot d x.part n rows (s.word a) true).tagSlot d x.part x.slot g)
  else none

/-- Relocate one entry in a maintenance glue-up to the slot that placement gives it without a further move; `down` asks
for a slot below its own. Counts the relocations made.
DESIGN CHOICE: log entry 47. -/
def State.shrinkMove (t : Nat) (d : TernDesc) (g : Nat) (down : Bool) (acc : State × Nat) (x : Place) : State × Nat :=
  let s := acc.1
  if 2048 ≤ acc.2 ∨ s.holderOf t x ≠ 0 then acc
  else match s.placeEntry t d x.part g (s.readEntry d x.row) [] [] with
    | .at_ ⟨[], n⟩ =>
      if down ∧ x.slot ≤ n then acc
      else match s.relocate d x n g with
        | none => (s.mendSlot t d x.part x.slot, acc.2)
        | some s' => (s', acc.2 + 1)
    | _ => acc

/-- One round of a shrink (R123, R124): with no entry left above the new size it waits for the descriptor's advance;
otherwise up to 4,096 operations go into one maintenance glue-up, first entries that fit at once below, and where none
does, entries moved down to make room. -/
def State.shrinkRound (s : State) (t : Nat) : State :=
  match (s.ternTable t).busy, s.ternNow t with
  | .shrinking k sets first, some d =>
    let ps := s.places d
    let out := ps.filter (fun x => x.stands && decide (k * d.eps ≤ x.slot))
    let set (s : State) (b : TableBusy) : State := s.setTern t { s.ternTable t with busy := b }
    if out.isEmpty then set s (.swapping k sets true)
    else if ps.any (fun x => x.stands && (s.glueUp x.tag).opener == .maintenance && x.tag != 0) then s
    else
      let blocked := out.any (fun x => s.holderOf t x != 0 && (s.glueUp (s.holderOf t x)).opener == .host)
      let s := set s (.shrinking k sets (if blocked then first.or (some s.clk.age) else none))
      match s.pickId 1 with
      | none => s
      | some g =>
        let o := s.openGlue g false 0 .maintenance
        let live := sortBy (fun x : Place => x.slot) (out.filter (·.state == .live))
        let r := live.foldl (State.shrinkMove t d g false) (o, 0)
        let r := if r.2 = 0 then
            (sortBy (fun x : Place => x.slot) (ps.filter (·.state == .live))).foldl (State.shrinkMove t d g true) (o, 0)
          else r
        if r.2 = 0 then r.1.freeGlue g else (r.1.addOps g (2 * r.2)).clampLocal g
  | _, _ => s

/-! ## TABLE_RESIZE and TABLE_DESTROY -/

/-- The status of a table ID that a ternary command names: TABLE_UNDEFINED, NOT_TERNARY, or 0.
DESIGN CHOICE: log entry 46. -/
def State.ternCheck (s : State) (t : Nat) : Nat :=
  if s.exTable t ≠ exactTable0 then 0x0115 else if s.ternTable t = ternTable0 then 0x0110 else 0

/-- TABLE_RESIZE at the side that executes it (R123, R124).
DESIGN CHOICE: log entry 209. -/
def State.tableResizeDo (s : State) (q : Request) : State × CmdEnd :=
  let t := q.f 0 0 8
  let k := q.f 0 16 5
  if s.ternCheck t ≠ 0 then (s, fin (s.ternCheck t))
  else if q.stray 0 0x1F00FF ∨ k = 0 ∨ 16 < k then (s, fin 0x0121)
  else if (s.ternTable t).busy ≠ .idle then (s, fin 0x0322)
  else match s.ternNow t with
    | none => (s, fin 0x0322)
    | some d =>
      let n := d.parts * d.replicas
      if 128 < n * k then (s, fin 0x0322)
      else if d.segs ≤ k then
        let more := groups (s.segsFor q) n (k - d.segs)
        if (s.segsFor q).length < n * (k - d.segs) then (s, fin 0x0221)
        else
          let s := s.takeSegs more.flatten t
          (s.setTern t { s.ternTable t with busy := .growing k (List.zipWith (· ++ ·) d.sets more) }, .pend (.resize t) [])
      else
        let ps := (s.places d).filter Place.stands
        let most := (List.range d.parts).foldl (fun m p => max m (ps.filter (fun x => x.part == p)).length) 0
        if k * d.eps < most then (s, fin 0x0220)
        else if s.freeIds = [] ∧ ps.any (fun x => decide (k * d.eps ≤ x.slot)) then (s, fin 0x0223)
        else
          let sets := d.sets.map (fun l => l.take k)
          let s := s.giveSegs (d.sets.flatMap (fun l => l.drop k)) ⟨t, true⟩
          ((s.setTern t { s.ternTable t with busy := .shrinking k sets none }).shrinkRound t, .pend (.resize t) [])

/-- TABLE_RESIZE. -/
def execTableResize (q : Request) (s : State) : Host.Outcome State Fault Refusal :=
  finish s (runCmd Op.tableResize q (fun s q => s.mirrored Op.tableResize q (fun s => s.tableResizeDo q)) s)

/-- The shrink of a table stops (R124): its segments are no longer being released. -/
def State.stopShrink (s : State) (t : Nat) : State :=
  let mine := (s.tern.segments.filter (fun x => x.2.table == t)).map (·.1)
  (s.giveSegs mine ⟨t, false⟩).setTern t { s.ternTable t with busy := .idle }

/-- RESIZE_CLAIM_TIMEOUT (R124). -/
def execResizeClaimTimeout (table : Nat) (s : State) : Host.Outcome State Fault Refusal :=
  finish s (whileFw s fun s =>
    match (s.ternTable table).busy, s.ternNow table with
    | .shrinking k _ (some t0), some d =>
      let held := (s.places d).any (fun x => x.stands && decide (k * d.eps ≤ x.slot) && s.holderOf table x != 0 &&
        (s.glueUp (s.holderOf table x)).opener == .host)
      if held then (((s.until (t0 + secC)).stopShrink table).wake (.resize table) St.entryClaimed []) else s
    | _, _ => s)

/-- SEGMENT_RELEASE (R110, R123): the segments that a shrink leaves are freed once all of their rows are free, and the
resize replies. -/
def execSegmentRelease (table : Nat) (s : State) : Host.Outcome State Fault Refusal :=
  finish s (whileFw s fun s =>
    match (s.ternTable table).busy, s.ternNow table with
    | .releasing, some d =>
      let segs := (s.tern.segments.filter (fun x => x.2.table == table && x.2.releasing)).map (·.1)
      if s.tern.rows.any (fun x => segs.contains (x.1 / 16384) && x.2.state != .free) then s
      else
        let s := (s.clearSegs segs).giveSegs segs segment0
        (s.setTern table { s.ternTable table with busy := .idle }).wake (.resize table) St.ok (segReply d.sets)
    | _, _ => s)

/-- An active or standby profile version names a table (R125). -/
def State.tableInUse (s : State) (t : Nat) : Bool :=
  s.tern.profiles.any (fun x => (s.profile x.1 s.glue.c).table == t || x.2.standby.any (fun p => p.table == t))

/-- TABLE_DESTROY at the side that executes it (R125). -/
def State.tableDestroyDo (s : State) (q : Request) : State × CmdEnd :=
  let t := q.f 0 0 8
  if q.stray 0 0xFF then (s, fin 0x0121)
  else if s.ternCheck t ≠ 0 then (s, fin (s.ternCheck t))
  else if s.tableInUse t then (s, fin 0x0321)
  else
    let ps := (s.ternNow t).elim [] s.places
    if ps.any (fun x => s.holderOf t x != 0) ∨ s.glue.moves.any (fun m => m.table == t) then (s, fin St.entryClaimed)
    else if (s.ternTable t).busy ≠ .idle then (s, fin 0x0322)
    else (s.setTern t { s.ternTable t with busy := .destroying }, .pend (.destroy t) [])

/-- TABLE_DESTROY. -/
def execTableDestroy (q : Request) (s : State) : Host.Outcome State Fault Refusal :=
  finish s (runCmd Op.tableDestroy q (fun s q => if q.stray 0 0xFF then (s, fin 0x0121) else s.mirrored Op.tableDestroy q (fun s => s.tableDestroyDo q)) s)

/-- No epoch as old as `e` or older is in flight.
DESIGN CHOICE: log entry 48. -/
def State.drainedTo (s : State) (e : BitVec 3) : Bool := decide (s.ageOf s.oldest < s.ageOf e)

/-- TABLE_DESTROY_DRAINED (R125). -/
def execTableDestroyDrained (table : Nat) (s : State) : Host.Outcome State Fault Refusal :=
  finish s (whileFw s fun s =>
    match (s.ternTable table).busy with
    | .draining e =>
      if ¬ s.drainedTo e then s
      else
        let segs := (s.tern.segments.filter (fun x => x.2.table == table)).map (·.1)
        let s := ((s.clearSegs segs).giveSegs segs segment0).setTern table ternTable0
        let s := { s with tern := { s.tern with
          invalid := s.tern.invalid.filter (fun x => x.1 != table), gleanQ := s.tern.gleanQ.filter (fun x => x.table != table) } }
        s.wake (.destroy table) St.ok []
    | _ => s)

/-! ## ENTRY_WRITE (R126 to R130, R171) -/

/-- The entry that ENTRY_WRITE gives (Table 4.5). PRI is ignored in positional mode. -/
def entryOf (d : TernDesc) (q : Request) : NewEntry :=
  let kw := kwOf d.width
  { index := q.f 1 0 21, pri := if d.resolution = 1 then 0 else q.f 2 0 16, rangeEn := q.f 2 16 16, action := q.f 3 0 20
    value := ofWords ((q.words.drop 4).take kw), care := ofWords ((q.words.drop (4 + kw)).take kw) }

/-- A partition bit is not compared exactly (R118). -/
def NewEntry.loosePart (e : NewEntry) (d : TernDesc) : Bool :=
  (List.range d.partLog2).any (fun i =>
    let b := d.partLsb + i
    nfld e.care b 1 == 0 || nfld (sliceMask (nfld e.rangeEn (2 * (b / 80)) 2)) (b % 80) 1 == 1)

/-- The checks of ENTRY_WRITE that come before the glue-up's (Table 4.6, its order 1 to 3); 0 when they pass. -/
def State.entryPre (s : State) (q : Request) : Nat :=
  let t := q.f 0 0 8
  if s.ternCheck t ≠ 0 then s.ternCheck t
  else match (s.ternTable t).busy, s.ternNow t with
    | .destroying, _ => 0x0322
    | .draining _, _ => 0x0322
    | _, none => 0x0110
    | _, some d =>
      let kw := kwOf d.width
      let e := entryOf d q
      let del := q.b 0 16
      if q.words.length ≠ (if del then 2 else 4 + 2 * kw) then St.badLength
      else if q.stray 0 0x1FFFF ∨ q.stray 1 0x1FFFFF then 0x0122
      else if del then 0
      else if q.stray 3 0xFFFFF ∨ 4 ^ d.rowsPer ≤ e.rangeEn ∨ 2 ^ d.bits ≤ e.value ∨ 2 ^ d.bits ≤ e.care then 0x0122
      else if e.loosePart d then 0x0123
      else 0

/-- One attempt of ENTRY_WRITE in glue-up `g`. -/
def entryAct (q : Request) (s : State) (g : Nat) : GlueRes :=
  let t := q.f 0 0 8
  if s.entryPre q ≠ 0 then .refuse (s.entryPre q)
  else match s.ternNow t with
    | none => .refuse 0x0110
    | some d => if q.b 0 16 then s.dropEntry t d (q.f 1 0 21) g else s.putEntry t d (entryOf d q) g Op.entryWrite q

/-- ENTRY_WRITE. A delete of an INVALIDATED index with GLUE 0 opens no glue-up (R139).
DESIGN CHOICE: log entry 51. -/
def State.entryWrite (s : State) (q : Request) : State × CmdEnd :=
  let t := q.f 0 0 8
  let i := q.f 1 0 21
  let gone := (s.ternNow t).any (fun d => (committed (s.places d) i).isNone)
  if ¬ s.refuses q ∧ s.entryPre q = 0 ∧ q.f 0 8 8 = 0 ∧ q.b 0 16 ∧ gone ∧ s.tern.invalid.contains (t, i) then
    let s := { s with tern := { s.tern with invalid := s.tern.invalid.erase (t, i) } }
    (s.mirror Op.entryWrite q 0, .final St.ok [0, w32 s.glue.c.toNat])
  else s.glueOp Op.entryWrite q (s.entryPre q) (entryAct q)

/-- ENTRY_WRITE. -/
def execEntryWrite (q : Request) (s : State) : Host.Outcome State Fault Refusal :=
  finish s (runCmd Op.entryWrite q State.entryWrite s)

/-- Replace a make-room record. -/
def State.setJob (s : State) (old new : MakeRoom) : State :=
  { s with glue := { s.glue with moves := s.glue.moves.map (fun m => if m = old then new else m) } }

/-- Remove a make-room record. -/
def State.endJob (s : State) (m : MakeRoom) : State :=
  { s with glue := { s.glue with moves := s.glue.moves.erase m } }

/-- What WRITE_ENTRY has put in veneer in glue-up `g` by a copy of its own is taken back (R168): every new version that names the copy
goes, the committed ones lose their claim, pending inserts name the original again, and the copy is free. -/
def State.undoWrite (s : State) (op : Nat) (q : Request) (g : Nat) : State :=
  if op ≠ Op.writeEntry ∨ ¬ s.coh.mailbox.any (·.fresh) then s
  else match s.coh.cow.find? (fun x => x.2.used && x.2.glue == g && x.2.orig == q.f 1 0 20) with
    | none => s
    | some (c, _) =>
      let tern (s : State) (t : Nat) : State :=
        match s.ternNow t with
        | none => s
        | some d =>
          let ps := s.places d
          let mine := ps.filter (fun x => x.state == .veneer && x.tag == g && (d.actionBase + x.action) % 2 ^ 20 == c)
          mine.foldl (fun s x =>
            match committed ps x.index with
            | some y =>
              let s := (s.freeSlot d x.part x.slot).tagSlot d y.part y.slot 0
              { s with glue := { s.glue with touched := s.glue.touched.erase (g, t, x.index) } }
            | none =>
              let a := (q.f 1 0 20 + 2 ^ 20 - d.actionBase) % 2 ^ 20
              (List.range d.replicas).foldl (fun s r => s.setWord (d.rowAt x.part r x.slot) (mkWord x.index a)) s) s
      let exact (s : State) (t : Nat) : State :=
        match s.exNow t with
        | none => s
        | some d => (s.copiesOf t d).foldl (fun s b =>
          ((s.exactEntries b).filter (fun p =>
            let x := s.slot p
            x.state == .veneer && x.tag.toNat == g && x.action.toNat == c)).foldl (fun s p =>
              match s.liveAt b (s.keyAt b.w p) with
              | some l => (s.freeUnit b.w p).tagUnit b.w l 0
              | none => s.setSlot p (Slot.sealed { s.slot p with action := BitVec.ofNat 20 (q.f 1 0 20) })) s) s
      let s := (s.exm.tables.map (·.1)).foldl exact ((s.tern.tables.map (·.1)).foldl tern s)
      let s : State := { s with glue := { s.glue with moves := s.glue.moves.filter (fun m => !(m.id == g && m.op == op && m.q == q)) } }
      let s := s.setGlue g { s.glueUp g with ops := (s.glueUp g).ops - (s.coh.mailbox.elim 0 (·.ops)) }
      { s with coh := { s.coh with cow := smSet cow0 s.coh.cow c cow0 } }

/-- An ENTRY_WRITE in its moves fails with a status: what it claimed itself is released (R128, R129, R171). The claims of an implicit
glue-up stand until the rewrite cycle of its abort, which the reply follows. -/
def State.failJob (s : State) (m : MakeRoom) (status : Nat) : State :=
  if (s.glueUp m.id).opener = .implicit then
    (s.setJob m { m with finished := true, moves := [] }).failImplicit m.id m.op m.q status []
  else ((s.endJob m).undoWrite m.op m.q m.id).reply m.op m.q status []

/-- A make-room job meets a claim of another glue-up (R168): it waits where its glue-up retries, and else it fails. -/
def State.jobClaimed (s : State) (m : MakeRoom) (h : Nat) : State :=
  let s := s.claimFail m.id h
  if s.retries m.id m.q then s.setJob m { m with stuck := m.stuck.or (some s.clk.age) } else s.failJob m St.entryClaimed

/-- Plan the moves that remain afresh (R171); slots of the job that wait for reclamation count as slots that will free. -/
def State.replanJob (s : State) (m : MakeRoom) (d : TernDesc) : State :=
  let ps := s.places d
  let own := (ps.filter (fun x => x.part == m.part && m.claimed.contains x.slot && !x.stands)).map (·.slot)
  match s.placeEntry m.table d m.part m.id m.entry own m.claimed with
  | .full => s.failJob m 0x0220
  | .noRoom => s.failJob m 0x0222
  | .at_ q =>
    match s.planHolder m.table m.part m.id ps q with
    | some h => s.jobClaimed m h
    | none =>
      if 4096 - (s.glueUp m.id).ops < 2 * q.moves.length then s.failJob m 0x0222
      else
        let touched := q.place :: q.moves.flatMap (fun x => [x.1, x.2])
        s.setJob m { m with moves := q.moves, place := q.place, claimed := (m.claimed ++ touched).eraseDups, stuck := none }

/-- The last move has clamped and the slot is free: the entry's own veneer is written (R171). A mailbox write that made
room goes on with its next attempt.
DESIGN CHOICE: log entry 45. -/
def State.placeJob (s : State) (m : MakeRoom) (d : TernDesc) : State :=
  let e := m.entry
  if 4096 < (s.glueUp m.id).ops + m.base then s.failJob m St.glueFull
  else
  let s := (committed (s.places d) m.index).elim s (fun x => s.tagSlot d x.part x.slot m.id)
  let s := (s.touch m.id m.table m.index).landSlot d m.part m.place (e.rows d .veneer m.id) (mkWord e.index e.action) false
  let s := (s.setJob m { m with finished := true, moves := [] }).addOps m.id m.base
  let w := [w32 (m.base + 2 * m.done + m.done * 2 ^ 16), 0]
  if m.op ≠ Op.entryWrite then (s.mailboxOps (m.base + 2 * m.done)).queueRetry m.id m.op m.q m.since
  else if (s.glueUp m.id).opener = .implicit then (s.toClamping [m.id]).wait (.implicit m.id) m.op m.q St.ok w
  else s.reply m.op m.q St.ok w

/-- Make one relocation of a job, whose source passes parity and whose destination is free (R170, R171). -/
def State.moveJob (s : State) (m : MakeRoom) (d : TernDesc) (x : Place) (dst : Nat) (rest : List (Nat × Nat)) : State :=
  if 4096 < (s.glueUp m.id).ops + 2 then s.failJob m 0x0222
  else if x.state = .veneer then
    match s.relocate d x dst m.id with
    | none => s
    | some s => ((s.freeSlot d x.part x.slot).addOps m.id 2).setJob m { m with moves := rest, done := m.done + 1 }
  else match s.pickId 1 with
    | none => s.setJob m { m with waitSince := m.waitSince.or (some s.clk.age) }
    | some k =>
      match (s.openGlue k false 0 .move).relocate d x dst k with
      | none => s
      | some s =>
        (((s.addOps k 2).clampLocal k).addOps m.id 2).setJob m { m with
          moves := rest, done := m.done + 1, moving := some (k, dst), redo := x.tag == m.id, waitSince := none }

/-- A slot that the job has still to fill lies in a segment that a shrink releases (R124). -/
def State.jobBeyond (s : State) (m : MakeRoom) (d : TernDesc) : Bool :=
  (m.place :: m.moves.map (·.2)).any (fun n => decide (s.insertLimit m.table d ≤ n))

/-- The next step of an ENTRY_WRITE that makes room (R171). -/
def State.stepJob (s : State) (m : MakeRoom) : State :=
  let st := s.glueOpen? m.id
  match s.ternNow m.table with
  | none => s.failJob m 0x0110
  | some d =>
    if (s.glueUp m.id).st = .aborting then s
    else if st ≠ 0 then s.failJob m st
    else if m.moving.isSome then s
    else if m.stuck.isSome ∨ s.jobBeyond m d then s.replanJob m d
    else match m.moves with
      | [] => if s.slotFree m.table d m.part m.id m.claimed m.place then s.placeJob m d else s
      | (src, dst) :: rest =>
        if ¬ (s.placeAt d m.part src).stands then s.replanJob m d
        else
          let s := s.mendSlot m.table d m.part src
          let x := s.placeAt d m.part src
          if ¬ x.stands then s.replanJob m d
          else if ¬ s.entryOk d x.row then s
          else if ¬ s.slotFree m.table d m.part m.id m.claimed dst then s
          else s.moveJob m d x dst rest

/-- MAKE_ROOM_MOVE: the firmware goes on with the ENTRY_WRITE that makes room in glue-up `id`. -/
def execMakeRoomMove (id : Nat) (s : State) : Host.Outcome State Fault Refusal :=
  finish s (whileFw s fun s =>
    match s.glue.moves.find? (fun m => m.id == id && !m.finished) with
    | none => s
    | some m => s.stepJob m)

/-- GLUE_RETRY_LIMIT_EXPIRY: an operation that still waits GLUE_RETRY_LIMIT after its first attempt returns ENTRY_CLAIMED
(R168); a make-room move that has waited as long for a free glue-up ID, and finds none, returns NO_GLUE_ID (R171). -/
def execGlueRetryLimitExpiry (id : Nat) (s : State) : Host.Outcome State Fault Refusal :=
  finish s (whileFw s fun s =>
    match s.glue.retryQ.find? (fun r => r.id == id && !r.q.mirrored) with
    | some r =>
      let s := (s.until (r.since + s.retryLimit)).cnt Reg.glueRetryExpiredCount 1
      let s : State := { s with glue := { s.glue with retryQ := s.glue.retryQ.erase r } }
      let s := s.undoWrite r.op r.q id
      s.failOp id r.op r.q St.entryClaimed []
    | none =>
      match s.glue.moves.find? (fun m => m.id == id && (m.waitSince.isSome || m.stuck.isSome) && !m.finished) with
      | none => s
      | some m =>
        if m.stuck.isSome then
          ((s.until (m.since + s.retryLimit)).cnt Reg.glueRetryExpiredCount 1).failJob m St.entryClaimed
        else if (s.pickId 1).isSome then s
        else (s.until (m.waitSince.getD 0 + s.retryLimit)).failJob m 0x0223)

/-! ## ENTRY_READ (R131) -/

/-- ENTRY_READ. -/
def State.entryRead (s : State) (q : Request) : State × CmdEnd :=
  let t := q.f 0 0 8
  let i := q.f 1 0 21
  if s.ternCheck t ≠ 0 then (s, fin (s.ternCheck t))
  else if q.stray 0 0xFF ∨ q.stray 1 0x1FFFFF then (s, fin 0x0122)
  else match s.ternNow t with
    | none => (s, fin 0x0110)
    | some d =>
      let ps := s.places d
      let old := committed ps i
      let moved (g : Nat) : Bool := g != 0 && ((s.glueUp g).opener == .move || (s.glueUp g).opener == .maintenance)
      let writes := ps.any (fun x => x.state == .veneer && x.index == i && x.tag != 0 && !moved x.tag)
      let moves := old.any (fun x => moved x.tag)
      let redo := s.glue.moves.any (fun m => m.table == t && m.redo && m.moving.any (fun v =>
        ps.any (fun x => x.part == m.part && x.slot == v.2 && x.index == i)))
      let deletes := ((old.any (fun x => x.tag != 0) && !moves) || redo) && !writes
      let inv := s.tern.invalid.contains (t, i)
      let w0 (present err birth : Nat) : Word :=
        w32 (present + b2n writes * 2 + b2n deletes * 4 + b2n moves * 8 + err * 16 + b2n inv * 32 +
          s.indexHolder t i ps * 2 ^ 8 + birth * 2 ^ 16)
      match old with
      | none => (s, .final St.ok [w0 0 0 0])
      | some x =>
        let ok (r : Nat) : Bool := s.entryOk d (d.rowAt x.part r x.slot)
        let err := !(List.range d.replicas).all ok
        let e := s.readEntry d (d.rowAt x.part (d.pickReplica ok) x.slot)
        let kw := kwOf d.width
        (s, .final St.ok ([w0 1 (b2n err) x.birth.toNat, w32 i, w32 (e.pri + e.rangeEn * 2 ^ 16), w32 e.action] ++
          toWords kw e.value ++ toWords kw e.care))

/-- ENTRY_READ. -/
def execEntryRead (q : Request) (s : State) : Host.Outcome State Fault Refusal :=
  finish s (runCmd Op.entryRead q State.entryRead s)

/-! ## SEARCH_NEXT on a ternary table (R133, R134) -/

/-- One LS search of every partition of a table in turn, since a search activates one search set (R97): the partitions with the replica
that each was granted. -/
def State.lsGrants (s : State) (d : TernDesc) : List Nat → Option (State × List (Nat × Nat))
  | [] => some (s, [])
  | p :: ps =>
    match s.lsGrant d p true with
    | none => none
    | some (s, r) => (s.lsGrants d ps).map (fun x => (x.1, (p, r) :: x.2))

/-- SEARCH_NEXT on a ternary table.
DESIGN CHOICE: log entry 50. -/
def State.searchNextTern (s : State) (q : Request) (d : TernDesc) : State × CmdEnd :=
  let t := q.f 0 0 8
  let walk := q.b 0 8
  let count := q.f 0 16 4
  let first := q.b 0 24
  let kw := kwOf d.width
  if count = 0 ∨ 8 < count then (s, fin 0x0112)
  else if q.stray 0 0x010F01FF then (s, fin 0x0122)
  else if q.words.length ≠ (if walk then 3 else 3 + kw) then (s, fin St.badLength)
  else if q.stray 1 0xFFFF ∨ q.stray 2 0x1FFFFF then (s, fin 0x0122)
  else
    let key := ofWords ((q.words.drop 3).take kw) % 2 ^ d.bits
    let rank (pri index : Nat) : Nat := if walk then index else rankOf d.resolution pri index
    let cursor := rank (q.f 1 0 16) (q.f 2 0 21)
    match (if walk then s.lsGrants d (List.range d.parts) else (s.lsGrant d (d.partOf key) true).map (fun x => (x.1, [(d.partOf key, x.2)]))) with
    | none => (s, .quiet)
    | some (t', sets) =>
      let e := t'.glue.c
      let seen (a : Nat) : Bool :=
        if walk then let x := t'.row a; t'.visible x.state x.birth x.death e else t'.entryMatches d a key e
      let after (a : Nat) : Bool := first || decide (cursor < rank (t'.row a).pri.toNat (t'.word a).index.toNat)
      let p (a : Nat) : Bool := seen a && after a
      let tree (a n : Nat) : Nat := if walk then (t'.word a).index.toNat else treeRank d.resolution (t'.row a).pri.toNat n
      let picks := sets.flatMap (fun x => t'.picks d x.1 x.2 tree true p)
      let res := t'.verify d picks (fun c => rank c.pri c.index) true count
      let t' := t'.advance 40
      let all := (sets.flatMap (fun x => t'.cands d x.1 x.2 p)).filter (·.ok)
      let done := decide (all.length ≤ res.hits.length)
      let w0 := w32 (res.hits.length + b2n res.degraded * 16 + b2n res.fallback * 32 + b2n done * 64 + e.toNat * 2 ^ 8 +
        t * 2 ^ 16)
      (t'.noteResult t e 8 res, .final St.ok (w0 :: (t'.ternTable t).gen :: res.hits.flatMap Hit.words))

end Sys2Proof.Machine
end

