-- ==== Sys2Proof/Machine/Exact.lean ====
section
/-! DEFINITION. The insertion and deletion of exact-match entries (R190 to R193), in both copies while a rehash builds one (R194). -/

namespace Sys2Proof.Machine

/-! ## Slots to take (R190) -/

/-- A waiting insert claims the slot (R191). -/
def State.slotWaited (s : State) (p : Nat) : Bool := s.exm.inserts.any (fun i => i.slots.contains p)

/-- A slot is FREE and claimed by no waiting insert (R120). -/
def State.slotOpen (s : State) (p : Nat) : Bool := (s.slot p).state == .free && !s.slotWaited p

/-- The slot that an insert takes (R190): the lowest free unit of the bucket, then of the overflow store.
DESIGN CHOICE: log entry 60. -/
def State.takeUnit (s : State) (d : ExactDesc) (key : Nat) : Option Nat :=
  let free (p : Nat) : Bool := (unit d.w p).all s.slotOpen
  ((bucketUnits d.w (d.bucketOf key)).find? free).or
    ((firstFrom (8192 / d.w) 0 (fun j => free (ovfBase + d.w * j))).map (fun j => ovfBase + d.w * j))

/-- Set FREE every slot of a copy of a table. -/
def State.clearCopy (s : State) (d : ExactDesc) : State :=
  { s with exm := { s.exm with slots := s.exm.slots.filter (fun x =>
      !(d.inRegion x.1 || (decide (ovfBase ≤ x.1) && x.2.ns.toNat == d.ns))) } }

/-- The rehash stops with a status: its new build is discarded (R195).
DESIGN CHOICE: log entry 71. -/
def State.stopRehash (s : State) (status : Nat) : State :=
  match s.exm.rehash with
  | none => s
  | some r =>
    let s := s.clearCopy r.new
    let s := match r.phase with | .swapping id => s.freeGlue id | _ => s
    ({ s with exm := { s.exm with rehash := none } }).wake (.rehash r.table) status []

/-- Write a pending insert into a slot of the copy in force, and into a slot of the new build of a rehash, which stops where
that has no room (R194, R195). -/
def State.putVeneer (s : State) (t : Nat) (d : ExactDesc) (p key action : Nat) (learned : Bool) (g : Nat) : State :=
  let c := s.exm.mower.clock
  let s := s.writeUnit d p key action learned c .veneer g
  (s.copiesOf t d).tail.foldl (fun s n =>
    match s.takeUnit n key with
    | some p' => s.writeUnit n p' key action learned c .veneer g
    | none => s.stopRehash 0x0243) s

/-! ## Making room (R191, R192) -/

/-- The slots that will free and that an insert may wait for: the lowest unit of the bucket or the overflow store in which
every slot is FREE, DYING or held after invalidation. -/
def State.freeingUnit (s : State) (d : ExactDesc) (key : Nat) : Option Nat :=
  let fits (p : Nat) : Bool := (unit d.w p).all (fun p =>
    let x := s.slot p
    (x.state == .free || x.state == .dying || (x.state == .veneer && x.tag == 0)) && !s.slotWaited p)
  let ovf := (s.exm.slots.filterMap (fun x => if ovfBase ≤ x.1 then some ((x.1 - ovfBase) / d.w * d.w + ovfBase) else none))
  (bucketUnits d.w (d.bucketOf key) ++ ovf).find? fits

/-- A learned entry that may be evicted for an insert: its first position, its slots, its table, and the slots that the
insert takes. -/
structure Victim where
  pos : Nat
  w : Nat
  table : Nat
  take : List Nat
deriving DecidableEq, Repr

/-- The entries eligible for eviction, the bucket's before the overflow store's (R191). `keep` is the entry replaced. -/
def State.victims (s : State) (t : Nat) (d : ExactDesc) (key : Nat) (keep : Option Nat) : List Victim :=
  let fit (p : Nat) : Bool :=
    let x := s.slot p
    x.state == .live && x.tag == 0 && x.learned && some p != keep &&
      (s.ownerAt p).all (fun o => (s.keyHolder o.1 o.2 (s.keyAt o.2.w p) 0).isNone)
  let bucket := ((bucketUnits d.w (d.bucketOf key)).filter fit).map (fun p => (⟨p, d.w, t, unit d.w p⟩ : Victim))
  let ovf := s.exm.slots.filterMap (fun x =>
    if x.1 < ovfBase ∨ ¬ fit x.1 then none
    else match s.ownerAt x.1 with
      | none => none
      | some (t', d') =>
        if ¬ d'.evictEn ∨ x.1 % d'.w ≠ 0 then none
        else
          let pair := x.1 / 2 * 2
          if d.w = 1 then some ⟨x.1, d'.w, t', unit d'.w x.1⟩
          else if d'.w = 2 ∨ s.slotOpen (pair + (1 - x.1 % 2)) then some ⟨x.1, d'.w, t', [pair, pair + 1]⟩
          else none)
  bucket ++ ovf

/-- The oldest of them; the first of equals. -/
def State.oldestVictim (s : State) (vs : List Victim) : Option Victim :=
  vs.foldl (fun b v => match b with
    | none => some v
    | some u => if s.ageTicks (s.slot u.pos) < s.ageTicks (s.slot v.pos) then some v else b) none

/-- The reply of EXACT_INSERT (R214). -/
def insertReply (ops : Nat) (evicted waited : Bool) (p : Nat) : List Word :=
  [w32 (ops + b2n evicted * 2 ^ 16 + b2n (decide (ovfBase ≤ p)) * 2 ^ 17 + b2n waited * 2 ^ 18), 0]

/-- The insert of a key by glue-up `g` that still waits for its slot.
DESIGN CHOICE: log entry 213. -/
def State.waitOf (s : State) (t key g : Nat) : Option InsertWait :=
  s.exm.inserts.find? (fun i => i.table == t && i.key == key && i.id == g)

/-- Remove a waiting insert. -/
def State.endInsert (s : State) (i : InsertWait) : State :=
  { s with exm := { s.exm with inserts := s.exm.inserts.erase i } }

/-- Insert or replace a key in glue-up `g` (R190 to R192, R214). A later insert of a key whose first one still waits replaces what that will
write. -/
def State.exactPut (s : State) (t : Nat) (d : ExactDesc) (key action : Nat) (learned replace : Bool) (g op : Nat)
    (q : Request) : GlueRes :=
  let old := s.liveAt d key
  let mine := s.pendAt d key g
  let waiting := s.waitOf t key g
  let ovr := if old.any (fun p => (s.slot p).tag == 0) then d.w else 0
  if ¬ replace ∧ (old.isSome ∨ mine.isSome ∨ waiting.isSome) then .refuse 0x0340
  else match s.keyHolder t d key g, waiting with
    | some h, _ => .claimed h
    | none, some i =>
      let is := mapFirst (· == i) (fun i => { i with action := action, learned := learned }) s.exm.inserts
      .done { s with exm := { s.exm with inserts := is } } 0 (insertReply 0 false false (i.slots.headD 0))
    | none, none =>
      match mine with
      | some p =>
        let s := (s.copiesOf t d).foldl (fun s c =>
          (s.pendAt c key g).elim s (fun p => s.writeUnit c p key action learned s.exm.mower.clock .veneer g)) s
        .done s 0 (insertReply 0 false false p)
      | none =>
        match s.takeUnit d key with
        | some p =>
          let s := if old.isSome then s.claimKey t d key g else s
          .done (s.putVeneer t d p key action learned g) (d.w + ovr) (insertReply (d.w + ovr) false false p)
        | none =>
          let wait (s : State) (slots : List Nat) (ops evict : Nat) : GlueRes :=
            if 4096 < (s.glueUp g).ops + ops then .refuse St.glueFull
            else
              let i : InsertWait := { id := g, op := op, q := q, table := t, key := key, action := action, learned := learned
                                      slots := slots, ops := ops, evictId := evict }
              .moving (({ s with exm := { s.exm with inserts := s.exm.inserts ++ [i] } }).addOps g ops)
          match s.freeingUnit d key with
          | some p => wait s (unit d.w p) (d.w + ovr) 0
          | none =>
            match (if d.evictEn then s.oldestVictim (s.victims t d key old) else none) with
            | none => .refuse 0x0240
            | some v =>
              match s.pickId 1 with
              | none => .refuse 0x0223
              | some f =>
                let e := ((s.openGlue f false 0 .maintenance).addOps f v.w).clampLocal f
                let e := match s.ownerAt v.pos with
                  | none => e
                  | some (t', d') => e.claimKey t' d' (s.keyAt v.w v.pos) f
                wait { e with exm := { e.exm with evicts := e.exm.evicts ++ [f] } } v.take (d.w + ovr + v.w) f

/-- Delete a key in glue-up `g` (R193). An insert of the key that still waits is cancelled. -/
def State.exactDrop (s : State) (t : Nat) (d : ExactDesc) (key g : Nat) : GlueRes :=
  let old := s.liveAt d key
  let mine := s.pendAt d key g
  let waiting := s.waitOf t key g
  if old.isNone ∧ mine.isNone ∧ waiting.isNone then .refuse 0x0341
  else match s.keyHolder t d key g, waiting with
    | some h, _ => .claimed h
    | none, some i =>
      let s := (s.endInsert i).reply i.op i.q St.ok (insertReply i.ops (i.evictId != 0) (i.evictId == 0) (i.slots.headD 0))
      .done (s.claimKey t d key g) 0 []
    | none, none =>
      if mine.isSome then .done (s.dropPend t d key g) 0 []
      else
        let n := if old.any (fun p => (s.slot p).tag == 0) then d.w else 0
        .done (s.claimKey t d key g) n []

end Sys2Proof.Machine
end

