-- ==== Sys2Proof/Machine/ExactCmd.lean ====
section
/-! DEFINITION. The commands of exact-match tables (R213 to R222) and what completes them: tables, entries, waiting inserts,
flushes, rehashes and the mower. -/

namespace Sys2Proof.Machine

/-! ## Tables (R184, R213) -/

/-- The regions and namespaces in use, the new build of a rehash among them. -/
def State.exactDescs (s : State) : List ExactDesc :=
  s.exm.tables.flatMap (fun x => (s.liveVers x.2.vers).filterMap (·.val) ++ x.2.gone.toList) ++
    (match s.exm.rehash with | some r => [r.old, r.new] | none => [])

/-- The lowest free region of 2^`l` buckets, aligned to its size (Table 6.2).
DESIGN CHOICE: log entry 59. -/
def State.freeRegion (s : State) (l : Nat) : Option Nat :=
  let used := s.exactDescs
  (firstFrom (2 ^ (18 - l)) 0 (fun i => used.all (fun d =>
    decide (d.base + 2 ^ d.log2 ≤ i * 2 ^ l ∨ (i + 1) * 2 ^ l ≤ d.base)))).map (· * 2 ^ l)

/-- The lowest free overflow namespace. -/
def State.freeNs (s : State) : Option Nat := firstFrom 128 0 (fun n => s.exactDescs.all (fun d => d.ns != n))

/-- A flush of the table runs. -/
def State.flushing (s : State) (t : Nat) : Bool :=
  s.exm.flushes.any (fun f => f.tables.contains t || f.walked.contains t)

/-- A rehash of the table runs. -/
def State.rehashing (s : State) (t : Nat) : Bool := s.exm.rehash.any (fun r => r.table == t)

/-- EXACT_TABLE_CREATE with OP 0, at the side that executes it. -/
def State.exactCreate (s : State) (q : Request) : State × CmdEnd :=
  let t := q.f 0 0 8
  let l := q.f 0 16 5
  if q.words.length ≠ 3 then (s, fin St.badLength)
  else if t = 0 ∨ t = 255 then (s, fin 0x0120)
  else if l < 10 ∨ 18 < l ∨ 4031 < q.f 2 0 12 ∨ q.stray 0 0x3F1F0FFF ∨ q.stray 2 0x10FFF then (s, fin 0x0140)
  else if s.tableTaken t then (s, fin 0x0320)
  else if 64 ≤ s.exm.tables.length then (s, fin 0x0242)
  else match s.freeRegion l, s.freeNs with
    | some b, some n =>
      let d : ExactDesc := {
        width := q.f 0 8 1, log2 := l, base := b, seed := q.w 1, ns := n, learnEn := q.b 0 11, learnProfile := q.f 0 24 6
        evictEn := q.b 0 10, ageLimit := q.f 2 0 12, notifyAged := q.b 2 16 }
      (s.setEx t { vers := [⟨s.glue.c, some d⟩], gen := 0, descSeq := 0, busy := .idle, gone := none, nextAge := none },
        .final St.ok [w32 b, w32 n])
    | _, _ => (s, fin 0x0241)

/-- EXACT_TABLE_CREATE with OP 1. -/
def State.exactDestroy (s : State) (q : Request) : State × CmdEnd :=
  let t := q.f 0 0 8
  if q.words.length ≠ 1 then (s, fin St.badLength)
  else if t = 0 ∨ t = 255 then (s, fin 0x0120)
  else if q.stray 0 0x2FF then (s, fin 0x0140)
  else if s.ternTable t = ternTable0 ∧ s.exTable t = exactTable0 then (s, fin 0x0110)
  else if s.ternTable t ≠ ternTable0 then (s, fin 0x0143)
  else if (s.exTable t).going ∨ s.flushing t ∨ s.rehashing t then (s, fin 0x0322)
  else if s.tableInUse t then (s, fin 0x0321)
  else
    let held := (s.exNow t).any (fun d => (s.exactEntries d).any (fun p => (s.slot p).tag != 0))
    if held ∨ s.exm.inserts.any (fun i => i.table == t) then (s, fin St.entryClaimed)
    else (s.setEx t { s.exTable t with busy := .destroying }, .pend (.exactDestroy t) [])

/-- EXACT_TABLE_CREATE. -/
def execExactTableCreate (q : Request) (s : State) : Host.Outcome State Fault Refusal :=
  finish s (runCmd Op.exactTableCreate q (fun s q => s.mirrored Op.exactTableCreate q (fun s =>
    if q.b 0 9 then s.exactDestroy q else s.exactCreate q)) s)

/-- EXACT_TABLE_DESTROY_DRAINED (R213). -/
def execExactTableDestroyDrained (table : Nat) (s : State) : Host.Outcome State Fault Refusal :=
  finish s (whileFw s fun s =>
    match (s.exTable table).busy with
    | .draining e =>
      if ¬ s.drainedTo e then s
      else
        let s := (s.exTable table).gone.elim s s.clearCopy
        let s := s.setEx table exactTable0
        let s := { s with exm := { s.exm with
          gleanQ := s.exm.gleanQ.filter (fun f => f.table != table)
          filter := s.exm.filter.filter (fun r => r.table != table) } }
        s.wake (.exactDestroy table) St.ok []
    | _ => s)

/-! ## EXACT_INSERT, EXACT_DELETE and EXACT_READ -/

/-- The key of a command, from word `i` on. -/
def keyFrom (d : ExactDesc) (q : Request) (i : Nat) : Nat := ofWords ((q.words.drop i).take (kwOf d.width))

/-- The follow side of a twin takes inserts and deletes of learned entries alone, with GLUE 0 (R203). -/
def State.insertFollow (s : State) (d : ExactDesc) (q : Request) : Bool :=
  s.refuses q && q.stream != .own && !(q.f 0 8 8 == 0 && q.b 0 16 &&
    (s.liveAt d (keyFrom d q 2)).all (fun p => (s.slot p).learned))

/-- The checks of EXACT_INSERT before the glue-up's (R214, its order 1 to 6); 0 when they pass. -/
def State.insertPre (s : State) (q : Request) : Nat :=
  let t := q.f 0 0 8
  if s.exactCheck t = 0x0110 then 0x0110
  else if s.exactCheck t ≠ 0 then 0x0143
  else if (s.exTable t).going then 0x0322
  else match s.exNow t with
    | none => 0x0322
    | some d =>
      if q.words.length ≠ 2 + kwOf d.width then St.badLength
      else if q.stray 0 0x3FFFF ∨ q.stray 1 0xFFFFF ∨ 2 ^ (80 * d.w) ≤ keyFrom d q 2 then 0x0141
      else if s.insertFollow d q then St.followSide
      else 0

/-- One attempt of EXACT_INSERT. -/
def insertAct (q : Request) (s : State) (g : Nat) : GlueRes :=
  let t := q.f 0 0 8
  if s.insertPre q ≠ 0 then .refuse (s.insertPre q)
  else match s.exNow t with
    | none => .refuse 0x0110
    | some d => s.exactPut t d (keyFrom d q 2) (q.f 1 0 20) (q.b 0 16) (q.b 0 17) g Op.exactInsert q

/-- EXACT_INSERT (R214). Learned entries are never mirrored (R203). -/
def State.exactInsert (s : State) (q : Request) : State × CmdEnd :=
  if s.insertPre q ≠ 0 then (s, fin (s.insertPre q)) else s.glueBody Op.exactInsert q (!q.b 0 16) (insertAct q)

/-- EXACT_INSERT. -/
def execExactInsert (q : Request) (s : State) : Host.Outcome State Fault Refusal :=
  finish s (runCmd Op.exactInsert q State.exactInsert s)

/-- A waiting insert takes the slots that it claimed, now free (R191, R192).
DESIGN CHOICE: log entry 62. -/
def State.placeInsert (s : State) (i : InsertWait) (d : ExactDesc) : State :=
  let s := s.endInsert i
  match i.slots with
  | [] => s
  | p :: _ =>
    let s := s.claimKey i.table d i.key i.id
    let s := s.putVeneer i.table d p i.key i.action i.learned i.id
    let w := insertReply i.ops (i.evictId != 0) (i.evictId == 0) p
    if i.op ≠ Op.exactInsert then (s.mailboxOps i.ops).queueRetry i.id i.op i.q s.clk.age
    else match (s.glueUp i.id).opener with
      | .implicit => (s.toClampingIf (!i.learned) [i.id]).wait (.implicit i.id) i.op i.q St.ok w
      | .maintenance => s.clampLocal i.id
      | _ => s.reply i.op i.q St.ok w

/-- A rehash has swapped the table away from the slots that a waiting insert claimed (R195). -/
def State.insertStray (s : State) (i : InsertWait) : Bool :=
  (s.exNow i.table).any (fun d => i.slots.any (fun p => decide (p < ovfBase) && !d.inRegion p))

/-- EXACT_INSERT_SLOT_FREED: a waiting insert of glue-up `id` finds its slot reclaimed (R191). One whose table has been swapped away from
its slot starts afresh. -/
def execExactInsertSlotFreed (id : Nat) (s : State) : Host.Outcome State Fault Refusal :=
  finish s (whileFw s fun s =>
    match s.exm.inserts.find? (fun i => i.id == id && (s.insertStray i || i.slots.all (fun p => (s.slot p).state == .free))) with
    | none => s
    | some i =>
      if (s.glueUp id).st = .aborting then s
      else if s.glueOpen? id ≠ 0 then (s.endInsert i).reply i.op i.q (s.glueOpen? id) []
      else if s.insertStray i then
        ((s.endInsert i).setGlue id { s.glueUp id with ops := (s.glueUp id).ops - i.ops }).queueRetry id i.op i.q s.clk.age
      else match s.exNow i.table with
        | none => (s.endInsert i).reply i.op i.q 0x0110 []
        | some d => s.placeInsert i d)

/-- The follow side refuses a delete of a static entry, and one in a named glue-up (R203).
DESIGN CHOICE: log entry 63. -/
def State.deleteFollow (s : State) (d : ExactDesc) (q : Request) : Bool :=
  s.refuses q && !(q.f 0 8 8 == 0 && (s.liveAt d (keyFrom d q 1)).all (fun p => (s.slot p).learned))

/-- The checks of EXACT_DELETE before the glue-up's; 0 when they pass. -/
def State.deletePre (s : State) (q : Request) : Nat :=
  let t := q.f 0 0 8
  if s.exactCheck t ≠ 0 then s.exactCheck t
  else if (s.exTable t).going then 0x0322
  else match s.exNow t with
    | none => 0x0322
    | some d =>
      if q.words.length ≠ 1 + kwOf d.width then St.badLength
      else if q.stray 0 0xFFFF ∨ 2 ^ (80 * d.w) ≤ keyFrom d q 1 then 0x0141
      else if s.deleteFollow d q then St.followSide
      else 0

/-- One attempt of EXACT_DELETE. -/
def deleteAct (q : Request) (s : State) (g : Nat) : GlueRes :=
  let t := q.f 0 0 8
  if s.deletePre q ≠ 0 then .refuse (s.deletePre q)
  else match s.exNow t with
    | none => .refuse 0x0110
    | some d => s.exactDrop t d (keyFrom d q 1) g

/-- The entry that EXACT_DELETE names is static: the lead mirrors its deletion (R203). -/
def State.deleteMirrors (s : State) (q : Request) : Bool :=
  (s.exNow (q.f 0 0 8)).any (fun d =>
    let key := keyFrom d q 1
    ((s.liveAt d key).or (s.pendAt d key (q.f 0 8 8))).any (fun p => !(s.slot p).learned) ||
      (s.waitOf (q.f 0 0 8) key (q.f 0 8 8)).any (fun i => !i.learned))

/-- EXACT_DELETE (R215). -/
def State.exactDelete (s : State) (q : Request) : State × CmdEnd :=
  if s.deletePre q ≠ 0 then (s, fin (s.deletePre q))
  else s.glueBody Op.exactDelete q (s.deleteMirrors q) (deleteAct q)

/-- EXACT_DELETE. -/
def execExactDelete (q : Request) (s : State) : Host.Outcome State Fault Refusal :=
  finish s (runCmd Op.exactDelete q State.exactDelete s)

/-- EXACT_READ (R216). -/
def State.exactRead (s : State) (q : Request) : State × CmdEnd :=
  let t := q.f 0 0 8
  if s.exactCheck t ≠ 0 then (s, fin (s.exactCheck t))
  else match s.exNow t with
    | none => (s, fin 0x0110)
    | some d =>
      if q.words.length ≠ 1 + kwOf d.width then (s, fin St.badLength)
      else if q.stray 0 0xFF ∨ 2 ^ (80 * d.w) ≤ keyFrom d q 1 then (s, fin 0x0141)
      else
        let key := keyFrom d q 1
        let s := s.lsIssue
        let r := s.exactSearch d key s.glue.c false
        let s' := (s.advance 40).noteFailing t s.glue.c r.failing
        match r.hit with
        | none => (s', .final St.ok [w32 (b2n (!r.failing.isEmpty) * 16), 0, 0, 0])
        | some p =>
          let x := s.slot p
          let pend := (s.homes d key).any (fun p =>
            let y := s.slot p
            y.state == .veneer && y.tag != 0 && s.keyAt d.w p == key) || s.exm.inserts.any (fun i => i.table == t && i.key == key)
          let bad := (unit d.w p).any (fun p => !(s.slot p).ok)
          (s', .final St.ok [
            w32 (1 + b2n pend * 2 + b2n (x.tag != 0 && !pend) * 4 + b2n (s.rehashing t) * 8 + b2n bad * 16 +
              b2n x.learned * 32 + b2n (decide (ovfBase ≤ p)) * 64 + x.tag.toNat * 2 ^ 8 + x.birth.toNat * 2 ^ 16),
            w32 x.action.toNat, w32 (s.ageTicks x + x.ts.toNat * 2 ^ 16), w32 p])

/-- EXACT_READ. -/
def execExactRead (q : Request) (s : State) : Host.Outcome State Fault Refusal :=
  finish s (runCmd Op.exactRead q State.exactRead s)

/-! ## Notifications (R198 to R202, R217) -/

/-- Queue a notification; one that finds the queue full is discarded and counted (R202). -/
def State.pushNote (s : State) (n : LearnNote) : State × Bool :=
  if 4096 ≤ s.exm.learnQ.length then (s.cnt Reg.exactLearnDropCount 1, false)
  else ({ s with exm := { s.exm with learnQ := s.exm.learnQ ++ [n] } }, true)

/-- The notification of an entry that is evicted or mowed: `kind` 3 EVICTED, 4 AGED. -/
def State.noteEntry (s : State) (kind : Nat) (t : Nat) (d : ExactDesc) (p : Nat) : State :=
  let x := s.slot p
  (s.pushNote { kind := kind, race := false, learned := x.learned, width := d.width, table := t, port := x.action.toNat % 256
                port2 := 0, time := w32 s.dtUs, action := x.action.toNat, key := s.keyAt d.w p }).1

/-- The words of a notification (Table 6.8). -/
def LearnNote.words (n : LearnNote) : List Word :=
  [ w32 (n.kind + b2n n.race * 8 + b2n n.learned * 16 + n.width * 32 + n.table * 2 ^ 8 + n.port * 2 ^ 16 + n.port2 * 2 ^ 24),
    n.time, w32 n.action ] ++ toWords 5 n.key

/-- LEARN_POP (R217). -/
def State.learnPop (s : State) (q : Request) : State × CmdEnd :=
  let n := q.f 0 0 6
  if n = 0 ∨ 32 < n ∨ q.stray 0 0x3F then (s, fin 0x0141)
  else
    let out := s.exm.learnQ.take n
    let rest := s.exm.learnQ.drop n
    ({ s with exm := { s.exm with learnQ := rest } },
      .final St.ok (w32 (out.length + rest.length * 2 ^ 16) :: out.flatMap LearnNote.words))

/-- LEARN_POP. -/
def execLearnPop (q : Request) (s : State) : Host.Outcome State Fault Refusal :=
  finish s (runCmd Op.learnPop q State.learnPop s)

/-- LEARN_WINDOW_EXPIRY: the oldest record of a key is released at the end of its window (R200).
DEDUCED: log entry 64. -/
def execLearnWindowExpiry (table key : Nat) (s : State) : Host.Outcome State Fault Refusal :=
  finish s (whileUp s fun s =>
    match s.exm.filter.find? (fun r => r.table == table && r.key == key) with
    | none => s
    | some r =>
      let s := s.until (r.at_ + max 1 (s.rf Reg.exactLearnWindow 0 16) * usC)
      { s with exm := { s.exm with filter := s.exm.filter.erase r } })

/-! ## Flushing (R209, R218) -/

/-- Delete entries, given as (table, position), in one firmware glue-up of at most 4,096 operations that clamps at the next
boundary. Answers the glue-up, the entries deleted, those found claimed, and those left over. -/
def State.deleteBatch (s : State) (es : List (Nat × Nat)) :
    Option (State × Nat × List (Nat × Nat) × List (Nat × Nat) × List (Nat × Nat)) :=
  (s.pickId 1).map (fun id =>
    let one (a : State × List (Nat × Nat) × List (Nat × Nat) × List (Nat × Nat)) (e : Nat × Nat) :=
      let (s, done, held, left) := a
      match s.exNow e.1 with
      | none => a
      | some d =>
        let x := s.slot e.2
        if x.state ≠ .live then a
        else if (s.keyHolder e.1 d (s.keyAt d.w e.2) 0).isSome then (s, done, held ++ [e], left)
        else if 4096 < (s.glueUp id).ops + d.w then (s, done, held, left ++ [e])
        else ((s.claimKey e.1 d (s.keyAt d.w e.2) id).addOps id d.w, done ++ [e], held, left)
    let (t, done, held, left) := es.foldl one (s.openGlue id false 0 .maintenance, [], [], [])
    (if done.isEmpty then t.freeGlue id else t.clampLocal id, id, done, held, left))

/-- Entries that have gone leave the queues of the mower and of flushes (R206, R209). -/
def State.dropQueued (s : State) (gone : List Nat) : State :=
  let keep (es : List (Nat × Nat)) : List (Nat × Nat) := es.filter (fun e => !gone.contains e.2)
  { s with exm := { s.exm with
      mower := { s.exm.mower with queue := keep s.exm.mower.queue }
      flushes := s.exm.flushes.map (fun f => { f with queued := keep f.queued, claimed := keep f.claimed }) } }

/-- Replace a flush. -/
def State.setFlush (s : State) (old new : Flush) : State :=
  { s with exm := { s.exm with flushes := mapFirst (fun f => f == old) (fun _ => new) s.exm.flushes } }

/-- Give the final reply of the first command that waits for `on`. -/
def State.wakeOne (s : State) (on : WaitOn) (status : Nat) (payload : List Word) : State :=
  match s.cmdq.waiters.find? (fun w => w.on == on) with
  | none => s
  | some w =>
    ({ s with cmdq := { s.cmdq with waiters := s.cmdq.waiters.erase w } }).reply w.op w.q status payload

/-- Put a flush's queued deletions into a glue-up, when enough are queued or the walk has ended. -/
def State.flushBatch (s : State) (f : Flush) : State :=
  let ops := (f.queued.map (fun e => (s.exNow e.1).elim 1 ExactDesc.w)).foldl (· + ·) 0
  if f.queued.isEmpty ∨ (ops < 4095 ∧ ¬ f.ended) then s
  else match s.deleteBatch f.queued with
    | none => s
    | some (t, id, done, held, left) =>
      t.setFlush f { f with
        queued := left, ids := if done.isEmpty then f.ids else f.ids ++ [id], deleted := f.deleted + done.length
        claimed := if f.ended then f.claimed else f.claimed ++ held
        skipped := if f.ended then f.skipped + held.length else f.skipped }

/-- A flush that has nothing left to do replies. -/
def State.flushSettle (s : State) (f : Flush) : State :=
  if f.ended ∧ f.queued = [] ∧ f.ids = [] then
    ({ s with exm := { s.exm with flushes := s.exm.flushes.erase f } }).wakeOne (.flush f.port) St.ok
      [w32 f.deleted, w32 f.skipped]
  else s

/-- A port in INGRESS encoding that exists. -/
def portValid (p : Nat) : Bool := decide (p < 32 ∨ (64 ≤ p ∧ p < 128))

/-- FLUSH_BY_PORT (R209, R218). -/
def State.flushByPort (s : State) (q : Request) : State × CmdEnd :=
  let t := q.f 0 0 8
  let port := q.f 0 8 8
  let tables := if t ≠ 0 then [t]
    else (s.exm.tables.filter (fun x => (s.exNow x.1).any (·.learnEn))).map (·.1)
  if t ≠ 0 ∧ s.exactCheck t ≠ 0 then (s, fin (s.exactCheck t))
  else if t ≠ 0 ∧ (s.exNow t).isNone then (s, fin 0x0110)
  else if q.stray 0 0x1FFFF then (s, fin 0x0141)
  else if ¬ portValid port then (s, fin 0x0142)
  else if tables.any (fun t => s.flushing t || s.rehashing t) then (s, fin 0x0343)
  else if s.freeIds = [] then (s, fin 0x0223)
  else
    let f : Flush := { port := port, static := q.b 0 16, tables := tables, walked := [], next := 0, queued := [], claimed := []
                       ids := [], deleted := 0, skipped := 0, ended := false }
    let s := { s with exm := { s.exm with
      flushes := s.exm.flushes ++ [f], filter := s.exm.filter.filter (fun r => r.port1 != port) } }
    (s, .pend (.flush port) [])

/-- FLUSH_BY_PORT. -/
def execFlushByPort (q : Request) (s : State) : Host.Outcome State Fault Refusal :=
  finish s (runCmd Op.flushByPort q State.flushByPort s)

/-- The walk of a flush reads its next bucket or overflow slot (R209).
DESIGN CHOICE: log entry 69. -/
def State.flushRead (s : State) (f : Flush) : State :=
  match f.tables with
  | [] => s
  | t :: ts =>
    let skip := s.setFlush f { f with tables := ts, walked := f.walked ++ [t], next := 0 }
    match s.exNow t with
    | none => skip
    | some d =>
      let size := 2 ^ d.log2
      let ovf := (s.exactEntries d).filter (fun p => decide (ovfBase + (f.next - size) ≤ p))
      let here := if f.next < size then bucketUnits d.w (d.base + f.next) else ovf.take 1
      let hits := here.filter (fun p =>
        let x := s.slot p
        x.state == .live && x.action.toNat % 256 == f.port && (x.learned || f.static))
      let free := (hits.filter (fun p => (s.slot p).tag == 0)).map (fun p => (t, p))
      let held := (hits.filter (fun p => (s.slot p).tag != 0)).map (fun p => (t, p))
      let f' := { f with queued := f.queued ++ free, claimed := f.claimed ++ held }
      let last := if f.next < size then decide (f.next + 1 = size) && ovf.isEmpty else decide (ovf.length ≤ 1)
      let next := if f.next < size then f.next + 1 else size + (ovf.headD 0 - ovfBase) + d.w
      let f' := if last then { f' with tables := ts, walked := f.walked ++ [t], next := 0 } else { f' with next := next }
      (s.setFlush f f').flushBatch f'

/-- FLUSH_BUCKET_READ. -/
def execFlushBucketRead (port : Nat) (s : State) : Host.Outcome State Fault Refusal :=
  finish s (whileFw s fun s =>
    match s.exm.flushes.find? (fun f => f.port == port && !f.ended) with
    | none => s
    | some f => s.flushRead f)

/-- FLUSH_WALK_DONE: the walk has ended; entries found claimed are tried once more, and the last deletions are clamped. -/
def execFlushWalkDone (port : Nat) (s : State) : Host.Outcome State Fault Refusal :=
  finish s (whileFw s fun s =>
    match s.exm.flushes.find? (fun f => f.port == port && f.tables.isEmpty) with
    | none => s
    | some f =>
      let f' := if f.ended then f else { f with ended := true, queued := f.queued ++ f.claimed, claimed := [] }
      let s := (s.setFlush f f').flushBatch f'
      match s.exm.flushes.find? (fun f => f.port == port && f.ended) with
      | none => s
      | some f => s.flushSettle f)

/-! ## The mower (R204 to R206, R219) -/

/-- TICK_MS in force: values 0–15 act as 16. -/
def State.tickMs (s : State) : Nat := max 16 (s.rf Reg.exactMowerTick 0 16)

/-- MOWER_CONFIG at the side that executes it (R219). -/
def State.mowerConfigDo (s : State) (q : Request) : State × CmdEnd :=
  let t := q.f 0 0 8
  let limit := q.f 0 16 12
  let tick := q.f 1 0 16
  if q.stray 0 0x0FFF03FF ∨ q.stray 1 0xFFFF ∨ (t ≠ 0 ∧ 4031 < limit) ∨ (q.b 0 8 ∧ tick < 16) then (s, fin 0x0140)
  else if t ≠ 0 ∧ s.exactCheck t ≠ 0 then (s, fin (s.exactCheck t))
  else
    let s := if q.b 0 8 then s.wr Reg.exactMowerTick (w32 tick) else s
    let s := if t = 0 then s else s.setEx t { s.exTable t with nextAge := some (limit, q.b 0 9) }
    (s, .final St.ok [w32 s.tickMs, w32 (if t = 0 then 0 else limit)])

/-- MOWER_CONFIG. -/
def execMowerConfig (q : Request) (s : State) : Host.Outcome State Fault Refusal :=
  finish s (runCmd Op.mowerConfig q (fun s q => s.mirrored Op.mowerConfig q (fun s => s.mowerConfigDo q)) s)

/-- A descriptor with new ageing settings. -/
def ExactDesc.aged (d : ExactDesc) (a : Option (Nat × Bool)) : ExactDesc :=
  a.elim d (fun a => { d with ageLimit := a.1, notifyAged := a.2 })

/-- The ageing settings that waited for a sweep come into force (R219). -/
def ageNow (x : ExactTable) : ExactTable :=
  { x with nextAge := none, vers := x.vers.map (fun v => { v with val := v.val.map (·.aged x.nextAge) }) }

/-- They come into force in every table, and in the new build of a rehash. -/
def State.ageAll (s : State) : State :=
  let build (r : Rehash) : Rehash :=
    let a := (s.exTable r.table).nextAge
    { r with old := r.old.aged a, new := r.new.aged a }
  { s with exm := { s.exm with tables := smMap exactTable0 (fun _ x => ageNow x) s.exm.tables, rehash := s.exm.rehash.map build } }

/-- MOWER_TICK (R204, R205).
DESIGN CHOICE: log entry 67. -/
def execMowerTick (s : State) : Host.Outcome State Fault Refusal :=
  finish s (whileUp s fun s =>
    let s := s.untilNs s.exm.mower.nextTick.toNat
    let m := s.exm.mower
    let m := { m with clock := m.clock + 1, nextTick := m.nextTick + s.tickMs * 10 ^ 6 }
    if s.rb Reg.exactCtrl 3 then
      let s : State := { s with exm := { s.exm with mower := { m with sweep := some 0, queue := [] } } }
      s.ageAll
    else { s with exm := { s.exm with mower := m } })

/-- What the mower does with the entry at a position (R205). -/
def State.mowEntry (s : State) (p : Nat) : State :=
  let x := s.slot p
  match s.ownerAt p with
  | none => s
  | some (t, d) =>
    if x.state = .free ∨ p % d.w ≠ 0 then s
    else if x.learned ∧ x.state = .live ∧ x.tag = 0 ∧ d.ageLimit ≠ 0 ∧ d.ageLimit ≤ s.ageTicks x ∧
        (s.exNow t).any (fun c => c.base == d.base && c.ns == d.ns) then
      { s with exm := { s.exm with mower := { s.exm.mower with queue := s.exm.mower.queue ++ [(t, p)] } } }
    else if 4032 ≤ s.ageTicks x then s.setSlot p (x.stamp (s.exm.mower.clock - 4032))
    else s

/-- MOWER_READ: the sweep reads its next bucket or overflow slot. -/
def execMowerRead (s : State) : Host.Outcome State Fault Refusal :=
  finish s (whileUp s fun s =>
    match s.exm.mower.sweep with
    | none => s
    | some k =>
      let here := if k < 262144 then (List.range 4).map (4 * k + ·) else [ovfBase + (k - 262144)]
      let s := here.foldl State.mowEntry s
      let next := if k + 1 = 270336 then none else some (k + 1)
      { s with exm := { s.exm with mower := { s.exm.mower with sweep := next } } })

/-- MOWER_DELETE: queued entries go into a firmware glue-up, once it would be full or the sweep has ended (R206).
DESIGN CHOICE: log entry 68. -/
def execMowerDelete (s : State) : Host.Outcome State Fault Refusal :=
  finish s (whileFw s fun s =>
    let m := s.exm.mower
    let ops := (m.queue.map (fun e => (s.exNow e.1).elim 1 ExactDesc.w)).foldl (· + ·) 0
    if m.queue = [] ∨ (ops < 4095 ∧ m.sweep.isSome) then s
    else match s.deleteBatch m.queue with
      | none => s
      | some (t, id, done, _, left) =>
        let ids := if done.isEmpty then m.ids else m.ids ++ [(id, done)]
        { t with exm := { t.exm with mower := { t.exm.mower with queue := left, ids := ids } } })

/-! ## Rehash (R194, R195, R220) -/

/-- EXACT_REHASH at the side that executes it. Answers the seed as well, which a lead sends to its follow side. -/
def State.rehashDo (s : State) (q : Request) : State × CmdEnd × Word :=
  let t := q.f 0 0 8
  let l := q.f 0 16 5
  if s.exactCheck t ≠ 0 then (s, fin (s.exactCheck t), 0)
  else if q.stray 0 0x1F01FF ∨ (l ≠ 0 ∧ (l < 10 ∨ 18 < l)) then (s, fin 0x0140, 0)
  else if s.exm.rehash.isSome ∨ s.flushing t ∨ (s.exTable t).going then (s, fin 0x0343, 0)
  else match s.exNow t with
    | none => (s, fin 0x0343, 0)
    | some d =>
      let size := if l = 0 then d.log2 else l
      match s.freeRegion size, s.freeNs with
      | some b, some n =>
        if s.freeIds = [] then (s, fin 0x0223, 0)
        else
          let (seed, s) := if q.b 0 8 then (q.w 1, s) else s.freeW
          let r : Rehash := { table := t, old := d, new := { d with log2 := size, base := b, seed := seed, ns := n }, next := 0
                              copied := 0, phase := .copying }
          ({ s with exm := { s.exm with rehash := some r } }, .pend (.rehash t) [], seed)
      | _, _ => (s, fin 0x0241, 0)

/-- EXACT_REHASH. -/
def execExactRehash (q : Request) (s : State) : Host.Outcome State Fault Refusal :=
  finish s (runCmd Op.exactRehash q (fun s q =>
    if s.refuses q then (s, fin St.followSide)
    else match s.rehashDo q with
      | (t, .pend on w, seed) => (t.mirrorAs Op.exactRehash q 0 [q.w 0 ||| 0x100#32, seed], .pend on w)
      | (t, e, _) => (t, e)) s)

/-- Copy the slots of one entry into the new build, in the state that they have (R194). A slot that fails parity still fails
in the copy. -/
def State.copyUnit (s : State) (r : Rehash) (p p' : Nat) : State :=
  (List.range r.old.w).foldl (fun s i =>
    let x := s.slot (p + i)
    let y := Slot.sealed { x with ns := if ovfBase ≤ p' then BitVec.ofNat 7 r.new.ns else 0 }
    s.setSlot (p' + i) { y with parity := y.parity != !x.imageOk, tagParity := y.tagParity != !x.tagOk }) s

/-- REHASH_ENTRY_COPY: the next entry is copied, unless a claim has already put it into the new build.
DESIGN CHOICE: log entry 70. -/
def execRehashEntryCopy (s : State) : Host.Outcome State Fault Refusal :=
  finish s (whileFw s fun s =>
    match s.exm.rehash with
    | none => s
    | some r =>
      match r.phase, (s.exactEntries r.old).find? (fun p => decide (r.next ≤ p)) with
      | .copying, some p =>
        let x := s.slot p
        let key := s.keyAt r.old.w p
        let there := (s.homes r.new key).any (fun p' =>
          let y := s.slot p'
          s.keyAt r.new.w p' == key && y.state == x.state && y.tag == x.tag && y.birth == x.birth && y.death == x.death)
        let next (s : State) : State :=
          { s with exm := { s.exm with rehash := some { r with next := p + r.old.w, copied := r.copied + 1 } } }
        let s := s.noteFailing r.table s.glue.c ((unit r.old.w p).filter (fun p => !(s.slot p).ok))
        if there then next s
        else match s.takeUnit r.new key with
          | none => s.stopRehash 0x0243
          | some p' => next (s.copyUnit r p p')
      | _, _ => s)

/-- REHASH_COPY_DONE: a firmware glue-up of one operation swaps the descriptor at the next boundary (R195). -/
def execRehashCopyDone (s : State) : Host.Outcome State Fault Refusal :=
  finish s (whileFw s fun s =>
    match s.exm.rehash with
    | none => s
    | some r =>
      if r.phase ≠ .copying ∨ (s.exactEntries r.old).any (fun p => decide (r.next ≤ p)) then s
      else match s.pickId 1 with
        | none => s
        | some id =>
          let s := ((s.openGlue id false 0 .maintenance).addOps id 1).clampLocal id
          { s with exm := { s.exm with rehash := some { r with phase := .swapping id } } })

/-- REHASH_OLD_REGION_FREED: the epoch of the old build has drained, its slots are freed, and the command replies (R195). -/
def execRehashOldRegionFreed (s : State) : Host.Outcome State Fault Refusal :=
  finish s (whileFw s fun s =>
    match s.exm.rehash with
    | none => s
    | some r =>
      match r.phase with
      | .draining e =>
        if ¬ s.drainedTo e then s
        else
          let s := s.clearCopy r.old
          let s := { s with exm := { s.exm with rehash := none } }
          let s := s.setEx r.table { s.exTable r.table with vers := s.liveVers (s.exTable r.table).vers }
          s.wake (.rehash r.table) St.ok [w32 r.new.base, r.new.seed, w32 r.copied]
      | _ => s)

/-! ## SEARCH_NEXT on an exact-match table (R208, R221) -/

/-- What one call of a walk examines (R207, R208): the part of the region from `first` to `stop`, and positions of the namespace. -/
structure WalkPart where
  first : Nat
  stop : Nat
  ovf : List Nat
deriving DecidableEq, Repr

/-- The end of a table's region. -/
def ExactDesc.regionEnd (d : ExactDesc) : Nat := 4 * (d.base + 2 ^ d.log2)

/-- The positions that are not FREE in the namespace of a table, ascending. -/
def State.nsPositions (s : State) (d : ExactDesc) : List Nat :=
  s.exm.slots.filterMap (fun x => if ovfBase ≤ x.1 ∧ x.2.state ≠ .free ∧ x.2.ns.toNat = d.ns then some x.1 else none)

/-- The next 4,096 positions of a walk from a cursor on. -/
def State.walkPart (s : State) (d : ExactDesc) (cursor : Nat) : WalkPart :=
  let first := if cursor < ovfBase then min (max cursor (4 * d.base)) d.regionEnd else d.regionEnd
  let stop := min d.regionEnd (first + 4096)
  ⟨first, stop, ((s.nsPositions d).filter (fun p => decide (cursor ≤ p))).take (4096 - (stop - first))⟩

/-- The call examines a position. -/
def WalkPart.has (w : WalkPart) (p : Nat) : Bool := (decide (w.first ≤ p) && decide (p < w.stop)) || w.ovf.contains p

/-- The position behind what a call examines. -/
def WalkPart.behind (w : WalkPart) (d : ExactDesc) : Nat :=
  if w.stop < d.regionEnd then w.stop else w.ovf.getLast?.elim d.regionEnd (· + 1)

/-- The walk of a table is over at a position. -/
def State.walkDone (s : State) (d : ExactDesc) (next : Nat) : Bool :=
  decide (d.regionEnd ≤ next) && !(s.nsPositions d).any (fun p => decide (next ≤ p))

/-- SEARCH_NEXT on an exact-match table.
DESIGN CHOICE: log entry 215. -/
def State.searchNextExact (s : State) (q : Request) (d : ExactDesc) : State × CmdEnd :=
  let t := q.f 0 0 8
  let count := q.f 0 16 4
  let filter := q.f 0 8 2
  let port := q.f 0 24 8
  let x := s.exTable t
  if count = 0 ∨ 8 < count then (s, fin 0x0112)
  else if filter = 3 ∨ q.stray 0 0xFF0F17FF then (s, fin 0x0141)
  else if q.b 0 10 ∧ ¬ portValid port then (s, fin 0x0142)
  else if q.words.length ≠ 3 then (s, fin St.badLength)
  else if q.stray 1 0x1FFFFF then (s, fin 0x0141)
  else if ¬ q.b 0 12 ∧ q.w 2 ≠ x.descSeq then (s, fin 0x0342)
  else
    let part := s.walkPart d (if q.b 0 12 then 0 else q.f 1 0 21)
    let e := s.glue.c
    let passes (p : Nat) : Bool :=
      let y := s.slot p
      s.visible y.state y.birth y.death e && (unit d.w p).all (fun p => (s.slot p).ok) &&
        (filter == 0 || (filter == 1) == y.learned) && (!q.b 0 10 || y.action.toNat % 256 == port)
    let hits := ((s.exactEntries d).filter (fun p => part.has p && passes p)).take count
    let next := match (if hits.length = count then hits.getLast? else none) with | some p => p + d.w | none => part.behind d
    let done := s.walkDone d next
    let bad := (s.exm.slots.map (·.1)).filter (fun p => part.has p && decide (p < next) && !(s.slot p).ok)
    let kw := kwOf d.width
    let entry (p : Nat) : List Word :=
      let y := s.slot p
      [w32 (y.action.toNat + b2n y.learned * 2 ^ 20), w32 p, w32 (s.ageTicks y + y.ts.toNat * 2 ^ 16)] ++
        toWords kw (s.keyAt d.w p)
    (s.noteFailing t e bad, .final St.ok ([
      w32 (hits.length + b2n (!bad.isEmpty) * 16 + b2n done * 64 + e.toNat * 2 ^ 8 + t * 2 ^ 16),
      x.gen, w32 (if done then 0x102000 else if d.regionEnd ≤ next then max next ovfBase else next), x.descSeq] ++ hits.flatMap entry))

/-- SEARCH_NEXT, on either kind of table. -/
def State.searchNext (s : State) (q : Request) : State × CmdEnd :=
  let t := q.f 0 0 8
  match s.exNow t, s.ternNow t with
  | some d, _ => s.searchNextExact q d
  | none, some d => s.searchNextTern q d
  | none, none => (s, fin 0x0110)

/-- SEARCH_NEXT. -/
def execSearchNext (q : Request) (s : State) : Host.Outcome State Fault Refusal :=
  finish s (runCmd Op.searchNext q State.searchNext s)

/-! ## CAPACITY_REPORT (R136, R222) -/

/-- The report of the device. -/
def State.capacityAll (s : State) : List Word :=
  let free := s.freeSegs
  let waiting := (List.range 128).filter (fun n =>
    let g := s.segment n
    g.table != 0 && (g.releasing || (match (s.ternTable g.table).busy with | .draining _ => true | _ => false)))
  let terns := (s.tern.tables.filter (fun x => (s.ternNow x.1).isSome)).length
  let exacts := (s.exm.tables.filter (fun x => (s.exNow x.1).isSome)).length
  w32 (free.length + terns * 2 ^ 8 + exacts * 2 ^ 16) :: (toWords 4 (bitmap free) ++ toWords 4 (bitmap waiting))

/-- The report of a ternary table. -/
def State.capacityTern (s : State) (t : Nat) (d : TernDesc) : List Word :=
  let ps := s.places d
  let part (p : Nat) : List Word :=
    let mine := ps.filter (fun x => x.part == p)
    let live := (mine.filter (fun x => s.visible x.state x.birth x.death s.glue.c)).length
    let dying := (mine.filter (fun x => !x.stands)).length
    let claimed := ((s.glue.moves.filter (fun m => m.table == t && m.part == p)).flatMap (·.claimed)).eraseDups
    let kept := (claimed.filter (fun n => !mine.any (fun x => x.slot == n))).length
    [w32 live, w32 (d.slots - mine.length - kept), w32 dying]
  [ w32 (t + d.width * 2 ^ 8 + d.resolution * 2 ^ 12 + d.partLog2 * 2 ^ 13 + (d.replicas - 1) * 2 ^ 16 + d.segs * 2 ^ 20),
    w32 d.partLsb, w32 d.actionBase, (s.ternTable t).gen ] ++ toWords 4 (bitmap d.sets.flatten) ++
    (List.range d.parts).flatMap part

/-- The report of an exact-match table. -/
def State.capacityExact (s : State) (t : Nat) (d : ExactDesc) : List Word :=
  let es := s.exactEntries d
  let live := es.filter (fun p => let x := s.slot p; s.visible x.state x.birth x.death s.glue.c)
  let region := es.filter d.inRegion
  let gone := (es.filter (fun p => let x := s.slot p; x.state == .dying || (x.state == .veneer && x.tag == 0))).length
  let per := (live.filter d.inRegion).map (· / 4)
  let fill (k : Nat) : Nat := (per.eraseDups.filter (fun b => (per.filter (· == b)).length == k)).length
  let ovfUsed := (s.exm.slots.filter (fun x => decide (ovfBase ≤ x.1) && x.2.state != .free)).length
  [ w32 (t + d.width * 2 ^ 8 + d.log2 * 2 ^ 16), w32 d.base, d.seed, (s.exTable t).gen, w32 live.length,
    w32 (live.filter (fun p => (s.slot p).learned)).length, w32 (2 ^ d.log2 * (4 / d.w) - region.length), w32 gone,
    w32 (live.filter (fun p => decide (ovfBase ≤ p))).length, w32 (2 ^ d.log2 - per.eraseDups.length), w32 (fill 1), w32 (fill 2),
    w32 (fill 3), w32 (fill 4), w32 (d.ns + (8192 - ovfUsed) * 2 ^ 16) ]

/-- CAPACITY_REPORT.
DEDUCED: log entry 72. -/
def State.capacityReport (s : State) (q : Request) : State × CmdEnd :=
  let t := q.f 0 0 8
  if t = 0 then (s, .final St.ok s.capacityAll)
  else match s.ternNow t, s.exNow t with
    | some d, _ => (s, .final St.ok (s.capacityTern t d))
    | none, some d => (s, .final St.ok (s.capacityExact t d))
    | none, none => (s, fin 0x0110)

/-- CAPACITY_REPORT. -/
def execCapacityReport (q : Request) (s : State) : Host.Outcome State Fault Refusal :=
  finish s (runCmd Op.capacityReport q State.capacityReport s)

end Sys2Proof.Machine
end

