-- ==== Sys2Proof/Machine/Mailbox.lean ====
section
/-! DEFINITION. Action entries by copy-on-write (R163, R164) and the action mailbox (R245 to R247). -/

namespace Sys2Proof.Machine

/-! ## What names an action entry (R227, R246) -/

/-- The first positions of the exact-match entries whose ACTION is `i`. -/
def State.exactNaming (s : State) (i : Nat) : List Nat :=
  s.exm.slots.filterMap (fun x =>
    if x.2.state != .free && x.2.action.toNat == i && (s.ownerAt x.1).all (fun o => x.1 % o.2.w == 0) then some x.1 else none)

/-- The ternary entries whose action index is `i`, as (table, descriptor, place). -/
def State.ternNaming (s : State) (i : Nat) : List (Nat × TernDesc × Place) :=
  s.tern.tables.flatMap (fun x => (s.ternDescs x.1).flatMap (fun d =>
    ((s.places d).filter (fun p => (d.actionBase + p.action) % 2 ^ 20 == i)).map (fun p => (x.1, d, p))))

/-- Some table entry in state LIVE, DYING or VENEER names the action entry. -/
def State.named (s : State) (i : Nat) : Bool := !(s.exactNaming i).isEmpty || !(s.ternNaming i).isEmpty

/-- A write that still waits for its slot names the action entry. -/
def State.waitNames (s : State) (i : Nat) : Bool :=
  s.exm.inserts.any (fun x => x.action == i) ||
    s.glue.moves.any (fun m => !m.finished && (s.ternNow m.table).any (fun d => (d.actionBase + m.entry.action) % 2 ^ 20 == i))

/-- Some LIVE entry names the action entry. -/
def State.liveNamed (s : State) (i : Nat) : Bool :=
  (s.exactNaming i).any (fun p => (s.slot p).state == .live) || (s.ternNaming i).any (fun x => x.2.2.state == .live)

/-- The action entry stands in the copy pool in force. -/
def State.inPool (s : State) (i : Nat) : Bool := decide (s.coh.cowBase ≤ i) && decide (i < s.coh.cowBase + s.coh.cowCount)

/-- A copy-pool entry. -/
def State.cowOf (s : State) (i : Nat) : CowEntry := smGet cow0 s.coh.cow i

/-- Store a copy-pool entry. -/
def State.setCow (s : State) (i : Nat) (c : CowEntry) : State := s.setCoh { s.coh with cow := smSet cow0 s.coh.cow i c }

/-- Ways that a glue-up pins in the directory set of a line. -/
def State.pinsIn (s : State) (g l : Nat) : Nat := ((s.waysOf l).filter (fun x => x.2.pin.toNat == g)).length

/-- A free copy-pool entry whose line can be pinned for glue-up `g` (R164, R237). -/
def State.canCopy (s : State) (g c : Nat) : Bool :=
  let l := c / 2
  let pin := ((s.dirOf l).map (·.2.pin.toNat)).getD 0
  !(s.cowOf c).used && (pin == g ||
    (pin == 0 && decide (s.pinsIn g l < 12) && ((s.dirOf l).isSome || (s.freeWay l).isSome || (s.victimWay l).isSome)))

/-- The copy-pool entry for a copy of glue-up `g`, or the status of the refusal (Table 7.10).
DESIGN CHOICE: log entry 84. -/
def State.takeCopy (s : State) (g : Nat) : Nat ⊕ Nat :=
  match firstFrom s.coh.cowCount 0 (fun i => s.canCopy g (s.coh.cowBase + i)) with
  | some i => .inl (s.coh.cowBase + i)
  | none =>
    match firstFrom s.coh.cowCount 0 (fun i =>
        let c := s.coh.cowBase + i
        !(s.cowOf c).used && !s.setPinned (c / 2)) with
    | some _ => .inr St.glueCapacity
    | none => .inr 0x0250

/-! ## Copy-on-write (R163, R246) -/

/-- Another glue-up than `g` has a pending insert that names the entry. -/
def State.namedByOther (s : State) (g i : Nat) : Option Nat :=
  let tern := (s.ternNaming i).filterMap (fun x =>
    if x.2.2.state == .veneer && x.2.2.tag != 0 then some x.2.2.tag else none)
  let exact := (s.exactNaming i).filterMap (fun p =>
    let x := s.slot p
    if x.state == .veneer && x.tag != 0 then some x.tag.toNat else none)
  let waits := (s.exm.inserts.filter (fun x => x.action == i)).map (·.id)
  let moves := (s.glue.moves.filter (fun m => !m.finished &&
    (s.ternNow m.table).any (fun d => (d.actionBase + m.entry.action) % 2 ^ 20 == i))).map (·.id)
  (tern ++ exact ++ waits ++ moves).find? (· != g)

/-- Writes of glue-up `g` that still wait name the copy in place of the original. -/
def State.renameWaits (s : State) (g i c : Nat) : State :=
  let ins := s.exm.inserts.map (fun x => if x.id = g ∧ x.action = i then { x with action := c } else x)
  let job (m : MakeRoom) : MakeRoom :=
    match s.ternNow m.table with
    | none => m
    | some d =>
      if m.id = g ∧ ¬ m.finished ∧ (d.actionBase + m.entry.action) % 2 ^ 20 = i then
        { m with entry := { m.entry with action := (c + 2 ^ 20 - d.actionBase) % 2 ^ 20 } }
      else m
  { s with exm := { s.exm with inserts := ins }, glue := { s.glue with moves := s.glue.moves.map job } }

/-- Replace one ternary entry that names the original by a version that names the copy. -/
def State.renameTern (s : State) (g c : Nat) (q : Request) (x : Nat × TernDesc × Place) : GlueRes :=
  let (t, d, p) := x
  let a := (c + 2 ^ 20 - d.actionBase) % 2 ^ 20
  if p.state = .veneer then
    .done (s.landSlot d p.part p.slot (s.entryRows d p.row) (mkWord p.index a) false) 0 []
  else
    let e := s.readEntry d (d.rowAt p.part (d.pickReplica (fun r => s.entryOk d (d.rowAt p.part r p.slot))) p.slot)
    s.putEntry t d { e with action := a } g Op.writeEntry q

/-- Replace one exact-match entry that names the original. -/
def State.renameExact (s : State) (g c : Nat) (q : Request) (p : Nat) : GlueRes :=
  match s.ownerAt p with
  | none => .done s 0 []
  | some (t, d) => s.exactPut t d (s.keyAt d.w p) c (s.slot p).learned true g Op.writeEntry q

/-- Go through replacements, each counted in the glue-up; the first that is not done ends the attempt. -/
def renameAll (g : Nat) : List (State → GlueRes) → State → Nat → GlueRes
  | [], s, n => .done s n []
  | f :: fs, s, n =>
    match f s with
    | .done t k _ => renameAll g fs (t.addOps g k) (n + k)
    | .moving t => .moving (t.mailboxOps n)
    | r => r

/-- The entries that still name the original and are this glue-up's to replace. -/
def State.renames (s : State) (g i c : Nat) (q : Request) : List (State → GlueRes) :=
  let tern := (s.ternNaming i).filter (fun x => x.2.2.state == .live && x.2.2.tag != g || x.2.2.state == .veneer && x.2.2.tag == g)
  let exact := (s.exactNaming i).filter (fun p =>
    let x := s.slot p
    x.state == .live && x.tag.toNat != g || x.state == .veneer && x.tag.toNat == g)
  tern.map (fun x s => s.renameTern g c q x) ++ exact.map (fun p s => s.renameExact g c q p)

/-- Bits of COHERE_ACT_RESULT (R247). -/
abbrev resInPlace : Nat := 2 ^ 16
abbrev resCopy : Nat := 2 ^ 17
abbrev resCopyPending : Nat := 2 ^ 18
abbrev resPoison : Nat := 2 ^ 19

/-- The table entries that WRITE_ENTRY claims in glue-up `g`, as (table, index or key) (Table 5.5). -/
def State.renameTargets (s : State) (g i : Nat) : List (Nat × Nat) :=
  let tern := ((s.ternNaming i).filter (fun x => x.2.2.state == .live || x.2.2.tag == g)).map (fun x => (x.1, x.2.2.index))
  let exact := ((s.exactNaming i).filter (fun p => (s.slot p).state == .live || (s.slot p).tag.toNat == g)).filterMap (fun p =>
    (s.ownerAt p).map (fun o => (o.1, s.keyAt o.2.w p)))
  (tern ++ exact).eraseDups

/-- The glue-up other than `g` that claims a target. -/
def State.targetHolder (s : State) (g : Nat) (x : Nat × Nat) : Option Nat :=
  match s.ternNow x.1, s.exNow x.1 with
  | some d, _ => let h := s.indexHolder x.1 x.2 (s.places d); if h = 0 ∨ h = g then none else some h
  | none, some d => s.keyHolder x.1 d x.2 g
  | none, none => none

/-- The claims of a WRITE_ENTRY whose replacements must wait: all of its targets are claimed before any is written (R158). -/
def State.claimAll (s : State) (g : Nat) (q : Request) : List (Nat × Nat) → State
  | [] => s
  | (t, i) :: xs =>
    let m : MakeRoom := {
      id := g, op := Op.writeEntry, q := q, table := t, part := 0, index := i, entry := ⟨0, 0, 0, 0, 0, 0⟩, moves := [], place := 0
      claimed := [], base := 0, done := 0, moving := none, redo := false, waitSince := none, stuck := none, since := s.clk.age, claims := xs
      finished := true }
    { s with glue := { s.glue with moves := s.glue.moves.filter (fun n => !(n.id == g && n.q == q && n.finished)) ++ [m] } }

/-- An internal fault that is reported with INTERNAL_FAULT aborts the glue-up that the command names (Table 5.6). -/
def State.firmwareAbort (s : State) (g : Nat) : State :=
  if (s.glueUp g).opener = .host then (s.abortGlue g 7 0).tellAbort g 7 else s

/-- One attempt of WRITE_ENTRY by copy-on-write in glue-up `g` (R246). It claims the entry and every table entry that names it, and then
writes (R158). It counts as one operation, plus the replacements (Table 5.5); once the glue-up has its copy, as none. The words of `q` are
GLUE in bits [15:8], INDEX and the eight data words. -/
def writeEntryAct (q : Request) (s : State) (g : Nat) : GlueRes :=
  let i := q.f 1 0 20
  let data := (q.words.drop 2).take 8
  let targets := s.renameTargets g i
  match (s.namedByOther g i).or (targets.findSome? (s.targetHolder g)) with
  | some h => .claimed h
  | none =>
    let mine := (s.coh.cow.find? (fun x => x.2.used && x.2.glue == g && x.2.orig == i)).map (·.1)
    match (match mine with | some c => Sum.inl c | none => s.takeCopy g) with
    | .inr st => .refuse st
    | .inl c =>
      if s.agentFailed mailboxAgent then .fail (s.firmwareAbort g) St.internalFault []
      else if s.poisoned (c / 2) then .fail (s.usePoison mailboxAgent (c / 2)) 0x0650 [w32 resPoison]
      else
        let one := b2n mine.isNone
        let s := ((s.setCow c ⟨true, i, g⟩).fwWrite c data g).renameWaits g i c
        match renameAll g (s.renames g i c q) s 0 with
        | .done t n _ => .done t one [w32 resCopy, w32 c, w32 (((t.coh.mailbox.map (·.ops)).getD 0) + n + one)]
        | .moving t =>
          let t := ((t.claimAll g q targets).addOps g one).mailboxOps one
          .moving { t with coh := { t.coh with mailbox := t.coh.mailbox.map (fun m => { m with fresh := m.fresh || mine.isNone }) } }
        | r => r

/-! ## The mailbox (R245 to R247) -/

/-- A final status for a request that reads; the result fields of a write are left as they are. -/
def State.mailboxRead (s : State) (status flags : Nat) : State :=
  let s := (s.noteFault status).wr Reg.cohereActResult (w32 (status + flags))
  s.setCoh { s.coh with mailbox := none }

/-- Put words in the read data registers. -/
def State.putRdata (s : State) (ws : List Word) : State :=
  (List.range ws.length).foldl (fun s n => s.wr (Reg.cohereActRdata n) (wd ws n)) s

/-- READ_ENTRY. -/
def State.readEntryDo (s : State) (m : Mailbox) : State :=
  let l := m.index / 2
  if s.agentFailed mailboxAgent then s.mailboxRead St.internalFault 0 else
  let s := s.passHome mailboxAgent l
  let pend := s.coh.cow.any (fun x => x.2.used && x.2.glue != 0 && x.2.orig == m.index)
  let bad := s.poisoned l
  let s := ((s.cnt Reg.cohereNaReadCount 1).useLine mailboxAgent l).putRdata (s.entryWords m.index)
  s.mailboxRead (if bad then 0x0650 else St.ok) (b2n pend * resCopyPending + b2n bad * resPoison)

/-- READ_COUNTERS and CLEAR_COUNTERS. -/
def State.countersDo (s : State) (m : Mailbox) (op : AtomicOp) : State :=
  let l := m.index
  let stored := s.ctrWords l
  let words (ds : List DWord) : List Word := ds.flatMap (fun d => toWords 2 d.toNat)
  if s.agentFailed mailboxAgent then s.mailboxRead St.internalFault 0 else
  match s.atomicBy mailboxAgent l op with
  | (s, none) => (s.putRdata (words stored)).mailboxRead 0x0650 resPoison
  | (s, some (ws, _)) => (s.putRdata (words ws)).mailboxRead St.ok 0

/-- The request as the glue-up operations take it. -/
def Mailbox.request (m : Mailbox) : Request :=
  { stream := .internal, tag := 0, flags := 0, target := 0, words := w32 (m.glue * 256) :: w32 m.index :: m.data }

/-- The GET_M of a write in place is NACKed because of pins: the mailbox's request waits for its resend (R234, R237, R238). -/
def State.waitPins (s : State) (m : Mailbox) : State :=
  let l := m.index / 2
  let k := m.nacks + 1
  let s := if (s.dirOf l).isNone then s.cnt Reg.cohereDirPinNackCount 1 else s
  let s := s.noteNack mailboxAgent l k
  s.setCoh { s.coh with
    mailbox := some { m with nacks := k, retryAt := s.clk.age + 16 * 2 ^ (min k 4 - 1) }, mailboxHeld := true }

/-- A WRITE_ENTRY in place (R246). -/
def State.writeInPlace (s : State) (m : Mailbox) : State :=
  let l := m.index / 2
  if s.agentFailed mailboxAgent then s.mailboxResult St.internalFault []
  else if s.poisoned l then (s.usePoison mailboxAgent l).mailboxResult 0x0650 [w32 resPoison]
  else if s.pinBlocks l 0 then s.waitPins m
  else
    let s := s.fwWrite m.index m.data 0
    (s.mirrorAs Op.writeEntry m.request m.glue m.request.words).reply Op.writeEntry m.request St.ok [w32 resInPlace, w32 m.index, 0]

/-- WRITE_ENTRY.
DESIGN CHOICE: log entry 85. -/
def State.writeEntryDo (s : State) (m : Mailbox) : State :=
  let q := m.request
  let no (st : Nat) : State := s.mailboxResult st []
  if s.followRefuses then no St.followSide
  else if m.glue ≠ 0 ∧ s.glueOpen? m.glue ≠ 0 then no (s.glueOpen? m.glue)
  else if ¬ s.named m.index then s.writeInPlace m
  else endCmd Op.writeEntry q (s.glueBody Op.writeEntry q true (writeEntryAct q))

/-- INDEX is none that the operation takes (Table 7.10). -/
def State.badActIndex (s : State) (m : Mailbox) : Bool :=
  if m.op < 2 then s.ctrLine (m.index / 2) || (s.inPool m.index && !s.liveNamed m.index) else !s.ctrLine m.index

/-- The firmware executes the request that the mailbox has latched. -/
def State.mailboxRun (s : State) (m : Mailbox) : State :=
  let s := s.setCoh { s.coh with mailbox := some m }
  if 4 ≤ m.op then s.mailboxRead 0x0150 0
  else if s.badActIndex m then s.mailboxRead 0x0151 0
  else match m.op with
    | 0 => s.readEntryDo m
    | 1 => s.writeEntryDo m
    | 2 => s.countersDo m .readLine
    | _ => s.countersDo m .clearLine

/-- The request that the mailbox's registers spell now (R245). The register is stored as it was last written; a reserved bit set in it
makes the request fail like a reserved OP (Table 7.10). -/
def State.latchMailbox (s : State) : Mailbox :=
  { op := if strayBits (s.rd Reg.cohereActCmd) 0xFF07 then 8 else s.rf Reg.cohereActCmd 0 3, glue := s.rf Reg.cohereActCmd 8 8, index := s.rf Reg.cohereActIndex 0 20
    data := (List.range 8).map (fun n => s.rd (Reg.cohereActData n)), ops := 0, fresh := false, nacks := 0, retryAt := 0 }

/-- A request starts: the mailbox latches its registers (R245), and the firmware executes it as soon as it runs. -/
def State.mailboxAccept (s : State) : State :=
  let m := s.latchMailbox
  if s.fwUp then s.mailboxRun m else s.setCoh { s.coh with mailbox := some m, mailboxHeld := true }

/-- A latched request that has waited for the firmware or for its resend is executed, and a remembered one starts once none is running, with the
register values of that cycle (R6). -/
def State.mailboxNextRun (s : State) : State :=
  match s.coh.mailbox with
  | some m => if s.coh.mailboxHeld ∧ s.fwUp ∧ m.retryAt ≤ s.clk.age then (s.setCoh { s.coh with mailboxHeld := false }).mailboxRun m else s
  | none => if s.coh.mailboxNext then (s.setCoh { s.coh with mailboxNext := false }).mailboxAccept else s

/-- COHERE_ACT_CMD is written; GO requests an operation (R245). While a request runs, one further request is remembered (R6).
DESIGN CHOICE: log entry 83. -/
def State.mailboxGo (s : State) (v : Word) : State :=
  let s := s.wr Reg.cohereActCmd (merge 0 v 0x7FFFFFFF)
  if ¬ bit v 31 then s
  else if s.coh.mailbox.isNone ∧ ¬ s.coh.mailboxNext then s.mailboxAccept
  else s.setCoh { s.coh with mailboxNext := true }

/-- COHERE_ACT_CMD written with GO and the OP given. -/
def State.mailboxRow (s : State) (op : Nat) (v : Word) : State :=
  s.mailboxGo (merge v (w32 (2 ^ 31 + op)) 0x80000007)

/-- READ_ENTRY. -/
def execReadEntry (v : Word) (s : State) : Host.Outcome State Fault Refusal := finish s (whileUp s (·.mailboxRow 0 v))

/-- WRITE_ENTRY. -/
def execWriteEntry (v : Word) (s : State) : Host.Outcome State Fault Refusal := finish s (whileUp s (·.mailboxRow 1 v))

/-- READ_COUNTERS. -/
def execReadCounters (v : Word) (s : State) : Host.Outcome State Fault Refusal := finish s (whileUp s (·.mailboxRow 2 v))

/-- CLEAR_COUNTERS. -/
def execClearCounters (v : Word) (s : State) : Host.Outcome State Fault Refusal := finish s (whileUp s (·.mailboxRow 3 v))

/-- Copies of glue-ups that clamp stay; those of glue-ups that abort are freed, and so is every copy that nothing names any
more (R163, R164). -/
def State.settleCopies (s : State) (clamp abort : List Nat) : State :=
  let s := s.setCoh { s.coh with cow := smMap cow0 (fun _ c =>
    if abort.contains c.glue then cow0 else if clamp.contains c.glue then { c with glue := 0 } else c) s.coh.cow }
  s.setCoh { s.coh with cow := s.coh.cow.filter (fun x => x.2.glue != 0 || s.named x.1 || s.waitNames x.1) }

end Sys2Proof.Machine
end

