-- ==== Sys2Proof/Machine/Crypto.lean ====
section
/-! DEFINITION. The ciphers that the spec names by their standards (R369, R373, R377, R394): AES (FIPS 197), AES-CMAC
(NIST SP 800-38B), AES Key Wrap (RFC 3394) and GCM (NIST SP 800-38D). Blocks are lists of 16 numbers below 256. PRESUMED:
the standards' own text is not part of the spec. -/

namespace Sys2Proof.Machine

/-! ## AES -/

/-- The S-box of FIPS 197, entry `i` in bits [8i + 7 : 8i]. -/
def sbox : Nat :=
  0xC072A49CAFA2D4ADF04759FA7DC982CA76ABD7FE2B670130C56F6BF27B777C63 * 2 ^ 0 +
  0x75B227EBE28012079A059618C323C7041531D871F1E5A534CCF73F362693FDB7 * 2 ^ 256 +
  0xCF584C4A39BECB6A5BB1FC20ED00D153842FE329B3D63B52A05A6E1B1A2C8309 * 2 ^ 512 +
  0xD2F3FF1021DAB6BCF5389D928F40A351A89F3C507F02F94585334D43FBAAEFD0 * 2 ^ 768 +
  0xDB0B5EDE14B8EE4688902A22DC4F816073195D643D7EA7C41744975FEC130CCD * 2 ^ 1024 +
  0x08AE7A65EAF4566CA94ED58D6D37C8E779E4959162ACD3C25C2406490A3A32E0 * 2 ^ 1280 +
  0x9E1DC186B95735610EF6034866B53E708A8BBD4B1F74DDE8C6B4A61C2E2578BA * 2 ^ 1536 +
  0x16BB54B00F2D99416842E6BF0D89A18CDF2855CEE9871E9B948ED9691198F8E1 * 2 ^ 1792

/-- The inverse S-box. -/
def sboxInv : Nat :=
  0xCBE9DEC444438E3487FF2F9B8239E37CFBD7F3819EA340BF38A53630D56A0952 * 2 ^ 0 +
  0x25D18B6D49A25B76B224D92866A12E084EC3FA420B954CEE3D23C2A632947B54 * 2 ^ 256 +
  0x849D8DA75746155EDAB9EDFD5048706C92B6655DCC5CA4D41698688664F6F872 * 2 ^ 512 +
  0x6B8A130103BDAFC1020F3FCA8F1E2CD00645B3B80558E4F70AD3BC8C00ABD890 * 2 ^ 768 +
  0x6EDF751CE837F9E28535ADE72274AC9673E6B4F0CECFF297EADC674F4111913A * 2 ^ 1024 +
  0xF45ACD78FEC0DB9A2079D2C64B3E56FC1BBE18AA0E62B76F89C5291D711AF147 * 2 ^ 1280 +
  0xEF9CC9939F7AE52D0D4AB519A97F51605FEC8027591012B131C7078833A8DD1F * 2 ^ 1536 +
  0x7D0C2155631469E126D677BA7E042B17619953833CBBEBC8B0F52AAE4D3BE0A0 * 2 ^ 1792

/-- An entry of a byte table. -/
def tabByte (t b : Nat) : Nat := nfld t (8 * b) 8

/-- Multiplication by x in the field of AES. -/
def xtime (b : Nat) : Nat := if b < 128 then 2 * b else (2 * b) ^^^ 0x11B

/-- Multiplication in the field of AES by a constant below 16. -/
def aesMul (k b : Nat) : Nat :=
  let b2 := xtime b
  let b4 := xtime b2
  let b8 := xtime b4
  (if k % 2 = 1 then b else 0) ^^^ (if k / 2 % 2 = 1 then b2 else 0) ^^^ (if k / 4 % 2 = 1 then b4 else 0) ^^^
    (if k / 8 % 2 = 1 then b8 else 0)

/-- Exclusive or of two lists of bytes. -/
def xorBytes (a b : List Nat) : List Nat := List.zipWith (· ^^^ ·) a b

/-- The next words of the key schedule, oldest last: `n` more words, word number `i` first. -/
def keyWords (nk : Nat) : Nat → Nat → Nat → List (List Nat) → List (List Nat)
  | 0, _, _, ws => ws
  | n + 1, i, rc, ws =>
    let prev := ws.headD []
    let back := ws.getD (nk - 1) []
    let t := if i % nk = 0 then
        let r := (prev.drop 1 ++ prev.take 1).map (tabByte sbox)
        xorBytes r [rc, 0, 0, 0]
      else if 6 < nk ∧ i % nk = 4 then prev.map (tabByte sbox) else prev
    keyWords nk n (i + 1) (if i % nk = 0 then xtime rc else rc) (xorBytes back t :: ws)

/-- A list in groups of `k`, `n` groups. -/
def chunks (k : Nat) : Nat → List Nat → List (List Nat)
  | 0, _ => []
  | n + 1, bs => bs.take k :: chunks k n (bs.drop k)

/-- The round keys of a 128-bit or 256-bit key, 11 or 15 of them. -/
def roundKeys (key : List Nat) : List (List Nat) :=
  let nk := key.length / 4
  let rounds := nk + 7
  let ws := (keyWords nk (4 * rounds - nk) nk 1 (chunks 4 nk key).reverse).reverse
  chunks 16 rounds ws.flatten

/-- The byte of a block in row r and column c. -/
def blockAt (b : List Nat) (r c : Nat) : Nat := b.getD (4 * (c % 4) + r) 0

/-- A block from its bytes by row and column. -/
def mkBlock (f : Nat → Nat → Nat) : List Nat := (List.range 16).map (fun i => f (i % 4) (i / 4))

/-- ShiftRows. -/
def shiftRows (b : List Nat) : List Nat := mkBlock (fun r c => blockAt b r (c + r))

/-- The inverse of ShiftRows. -/
def shiftRowsInv (b : List Nat) : List Nat := mkBlock (fun r c => blockAt b r (c + 4 - r))

/-- MixColumns with the coefficients given. -/
def mixColumns (k0 k1 k2 k3 : Nat) (b : List Nat) : List Nat :=
  mkBlock (fun r c => aesMul k0 (blockAt b r c) ^^^ aesMul k1 (blockAt b ((r + 1) % 4) c) ^^^
    aesMul k2 (blockAt b ((r + 2) % 4) c) ^^^ aesMul k3 (blockAt b ((r + 3) % 4) c))

/-- AES encryption of a block under the round keys given. -/
def aesRounds : List Nat → List (List Nat) → List Nat
  | b, [] => b
  | b, [k] => xorBytes (shiftRows (b.map (tabByte sbox))) k
  | b, k :: ks => aesRounds (xorBytes (mixColumns 2 3 1 1 (shiftRows (b.map (tabByte sbox)))) k) ks

/-- AES encryption of one block.
PRESUMED: log entry 139. -/
def aesEnc (key block : List Nat) : List Nat :=
  match roundKeys key with
  | [] => block
  | k :: ks => aesRounds (xorBytes block k) ks

/-- AES decryption of a block under the round keys given, last first. -/
def aesRoundsInv : List Nat → List (List Nat) → List Nat
  | b, [] => b
  | b, [k] => xorBytes ((shiftRowsInv b).map (tabByte sboxInv)) k
  | b, k :: ks => aesRoundsInv (mixColumns 14 11 13 9 (xorBytes ((shiftRowsInv b).map (tabByte sboxInv)) k)) ks

/-- AES decryption of one block. -/
def aesDec (key block : List Nat) : List Nat :=
  match (roundKeys key).reverse with
  | [] => block
  | k :: ks => aesRoundsInv (xorBytes block k) ks

/-! ## AES-CMAC -/

/-- `k` bytes of a number, the most significant first. -/
def natBytes (k n : Nat) : List Nat := (List.range k).map (fun i => nfld n (8 * (k - 1 - i)) 8)

/-- The number that bytes spell, the most significant first. -/
def bytesNat (bs : List Nat) : Nat := bs.foldl (fun n b => n * 256 + b) 0

/-- Doubling of a CMAC subkey. -/
def cmacDouble (b : List Nat) : List Nat :=
  let n := bytesNat b
  natBytes 16 ((if 2 ^ 127 ≤ n then (2 * n) ^^^ 0x87 else 2 * n) % 2 ^ 128)

/-- The CMAC chain over `n` whole blocks and then the last one, already masked. -/
def cmacChain (key : List Nat) (last : List Nat) : Nat → List Nat → List Nat → List Nat
  | 0, _, c => aesEnc key (xorBytes c last)
  | n + 1, m, c => cmacChain key last n (m.drop 16) (aesEnc key (xorBytes c (m.take 16)))

/-- The AES-CMAC of a message. -/
def cmac (key m : List Nat) : List Nat :=
  let k1 := cmacDouble (aesEnc key (List.replicate 16 0))
  let k2 := cmacDouble k1
  let n := (m.length + 15) / 16 - 1
  let tail := m.drop (16 * n)
  let last := if tail.length = 16 then xorBytes tail k1
    else xorBytes (tail ++ 0x80 :: List.replicate (15 - tail.length) 0) k2
  cmacChain key last n m (List.replicate 16 0)

/-! ## AES Key Wrap -/

/-- One step of the unwrapping: round `t` over the last register. -/
def unwrapSteps (kek : List Nat) (n : Nat) : Nat → List Nat → List (List Nat) → List Nat × List (List Nat)
  | 0, a, rs => (a, rs)
  | t + 1, a, rs =>
    let i := t % n
    let b := aesDec kek (natBytes 8 (bytesNat a ^^^ (t + 1)) ++ rs.getD i [])
    unwrapSteps kek n t (b.take 8) (setAt rs i (b.drop 8))

/-- The key that was wrapped; none when the integrity check fails. -/
def keyUnwrap (kek wrapped : List Nat) : Option (List Nat) :=
  let n := wrapped.length / 8 - 1
  let (a, rs) := unwrapSteps kek n (6 * n) (wrapped.take 8) (chunks 8 n (wrapped.drop 8))
  if a = List.replicate 8 0xA6 then some rs.flatten else none

/-! ## GCM -/

/-- The product of two elements of the field of GCM, bit 127 of a number being the element's first bit. -/
def gcmMul (h : Nat) : Nat → Nat → Nat → Nat → Nat
  | 0, _, _, z => z
  | n + 1, x, v, z =>
    gcmMul h n x (if v % 2 = 1 then (v / 2) ^^^ (0xE1 * 2 ^ 120) else v / 2) (if nfld x n 1 = 1 then z ^^^ v else z)

/-- GHASH over bytes padded to whole blocks, `n` of them. -/
def ghash (h : Nat) : Nat → List Nat → Nat → Nat
  | 0, _, y => y
  | n + 1, m, y =>
    let b := m.take 16
    ghash h n (m.drop 16) (gcmMul h 128 (y ^^^ bytesNat (b ++ List.replicate (16 - b.length) 0)) h 0)

/-- Counter mode: `n` blocks from counter `c` on. -/
def gctr (key iv : List Nat) : Nat → Nat → List Nat → List Nat
  | 0, _, _ => []
  | n + 1, c, m => xorBytes (m.take 16) (aesEnc key (iv ++ natBytes 4 c)) ++ gctr key iv n (c + 1) (m.drop 16)

/-- Encryption or decryption of the data of GCM under a 96-bit IV. -/
def gcmCrypt (key iv m : List Nat) : List Nat := gctr key iv ((m.length + 15) / 16) 2 m

/-- The 16-byte tag of GCM over associated data and ciphertext. -/
def gcmTag (key iv aad ct : List Nat) : List Nat :=
  let h := bytesNat (aesEnc key (List.replicate 16 0))
  let y := ghash h ((aad.length + 15) / 16) aad 0
  let y := ghash h ((ct.length + 15) / 16) ct y
  let y := gcmMul h 128 (y ^^^ (aad.length * 8 * 2 ^ 64 + ct.length * 8)) h 0
  xorBytes (natBytes 16 y) (aesEnc key (iv ++ [0, 0, 0, 1]))

end Sys2Proof.Machine
end

