-- ==== Sys2Proof/Machine/SecFrame.lean ====
section
/-! DEFINITION. Protection and verification of frames (R370 to R379): MACsec on Ethernet ports and channel tags on slow
channels. The layout of the SecTAG and the IVs are those of IEEE 802.1AE-2018, which R373 names. PRESUMED: its text is not
part of the spec. -/

namespace Sys2Proof.Machine

/-- Session `n`; none when it is free. -/
def State.session (s : State) (n : Nat) : Option Session := smGet none s.sec.sessions n

/-- Store a session. -/
def State.setSession (s : State) (n : Nat) (x : Option Session) : State :=
  { s with sec := { s.sec with sessions := smSet none s.sec.sessions n x } }

/-- The security settings of a port or channel, in INGRESS encoding (R389). -/
def State.secCfg (s : State) (i : Nat) : SecCfg := smGet secCfg0 s.sec.cfg i

/-- The lowest session that satisfies `p`. -/
def State.findSession (s : State) (p : Session → Bool) : Option (Nat × Session) :=
  s.sec.sessions.findSome? (fun x => x.2.bind (fun y => if p y then some (x.1, y) else none))

/-- EN of security settings. -/
def SecCfg.en (c : SecCfg) : Bool := bit c.w0 16
/-- The cipher suite is an XPN suite. -/
def SecCfg.xpn (c : SecCfg) : Bool := decide (2 ≤ fld c.w0 17 2)
/-- CONF. -/
def SecCfg.conf (c : SecCfg) : Bool := bit c.w0 19
/-- Bytes of user data that stay in clear under confidentiality. -/
def SecCfg.clear (c : SecCfg) : Nat := if bit c.w0 20 then 30 else 0
/-- PROTECT.
DEDUCED: log entry 141. -/
def SecCfg.protect (c : SecCfg) : Nat := fld c.w0 21 2
/-- VALIDATE. -/
def SecCfg.validate (c : SecCfg) : Nat := fld c.w0 23 2
/-- REPLAY_EN. -/
def SecCfg.replayEn (c : SecCfg) : Bool := bit c.w0 25
/-- TX_AN. -/
def SecCfg.txAn (c : SecCfg) : Nat := fld c.w0 26 2
/-- CT_RX. -/
def SecCfg.ctRx (c : SecCfg) : Nat := fld c.w0 17 2

/-- Bytes as numbers. -/
def nats (bs : List Byte) : List Nat := bs.map (·.toNat)

/-- Numbers as bytes. -/
def bytes (ns : List Nat) : List Byte := ns.map (BitVec.ofNat 8)

/-! ## MACsec (R373 to R376) -/

/-- The IV of a frame with packet number `pn`. -/
def Session.iv (x : Session) (xpn : Bool) (sci pn : Nat) : List Nat :=
  if xpn then xorBytes (natBytes 12 x.salt.toNat) (natBytes 4 x.ssci.toNat ++ natBytes 8 pn)
  else natBytes 8 sci ++ natBytes 4 pn

/-- What of a frame is authenticated only, and what is encrypted, from its addresses, its SecTAG and its data. -/
def secSplit (conf : Bool) (clear : Nat) (head data : List Nat) : List Nat × List Nat :=
  if conf then (head ++ data.take clear, data.drop clear) else (head ++ data, [])

/-- The fields of a SecTAG at byte 12 of a frame, and where the data begins. -/
structure SecTag where
  bad : Bool
  enc : Bool
  an : Nat
  sci : Nat
  pn : Nat
  data : Nat
deriving DecidableEq, Repr

/-- Read a SecTAG.
PRESUMED: log entry 140. -/
def secTag (f : List Nat) : SecTag :=
  let tci := f.getD 14 0
  let b (i : Nat) : Bool := nfld tci i 1 == 1
  let sc := b 5
  { bad := b 7 || b 4 || (b 6 && sc) || decide (48 ≤ f.getD 15 0)
    enc := b 3
    an := tci % 4
    sci := if sc then bytesNat ((f.drop 20).take 8) else if b 6 then bytesNat ((f.drop 6).take 6) * 2 ^ 16 + 1 else 0
    pn := bytesNat ((f.drop 16).take 4)
    data := if sc then 28 else 20 }

/-- The packet number of an XPN frame from its low 32 bits and the next one expected. -/
def xpnOf (next low : Nat) : Nat :=
  let high := next / 2 ^ 32
  (if 2 ^ 31 ≤ next % 2 ^ 32 ∧ low < 2 ^ 31 then high + 1 else high) * 2 ^ 32 + low

/-- Count a good frame, a failure or a replay of a session. -/
def State.noteSession (s : State) (n : Nat) (good failures replays : Nat) : State :=
  s.setSession n ((s.session n).map (fun x =>
    { x with good := sat32 (x.good + good), failures := sat32 (x.failures + failures), replays := sat32 (x.replays + replays) }))

/-- The frame without its SecTAG and ICV, decrypted. -/
def secPlain (x : Session) (c : SecCfg) (t : SecTag) (f : List Nat) (pn : Nat) : List Nat :=
  let data := (f.drop t.data).take (f.length - t.data - 16)
  let (_, ct) := secSplit t.enc c.clear [] data
  f.take 12 ++ (if t.enc then data.take c.clear ++ gcmCrypt (nats x.key) (x.iv c.xpn t.sci pn) ct else data)

/-- The ICV of a received frame fits. -/
def secIcvOk (x : Session) (c : SecCfg) (t : SecTag) (f : List Nat) (pn : Nat) : Bool :=
  let data := (f.drop t.data).take (f.length - t.data - 16)
  let (aad, ct) := secSplit t.enc c.clear (f.take t.data) data
  decide (t.data + 16 ≤ f.length) && gcmTag (nats x.key) (x.iv c.xpn t.sci pn) aad ct == f.drop (f.length - 16)

/-- Verify a frame received on port En (R375): the frame as parsed, and whether verification has passed, which it has where MACsec is
not configured; none when the frame is dropped with reason MACSEC. -/
def State.macsecRx (s : State) (n : Nat) (frame : List Byte) : State × Option (List Byte × Bool) :=
  let c := s.secCfg n
  let f := nats frame
  let strict := c.validate == 2
  let keep (s : State) (b : List Byte) : State × Option (List Byte × Bool) := (s, if strict then none else some (b, false))
  if ¬ c.en then (s, some (frame, true))
  else if bytesNat ((f.drop 12).take 2) ≠ 0x88E5 then keep (if strict then s.cnt Reg.secRxUntaggedCount 1 else s) frame
  else if c.validate = 0 then (s, some (frame, false))
  else
    let t := secTag f
    if t.bad then keep (s.cnt Reg.secRxIcvFailCount 1) frame
    else match s.findSession (fun x => x.kind == 1 && x.port == n && x.an == t.an && x.sci.toNat == t.sci && !x.unusable) with
      | none => keep (s.cnt Reg.secRxNoSaCount 1) frame
      | some (k, x) =>
        let pn := if c.xpn then xpnOf x.pn t.pn else t.pn
        let plain := bytes (secPlain x c t f pn)
        if c.replayEn ∧ pn < x.low then keep ((s.cnt Reg.secRxReplayCount 1).noteSession k 0 0 1) plain
        else if t.pn = 0 ∧ ¬ c.xpn ∨ ¬ secIcvOk x c t f pn then keep ((s.cnt Reg.secRxIcvFailCount 1).noteSession k 0 1 0) plain
        else
          let next := max x.pn (pn + 1)
          let s := s.setSession k (some { x with pn := next, low := max x.low (next - c.window.toNat) })
          (s.noteSession k 1 0 0, some (plain, true))

/-- A transmit session has used a number: the next one, with the threshold and the last one noted (R376, R379). `reach` is the
number whose reaching enters the threshold, `last` the last one there is. -/
def State.useNumber (s : State) (k : Nat) (x : Session) (next threshold : Nat) (done : Bool) : State :=
  let pass := decide (threshold ≤ next) && !x.threshold
  let s := s.setSession k (some { x with
    pn := next, good := sat32 (x.good + 1), threshold := x.threshold || pass, exhausted := x.exhausted || done })
  let s := if pass then s.event 0x12 0x01 0 (w32 k) (w32 x.kind) else s
  if done then s.event 0x12 0x02 0 (w32 k) (w32 x.kind) else s

/-- A copy is cut off for lack of a usable session.
DEDUCED: log entry 142. -/
def State.txMismatch (s : State) (exhausted : Bool) : State :=
  let s := s.cnt Reg.secTxMismatchCount 1
  if exhausted then s.cnt Reg.secTxExhaustedCount 1 else s

/-- The session that protects a copy leaving En (R374): none where it leaves in clear, otherwise the session, or none when no
usable one is found. `decision` is the SESSION field of the frame. -/
def State.txSession (s : State) (n decision : Nat) : Option (Option (Nat × Session)) :=
  let c := s.secCfg n
  if ¬ c.en then none
  else match c.protect with
    | 1 => some (s.findSession (fun x => x.kind == 0 && x.port == n && x.an == c.txAn))
    | 2 =>
      if nfld decision 12 1 = 0 then none
      else match s.session (decision % 4096) with
        | none => some none
        | some x => if x.kind ≠ 0 then none else if x.port = n then some (some (decision % 4096, x)) else some none
    | _ => none

/-- Protect a copy that starts transmission on En (R374, R376): what goes on the wire, or none when the copy is cut off. -/
def State.macsecTx (s : State) (n decision : Nat) (frame : List Byte) : State × Option (List Byte) :=
  match s.txSession n decision with
  | none => (s, some frame)
  | some none => (s.txMismatch false, none)
  | some (some (k, x)) =>
    if x.unusable then (s.txMismatch false, none)
    else if x.exhausted then (s.txMismatch true, none)
    else
      let c := s.secCfg n
      let f := nats frame
      let data := f.drop 12
      let tci := 0x20 + (if c.conf then 0x0C else 0) + x.an
      let sl := if data.length < 48 then data.length else 0
      let head := f.take 12 ++ [0x88, 0xE5, tci, sl] ++ natBytes 4 (x.pn % 2 ^ 32) ++ natBytes 8 c.sci.toNat
      let iv := x.iv c.xpn c.sci.toNat x.pn
      let (aad, pt) := secSplit c.conf c.clear head data
      let ct := gcmCrypt (nats x.key) iv pt
      let out := head ++ (if c.conf then data.take c.clear ++ ct else data) ++ gcmTag (nats x.key) iv aad ct
      let top := if c.xpn then 2 ^ 64 else 2 ^ 32
      (s.useNumber k x (x.pn + 1) (3 * (top / 4)) (x.pn + 1 == top), some (bytes out))

/-! ## Channel tags (R377 to R379) -/

/-- Bytes of a tag (R377). -/
def tagBytes (tagLen : Nat) : Nat := 4 + 2 * tagLen

/-- The tag over the data before a trailer. -/
def chanTag (x : Session) (chanId : Nat) (data : List Nat) (fresh : Nat) : List Nat :=
  (cmac (nats x.key) (natBytes 4 chanId ++ natBytes 2 data.length ++ data ++ natBytes 4 fresh)).take (tagBytes x.tagLen)

/-- Verify the data of a frame received on slow channel `n` (R378): the data to store, or none when it is dropped. -/
def State.chanRx (s : State) (n chanId : Nat) (data : List Byte) : State × Option (List Byte) :=
  let c := s.secCfg (64 + n)
  if ¬ c.en ∨ c.ctRx = 0 then (s, some data)
  else match s.findSession (fun x => x.kind == 3 && x.port == 64 + n && x.chanId.toNat == chanId && !x.unusable) with
    | none => if c.ctRx = 2 then (s.cnt Reg.secRxUntaggedCount 1, none) else (s, some data)
    | some (k, x) =>
      let d := nats data
      let len := d.length - 4 - tagBytes x.tagLen
      let body := d.take len
      let fresh := bytesNat ((d.drop len).take 4)
      if d.length < 4 + tagBytes x.tagLen ∨ chanTag x chanId body fresh ≠ d.drop (len + 4) then
        ((s.cnt Reg.secRxIcvFailCount 1).noteSession k 0 1 0, none)
      else if fresh ≤ x.pn ∨ (x.window ≠ 0 ∧ x.window.toNat < fresh - x.pn) then
        ((s.cnt Reg.secRxReplayCount 1).noteSession k 0 0 1, none)
      else ((s.setSession k (some { x with pn := fresh })).noteSession k 1 0 0, some (data.take len))

/-- The session that tags a copy leaving a slow channel (R379). -/
def State.chanSession (s : State) (n decision : Nat) : Option (Nat × Session) :=
  if nfld decision 12 1 = 1 then
    (s.session (decision % 4096)).bind (fun x => if x.kind = 2 ∧ x.port = 64 + n then some (decision % 4096, x) else none)
  else s.findSession (fun x => x.kind == 2 && x.port == 64 + n && x.dflt)

/-- Tag the data of a copy that starts transmission on slow channel `n` (R379). `fit` gives the next valid length of the
frame's format. None when the copy is cut off.
DESIGN CHOICE: log entry 143. -/
def State.chanTx (s : State) (n decision chanId : Nat) (fit : Nat → Option Nat) (data : List Byte) :
    State × Option (List Byte) :=
  if ¬ (s.secCfg (64 + n)).en then (s, some data)
  else match s.chanSession n decision with
    | none => (s, some data)
    | some (k, x) =>
      let trailer := 4 + tagBytes x.tagLen
      match (if x.unusable then none else fit (data.length + trailer)) with
      | none => (s.txMismatch false, none)
      | some total =>
        if x.exhausted ∨ 2 ^ 32 ≤ x.pn + 1 then (s.txMismatch true, none)
        else
          let fresh := x.pn + 1
          let body := nats data ++ List.replicate (total - trailer - data.length) 0
          let out := body ++ natBytes 4 fresh ++ chanTag x chanId body fresh
          (s.useNumber k x fresh (3 * 2 ^ 30) (fresh == 2 ^ 32 - 1), some (bytes out))

end Sys2Proof.Machine
end

