-- ==== Sys2Proof/Machine/Gates.lean ====
section
/-! DEFINITION. Period generators (R336, R337), slot tables and gates (R345 to R347), and how long a copy takes on the wire. -/

namespace Sys2Proof.Machine

/-! ## Period generators -/

/-- A period generator. Generator 0 gives the epoch boundaries. -/
def State.gen (s : State) (g : Nat) : Gen :=
  if g = 0 then { p := 125 * s.quantum, phi := 0, owners := 8, lastTick := s.glue.lastBoundary }
  else smGet gen0 s.time.gens g

/-- Store a period generator. -/
def State.setGen (s : State) (g : Nat) (x : Gen) : State :=
  { s with time := { s.time with gens := smSet gen0 s.time.gens g x } }

/-- Its period in ns. -/
def Gen.period (g : Gen) : Nat := 8 * g.p

/-- The first instant of its rule at or after `t`: a multiple of the period past the phase. -/
def Gen.from_ (g : Gen) (t : Int) : Int :=
  if g.period = 0 then t
  else
    let ph : Int := 8 * g.phi
    ph - (ph - t) / g.period * g.period

/-- Its next tick: at least one period after the last. -/
def Gen.next (g : Gen) : Int := g.from_ (g.lastTick + g.period)

/-- The generator is held by the owner kind of bit `k`: 0 MAPPER, 1 GATE, 2 TIMER. -/
def State.genHas (s : State) (g k : Nat) : Bool := 0 < g && decide (g < 64) && nfld (s.gen g).owners k 1 == 1

/-! ## Slot tables -/

/-- The slot table of a port or channel, in INGRESS encoding. -/
def State.slotTable (s : State) (i : Nat) : SlotTable := smGet slotTable0 s.time.tables i

/-- Store a slot table. -/
def State.setSlotTable (s : State) (i : Nat) (t : SlotTable) : State :=
  { s with time := { s.time with tables := smSet slotTable0 s.time.tables i t } }

/-- The active copy. -/
def SlotTable.active (t : SlotTable) : SlotCopy := if t.activeB then t.copyB else t.copyA

/-- The standby copy. -/
def SlotTable.standby (t : SlotTable) : SlotCopy := if t.activeB then t.copyA else t.copyB

/-- The table with another active copy. -/
def SlotTable.setActive (t : SlotTable) (c : SlotCopy) : SlotTable :=
  if t.activeB then { t with copyB := c } else { t with copyA := c }

/-- The table with another standby copy. -/
def SlotTable.setStandby (t : SlotTable) (c : SlotCopy) : SlotTable :=
  if t.activeB then { t with copyA := c } else { t with copyB := c }

/-- An entry of a copy. -/
def SlotCopy.entry (c : SlotCopy) (i : Nat) : Word := smGet slotEntry0 c.entries i

/-- Where an entry starts, in ns after the start of the cycle (R346). -/
def SlotCopy.startOf (c : SlotCopy) (i : Nat) : Nat :=
  8 * (List.range i).foldl (fun n k => n + fld (c.entry k) 8 24) 0

/-- The tick of a generator that came last, now or before. -/
def Gen.tickAt (g : Gen) (now : Int) : Int :=
  if g.period = 0 ∨ now < g.next then g.lastTick else g.next + (now - g.next) / g.period * g.period

/-- The first tick of a generator at or after `t` that has not passed before its last. -/
def Gen.tickFrom (g : Gen) (t : Int) : Int := if t ≤ g.lastTick then g.lastTick else g.from_ (max g.next t)

/-- The active copy of a slot table runs in cycles: its generator ticks (R346). -/
def State.cycling (s : State) (x : SlotTable) : Bool := x.active.gen != 0 && (s.gen x.active.gen).p != 0

/-- A slot table as a committed swap that is due by now leaves it: switched at the first cycle start of the old active copy in or after
cycle 5 of its advance, with GEN 0 at cycle 5 itself (R348). -/
def State.swapDue (s : State) (x : SlotTable) : SlotTable :=
  let t := if x.active.gen = 0 then x.swapFrom else (s.gen x.active.gen).tickFrom (max (x.cycleNs + 1) x.swapFrom)
  if x.swapPend ∧ (x.active.gen = 0 ∨ s.cycling x) ∧ t ≤ s.dtNs then
    { x with activeB := !x.activeB, entry := 0, cycleNs := t, swapPend := false, copyBack := true }
  else x

/-- The slot table of a port or channel as it runs at this instant (R346, R348), whether or not the rows of its cycles and entries have
been given. -/
def State.slotAt (s : State) (i : Nat) : SlotTable :=
  let now : Int := s.dtNs
  let x := s.swapDue (s.slotTable i)
  if ¬ s.cycling x then x
  else
    let x := { x with cycleNs := max x.cycleNs ((s.gen x.active.gen).tickAt now) }
    let begun := (List.range x.active.length).filter (fun k => decide (x.cycleNs + x.active.startOf k ≤ now))
    { x with entry := begun.getLastD 0 }

/-- When the open span of a queue's gate ends, walking entry by entry from entry `i` of the cycle that began at `cyc` and ends at
`nextCyc`; none when it stays open for a whole cycle more. `at_` is where entry `i` starts. -/
def closeWalk (c : SlotCopy) (q period : Nat) (swap : Bool) : Nat → Nat → Int → Int → Int → Option Int
  | 0, _, _, _, _ => none
  | n + 1, i, cyc, nextCyc, at_ =>
    if ¬ bit (c.entry i) q then some at_
    else
      let e := cyc + c.startOf (i + 1)
      if i + 1 < c.length ∧ e < nextCyc then closeWalk c q period swap n (i + 1) cyc nextCyc e
      else if swap then some nextCyc
      else closeWalk c q period swap n 0 nextCyc (nextCyc + period) nextCyc

/-- When the gate of queue `q` closes (R347): none when it does not. A gate that is closed has closed already. -/
def State.gateCloses (s : State) (i q : Nat) : Option Int :=
  let t := s.slotAt i
  let c := t.active
  let now : Int := s.dtNs
  if ¬ s.cycling t then (if bit (c.entry t.entry) q then none else some now)
  else
    let g := s.gen c.gen
    if ¬ bit (c.entry t.entry) q then some now
    else closeWalk c q g.period t.swapPend (2 * c.length + 2) t.entry t.cycleNs (g.from_ (t.cycleNs + 1)) t.cycleNs

/-- The gate of a queue is open for a copy that takes `ns` on the wire (R347). -/
def State.gateOpen (s : State) (i q ns : Nat) : Bool :=
  match s.gateCloses i q with
  | none => true
  | some t => decide ((s.dtNs : Int) + ns ≤ t)

/-! ## Wire time (R16, R347) -/

/-- Bit rate of an Ethernet port. -/
def EthPort.rate (p : EthPort) : Nat :=
  match p.mode with
  | 1 => 25000000000
  | 2 => 25000000000
  | 3 => 10000000000
  | 4 => 1000000000
  | 5 => 1000000000
  | 6 => p.mbps * 1000000
  | _ => 0

/-- Time of `bits` at `rate`, in ns, rounded up. -/
def bitNs (bits rate : Nat) : Nat := if rate = 0 then 0 else ceilDiv (bits * 1000000000) rate

/-- CHAN_ID of a stored image (Table 10.2). -/
def imageId (b : List Byte) : Nat := ofBytesBE (b.take 4)
/-- DLEN of a stored image. -/
def imageLen (b : List Byte) : Nat := ofBytesBE ((b.drop 4).take 2)
/-- BRS of a stored image. -/
def imageBrs (b : List Byte) : Bool := (b.getD 6 0).getLsbD 7
/-- Data of a stored image. -/
def imageData (b : List Byte) : List Byte := (b.drop 16).take (imageLen b)

/-- The kind of frame that a CHAN_ID names (Table 10.3): 0 classic, 1 FD, 2 XL, 3 HDLC, 4 UART. -/
def frameKind (chanId : Nat) : Nat :=
  let k := nfld chanId 30 2
  if k < 3 then k else if nfld chanId 29 1 = 1 then 4 else 3

/-- A valid length of the data field for a kind of frame (R323, R329). -/
def lenValid (kind n : Nat) : Bool :=
  match kind with
  | 0 => decide (n ≤ 8)
  | 1 => decide (n ≤ 8) || [12, 16, 20, 24, 32, 48, 64].contains n
  | 2 => decide (1 ≤ n) && decide (n ≤ 2048)
  | 3 => decide (n ≤ 2048)
  | _ => decide (1 ≤ n) && decide (n ≤ 256)

/-- The next valid length at or above `n`. -/
def lenFit (kind n : Nat) : Option Nat :=
  if lenValid kind n then some n else if kind = 1 then [12, 16, 20, 24, 32, 48, 64].find? (fun k => decide (n ≤ k)) else none

/-- An image of a kind of frame fits a channel's mode (R329). -/
def kindFits (mode kind : Nat) : Bool :=
  match mode with
  | 1 => decide (kind ≤ 1)
  | 2 => decide (kind ≤ 2)
  | 3 => kind == 3
  | 4 => kind == 4
  | _ => false

/-- A stored image fits a channel (R329). -/
def SlowCh.fits (c : SlowCh) (b : List Byte) : Bool :=
  kindFits c.mode (frameKind (imageId b)) && lenValid (frameKind (imageId b)) (imageLen b) &&
    decide (16 + imageLen b ≤ b.length) && (!imageBrs b || c.dataRate != 0)

/-- Bits of a UART character.
DEDUCED: log entry 133. -/
def SlowCh.charBits (c : SlowCh) : Nat := 10 + b2n (fld c.w0 17 2 != 0) + b2n (bit c.w0 19)

/-- Time of an image on a channel, in ns (R347).
DESIGN CHOICE: log entry 136. -/
def SlowCh.wireNs (c : SlowCh) (b : List Byte) : Nat :=
  let n := imageLen b
  match frameKind (imageId b) with
  | 0 => bitNs 100 c.nomRate + bitNs (125 * (8 * n + 28)) (100 * c.nomRate)
  | 1 => bitNs 100 c.nomRate + bitNs (125 * (8 * n + 28)) (100 * (if imageBrs b then c.dataRate else c.nomRate))
  | 2 => bitNs 100 c.nomRate + bitNs (12 * (8 * n + 100)) (10 * (if c.dataRate = 0 then c.nomRate else c.dataRate))
  | 3 => bitNs (12 * 8 * (n + 8)) (10 * c.nomRate)
  | _ => bitNs (n * c.charBits) c.nomRate

/-- The image inside a frame with a tunnel header of TYPE 2 behind its Ethertype (R329, Table 10.4). -/
def tunnelImage (etype : Nat) (f : List Byte) : Option (List Byte) :=
  let at_ (i : Nat) : Nat := ofBytesBE ((f.drop i).take 2)
  let e := if at_ 12 = 0x8100 then 16 else 12
  let h := f.drop (e + 2)
  let len := ofBytesBE ((h.drop 6).take 2)
  let img := (h.drop 8).take len
  if at_ e = etype ∧ (h.getD 0 0).toNat = 0x12 ∧ 16 ≤ img.length ∧ img.length = len ∧ 16 + imageLen img = len then some img
  else none

/-- The stored image that a copy carries on a slow channel. -/
def State.copyImage (s : State) (c : Copy) : Option (List Byte) :=
  if c.image then some c.bytes else tunnelImage (s.rf Reg.mapperEtype 0 16) c.bytes

/-- How long a copy takes on the wire, in ns (R347). A copy that will carry a SecTAG and an ICV is 32 bytes longer.
DESIGN CHOICE: log entry 132. -/
def State.copyNs (s : State) (c : Copy) : Nat :=
  if c.port < 64 then
    let extra := if (s.txSession c.port c.session).isSome then 32 else 0
    bitNs ((c.bytes.length + 4 + extra + 20) * 8) (s.ethPort c.port).rate
  else ((s.copyImage c).map (s.chan (c.port - 64)).wireNs).getD 0

end Sys2Proof.Machine
end

