-- ==== Sys2Proof/Machine/Mapper.lean ====
section
/-! DEFINITION. The signal mapper (R338 to R344): values taken from frames, transmit slots, PDUs, and the commands
ROUTE_WRITE and ROUTE_READ (R355, R356). -/

namespace Sys2Proof.Machine

/-! ## Values in bytes (R340) -/

/-- Bit position `q` of some bytes in an ORDER. -/
def bitOf (order : Bool) (bs : List Byte) (q : Nat) : Bool :=
  (bs.getD (q / 8) 0).getLsbD (if order then q % 8 else 7 - q % 8)

/-- Set bit position `q`. -/
def putBit (order : Bool) (v : Bool) (bs : List Byte) (q : Nat) : List Byte :=
  let m := BitVec.ofNat 8 (2 ^ (if order then q % 8 else 7 - q % 8))
  let b := bs.getD (q / 8) 0
  setAt bs (q / 8) (if v then b ||| m else b &&& ~~~m)

/-- The value of `len` bits at `pos`; none when a bit lies beyond the bytes. -/
def readVal (order : Bool) (pos len : Nat) (bs : List Byte) : Option Nat :=
  if 8 * bs.length < pos + len then none
  else
    some ((List.range len).foldl (fun n k =>
      n + b2n (bitOf order bs (pos + k)) * 2 ^ (if order then k else len - 1 - k)) 0)

/-- Write a value of `len` bits at `pos`. -/
def writeVal (order : Bool) (pos len v : Nat) (bs : List Byte) : List Byte :=
  (List.range len).foldl (fun bs k =>
    putBit order (nfld v (if order then k else len - 1 - k) 1 == 1) bs (pos + k)) bs

/-! ## Routes and PDUs (R355) -/

/-- A route. -/
def State.route? (s : State) (r : Nat) : Route := smGet route0 s.mapper.routes r

/-- Store a route. -/
def State.setRoute (s : State) (r : Nat) (x : Route) : State :=
  { s with mapper := { s.mapper with routes := smSet route0 s.mapper.routes r x } }

/-- A PDU. -/
def State.pdu (s : State) (p : Nat) : Pdu := smGet pdu0 s.mapper.pdus p

/-- Store a PDU. -/
def State.setPdu (s : State) (p : Nat) (x : Pdu) : State :=
  { s with mapper := { s.mapper with pdus := smSet pdu0 s.mapper.pdus p x } }

/-- Word `i` of the record. -/
def Route.w (r : Route) (i : Nat) : Word := wd r.rec_ i
/-- EN. -/
def Route.en (r : Route) : Bool := bit (r.w 0) 2
/-- SRC_KIND. -/
def Route.kind (r : Route) : Nat := fld (r.w 0) 3 1
/-- SRC_ID. -/
def Route.src (r : Route) : Nat := fld (r.w 1) 16 16
/-- LEN. -/
def Route.len (r : Route) : Nat := fld (r.w 0) 16 6 + 1
/-- PDU. -/
def Route.pdu (r : Route) : Nat := fld (r.w 0) 24 8
/-- STALE_ACT 1: nothing is written for a stale value. -/
def Route.silent (r : Route) : Bool := bit (r.w 0) 6
/-- STALE_PATTERN. -/
def Route.pattern (r : Route) : Nat := (r.w 4).toNat + 2 ^ 32 * (r.w 5).toNat
/-- The fields whose change makes a route forget its value (R341): SRC_KIND, SRC_ID, SRC_POS, LEN, ORDER_IN, AGE_IN. -/
def Route.source (r : Route) : List Nat :=
  [r.kind, r.src, fld (r.w 2) 0 14, r.len, fld (r.w 0) 4 1, fld (r.w 0) 8 1, fld (r.w 6) 0 14]

/-- Word `i` of the record. -/
def Pdu.w (p : Pdu) (i : Nat) : Word := wd p.rec_ i
/-- EN. -/
def Pdu.en (p : Pdu) : Bool := bit (p.w 0) 2
/-- DKIND 1: a frame of a slow channel. -/
def Pdu.slow (p : Pdu) : Bool := bit (p.w 0) 3
/-- GEN. -/
def Pdu.gen (p : Pdu) : Nat := fld (p.w 1) 0 6
/-- PORT. -/
def Pdu.port (p : Pdu) : Nat := fld (p.w 1) 8 8
/-- OFFSET_US. -/
def Pdu.offset (p : Pdu) : Nat := fld (p.w 2) 0 24
/-- WINDOW_US. -/
def Pdu.window (p : Pdu) : Nat := fld (p.w 3) 0 24
/-- LEN. -/
def Pdu.len (p : Pdu) : Nat := fld (p.w 4) 0 12

/-- The stored image of a PDU for a slow channel with its data. -/
def Pdu.image (p : Pdu) (data : List Byte) : List Byte :=
  bytesBE 4 (p.w 5).toNat ++ bytesBE 2 data.length ++ [BitVec.ofNat 8 (p.w 6).toNat, 0] ++ bytesBE 4 (p.w 7).toNat ++
    [0, 0, 0, 0] ++ data

/-- A PDU fits the channel that it is sent on (R329, R355). -/
def Pdu.fits (p : Pdu) (c : SlowCh) : Bool := c.fits (p.image (List.replicate p.len 0))

/-- The enabled routes of a PDU, in ascending number. -/
def State.routesOf (s : State) (p : Nat) : List (Nat × Route) :=
  s.mapper.routes.filter (fun x => x.2.en && x.2.pdu == p)

/-- The enabled routes of a source: its source list (R338). -/
def State.sourceList (s : State) (kind id : Nat) : List Nat :=
  (s.mapper.routes.filter (fun x => x.2.en && x.2.kind == kind && x.2.src == id)).map (·.1)

/-- The number of source lists that some routes need. -/
def sourceLists (rs : SMap Route) : Nat :=
  ((rs.filter (·.2.en)).map (fun x => (x.2.kind, x.2.src))).eraseDups.length

/-! ## Taking values (R338, R341) -/

/-- The age that a frame carries for a route, in CCLK; none when it is unknown or lies beyond the data. -/
def Route.carried (r : Route) (data : List Byte) : Option Nat :=
  if ¬ bit (r.w 0) 8 then some 0
  else match readVal false (8 * fld (r.w 6) 0 14) 16 data with
    | none => none
    | some 0xFFFF => none
    | some n => some (n * 125000)

/-- Offer data with receive timestamp `at_` to a route.
DESIGN CHOICE: log entry 122. -/
def State.takeValue (s : State) (data : List Byte) (at_ n : Nat) : State :=
  let r := s.route? n
  match readVal (bit (r.w 0) 4) (fld (r.w 2) 0 14) r.len data with
  | none => s.cnt Reg.mapperShortCount 1
  | some v =>
    if bit (r.w 0) 8 ∧ data.length < fld (r.w 6) 0 14 + 2 then s.cnt Reg.mapperShortCount 1
    else match r.carried data with
      | none => s
      | some c =>
        let b : Int := at_ - c
        if r.value.any (fun x => decide (b ≤ x.2)) then s.cnt Reg.mapperOlderDiscardCount 1
        else (s.cnt Reg.mapperValueCount 1).setRoute n { r with value := some (v, b) }

/-- Offer data to every route of its source list. -/
def State.offer (s : State) (kind id : Nat) (data : List Byte) (at_ : Nat) : State :=
  let l := s.sourceList kind id
  if l.isEmpty then s.cnt Reg.mapperRxUnknownCount 1 else l.foldl (fun s n => s.takeValue data at_ n) s

/-- What follows the Ethertype of an untagged frame or of one with a single 802.1Q tag; none for another frame. -/
def behindEtype (etype : Nat) (f : List Byte) : Option (List Byte) :=
  let e := if half f 12 = 0x8100 then 16 else 12
  if half f e = etype then some (f.drop (e + 2)) else none

/-- The mapper takes a frame off the forwarding path (R339): what it makes of it, or none for another frame. -/
def State.mapperTake (s : State) (port : Nat) (f : List Byte) (at_ : Nat) : Option State :=
  if ¬ (s.rb Reg.mapperCtrl 1 ∧ s.rb Reg.mapperRxPorts port) then none
  else match behindEtype (s.rf Reg.mapperEtype 0 16) f with
    | none => none
    | some h =>
      if byteAt h 0 ≠ 0x11 then none
      else if half h 6 = 0 ∨ h.length < 8 + half h 6 then some (s.cnt Reg.mapperRxBadCount 1)
      else some { s with mapper := { s.mapper with offers := s.mapper.offers ++ [(h, at_)] } }

/-- MAPPER_PDU_OFFER: the oldest PDU taken off is offered to its routes (R339). -/
def execMapperPduOffer (s : State) : Host.Outcome State Fault Refusal :=
  finish s (whileFw s fun s =>
    match s.mapper.offers with
    | [] => s
    | (h, at_) :: rest =>
      let s : State := { s with mapper := { s.mapper with offers := rest } }
      s.offer 1 (half h 2) ((h.drop 8).take (half h 6)) at_)

/-- The values of a slow-channel frame are offered at the end of wave 2 (R338). `route` is ROUTE of its CLASSIFY entry. -/
def State.offerSlow (s : State) (route : Word) (image : List Byte) (at_ : Nat) : State :=
  if bit route 31 then s.offer 0 (fld route 0 16) (imageData image) at_ else s

/-! ## Sampling (R342, R343) -/

/-- Every route is stale: safe hold, or this device is the target of a resync. -/
def State.allStale (s : State) : Bool := s.safeHold || s.twin.resync.any (fun r => !r.source)

/-- The age of the value that a route holds, in CCLK. -/
def State.valueAge (s : State) (r : Route) : Option Nat := r.value.map (fun x => ((s.clk.age : Int) - x.2).toNat)

/-- A route is fresh. -/
def State.fresh (s : State) (r : Route) : Bool :=
  !s.allStale && (s.valueAge r).any (fun a => decide (a ≤ (r.w 3).toNat * 1250))

/-- Count a sample of a route and note a turn from fresh to stale.
DESIGN CHOICE: log entry 125. -/
def State.noteSample (s : State) (n : Nat) (r : Route) : State :=
  let stale := !s.fresh r
  let s := s.cnt (if stale then Reg.mapperStaleCount else Reg.mapperFreshCount) 1
  let s := if stale ∧ r.last = some false ∧ bit (r.w 0) 10 then
      s.eventSup 0x10 0x01 0 (w32 n) (w32 r.pdu) [n] Reg.mapperEventSuppressCount
    else s
  s.setRoute n { r with last := some stale }

/-- Place one route into a payload. -/
def State.placeRoute (s : State) (bs : List Byte) (r : Route) : List Byte :=
  let fresh := s.fresh r
  let v := if fresh then some ((r.value.map (·.1)).getD 0) else if r.silent then none else some r.pattern
  let bs := v.elim bs (fun v => writeVal (bit (r.w 0) 5) (fld (r.w 2) 16 14) r.len v bs)
  let bs := if bit (r.w 0) 7 then putBit false fresh bs (fld (r.w 6) 16 14) else bs
  if bit (r.w 0) 9 then
    let a := if fresh then min 0xFFFE (ceilDiv ((s.valueAge r).getD 0) 125000) else 0xFFFF
    writeVal false (8 * fld (r.w 7) 0 14) 16 a bs
  else bs

/-- The payload of a PDU at a slot (R343). -/
def State.payload (s : State) (p : Nat) : List Byte :=
  (s.routesOf p).foldl (fun bs x => s.placeRoute bs x.2) (List.replicate (s.pdu p).len (BitVec.ofNat 8 (fld ((s.pdu p).w 1) 24 8)))

/-- The mapper MAC address as bytes on the wire. -/
def State.mapperMac (s : State) : List Byte :=
  bytesLE 4 (s.rd Reg.mapperMacLo).toNat ++ bytesLE 2 (s.rf Reg.mapperMacHi 0 16)

/-- A frame padded to the 64-byte minimum without its FCS. -/
def pad60 (f : List Byte) : List Byte := f ++ List.replicate (60 - f.length) 0

/-- What a PDU puts into its queue: an Ethernet frame, or a stored image. -/
def State.pduBytes (s : State) (p : Nat) : List Byte :=
  let x := s.pdu p
  let data := s.payload p
  if x.slow then x.image data
  else
    let tag := if bit (x.w 0) 4 then bytesBE 2 0x8100 ++ bytesBE 2 (fld (x.w 0) 12 3 * 2 ^ 13 + fld (x.w 4) 16 12) else []
    pad60 (bytesLE 4 (x.w 6).toNat ++ bytesLE 2 (fld (x.w 7) 0 16) ++ s.mapperMac ++ tag ++
      bytesBE 2 (s.rf Reg.mapperEtype 0 16) ++ [0x11, 0] ++ bytesBE 2 (fld (x.w 5) 0 16) ++ bytesBE 2 x.seq ++
      bytesBE 2 data.length ++ data)

/-! ## Slots (R342, R344) -/

/-- A PDU is lost (R344). -/
def State.losePdu (s : State) (p : Nat) : State :=
  let x := s.pdu p
  (s.cnt Reg.mapperPduLostCount 1).setPdu p { x with lost := sat32 (x.lost + 1) }

/-- A PDU has been sent.
DESIGN CHOICE: log entry 123. -/
def State.sentPdu (s : State) (p : Nat) : State :=
  let x := s.pdu p
  (s.cnt Reg.mapperPduSentCount 1).setPdu p { x with seq := (x.seq + 1) % 65536, sent := sat32 (x.sent + 1) }

/-- Charge an assembled PDU to its queue (R344, R307). -/
def State.queuePdu (s : State) (p : Nat) : State :=
  let x := s.pdu p
  let b := s.pduBytes p
  let q := if x.slow then 0 else fld (x.w 0) 8 3
  let n := cellsOf (if x.slow then b.length else b.length + 4)
  if ¬ s.egressUp x.port then s.drop x.port 13
  else match s.charge (queueHolder x.port q) n with
    | none => (s.drop x.port 12).losePdu p
    | some s =>
      { s with sw := { s.sw with copies := s.sw.copies ++ [{
          frame := 0, ingress := x.port, port := x.port, queue := q, cells := n, bytes := b, image := x.slow, session := 0,
          deadline := some (x.slot + x.window * usC), pdu := some p, released := true, eligible := true
          relAt := s.clk.age, sending := false, wire := [] }] } }

/-- The next slot of a PDU, in ns of device time: a tick of its generator and OFFSET_US µs.
DESIGN CHOICE: log entry 126. -/
def State.nextSlot (s : State) (x : Pdu) : Int :=
  let g := s.gen x.gen
  let off : Int := x.offset * 1000
  let now : Int := s.dtNs
  let c := g.lastTick + off
  if now ≤ c ∧ x.slotNs < c then c else g.from_ (max (g.lastTick + g.period) (max (now - off) (x.slotNs + 1 - off))) + off

/-- TRANSMIT_SLOT (R342 to R344). -/
def execTransmitSlot (pdu : Nat) (s : State) : Host.Outcome State Fault Refusal :=
  finish s (whileFw s fun s =>
    let x := s.pdu pdu
    if ¬ (x.en ∧ s.genHas x.gen 0) then s
    else
      let t := s.nextSlot x
      let s := s.untilNs t.toNat
      let s := s.setPdu pdu { x with slot := s.clk.age, slotNs := t }
      let rs := s.routesOf pdu
      let send := rs.any (fun r => s.fresh r.2 || !r.2.silent)
      let s' := rs.foldl (fun s r => s.noteSample r.1 r.2) s
      if send then s'.queuePdu pdu else s'.cnt Reg.mapperPduEmptyCount 1)

/-! ## ROUTE_WRITE and ROUTE_READ -/

/-- The bits that a record may set. -/
def recMasks (w0 : Word) : List Nat :=
  if fld w0 0 2 = 0 then [0xFF3F07FF, 0xFFFFFFFF, 0x3FFF3FFF, 0xFFFFFFFF, 0xFFFFFFFF, 0xFFFFFFFF, 0x3FFF3FFF, 0x3FFF]
  else if bit w0 3 then [0xFF00771F, 0xFF00FF3F, 0xFFFFFF, 0xFFFFFF, 0x0FFF0FFF, 0xFFFFFFFF, 0xC0, 0xFFFFFFFF]
  else [0xFF00771F, 0xFF00FF3F, 0xFFFFFF, 0xFFFFFF, 0x0FFF0FFF, 0xFFFF, 0xFFFFFFFF, 0xFFFF]

/-- The eight-word records of ROUTE_WRITE. -/
def Request.records (q : Request) : List (List Word) :=
  (List.range (q.words.length / 8)).map (fun i => (q.words.drop (8 * i)).take 8)

/-- A record sets a bit that must be 0, or its OBJ is none. -/
def recBad (r : List Word) : Bool :=
  decide (2 ≤ fld (wd r 0) 0 2) || (r.zip (recMasks (wd r 0))).any (fun x => strayBits x.1 x.2)

/-- Take one record into the routes and PDUs. `now` becomes nothing that a record keeps. -/
def State.applyRec (s : State) (r : List Word) : State :=
  let en := bit (wd r 0) 2
  if fld (wd r 0) 0 2 = 0 then
    let n := fld (wd r 1) 0 16
    let old := s.route? n
    let new : Route := { old with rec_ := r }
    s.setRoute n (if ¬ en then route0
      else if old.en ∧ old.source = new.source then new
      else { new with value := none, last := if old.en then old.last else none })
  else
    let n := fld (wd r 0) 24 8
    let old := s.pdu n
    let new : Pdu := { old with rec_ := r }
    s.setPdu n (if ¬ en then pdu0 else if old.en ∧ old.w 5 = new.w 5 then new else { new with seq := 0 })

/-- An enabled PDU is out of range or unfit for its destination. -/
def State.pduBad (s : State) (p : Pdu) : Bool :=
  let per := (s.gen p.gen).period
  (if p.slow then !(decide (64 ≤ p.port ∧ p.port < 128)) || !p.fits (s.chan (p.port - 64))
   else !(decide (p.port < 32)) || !(decide (1 ≤ p.len ∧ p.len ≤ 1492))) ||
    (s.genHas p.gen 0 && (decide (per ≤ p.offset * 1000) || decide (per < p.window * 1000))) || p.window == 0

/-- An enabled route is out of range, names a PDU that is not enabled, or reaches beyond its PDU. -/
def State.routeBad (s : State) (r : Route) : Bool :=
  let p := s.pdu r.pdu
  let bits := 8 * p.len
  !p.en || r.w 3 == 0 || decide (bits < fld (r.w 2) 16 14 + r.len) ||
    (bit (r.w 0) 7 && decide (bits ≤ fld (r.w 6) 16 14)) || (bit (r.w 0) 9 && decide (p.len < fld (r.w 7) 0 14 + 2))

/-- The PDU that two records of one command enable; its assembly buffer is claimed twice (R25, R353). -/
def twiceEnabled (rs : List (List Word)) : Option Nat :=
  let ps := (rs.filter (fun r => fld (wd r 0) 0 2 == 1 && bit (wd r 0) 2)).map (fun r => fld (wd r 0) 24 8)
  ps.find? (fun p => decide (1 < (ps.filter (· == p)).length))

/-- The numbers of PDUs that some records enable. -/
def enabledPdus (rs : List (List Word)) : List Nat :=
  (rs.filter (fun r => fld (wd r 0) 0 2 == 1 && bit (wd r 0) 2)).map (fun r => fld (wd r 0) 24 8)

/-- ROUTE_WRITE after the checks of R270 (R355).
DESIGN CHOICE: log entry 124. -/
def State.routeWriteDo (s : State) (q : Request) : State × CmdEnd :=
  let rs := q.records
  let t := rs.foldl State.applyRec s
  let ps := (enabledPdus rs).map t.pdu
  if rs.any recBad then (s, fin 0x0182)
  else if ps.any t.pduBad ∨ t.mapper.routes.any (fun x => x.2.en && t.routeBad x.2) then (s, fin 0x0182)
  else if ps.any (fun p => !t.genHas p.gen 0) then (s, fin 0x0187)
  else if 8192 < sourceLists t.mapper.routes then (s, fin 0x0280)
  else match twiceEnabled rs with
    | some p => (s, .final St.applyConflict [w32 (7 * 2 ^ 16 + p)])
    | none => (t, .final St.ok [w32 (t.mapper.routes.filter (·.2.en)).length, w32 (sourceLists t.mapper.routes)])

/-- ROUTE_WRITE. -/
def execRouteWrite (q : Request) (s : State) : Host.Outcome State Fault Refusal :=
  finish s (runCmd Op.routeWrite q (fun s q => s.mirrored Op.routeWrite q (fun s => s.routeWriteDo q)) s)

/-- A record of eight words; zeros for what is not defined. -/
def recWords (r : List Word) : List Word := (List.range 8).map (wd r)

/-- ROUTE_READ (R356). -/
def State.routeRead (s : State) (q : Request) : State × CmdEnd :=
  let n := q.f 0 0 16
  if q.stray 0 0x1FFFF then (s, fin 0x0182)
  else if q.b 0 16 then
    if 256 ≤ n then (s, fin 0x0182)
    else
      let p := s.pdu n
      (s, .final St.ok (recWords p.rec_ ++ [w32 p.seq, w32 p.sent, w32 p.lost]))
  else
    let r := s.route? n
    let v := (r.value.map (·.1)).getD 0
    let age := ((s.valueAge r).map (fun a => min 0xFFFFFFFE (a / usC))).getD 0xFFFFFFFF
    let flags := b2n r.value.isSome + 2 * b2n (r.en && s.fresh r) + 4 * b2n (r.last == some true)
    (s, .final St.ok (recWords r.rec_ ++ toWords 2 v ++ [w32 age, w32 flags]))

/-- ROUTE_READ. -/
def execRouteRead (q : Request) (s : State) : Host.Outcome State Fault Refusal :=
  finish s (runCmd Op.routeRead q State.routeRead s)

end Sys2Proof.Machine
end

