-- ==== Sys2Proof/Machine/Timing.lean ====
section
/-! DEFINITION. Device time, its sources, the timing pins and the period generators (R330 to R337), with TIME_CONFIG,
TIME_READ and PERIOD_CONFIG (R357, R360, R361). -/

namespace Sys2Proof.Machine

/-! ## Setting and stepping (R330, R332, R336) -/

/-- Move device time by `d` ns in one CCLK. The instants that the generators, slots and slot tables count from move along;
the step is counted and entered. None where device time would leave its range. -/
def State.stepTime? (s : State) (d : Int) : Option State :=
  let t : Int := s.clk.dt + d * dtUnit
  if t < 0 ∨ (dtWrap : Int) ≤ t then none
  else
    let s : State := { s with
      clk := { s.clk with dt := t.toNat }
      glue := { s.glue with lastBoundary := s.glue.lastBoundary + d }
      exm := { s.exm with mower := { s.exm.mower with nextTick := s.exm.mower.nextTick + d } }
      mapper := { s.mapper with pdus := smMap pdu0 (fun _ (p : Pdu) => { p with slotNs := p.slotNs + d }) s.mapper.pdus }
      time := { s.time with
        gens := smMap gen0 (fun _ (g : Gen) => { g with lastTick := g.lastTick + d }) s.time.gens
        tables := smMap slotTable0 (fun _ (t : SlotTable) => { t with cycleNs := t.cycleNs + d, swapFrom := t.swapFrom + d }) s.time.tables } }
    let m := (d % 2 ^ 64).toNat
    some ((s.cnt Reg.timeStepCount 1).event 0x11 0x01 0 (w32 m) (w32 (m / 2 ^ 32)))

/-- A step that is not made where device time would leave its range.
DEDUCED: log entry 40. -/
def State.stepTime (s : State) (d : Int) : State := (s.stepTime? d).getD s

/-- Seconds of device time. -/
def State.secNow (s : State) : Nat := s.timeNs / 10 ^ 9

/-- NSEC. -/
def State.nsecNow (s : State) : Nat := s.timeNs % 10 ^ 9

/-- A capture of a device time in ns. -/
def captureOf (ns : Nat) : Capture := { nsec := ns % 10 ^ 9, sec := ns / 10 ^ 9 }

/-- A capture of device time now. -/
def State.capture (s : State) : Capture := captureOf s.timeNs

/-- Store the rate offset. -/
def State.setRate (s : State) (r : Int) : State := { s with clk := { s.clk with rate := r } }

/-- The rate offset that a servo of the firmware chooses: a free value of the range of R330. -/
def State.freeRate (s : State) : State :=
  let (n, s) := s.freeN 1000001
  s.setRate ((n : Int) - 500000)

/-- This device has joined a fabric and is not its root lead: its time comes from the fabric (R332). -/
def State.fabricTimed (s : State) : Bool := s.fab.joined && !(s.fab.level == 0 && s.fab.side == 0)

/-! ## TIME_CONFIG and TIME_READ (R360, R361) -/

/-- A signed number of `n` bits. -/
def signed (n v : Nat) : Int := if v < 2 ^ (n - 1) then v else (v : Int) - 2 ^ n

/-- The change of device time that TIME_CONFIG asks for, in ns. -/
def State.timeChange (s : State) (q : Request) : Int :=
  match q.f 0 0 2 with
  | 1 => ((q.w 1).toNat + 10 ^ 9 * ((q.w 2).toNat + 2 ^ 32 * q.f 3 0 16) : Nat) - (s.timeNs : Int)
  | 2 => signed 64 ((q.w 1).toNat + 2 ^ 32 * (q.w 2).toNat)
  | _ => 0

/-- Device time after SET or STEP; SET leaves no fraction of a ns. -/
def State.timeSet (s : State) (q : Request) : Option State :=
  if q.f 0 0 2 = 0 then some s
  else
    let d := s.timeChange q
    if q.f 0 0 2 = 1 then
      ({ s with clk := { s.clk with dt := s.timeNs * dtUnit } } : State).stepTime? d
    else s.stepTime? d

/-- BAD_TIME_PARAM of TIME_CONFIG. -/
def State.badTime (s : State) (q : Request) : Bool :=
  let rate := signed 32 (q.w 4).toNat
  q.stray 0 0x0F3F0707 || q.stray 5 0xFFFFFF1F || q.f 0 0 2 == 3 || q.f 0 9 2 == 3 || q.f 5 1 2 == 3 ||
    (q.f 0 0 2 == 0 && (q.w 1 != 0 || q.w 2 != 0 || q.w 3 != 0)) || (q.f 0 0 2 == 2 && q.w 3 != 0) ||
    (q.f 0 0 2 == 1 && (q.stray 3 0xFFFF || decide (10 ^ 9 ≤ (q.w 1).toNat))) || (!q.b 0 2 && q.w 4 != 0) ||
    decide (rate < -500000) || decide (500000 < rate) || (s.timeSet q).isNone

/-- The pins that are claimed as wake sources: those of the register, and those of an apply that runs without a conflict (R441). -/
def State.wakeClaims (s : State) : Nat :=
  s.reg.apply.foldl (fun n a =>
    if a.conflict = 0 then n ||| (smGet none a.values Reg.heathWakeCtrl).elim 0 (fun v => fld v 4 4) else n)
    (s.rf Reg.heathWakeCtrl 4 4)

/-- The first resource for which TIME_CONFIG conflicts (R353, R442). -/
def State.timeConflict (s : State) (q : Request) : Option Nat :=
  if q.b 0 8 ∧ q.f 0 16 6 ≠ 0 then some (2 ^ 16)
  else (firstBelow 4 (fun n => nfld (q.f 0 24 4) n 1 == 1 && nfld s.wakeClaims n 1 == 1)).map (fun n => 2 * 2 ^ 16 + n)

/-- The PTP state once the instance has been configured: disabled, or listening. -/
def State.ptpRestart (s : State) (q : Request) : Nat :=
  if ¬ q.b 5 0 then 0
  else if s.time.ptp = q.w 5 ∧ s.time.ptpPorts = [q.w 6, q.w 7, q.w 8] then s.time.ptpState else 1

/-- TIME_CONFIG (R360).
DESIGN CHOICE: log entry 128. -/
def State.timeConfig (s : State) (q : Request) : State × CmdEnd :=
  let mode := q.f 0 9 2
  let gen := q.f 0 16 6
  if s.badTime q then (s, fin 0x0185)
  else if s.fabricTimed ∧ (q.f 0 0 2 ≠ 0 ∨ q.b 0 2 ∨ mode = 2) then (s, fin 0x0580)
  else if gen ≠ 0 ∧ ¬ s.genHas gen 2 then (s, fin 0x0187)
  else match s.timeConflict q with
    | some r => (s, .final St.applyConflict [w32 r])
    | none =>
      let s := (s.timeSet q).getD s
      let s := if q.b 0 2 then s.setRate (signed 32 (q.w 4).toNat) else s
      let keep := mode == s.time.ppsInMode
      ({ s with time := { s.time with
          ppsOutEn := q.b 0 8, ppsInMode := mode, timerGen := gen, capture := q.f 0 24 4
          ppsOut := s.time.ppsOut && q.b 0 8, timerOut := if gen = s.time.timerGen then s.time.timerOut else none
          ppsSeen := keep && s.time.ppsSeen, holdover := keep && s.time.holdover
          ppsLast := if keep then s.time.ppsLast else none, ppsWait := if keep then s.time.ppsWait else s.clk.age
          ptpState := s.ptpRestart q, ptp := q.w 5, ptpPorts := [q.w 6, q.w 7, q.w 8] } }, fin St.ok)

/-- TIME_CONFIG. -/
def execTimeConfig (q : Request) (s : State) : Host.Outcome State Fault Refusal :=
  finish s (runCmd Op.timeConfig q State.timeConfig s)

/-- A signed number as a word. -/
def intWord (n : Int) : Word := w32 (n % 2 ^ 32).toNat

/-- TIME_READ (R361). -/
def execTimeRead (q : Request) (s : State) : Host.Outcome State Fault Refusal :=
  finish s (runCmd Op.timeRead q (fun s _ => (s, .final St.ok (
    w32 s.nsecNow :: toWords 2 s.secNow ++ toWords 2 s.clk.age ++ [intWord s.time.offset, intWord s.clk.rate,
      w32 (s.time.ptpState + b2n s.time.ppsSeen * 2 ^ 8 + b2n s.time.holdover * 2 ^ 9)]))) s)

/-! ## PTP and PPS (R333 to R335) -/

/-- The PTP instance may take the time-receiver state (R332, R333). -/
def State.mayReceive (s : State) : Bool := s.time.ppsInMode != 2 && !s.fabricTimed

/-- An offset that the PTP instance has measured. What its servo makes of it is open: a step or a rate, and whether it has
locked. -/
def State.ptpServo (s : State) (ns : Int) : State :=
  let (step, s) := s.freeB
  let (locked, s) := s.freeB
  let s := if step then s.stepTime (-ns) else s.freeRate
  { s with time := { s.time with offset := ns, ptpState := if locked then 3 else 2 } }

/-- The instance answers Delay_Req on a port or channel: words 6 to 8 of TIME_CONFIG (R360), on Ethernet in PROFILE 0 (R333). -/
def State.answersOn (s : State) (port : Nat) : Bool :=
  if port < 32 then bit (s.time.ptpPorts.getD 0 0) port && fld s.time.ptp 1 2 == 0
  else if 64 ≤ port ∧ port < 128 then bit (s.time.ptpPorts.getD (1 + (port - 64) / 32) 0) (port % 32)
  else false

/-- Queue an image of the PTP instance on a slow channel. -/
def State.queueImage (s : State) (port : Nat) (image : List Byte) : State :=
  let n := cellsOf image.length
  if ¬ s.egressUp port then s.drop port 13
  else match s.charge (queueHolder port 0) n with
    | none => s.drop port 12
    | some s =>
      { s with sw := { s.sw with copies := s.sw.copies ++ [{
          frame := 0, ingress := port, port := port, queue := 0, cells := n, bytes := image, image := true, session := 0,
          deadline := none, pdu := none, released := true, eligible := true, relAt := s.clk.age, sending := false, wire := [] }] } }

/-- The length of a Delay_Resp of profile 0. -/
def delayRespLen : Nat := 54

/-- The answer to a Delay_Req: a Delay_Resp of free contents, as an Ethernet frame of Ethertype 0x88F7 or, with TRANSPORT 1,
of UDP over IPv4, in a free queue; on a slow channel as the data of a frame with the channel's SLOWCH_PTP_ID (R333). -/
def State.delayResp (s : State) (port : Nat) : State :=
  if 64 ≤ port then
    let id := s.rd (Reg.slowchPtpId (port - 64))
    let n := (lenFit (frameKind id.toNat) delayRespLen).getD delayRespLen
    let (data, s) := s.freeBytes n
    s.queueImage port (bytesBE 4 id.toNat ++ bytesBE 2 n ++ [0, 0, 0, 0, 0, 0, 0, 0, 0, 0] ++ data)
  else
    let udp := bit s.time.ptp 3
    let (q, s) := s.freeN 8
    let (mac, s) := s.freeBytes 12
    let (rest, s) := s.freeBytes (delayRespLen + if udp then 28 else 0)
    s.queueOwn port q (pad60 (mac ++ bytesBE 2 (if udp then 0x0800 else 0x88F7) ++ rest))

/-- PTP_MESSAGE (R333, R334): a message whose timestamp is lost is counted and has no effect.
DESIGN CHOICE: log entry 130. -/
def execPtpMessage (m : PtpMsg) (s : State) : Host.Outcome State Fault Refusal :=
  finish s (whileFw s fun s =>
    if ¬ bit s.time.ptp 0 then s
    else
      let (lost, s) := s.freeB
      if lost then s.cnt Reg.timeTsLostCount 1
      else match m with
        | .announce receiver =>
          let r := receiver && s.mayReceive
          let st := if r then (if s.time.ptpState = 3 then 3 else 2) else 4
          { s with time := { s.time with ptpState := st } }
        | .offset ns => if (s.time.ptpState = 2 ∨ s.time.ptpState = 3) ∧ s.mayReceive then s.ptpServo ns else s
        | .delayReq port => if s.time.ptpState = 4 ∧ s.answersOn port then s.delayResp port else s)

/-- The calibration value in force, and whether it is a user value (R477). -/
def State.calValue (s : State) (item index : Nat) : Int × Bool :=
  match smGet none s.pwr.user (64 * item + index) with
  | some v => (v, true)
  | none => (Config.factoryCal item index, false)

/-- Device time, in ns, of an edge of PPS_IN that arrives now: less the delay of calibration item 4 (Table 14.6).
DESIGN CHOICE: log entry 221. -/
def State.ppsNs (s : State) : Int := (s.timeNs : Int) - (s.calValue 4 0).1

/-- The signed distance in ns of a PPS edge from the nearest full second. -/
def State.secOffset (s : State) : Int :=
  let n := s.ppsNs % 1000000000
  if n < 500000000 then n else n - 1000000000

/-- PPS discipline at an edge (R335): `first` is the first edge.
DESIGN CHOICE: log entry 129. -/
def State.ppsDiscipline (s : State) (first : Bool) : State :=
  let off := s.secOffset
  let s : State := { s with time := { s.time with offset := off } }
  if first ∨ off < -1000 ∨ 1000 < off then s.stepTime (-off) else s.freeRate

/-- PPS_IN_EDGE (R335). A member of a fabric takes its time from the fabric only (R332). -/
def execPpsInEdge (s : State) : Host.Outcome State Fault Refusal :=
  finish s (whileUp s fun s =>
    if s.time.ppsInMode = 0 then s
    else
      let first := s.time.ppsLast.isNone
      let s : State := { s with time := { s.time with
        ppsIn := captureOf s.ppsNs.toNat, ppsSeen := true, holdover := false, ppsLast := some s.clk.age, ppsWait := s.clk.age } }
      if s.time.ppsInMode = 2 ∧ s.fwUp ∧ ¬ s.fabricTimed then s.ppsDiscipline first else s)

/-- PPS_LOST (R335): 1.1 s without an edge, from the last one or from the start of discipline. -/
def execPpsLost (s : State) : Host.Outcome State Fault Refusal :=
  finish s (whileFw s fun s =>
    if s.time.ppsInMode ≠ 2 then s
    else
      let s := s.until (s.time.ppsWait + 1375000000)
      let s : State := { s with time := { s.time with ppsSeen := false, holdover := true, ppsWait := s.clk.age } }
      (s.cnt Reg.timePpsMissCount 1).event 0x11 0x02 0 0 0)

/-- PPS_OUT_EDGE (R335): the ball rises where NSEC is 0 and falls where it is 100,000,000, each earlier by the delay of calibration
item 5 (Table 14.6). -/
def execPpsOutEdge (s : State) : Host.Outcome State Fault Refusal :=
  finish s (whileUp s fun s =>
    if ¬ s.time.ppsOutEn then s
    else
      let delay := (s.calValue 5 0).1
      let now : Int := s.timeNs + delay
      let high := s.time.ppsOut
      let at_ := now / 10 ^ 9 * 10 ^ 9 + (if high then 100000000 else 0)
      let s := s.untilNs ((if now ≤ at_ then at_ else at_ + 10 ^ 9) - delay).toNat
      { s with time := { s.time with ppsOut := !high } })

/-! ## Period generators (R336, R337, R357) -/

/-- PERIOD_GENERATOR_TICK. A boundary of generator 0 acts by EPOCH_BOUNDARY. -/
def execPeriodGeneratorTick (gen : Fin 64) (s : State) : Host.Outcome State Fault Refusal :=
  finish s (whileUp s fun s =>
    let g := s.gen gen.val
    if g.owners = 0 then s
    else
      let t := g.next
      let s := s.untilNs t.toNat
      if gen.val = 0 then s
      else
        let s := s.setGen gen.val { g with lastTick := t }
        if s.time.timerGen = gen.val then
          { s with time := { s.time with timerOut := some (s.clk.age + min (g.period / 2) 1000000 * 5 / 4) } }
        else s)

/-- TIMER_OUT_FALL (R335). -/
def execTimerOutFall (s : State) : Host.Outcome State Fault Refusal :=
  finish s (whileUp s fun s =>
    match s.time.timerOut with
    | none => s
    | some t => let s := s.until t; { s with time := { s.time with timerOut := none } })

/-- An enabled PDU, a slot table or TIMER_OUT names generator `g` for the owner kind of bit `k`. -/
def State.genUsed (s : State) (g k : Nat) : Bool :=
  match k with
  | 0 => s.mapper.pdus.any (fun x => x.2.en && x.2.gen == g)
  | 1 => s.time.tables.any (fun x => x.2.copyA.gen == g || x.2.copyB.gen == g ||
      x.2.pend.any (fun p => p.copy.any (fun c => c.gen == g)))
  | _ => s.time.timerGen == g

/-- PERIOD_CONFIG (R337, R357).
DESIGN CHOICE: log entry 127. -/
def State.periodConfig (s : State) (q : Request) : State × CmdEnd :=
  let n := q.f 0 0 6
  let claim := q.f 0 8 3
  let release := q.f 0 12 3
  let p := (q.w 1).toNat
  let phi := (q.w 2).toNat
  let g := s.gen n
  let owners := (g.owners &&& (7 - release)) ||| claim
  let kept := g.owners &&& (7 - release) &&& (7 - claim)
  if q.stray 0 0x773F ∨ n = 0 then (s, fin 0x0183)
  else if owners ≠ 0 ∧ (p < 125 ∨ 1250000000 < p ∨ p ≤ phi ∨ (owners % 2 = 1 ∧ p < 12500)) then (s, fin 0x0183)
  else if (List.range 3).any (fun k => nfld release k 1 == 1 && nfld g.owners k 1 == 1 && s.genUsed n k) then (s, fin 0x0382)
  else if kept ≠ 0 ∧ (p ≠ g.p ∨ phi ≠ g.phi) then (s, .final St.applyConflict [w32 (6 * 2 ^ 16 + n)])
  else
    let x : Gen :=
      if owners = 0 then gen0
      else { p := p, phi := phi, owners := owners, lastTick := if g.owners = 0 then (s.dtNs : Int) - 8 * p else g.lastTick }
    (s.setGen n x, .final St.ok [w32 x.owners, w32 x.p, w32 x.phi])

/-- PERIOD_CONFIG. -/
def execPeriodConfig (q : Request) (s : State) : Host.Outcome State Fault Refusal :=
  finish s (runCmd Op.periodConfig q State.periodConfig s)

end Sys2Proof.Machine
end

