-- ==== Sys2Proof/Machine/Slots.lean ====
section
/-! DEFINITION. Slot tables at work (R345, R346, R348, R349): cycles, entries, swaps, and the commands SLOT_WRITE and
SLOT_SWAP (R358, R359). -/

namespace Sys2Proof.Machine

/-- A swap is committed and not yet switched, or the copy-back runs (R348). -/
def SlotTable.swapping (t : SlotTable) : Bool := t.swapPend || t.copyBack

/-- Change entries of a copy from entry `first` on. -/
def SlotCopy.write (c : SlotCopy) (first : Nat) : List Word → SlotCopy
  | [] => c
  | w :: ws => ({ c with entries := smSet slotEntry0 c.entries first w } : SlotCopy).write (first + 1) ws

/-- The next cycle start of the active copy: a tick of its generator (R346). -/
def State.nextCycle (s : State) (t : SlotTable) : Int :=
  let g := s.gen t.active.gen
  let now : Int := s.dtNs
  if now ≤ g.lastTick ∧ t.cycleNs < g.lastTick then g.lastTick
  else g.from_ (max (g.lastTick + g.period) (max now (t.cycleNs + 1)))

/-- Entry `i` of the active copy is busy: from 1 µs before it starts until it ends (R349). -/
def State.slotBusy (s : State) (t : SlotTable) (i : Nat) : Bool :=
  let c := t.active
  let soon : Int := s.dtNs + 1000
  if ¬ s.cycling t then i == t.entry
  else
    let next := s.nextCycle t
    let start := t.cycleNs + c.startOf i
    i == t.entry || (decide (i < c.length) &&
      ((decide (t.entry < i) && decide (start < next) && decide (start ≤ soon)) || decide (next + c.startOf i ≤ soon)))

/-- SLOT_WRITE: TARGET, FIRST, COUNT and the entries. -/
def Request.slotTarget (q : Request) : Nat := q.f 0 0 8
def Request.slotFirst (q : Request) : Nat := q.f 1 0 8
def Request.slotCount (q : Request) : Nat := q.f 1 8 7
def Request.slotEntries (q : Request) : List Word := (q.words.drop 2).take q.slotCount
def Request.slotActive (q : Request) : Bool := q.b 0 16
def Request.slotHdr (q : Request) : Bool := q.b 0 17

/-- The checks of SLOT_WRITE that come before those of the glue-up; 0 when they pass (R358). -/
def State.slotPre (s : State) (q : Request) : Nat :=
  let bad (w : Word) : Bool := fld w 8 24 == 0 || (decide (64 ≤ q.slotTarget) && fld w 1 7 != 0)
  let len := q.f 1 16 9
  let gen := q.f 1 26 6
  if q.words.length ≠ 2 + q.slotCount then St.badLength
  else if q.stray 0 0x3FFFF ∨ q.stray 1 0xFDFF7FFF ∨ ¬ portValid q.slotTarget ∨ 64 < q.slotCount ∨
      256 < q.slotFirst + q.slotCount ∨ q.slotEntries.any bad ∨ (q.slotHdr ∧ (len = 0 ∨ 256 < len)) ∨
      (q.slotActive ∧ (q.slotHdr ∨ q.f 0 8 8 ≠ 0)) then 0x0184
  else if q.slotHdr ∧ gen ≠ 0 ∧ ¬ s.genHas gen 1 then 0x0187
  else if (s.slotTable q.slotTarget).swapping then 0x0381
  else 0

/-- A standby write in a glue-up (R348). -/
def slotWriteAct (q : Request) (s : State) (g : Nat) : GlueRes :=
  let n := q.slotTarget
  let t := s.slotTable n
  if t.swapping then .refuse 0x0381
  else match t.pend.filter (fun p => p.id != g) with
    | some p => .claimed p.id
    | none =>
      let c := ((t.pend.bind (·.copy)).getD t.standby).write q.slotFirst q.slotEntries
      let c := if q.slotHdr then { c with length := q.f 1 16 9, gen := q.f 1 26 6 } else c
      let ops := q.slotCount + b2n q.slotHdr
      .done (s.setSlotTable n { t with pend := some ⟨g, some c, t.pend.any (·.swap)⟩ }) ops [w32 ops, 0]

/-- A write of the active copy (R349). -/
def State.slotWriteActive (s : State) (q : Request) : State :=
  let t := s.slotTable q.slotTarget
  s.setSlotTable q.slotTarget (t.setActive (t.active.write q.slotFirst q.slotEntries))

/-- An entry that a write of the active copy names is busy. -/
def State.slotWriteBusy (s : State) (q : Request) : Bool :=
  (List.range q.slotCount).any (fun i => s.slotBusy (s.slotAt q.slotTarget) (q.slotFirst + i))

/-- SLOT_WRITE (R358). -/
def State.slotWrite (s : State) (q : Request) : State × CmdEnd :=
  if ¬ q.slotActive then s.glueOp Op.slotWrite q (s.slotPre q) (slotWriteAct q)
  else s.mirrored Op.slotWrite q (fun s =>
    if s.slotPre q ≠ 0 then (s, fin (s.slotPre q))
    else if s.slotWriteBusy q then (s, fin 0x0380)
    else (s.slotWriteActive q, .final St.ok [0, w32 s.glue.c.toNat]))

/-- SLOT_WRITE. -/
def execSlotWrite (q : Request) (s : State) : Host.Outcome State Fault Refusal :=
  finish s (runCmd Op.slotWrite q State.slotWrite s)

/-- The tables that SLOT_SWAP names, in INGRESS encoding. -/
def Request.swapTables (q : Request) : List Nat :=
  (List.range 32).filter (fun n => q.b 1 n) ++ ((List.range 32).filter (fun n => q.b 2 n)).map (64 + ·) ++
    ((List.range 32).filter (fun n => q.b 3 n)).map (96 + ·)

/-- The checks of SLOT_SWAP before those of the glue-up. -/
def State.swapPre (s : State) (q : Request) : Nat :=
  if q.stray 0 0xFF00 ∨ q.swapTables.isEmpty then 0x0184
  else if q.swapTables.any (fun n => (s.slotTable n).swapping) then 0x0381
  else 0

/-- SLOT_SWAP in a glue-up (R348). -/
def slotSwapAct (q : Request) (s : State) (g : Nat) : GlueRes :=
  let ns := q.swapTables
  if ns.any (fun n => (s.slotTable n).swapping) then .refuse 0x0381
  else match ns.findSome? (fun n => (s.slotTable n).pend.filter (fun p => p.id != g)) with
    | some p => .claimed p.id
    | none =>
      let s := ns.foldl (fun s n =>
        let t := s.slotTable n
        s.setSlotTable n { t with pend := some ⟨g, t.pend.bind (·.copy), true⟩ }) s
      .done s ns.length [w32 ns.length, 0]

/-- SLOT_SWAP. -/
def execSlotSwap (q : Request) (s : State) : Host.Outcome State Fault Refusal :=
  finish s (runCmd Op.slotSwap q (fun s q => s.glueOp Op.slotSwap q (s.swapPre q) (slotSwapAct q)) s)

/-- When a committed swap switches: at the first cycle start of the old active copy that falls in or after cycle 5 of its advance, or at
cycle 5 itself where the old copy has GEN 0 (R348). -/
def State.swapInstant (s : State) (x : SlotTable) : Int :=
  if x.active.gen = 0 then max s.dtNs x.swapFrom
  else
    let t := s.nextCycle x
    if x.swapFrom ≤ t then t else (s.gen x.active.gen).from_ (max (t + (s.gen x.active.gen).period) x.swapFrom)

/-- The two copies exchange roles and a cycle of the new active one begins at `t` (R348). -/
def State.switchSlots (s : State) (n : Nat) (t : Int) : State :=
  let x := s.slotTable n
  s.setSlotTable n { x with activeB := !x.activeB, entry := 0, cycleNs := t, swapPend := false, copyBack := true }

/-- SLOT_CYCLE_START (R346, R348). -/
def execSlotCycleStart (table : Nat) (s : State) : Host.Outcome State Fault Refusal :=
  finish s (whileUp s fun s =>
    let x := s.slotTable table
    if ¬ s.cycling x then s
    else
      let t := s.nextCycle x
      let s := s.untilNs t.toNat
      if x.swapPend ∧ x.swapFrom ≤ t then s.switchSlots table t else s.setSlotTable table { x with entry := 0, cycleNs := t })

/-- SLOT_ENTRY_START (R346): an entry that has not started by the next cycle start is skipped. -/
def execSlotEntryStart (table : Nat) (s : State) : Host.Outcome State Fault Refusal :=
  finish s (whileUp s fun s =>
    let x := s.slotTable table
    let i := x.entry + 1
    let t := x.cycleNs + x.active.startOf i
    if ¬ s.cycling x ∨ x.active.length ≤ i ∨ s.nextCycle x ≤ t then s
    else (s.untilNs t.toNat).setSlotTable table { x with entry := i })

/-- SLOT_SWAP_SWITCH (R348): the committed swap takes effect. -/
def execSlotSwapSwitch (table : Nat) (s : State) : Host.Outcome State Fault Refusal :=
  finish s (whileUp s fun s =>
    let x := s.slotTable table
    if ¬ x.swapPend ∨ ¬ (x.active.gen = 0 ∨ s.cycling x) then s
    else
      let t := s.swapInstant x
      (s.untilNs t.toNat).switchSlots table t)

/-- SLOT_COPY_BACK_DONE (R348). -/
def execSlotCopyBackDone (table : Nat) (s : State) : Host.Outcome State Fault Refusal :=
  finish s (whileUp s fun s =>
    let x := s.slotTable table
    if x.copyBack then s.setSlotTable table { x.setStandby x.active with copyBack := false } else s)

/-- DEFERRED_SLOT_WRITE (R349): the writes whose entry waited for is no longer busy are made. -/
def execDeferredSlotWrite (table : Nat) (s : State) : Host.Outcome State Fault Refusal :=
  finish s (whileFw s fun s =>
    let x := s.slotTable table
    let (wait, now) := x.deferred.partition (fun d => s.slotBusy (s.slotAt table) d.1)
    let c := now.foldl (fun (c : SlotCopy) d => c.write d.2.1 [d.2.2]) x.active
    s.setSlotTable table { x.setActive c with deferred := wait })

end Sys2Proof.Machine
end

