-- ==== Sys2Proof/Machine/Transport.lean ====
section
/-! DEFINITION. The transports of command packets and the streams (R41 to R66): queue pairs, the SPI slave, the start of
commands and their way to other devices. -/

namespace Sys2Proof.Machine

/-! ## Receiving a packet -/

/-- The fields of a request header (Table 2.1). -/
structure Header where
  version : Nat
  cls : Nat
  op : Nat
  plen : Nat
  q : Request
deriving DecidableEq, Repr

/-- Read a packet's header and parameter words. -/
def parsePacket (stream : StreamId) (p : List Byte) : Header :=
  let at_ (i k : Nat) := ofBytesLE ((p.drop i).take k)
  let plen := at_ 8 2
  { version := at_ 0 1, cls := at_ 1 1, op := at_ 2 2, plen := plen
    q := { stream := stream, tag := w32 (at_ 4 4), flags := BitVec.ofNat 16 (at_ 10 2)
           target := BitVec.ofNat 16 (at_ 12 2), words := wordsOf (min plen ((p.length - 16) / 4)) (p.drop 16) } }

/-- An in-band stream's record. -/
def State.inbandStream (s : State) (st : StreamId) : Option InbandStream :=
  match st with
  | .inband port src vid => s.cmdq.inband.find? (fun i => i.port == port && i.src == src && i.vid == vid)
  | _ => none

/-- Checks 1 to 6 of R40 on a packet of `len` bytes (Table 2.6); 0 when they pass. -/
def packetChecks (h : Header) (len : Nat) : Nat :=
  if h.version ≠ 3 then St.badVersion
  else if ¬ classAssigned h.cls then St.badClass
  else if ¬ (opAssigned h.op ∧ classOf h.op = h.cls) then St.badOpcode
  else if 16 + 4 * maxWords h.q.stream < len then St.tooLarge
  else if len ≠ 16 + 4 * h.plen ∨ ¬ plenOk h.op h.plen (maxWords h.q.stream) then St.badLength
  else envelope h.cls h.q

/-- Check 7 of R40: what in-band streams may send (R69, Table 2.11). -/
def State.transportCheck (s : State) (h : Header) : Nat :=
  match h.q.stream with
  | .inband _ _ _ =>
    if h.cls = 15 then St.sealedTransport else if s.rb Reg.cmdqCtrl (16 + h.cls) then 0 else St.classDisabled
  | _ => 0

/-- Check 9 of R40: a 33rd in-band source (R59). -/
def State.streamCheck (s : State) (st : StreamId) : Nat :=
  match st with
  | .inband _ _ _ => if (s.inbandStream st).isNone ∧ 32 ≤ s.cmdq.inband.length then St.noStream else 0
  | _ => 0

/-- A request that fails a check of the receiving device has no effect but its reply, or its count and event. -/
def State.reject (s : State) (h : Header) (buf : Option SqBuf) (vtag : Option Nat) (status : Nat) : State :=
  let s := s.sealedCount status
  if h.q.noReply then s.noReplyFail h.op h.q status
  else s.toStream 0 h.cls h.op h.q buf vtag false status false true []

/-- Put a request into its stream (R60, R62). -/
def State.acceptCmd (s : State) (op : Nat) (q : Request) (buf : Option SqBuf) (vtag : Option Nat) : State :=
  { s with cmdq := { s.cmdq with
      cmds := s.cmdq.cmds ++ [Cmd.fresh s.cmdq.nextId op q buf vtag], nextId := s.cmdq.nextId + 1 } }

/-- Open or refresh an in-band stream (R59). -/
def State.touchStream (s : State) (st : StreamId) : State :=
  match st with
  | .inband port src vid =>
    let now := s.clk.age
    if (s.inbandStream st).isSome then
      { s with cmdq := { s.cmdq with inband := s.cmdq.inband.map (fun i =>
          if i.port = port ∧ i.src = src ∧ i.vid = vid then { i with lastReq := now } else i) } }
    else { s with cmdq := { s.cmdq with inband := s.cmdq.inband ++ [⟨port, src, vid, now, []⟩] } }
  | _ => s

/-- The reply that an in-band stream kept for a tag (R59). -/
def State.keptReply (s : State) (q : Request) : Option (List Byte) :=
  (s.inbandStream q.stream).bind (fun i => (i.kept.find? (fun k => k.1 == q.tag)).map (·.2))

/-- Send a kept reply once more. -/
def State.resendKept (s : State) (q : Request) (vtag : Option Nat) (p : List Byte) : State :=
  match q.stream with
  | .inband port src _ => s.queueOwn port (s.ethPort port).defTc (inbandFrame s src.toNat vtag p)
  | _ => s

/-- Commands of a stream that have been accepted and not started. -/
def State.unstarted (s : State) (st : StreamId) : Nat :=
  (s.cmdq.cmds.filter (fun c => c.q.stream == st && c.phase == .accepted)).length

/-- The checks of R40 at the receiving device, in order, and the packet's acceptance. A packet of fewer than 16 bytes is
not one of these (R41). -/
def State.receive (s : State) (stream : StreamId) (buf : Option SqBuf) (vtag : Option Nat) (len : Nat) (p : List Byte) :
    State :=
  let h := parsePacket stream p
  let c := packetChecks h len
  let t := s.transportCheck h
  let n := s.streamCheck stream
  if c ≠ 0 then s.reject h buf vtag c
  else if t ≠ 0 then s.reject h buf vtag t
  else match s.keptReply h.q with
    | some k => (s.touchStream stream).resendKept h.q vtag k
    | none =>
      if (s.cmdOf h.q).isSome then s.reject h buf vtag St.tagInUse
      else if n ≠ 0 then s.reject h buf vtag n
      else (s.touchStream stream).acceptCmd h.op h.q buf vtag

/-! ## Queue pairs (R46 to R53) -/

/-- A write of the SQ tail doorbell (R47, R50). Doorbells of a pair that is not enabled are ignored.
DESIGN CHOICE: log entry 19. DEDUCED: log entry 21. -/
def execSqTailDoorbell (pair : Fin 16) (v : Word) (s : State) : Host.Outcome State Fault Refusal :=
  finish s (whileUp s fun s =>
    let s := s.rouse
    let p := s.pair pair
    if ¬ p.run then s
    else if 2 ^ p.sqLog2 ≤ v.toNat then
      s.setPair pair { p with run := false, doorbellErr := true }
    else s.setPair pair { p with sqTail := v.toNat })

/-- A write of the CQ head doorbell (R49, R50). -/
def execCqHeadDoorbell (pair : Fin 16) (v : Word) (s : State) : Host.Outcome State Fault Refusal :=
  finish s (whileUp s fun s =>
    let s := s.rouse
    let p := s.pair pair
    if ¬ (p.run ∨ p.stopping ∨ p.doorbellErr) then s
    else if 2 ^ p.cqLog2 ≤ v.toNat then s.setPair pair { p with run := false, doorbellErr := true }
    else s.setPair pair { p with cqHead := v.toNat })

/-- A write of CMDQ_Qn_CFG. ENABLE from 0 to 1 latches the bases and sizes and starts the pair, or stops it on a bad
size (R51, R53); ENABLE 0 stops it (R52). Positions in queues of new sizes start at 0.
DESIGN CHOICE: log entries 20 and 200. -/
def State.writeCfg (s : State) (pair : Nat) (v : Word) : State :=
  let old := s.rb (Reg.cmdqQCfg pair) 31
  let s := s.wr (Reg.cmdqQCfg pair) (merge 0 v 0x80003FFF)
  let p := s.pair pair
  let sq := fld v 0 4
  let cq := fld v 4 4
  if bit v 31 ∧ ¬ old then
    if ¬ s.rb Reg.cmdqCtrl 0 then s
    else if sq = 0 ∨ 12 < sq ∨ cq = 0 ∨ 12 < cq then
      s.setPair pair { p with run := false, stopping := false, stopped := true, doorbellErr := true }
    else
      let p := if p.sqLog2 = sq ∧ p.cqLog2 = cq then p
        else { p with sqHead := 0, sqTail := 0, cqHead := 0, cqTail := 0, phase := true }
      s.setPair pair { p with
      run := true, stopping := false, stopped := false, doorbellErr := false
      sqBase := s.rd64 (Reg.cmdqQSqBaseLo pair), cqBase := s.rd64 (Reg.cmdqQCqBaseLo pair), sqLog2 := sq, cqLog2 := cq }
  else if ¬ bit v 31 then
    (s.setPair pair { p with run := false, stopping := true, stopped := false, doorbellErr := false }).pairSettle pair
  else s

/-- CMDQ_Qn_CFG.ENABLE is written 1. -/
def execQueuePairEnable (pair : Fin 16) (v : Word) (s : State) : Host.Outcome State Fault Refusal :=
  finish s (whileUp s fun s => s.writeCfg pair v)

/-- CMDQ_Qn_CFG.ENABLE is written 0. -/
def execQueuePairDisable (pair : Fin 16) (v : Word) (s : State) : Host.Outcome State Fault Refusal :=
  finish s (whileUp s fun s => s.writeCfg pair v)

/-- CMDQ_Qn_RESET (R52): every completion not yet posted is discarded, those of running commands included. The doorbell
values and the phase start over with SQ head and CQ tail. Commands whose final reply has been discarded are no longer outstanding. -/
def State.resetPair (s : State) (pair : Nat) : State :=
  let p := s.pair pair
  let s := s.setPair pair { p with
    run := false, stopping := false, stopped := true, sqHead := 0, sqTail := 0, cqHead := 0, cqTail := 0, phase := true,
    held := [] }
  let own (c : Cmd) : Bool := decide (∃ k, c.q.stream = .pcie k ∧ k.val = pair)
  { s with cmdq := { s.cmdq with
      cmds := (s.cmdq.cmds.filter (fun c => !(own c && c.phase == .replied))).map (fun c =>
        if own c then { c with mute := true } else c) } }

/-- A write of 1 to CMDQ_Qn_RESET. -/
def execQueuePairReset (pair : Fin 16) (s : State) : Host.Outcome State Fault Refusal :=
  finish s (whileUp s fun s => s.resetPair pair)

/-- Free slots of a completion queue, counted from the last head doorbell (R47). -/
def QPair.cqFree (p : QPair) : Nat := 2 ^ p.cqLog2 - (p.cqTail + 2 ^ p.cqLog2 - p.cqHead) % 2 ^ p.cqLog2

/-- The device may fetch from a pair (R44, R47). A boot ROM in recovery serves pair 0 alone (R508). -/
def State.mayFetch (s : State) (pair : Nat) : Bool :=
  let p := s.pair pair
  p.run && s.rb Reg.cmdqCtrl 0 && s.pwr.fwReady && p.sqHead != p.sqTail && decide (s.runningCmds < 64) &&
    decide (2 ≤ p.cqFree) && decide (p.held = []) && (!s.pwr.recovery || pair == 0)

/-- A submission queue entry from its 32 bytes (Table 2.9). -/
def SqEntry.ofBytes (b : List Byte) : SqEntry :=
  let at_ (i k : Nat) := ofBytesLE ((b.drop i).take k)
  { reqAddr := BitVec.ofNat 64 (at_ 0 8), reqLen := w32 (at_ 8 4), bufAddr := BitVec.ofNat 64 (at_ 16 8), bufLen := w32 (at_ 24 4) }

/-- The host address of the submission entry that the device fetches next (Table 2.9). -/
def QPair.sqAddr (p : QPair) : Nat := p.sqBase + 32 * p.sqHead

/-- The 16 bytes of a completion queue entry (Table 2.9). -/
def completionBytes (tag : Word) (status sqHead replyLen index : Nat) (phase trunc : Bool) : List Byte :=
  bytesLE 4 tag.toNat ++ bytesLE 2 status ++ bytesLE 2 sqHead ++ bytesLE 4 replyLen ++ bytesLE 2 index ++
    [BitVec.ofNat 8 (b2n phase + 2 * b2n trunc), 0]

/-- The device fetches a submission entry and its packet, and checks the request (R40, R41, R46, R47). `entry` is what host memory
holds at the entry's address, `packet` what it holds at the request address; the two reads are the last of `OutSt.fetches`.
DESIGN CHOICE: log entry 16. -/
def execSubmissionFetch (pair : Fin 16) (entry : List Byte) (packet : List Byte) (s : State) :
    Host.Outcome State Fault Refusal :=
  finish s (whileUp s fun s =>
    if ¬ s.mayFetch pair then s
    else
      let p := s.pair pair
      let e := SqEntry.ofBytes entry
      let buf : SqBuf := ⟨p.sqHead, e.bufAddr, e.bufLen.toNat⟩
      let s := s.setPair pair { p with sqHead := (p.sqHead + 1) % 2 ^ p.sqLog2 }
      let s : State := { s with out := { s.out with fetches := s.out.fetches ++ [(p.sqAddr, 32), (e.reqAddr.toNat, e.reqLen.toNat)] } }
      if e.reqLen.toNat < 16 ∨ packet.length < 16 then
        let s := s.cnt Reg.cmdqMalformedCount 1
        let q := s.pair pair
        s.setPair pair { q with held := q.held ++ [⟨0, 0, St.badLength, some buf, false, true, []⟩] }
      else s.receive (.pcie pair) (some buf) none e.reqLen.toNat packet)

/-- The reply that has been posted was the command's last one: the command is no longer outstanding (R61, R62). -/
def State.repliesSent (s : State) (pair : Nat) (id : Nat) : State :=
  if (s.pair pair).held.any (fun r => r.cmd == id) then s
  else { s with cmdq := { s.cmdq with cmds := s.cmdq.cmds.filter (fun c => !(c.id == id && c.phase == .replied)) } }

/-- The oldest reply of a pair is written to its buffer and its completion posted, once the completion queue has room
(R48, R49).
DESIGN CHOICE: log entry 202. -/
def State.postNext (s : State) (pair : Fin 16) : State :=
  let p := s.pair pair
  match p.held with
  | [] => s
  | r :: rest =>
    if p.cqFree < 2 then s
    else
      let vec := s.rf (Reg.cmdqQCfg pair) 8 6
      let c : PostedCompletion := {
        bytes := completionBytes r.tag r.status p.sqHead r.packet.length (r.buf.elim 0 (·.index)) p.phase r.trunc
        pair := pair, slot := p.cqTail, addr := p.cqBase + 16 * p.cqTail, tag := r.tag, status := r.status, sqHead := p.sqHead, replyLen := r.packet.length
        index := r.buf.elim 0 (·.index), phase := p.phase, trunc := r.trunc, vector := vec
        bufAddr := r.buf.elim 0 (·.addr), packet := r.packet }
      let last := decide (p.cqTail + 1 = 2 ^ p.cqLog2)
      let s := s.setPair pair { p with
        held := rest, cqTail := (p.cqTail + 1) % 2 ^ p.cqLog2, phase := p.phase != last }
      let s := if r.final then s.cnt (Reg.cmdqQDoneCount pair) 1 else s
      let s := { s with out := { s.out with completions := s.out.completions ++ [c], msi := s.out.msi ++ [vec] } }
      (if r.final then s.repliesSent pair r.cmd else s).pairSettle pair

/-- COMPLETION_POST. -/
def execCompletionPost (pair : Fin 16) (s : State) : Host.Outcome State Fault Refusal :=
  finish s (whileUp s fun s => s.postNext pair)

/-! ## The SPI slave (R54, R55) -/

/-- The SPI slave answers: VAON is present and the device is not in Fallow. -/
def State.spiUp (s : State) : Bool := !s.pwr.holdVaon && s.pwr.state != .fallow

/-- HEATH_ONLY: only the Heath path answers. -/
def State.heathOnly (s : State) : Bool := !s.coreUp

/-- A full reply of 4,096 bytes can be stored in the reply buffer of 16 KiB. -/
def State.spiRoom (s : State) : Bool :=
  decide ((s.cmdq.spiReplies.foldl (fun n r => n + r.length) 0) + 4096 ≤ 16384)

/-- CMD_READY (R42, R44, R55, Table 2.11). -/
def State.cmdReady (s : State) : Bool :=
  s.coreUp && s.pwr.fwReady && s.rb Reg.cmdqCtrl 1 && decide (s.runningCmds < 64) && s.spiRoom

/-- A CMD_WRITE transaction (R41, R55). -/
def execCmdWrite (bytes : List Byte) (s : State) : Host.Outcome State Fault Refusal :=
  finish s (whileUp s fun s =>
    let s := s.rouse
    if ¬ s.cmdReady then
      let s := s.cnt Reg.cmdqSpiOverflowCount 1
      { s with cmdq := { s.cmdq with spiOverflow := true } }
    else if bytes.length < 16 then s.cnt Reg.cmdqMalformedCount 1
    else s.receive .spi none none bytes.length bytes)

/-- A REPLY_READ transaction that clocks out `n` bytes (R55).
PRESUMED: log entry 23. -/
def execReplyRead (n : Nat) (s : State) : Host.Outcome State Fault Refusal :=
  finish s (whileUp s fun s =>
    match s.cmdq.spiReplies with
    | [] => { s with out := { s.out with spi := ([0, 0] : List Byte).take n } }
    | r :: rest =>
      let s' := { s with out := { s.out with spi := (bytesLE 2 r.length ++ r).take n } }
      if 2 + r.length ≤ n then { s' with cmdq := { s'.cmdq with spiReplies := rest } } else s')

/-- The status byte (Table 2.12). -/
def State.spiStatus (s : State) : Byte :=
  BitVec.ofNat 8 (b2n s.cmdReady + 2 * b2n (s.coreUp && !s.cmdq.spiReplies.isEmpty) + 4 * b2n s.cmdq.spiOverflow +
    8 * b2n s.heathOnly + 16 * b2n (s.coreUp && s.pwr.fwReady))

/-- A STATUS_READ transaction; OVERFLOW clears once its byte has been read (R55). -/
def execStatusRead (s : State) : Host.Outcome State Fault Refusal :=
  finish s (if s.spiUp then { s with out := { s.out with spi := [s.spiStatus] }, cmdq := { s.cmdq with spiOverflow := false } }
    else s)

/-! ## Starting commands (R60 to R66) -/

/-- The glue-up IDs that a command names in its parameters (R61). -/
def glueNames (op : Nat) (ws : List Word) : List Nat :=
  let w0 := wd ws 0
  if op = Op.glueClamp then ws.map (fun w => fld w 0 8)
  else if op = Op.glueAbort ∨ op = Op.glueStatus then [fld w0 0 8]
  else if op = Op.glueOpen then [fld w0 0 8]
  else if op = Op.entryWrite ∨ op = Op.exactInsert ∨ op = Op.exactDelete ∨ op = Op.policerWrite ∨ op = Op.mcastGroupWrite ∨
      op = Op.slotWrite ∨ op = Op.slotSwap then [fld w0 8 8]
  else []

/-- The command waits for an earlier one of its stream (R61). -/
def heldBack (before : List Cmd) (c : Cmd) : Bool :=
  let bar (d : Cmd) := d.q.ordered || classOf d.op == 15
  let mine := (glueNames c.op c.q.words).filter (· != 0)
  let e := before.filter (fun d => d.q.stream == c.q.stream)
  (bar c && !e.isEmpty) || e.any bar || e.any (fun d => (glueNames d.op d.q.words).any (fun g => mine.contains g))

/-- A sealed command has started and is not final (R382). -/
def State.sealedRunning (s : State) : Bool :=
  s.cmdq.cmds.any (fun c => classOf c.op == 15 && (c.phase == .running || c.phase == .pending))

/-- The commands accepted before this one. -/
def State.before (s : State) (c : Cmd) : List Cmd := s.cmdq.cmds.takeWhile (fun d => d.id != c.id)

/-- An accepted command that nothing blocks (R42, R44, R55, R61, R382). -/
def State.freeToStart (s : State) (c : Cmd) : Bool :=
  c.phase == .accepted && s.pwr.fwReady && decide (s.runningCmds < 64) && !(heldBack (s.before c) c) &&
    !(classOf c.op == 15 && s.sealedRunning) && (c.q.stream != .spi || s.spiRoom)

/-- An accepted command may start: it is free to, and no command of its stream that is free to start was submitted before it (R60). -/
def State.mayStart (s : State) (c : Cmd) : Bool :=
  s.freeToStart c && (s.before c).all (fun d => d.q.stream != c.q.stream || !s.freeToStart d)

/-- A message that arrives on D0 of a root device is discarded (R250). -/
def State.deafOn (s : State) (l : LinkId) : Bool := s.fab.joined && s.fab.level == 0 && l == .d0

/-- This device has a partner that has not missed three heartbeats (Table 2.6, PARTNER_ABSENT). -/
def State.partnerPresent (s : State) : Bool := s.twin.formed && !s.twin.lost && s.twin.linkUp

/-- Send a command on to `dest` for the record `c` (R63 to R65). -/
def State.sendOn (s : State) (c : Cmd) (dest src : Nat) : State :=
  s.sendTo dest (.command ⟨c.id, src, dest, maxWords c.q.stream, c.op, c.q.tag, c.q.flags, c.q.target, c.q.words⟩)

/-- A command starts at this device, its target: a sealed one only while the presence window is open (R67). -/
def State.runHere (s : State) (c : Cmd) : State :=
  if s.sealedRefused c.op then s.reply c.op c.q St.presenceRequired []
  else s.updCmd c.id (fun c => { c with phase := .running, side := c.q.side == 2 && s.isFollow })

/-- Deliver a command to this device, to its partner, or to both, as TARGET.SIDE says (R63, R66). -/
def State.deliverSide (s : State) (c : Cmd) : State :=
  let now := s.clk.age
  if c.q.side = 0 then s.runHere c
  else if ¬ s.partnerPresent then s.reply c.op c.q St.partnerAbsent []
  else if c.q.side = 1 then
    (s.updCmd c.id (fun c => { c with phase := .forwarded, sentAt := now, away := [false] })).sendOn c 1024 1024
  else
    (s.updCmd c.id (fun c =>
      { c with phase := .running, side := s.isFollow, sentAt := now, finals := 2, away := [!s.isFollow] })).sendOn c 1024 1024

/-- The stream is a command sent on to this device. -/
def StreamId.isEntry : StreamId → Bool
  | .entry _ _ _ => true
  | _ => false

/-- The stream is a command that the partner has sent over the mitre link: it is executed here. -/
def StreamId.fromPartner : StreamId → Bool
  | .entry src _ _ => src == 1024
  | _ => false

/-- The start of a command (R61, R63).
DESIGN CHOICE: log entry 24. -/
def State.startCmd (s : State) (c : Cmd) : State :=
  let now := s.clk.age
  if c.q.stream.fromPartner then s.runHere c
  else if ¬ c.q.fwd ∨ c.q.stream.isEntry then s.deliverSide c
  else if ¬ s.fab.joined then s.reply c.op c.q St.notInFabric []
  else if c.q.addr = s.ownAddr then s.deliverSide c
  else match s.route c.q.addr with
    | none => s.reply c.op c.q St.fabricNodeAbsent []
    | some _ =>
      (s.updCmd c.id (fun c => { c with
        phase := .forwarded, sentAt := now, finals := if c.q.side = 2 then 2 else 1
        away := if c.q.side = 2 then [false, true] else [false] })).sendOn c c.q.addr s.ownAddr

/-- An accepted command starts once R61 and the limits allow it.
DESIGN CHOICE: log entry 28. -/
def execCommandStart (id : Nat) (s : State) : Host.Outcome State Fault Refusal :=
  finish s (whileUp s fun s =>
    match s.cmdq.cmds.find? (fun c => c.id == id) with
    | none => s
    | some c => if s.mayStart c then s.startCmd c else s)

/-- A command sent on arrives (R63, R64): at a device on its way it goes on; at its target it is taken and, where the
limits allow, started at once. `auth` says that the message's tag, or its lack of one, agrees with the fabric key here; one
that does not is discarded (R395).
DESIGN CHOICE: log entry 29. -/
def execForwardedCommand (link : LinkId) (auth : Bool) (c : FwdCommand) (s : State) : Host.Outcome State Fault Refusal :=
  finish s (whileUp s fun s =>
    if s.deafOn link then s else
    if ¬ auth then s.cnt Reg.secFabricAuthFailCount 1 else
    let here := decide (c.dest = 1024 ∧ link = .mitre) || (s.fab.joined && c.dest == s.ownAddr)
    if ¬ here then
      match s.route c.dest with
      | some _ => s.sendTo c.dest (.command c)
      | none => s.sendTo c.src (.reply ⟨c.ref, c.src, c.op, St.fabricNodeAbsent, false, []⟩)
    else if ¬ s.pwr.fwReady then s
    else
      let q : Request := ⟨.entry (if c.dest = 1024 then 1024 else c.src) c.ref c.limit, c.tag, c.flags, c.target, c.words⟩
      let id := s.cmdq.nextId
      let s := s.rouse.acceptCmd c.op q none none
      match s.cmdq.cmds.find? (fun d => d.id == id) with
      | none => s
      | some d => if s.mayStart d then s.startCmd d else s)

/-- A reply to a command sent on arrives (R65): on the way it goes on; at the device that sent the command it is
delivered, or discarded and counted if it is late.
DESIGN CHOICE: log entry 204. -/
def execForwardedReply (link : LinkId) (r : FwdReply) (s : State) : Host.Outcome State Fault Refusal :=
  finish s (whileUp s fun s =>
    if s.deafOn link then s else
    let here := decide (r.dest = 1024 ∧ link = .mitre) || (s.fab.joined && r.dest == s.ownAddr)
    if ¬ here then s.sendTo r.dest (.reply r)
    else match s.cmdq.cmds.find? (fun c => c.id == r.ref && !c.away.isEmpty) with
      | none =>
        if s.cmdq.late.contains r.ref ∧ r.status ≠ St.pending then
          let s := s.cnt Reg.cmdqLateReplyCount 1
          { s with cmdq := { s.cmdq with late := s.cmdq.late.erase r.ref } }
        else s
      | some c =>
        if r.status = St.pending then
          if c.q.noReply then s
          else s.toStream c.id (classOf c.op) c.op c.q c.buf c.vtag c.mute St.pending r.side false []
        else
          let s := s.updCmd c.id (fun c => { c with away := dropFirst (fun b => b == r.side || c.away.length == 1) c.away })
          s.replyFrom c.op c.q r.status r.side r.payload)

/-- The final replies still away when CMDQ_FWD_TIMEOUT has passed since the command was sent on (R65).
DESIGN CHOICE: log entry 201. -/
def execFabricNoReply (id : Nat) (s : State) : Host.Outcome State Fault Refusal :=
  finish s (whileUp s fun s =>
    match s.cmdq.cmds.find? (fun c => c.id == id && !c.away.isEmpty) with
    | none => s
    | some c =>
      let ms := max 1 (s.rf Reg.cmdqFwdTimeout 0 16)
      let s := s.until (c.sentAt + ms * msC)
      let s := s.updCmd id (fun c => { c with away := [] })
      let s := { s with cmdq := { s.cmdq with late := s.cmdq.late ++ List.replicate c.away.length id } }
      match c.q.stream with
      | .entry _ _ _ => c.away.foldl (fun s _ => s.closeCmd c.q) s
      | _ => c.away.foldl (fun s side => s.replyFrom c.op c.q St.fabricNoReply side []) s)

/-- An in-band stream ends 10 s after its last request (R59). -/
def execInbandStreamEnd (port : Fin 32) (src : BitVec 48) (vid : BitVec 12) (s : State) :
    Host.Outcome State Fault Refusal :=
  finish s (whileUp s fun s =>
    match s.inbandStream (.inband port src vid) with
    | none => s
    | some i =>
      let s := s.until (i.lastReq + 10 * secC)
      { s with cmdq := { s.cmdq with inband := s.cmdq.inband.filter (fun j =>
          !(j.port == port && j.src == src && j.vid == vid)) } })

/-! ## IDENTIFY and ECHO (R70, R71) -/

/-- The seven words of IDENTIFY (Table 2.13).
DESIGN CHOICE: log entry 205. -/
def State.identify (s : State) (q : Request) : List Word :=
  let role := match s.twin.config with | none => 0 | some f => if f then 2 else 1
  let version := if s.pwr.recovery then 0 else fld s.upd.running.version 0 24
  [ w32 0x00118432,
    w32 (version + b2n s.upd.bank * 2 ^ 24 + b2n s.upd.onTrial * 2 ^ 25),
    w32 (s.ownAddr + role * 2 ^ 10 + b2n s.fab.joined * 2 ^ 12 + b2n s.twin.diverged * 2 ^ 13),
    w32 (s.lifeCycle + b2n s.presence * 2 ^ 4 + b2n (!s.heath.sealOpen) * 2 ^ 5 + b2n s.heath.tampPresent * 2 ^ 6),
    w32 (maxWords q.stream),
    w32 Config.serial.toNat, w32 (Config.serial.toNat / 2 ^ 32) ]

/-- IDENTIFY. -/
def execIdentify (q : Request) (s : State) : Host.Outcome State Fault Refusal :=
  finish s (runCmd Op.identify q (fun s q => (s, .final St.ok (s.identify q))) s)

/-- ECHO. -/
def execEcho (q : Request) (s : State) : Host.Outcome State Fault Refusal :=
  finish s (runCmd Op.echo q (fun s q => (s, .final St.ok q.words)) s)

/-- EVENT_POP (R452). -/
def State.eventPop (s : State) (q : Request) : State × CmdEnd :=
  let n := q.f 0 0 6
  if n = 0 ∨ 32 < n ∨ q.stray 0 0x3F then (s, fin 0x01B0)
  else
    let out := s.evt.q.take n
    let rest := s.evt.q.drop n
    ({ s with evt := { s.evt with q := rest } },
      .final St.ok (w32 (out.length + rest.length * 2 ^ 16) :: out.flatMap (fun e => [e.w0, e.w1, e.a, e.b])))

/-- EVENT_POP. -/
def execEventPop (q : Request) (s : State) : Host.Outcome State Fault Refusal :=
  finish s (runCmd Op.eventPop q State.eventPop s)

end Sys2Proof.Machine
end

