-- ==== Sys2Proof/Machine/Frames.lean ====
section
/-! DEFINITION. Frames on their way through the device (R286 to R291, R298 to R300, R304 to R306): reception and
stamping, dispatch to a lane, the issue of searches, and how a frame and its copies end. -/

namespace Sys2Proof.Machine

/-! ## Frames and copies -/

/-- Store a frame over its record. -/
def State.setFrame (s : State) (f : Frame) : State :=
  { s with sw := { s.sw with frames := s.sw.frames.map (fun g => if g.num = f.num then f else g) } }

/-- Store the copies. -/
def State.setCopies (s : State) (cs : List Copy) : State := { s with sw := { s.sw with copies := cs } }

/-- The copies of a frame. -/
def State.copiesFor (s : State) (n : Nat) : List Copy := s.sw.copies.filter (fun c => c.frame == n)

/-- Count a frame or copy of `len` bytes at a port: received at offset 0x100, sent at 0x110 (Tables 9.10 and 10.6). -/
def State.countRx (s : State) (i len : Nat) : State :=
  if i < 64 then (s.cnt64 (portBase i + 0x100) 1).cnt64 (portBase i + 0x108) len
  else
    let c := s.chan (i - 64)
    (s.cnt (portBase i + 0x100) 1).setChan (i - 64) { c with rxBytes := min (2 ^ 64 - 1) (c.rxBytes + len) }

/-- Count a copy sent. -/
def State.countTx (s : State) (i len : Nat) : State :=
  if i < 64 then (s.cnt64 (portBase i + 0x110) 1).cnt64 (portBase i + 0x118) len
  else
    let c := s.chan (i - 64)
    (s.cnt (portBase i + 0x104) 1).setChan (i - 64) { c with txBytes := min (2 ^ 64 - 1) (c.txBytes + len) }

/-- PARTIAL_DELIVERY (R306). -/
def State.partialDelivery (s : State) (f : Frame) (group : Nat) : State :=
  let first := f.drops.headD (0, 0)
  (s.cnt Reg.switchPartialCount 1).eventSup 0x09 0x01 0
    (w32 (group + f.ingress * 2 ^ 12 + f.sent * 2 ^ 19 + first.2 * 2 ^ 26))
    (w32 (f.seq + f.drops.length * 2 ^ 18 + first.1 * 2 ^ 25)) [group] Reg.switchEventSuppressCount

/-- A decided frame whose last copy is finished leaves the device (R305, R306). -/
def State.endFrame (s : State) (n : Nat) : State :=
  match s.frame n with
  | none => s
  | some f =>
    if f.stage ≠ .decided ∨ ¬ (s.copiesFor n).isEmpty then s
    else
      let s : State := { s with sw := { s.sw with frames := s.sw.frames.filter (fun g => g.num != n) } }
      match f.group with
      | some g => if f.gi ∧ ¬ f.drops.isEmpty then s.partialDelivery f g else s
      | none => s

/-- Take a copy out of its queue and release its cells. -/
def State.takeCopyOut (s : State) (c : Copy) : State :=
  (s.setCopies (s.sw.copies.erase c)).uncharge (queueHolder c.port c.queue) c.cells

/-- Drop a copy for a reason at its egress port (R305). -/
def State.dropCopy (s : State) (c : Copy) (reason : Nat) : State :=
  let s := (s.takeCopyOut c).drop c.port reason
  match s.frame c.frame with
  | none => s
  | some f => (s.setFrame { f with drops := f.drops ++ [(c.port, reason)] }).endFrame f.num

/-- A frame that is not decided is dropped for a reason at its ingress: its searches end and its cells are released
(R295, R300, R308). -/
def State.dropFrame (s : State) (f : Frame) (reason : Nat) : State :=
  let s := (s.drop f.ingress reason).uncharge (ingHolder f.ingress) f.cells
  { s with
    sw := { s.sw with frames := s.sw.frames.filter (fun g => g.num != f.num) }
    tern := { s.tern with searches := s.tern.searches.filter (fun x => x.frame != f.num || x.lane == 8) }
    pwr := { s.pwr with laneIdle := smSet 0 s.pwr.laneIdle f.lane s.clk.age } }

/-- Drop late a frame that is not decided (R308). -/
def State.lateFrame (s : State) (f : Frame) : State := (s.cnt Reg.switchLateDropCount 1).dropFrame f 11

/-- The deadline of a frame has come (R308). -/
def State.overdue (s : State) (f : Frame) : Bool := decide (f.deadline ≤ s.clk.age)

/-! ## Lanes (R288, R479) -/

/-- A lane is powered. -/
def State.laneOn (s : State) (l : Nat) : Bool := nfld s.pwr.lanes l 1 == 1

/-- Frames in process in a lane. -/
def State.laneLoad (s : State) (l : Nat) : Nat :=
  (s.sw.frames.filter (fun f => f.lane == l && f.stage != .decided)).length

/-- The powered lane that holds the fewest frames, the lowest among equals (R288).
DESIGN CHOICE: log entry 117. -/
def State.pickLane (s : State) : Nat :=
  let on := (List.range 8).filter s.laneOn
  on.foldl (fun b l => if s.laneLoad l < s.laneLoad b then l else b) (on.headD 0)

/-- Ungate a lane while every powered lane holds four or more frames (R479). -/
def State.ungateFor (s : State) : State :=
  let on := (List.range 8).filter s.laneOn
  if s.pwr.ungating.isEmpty ∧ on.all (fun l => decide (4 ≤ s.laneLoad l)) then
    match (List.range 8).find? (fun l => !s.laneOn l) with
    | none => s
    | some l =>
      let s := s.cnt Reg.powerLaneUngateCount 1
      { s with pwr := { s.pwr with ungating := [l], laneIdle := smSet 0 s.pwr.laneIdle l s.clk.age } }
  else s

/-! ## Issuing searches (R290, R96, R187) -/

/-- The role set's PROFILE of a role; none with EN 0. -/
def RoleSet.profile (r : RoleSet) (role : Nat) : Option Nat :=
  let b := if role < 4 then fld r.w3 (8 * role) 7 else fld r.w4 0 7
  if b < 64 then none else some (b - 64)

/-- The action entry of a role, when it contributed one. -/
def Frame.entry (f : Frame) (role : Nat) : Option (List Word) := (f.entries.getD role none)

/-- Where a frame is bound: the action entry that names its destination (Table 9.4). -/
def Frame.destEntry (f : Frame) : Option (List Word) :=
  match f.entry 0 with
  | some e => if fld (wd e 1) 0 2 ≠ 0 then some e else f.entry 1
  | none => f.entry 1

/-- The metadata vector of a frame in a wave (R94, R293). -/
def Frame.metadata (f : Frame) (wave : Nat) : Nat :=
  let egress := match f.destEntry with
    | some e => if wave = 1 ∧ fld (wd e 1) 0 2 = 1 then fld (wd e 1) 8 8 else 0xFF
    | none => 0xFF
  let cls := if wave = 1 then ((f.entry 0).map (fun e => fld (wd e 0) 16 16)).getD 0 else 0
  let chan := if f.kind = 0 then 0 else imageId f.bytes
  Sys2Proof.Machine.metadata (parseFrame f.kind f.bytes) f.ingress egress f.kind f.length chan cls f.portUser.toNat

/-- What a role result is before its search. -/
def roleRes0 : RoleRes := { out := false, hit := false, action := 0 }

/-- The lane of a frame issues the search of a role in its next free cycle (R19), or finds that there is none to issue. -/
def State.issueRole (s : State) (n role : Nat) : State :=
  match s.frame n with
  | none => s
  | some f =>
    match f.roles.profile role with
    | none => s
    | some p =>
      let pr := s.profile p f.epoch
      if pr.wave ≠ waveOf role then s.cnt Reg.switchRoleWaveCount 1
      else if pr.table = 0 then s
      else
        let tern := s.ternDesc pr.table f.epoch
        let ex := s.exDesc pr.table f.epoch
        if ¬ (tern.any (fun d => d.width == pr.width) ∨ ex.any (fun d => d.width == pr.width)) then
          s.cnt Reg.arrayNoTableCount 1
        else
          let key := pr.key (parseFrame f.kind f.bytes) f.bytes (f.metadata (waveOf role))
          let x : Search := { lane := f.lane, frame := n, role := role, profile := p, epoch := f.epoch, table := pr.table
                              exact := tern.isNone, key := BitVec.ofNat 640 key, width := pr.width, urgent := false
                              phase := .waiting, issued := s.clk.age, at_ := s.clk.age, replica := 0, port := 0, waited := false, starved := false, blocks := []
                              picks := [], res := none }
          let s := s.setFrame { f with results := setAt f.results role { roleRes0 with out := true } }
          s.issueSearch x

/-! ## Stamping (R287, R288) -/

/-- The frame budget in CCLK (Table 9.9). -/
def State.budget (s : State) : Nat := min 1000 (max 2 (s.rf Reg.switchBudget 0 10)) * usC

/-- Take the next sequence number of an ingress (R287). -/
def State.nextSeq (s : State) (i : Nat) : Nat × State :=
  if i < 64 then
    let p := s.ethPort i
    (p.seq, s.setEth i { p with seq := (p.seq + 1) % 2 ^ 18 })
  else
    let c := s.chan (i - 64)
    (c.seq, s.setChan (i - 64) { c with seq := (c.seq + 1) % 2 ^ 18 })

/-- The role set and the user value of an ingress. -/
def State.ingressRoles (s : State) (i : Nat) : RoleSet × Word :=
  if i < 64 then ((s.ethPort i).roles, (s.ethPort i).portUser) else ((s.chan (i - 64)).roles, (s.chan (i - 64)).portUser)

/-- The model's own number for the next frame: above those of the frames in the device.
DESIGN CHOICE: log entry 55. -/
def State.freshFrame (s : State) : Nat := s.sw.frames.foldl (fun n f => max n (f.num + 1)) s.sw.nextFrame

/-- Stamp an accepted frame, dispatch it to a lane and issue its first wave. Cells are charged already. `late` CCLK of its fixed time have
passed while it waited in a receive FIFO (R17, R475). -/
def State.acceptFrame (s : State) (i kind length cells : Nat) (bytes : List Byte) (rxAge rxNs late : Nat) : State :=
  let (seq, s) := s.nextSeq i
  let (roles, user) := s.ingressRoles i
  let n := s.freshFrame
  let f : Frame := { num := n, ingress := i, seq := seq, epoch := s.glue.c, deadline := s.clk.age + s.budget
                     relAt := s.clk.age + 660 - late, rxAge := rxAge, rxNs := rxNs, roles := roles, portUser := user, kind := kind
                     bytes := bytes, length := length, cells := cells, lane := s.pickLane, stage := .wave1
                     results := List.replicate 5 roleRes0, entries := List.replicate 5 none, actionErr := false
                     group := none, gi := false, sent := 0, drops := [], counted := true }
  let s : State := { s with sw := { s.sw with frames := s.sw.frames ++ [f], nextFrame := n + 1 } }
  let s := (s.countRx i length).ungateFor
  let s : State := { s with pwr := { s.pwr with laneIdle := smSet 0 s.pwr.laneIdle f.lane s.clk.age } }
  [0, 1, 2].foldl (fun s r => s.issueRole n r) s

/-- Admission to the buffer (R286, R299, R300) and the rest of the frame's acceptance. -/
def State.admitFrame (s : State) (i kind length : Nat) (bytes : List Byte) (rxAge rxNs late : Nat) : State :=
  match s.chargeFrom (ingHolder i) (cellsOf length) rxAge with
  | none => s.drop i 6
  | some s => s.acceptFrame i kind length (cellsOf length) bytes rxAge rxNs late

/-- Ingress is open: not closed by a standby entry (R473), by a resync (R273) or by the life cycle (Table 11.3). -/
def State.ingressOpen (s : State) : Bool := s.pwr.entry.isNone && !s.twin.ingressHeld && s.lifeCycle != 5

/-! ## Ethernet ingress (R56, R286, R339) -/

/-- The ports on which command frames are taken (Table 2.12). -/
def State.inbandPort (s : State) (n : Nat) : Bool := s.rb Reg.cmdqCtrl 2 && s.rb Reg.cmdqInbandPorts n

/-- A frame is a command frame on port En (R56). -/
def State.isCommandFrame (s : State) (n : Nat) (f : List Byte) : Bool :=
  let mac := bytesLE 4 (s.rd Reg.cmdqInbandMacLo).toNat ++ bytesLE 2 (s.rf Reg.cmdqInbandMacHi 0 16)
  s.inbandPort n && f.take 6 == mac && (behindEtype 0x88B5 f).isSome

/-- Take a command frame into its stream (R41, R44, R56, R57, R59). A boot ROM in recovery takes none (R508). `verified` says that MACsec verification has passed, or is not
configured, `asleep` that it has ended Doze (R476).
DESIGN CHOICE: log entry 210. -/
def State.takeCommand (s : State) (port : Fin 32) (f : List Byte) (verified asleep : Bool) : State :=
  match behindEtype 0x88B5 f with
  | none => s
  | some p =>
    if ¬ verified ∨ ¬ s.pwr.fwReady ∨ s.pwr.recovery then s.cnt Reg.cmdqInbandDropCount 1
    else if p.length < 16 then s.cnt Reg.cmdqMalformedCount 1
    else
    let tag := if half f 12 = 0x8100 then some (half f 14) else none
    let st : StreamId := .inband port (BitVec.ofNat 48 (ofBytesBE ((f.drop 6).take 6))) (BitVec.ofNat 12 (tag.getD 0))
    let want := 16 + 4 * ofBytesLE ((p.drop 8).take 2)
    let p := p.take want
    if 8 ≤ s.unstarted st then s.cnt Reg.cmdqInbandDropCount 1 else (if asleep then s.wakeFrom .doze 6 0 0 else s).receive st none tag p.length p

/-- The Ethertype of a frame: behind its tags where it carries any (R93, Table 3.6). -/
def etherType (f : List Byte) : Nat := (parseFrame 0 f).etype

/-- The receive time of a frame in CCLK (R16).
DEDUCED: log entry 108. -/
def rxCclk (length rate : Nat) : Nat := if rate = 0 then 0 else ceilDiv (length * 8 * 1250000000) rate

/-- How long a frame waits in the receive FIFO of its port: its first byte, `back` CCLK ago, has begun the exit from Doze, which takes 2 µs
(R475). -/
def State.fifoWait (s : State) (back : Nat) : Nat := if s.pwr.state = .doze then 2 * usC - back else 0

/-- The device time, in ns, of an instant some CCLK ago. -/
def State.nsAgo (s : State) (k : Nat) : Nat := (s.clk.dt - k * s.tickUnits) / dtUnit % 2 ^ 64

/-- The RS-FEC codewords that the PCS of a port in mode 2 counts (Table 9.10).
DESIGN CHOICE: log entry 220. -/
def State.countFec (s : State) (n : Nat) (f : EthFrame) : State :=
  if (s.ethPort n).mode = 2 then (s.cnt (portBase n + 0x120) f.fecCorr).cnt (portBase n + 0x124) f.fecUncorr else s

/-- A frame is received whole on En (R286). One that was being received as the port was flushed is discarded with FCS (R307). -/
def State.ethReceive (s : State) (port : Fin 32) (f : EthFrame) : State :=
  let n := port.val
  let p := s.ethPort n
  let len := f.bytes.length + 4
  let back := 140 + rxCclk len p.rate
  let s := s.countFec n f
  if p.downAt = some s.clk.age then s.drop n 1
  else if p.mode = 0 ∨ ¬ p.linkUp then s
  else if s.twin.ingressHeld then s.cnt Reg.mitreResyncDropCount 1
  else if s.pwr.entry.isSome then s.cnt Reg.powerEntryDropCount 1
  else if ¬ s.ingressOpen then s
  else
    let late := s.fifoWait back
    let asleep := s.pwr.state == .doze
    let s := s.leaveDozeIn late
    if len < 64 then s.drop n 2
    else if p.maxFrame < len then s.drop n 3
    else if ¬ f.fcsOk then s.drop n 1
    else if etherType f.bytes = 0x8808 then s.drop n 4
    else match s.macsecRx n f.bytes with
      | (s, none) => s.drop n 5
      | (s, some (b, verified)) =>
        if s.isCommandFrame n b then s.takeCommand port b verified asleep
        else match s.mapperTake n b (s.clk.age - back - late) with
          | some s => s
          | none => s.admitFrame n 0 len b (s.clk.age - back - late) (s.nsAgo (back + late)) late

/-- FRAME_RECEIVED (R286, R287). -/
def execFrameReceived (port : Fin 32) (f : EthFrame) (s : State) : Host.Outcome State Fault Refusal :=
  finish s (whileUp s fun s => s.ethReceive port f)

/-- INBAND_COMMAND_FRAME (R56 to R59): the reception of a frame; one that is not a command frame is ordinary traffic. -/
def execInbandCommandFrame (port : Fin 32) (f : EthFrame) (s : State) : Host.Outcome State Fault Refusal :=
  finish s (whileUp s fun s => s.ethReceive port f)

end Sys2Proof.Machine
end

