-- ==== Sys2Proof/Machine/Lanes.lean ====
section
/-! DEFINITION. The traffic lanes (R187, R196 to R202, R290 to R295, R304, R312): exact-match results and learning, action
reads, wave 2, and a frame's decisions. -/

namespace Sys2Proof.Machine

/-- A role's search has answered. -/
def State.answerRole (s : State) (n role : Nat) (hit : Bool) (action : Nat) : State :=
  match s.frame n with
  | none => s
  | some f => s.setFrame { f with results := setAt f.results role { out := false, hit := hit, action := action } }

/-! ## Learning (R196 to R202) -/

/-- Show MOVE_RACE in the queued notification of a LEARN record (R199). -/
def markRace (table key port2 : Nat) (ns : List LearnNote) : List LearnNote :=
  (mapFirst (fun n => n.kind == 1 && n.table == table && n.key == key) (fun n => { n with race := true, port2 := port2 })
    ns.reverse).reverse

/-- Replace a record of the filter. -/
def State.setRecord (s : State) (old new : FilterRec) : State :=
  { s with exm := { s.exm with filter := mapFirst (· == old) (fun _ => new) s.exm.filter } }

/-- A new record and its notification (Table 6.4, R198, R202). `station` is the entry's port, ACTION and LEARNED for a
MOVE. -/
def State.newRecord (s : State) (t key width port : Nat) (station : Option (Nat × Nat × Bool)) : State :=
  let move := station.isSome
  if 256 ≤ s.exm.filter.length then s.cnt Reg.exactLearnDropCount 1
  else
    let r : FilterRec := { move := move, table := t, key := key, port1 := port, port2 := (station.map (·.1)).getD 0
                           race := false, at_ := s.clk.age, time := w32 s.dtUs }
    let note : LearnNote :=
      { kind := if move then 2 else 1, race := false, learned := (station.map (·.2.2)).getD false, width := width, table := t
        port := port, port2 := (station.map (·.1)).getD 0, time := r.time, action := (station.map (·.2.1)).getD 0, key := key }
    let (s, kept) := if move ∧ ¬ s.rb Reg.exactCtrl 2 then (s, true) else s.pushNote note
    if kept then
      let s := s.cnt (if move then Reg.exactMoveNotifyCount else Reg.exactLearnNotifyCount) 1
      { s with exm := { s.exm with filter := s.exm.filter ++ [r] } }
    else s

/-- A learn-search miss or MOVE reaches the filter (Table 6.4).
DESIGN CHOICE: log entry 66. -/
def State.learn (s : State) (t key width port : Nat) (station : Option (Nat × Nat × Bool)) : State :=
  match s.exm.filter.find? (fun r => r.table == t && r.key == key && r.move == station.isSome) with
  | none => s.newRecord t key width port station
  | some r =>
    if port = r.port1 ∨ r.move ∨ (r.race ∧ port = r.port2) then s.cnt Reg.exactLearnSuppressCount 1
    else
      let s := s.cnt Reg.exactMoveRaceCount 1
      if r.race then s
      else
        let s := s.setRecord r { r with race := true, port2 := port }
        { s with exm := { s.exm with learnQ := markRace t key port s.exm.learnQ } }

/-- What a learn search does once its result is known (R197). A timestamp goes to both copies while a rehash builds one (R194), and is
discarded where the firmware has written the slot in the same CCLK (R189). -/
def State.learnResult (s : State) (x : Search) (d : ExactDesc) (port : Nat) (r : ExactRes) : State :=
  match r.hit with
  | none => s.learn x.table x.key.toNat d.width port none
  | some p =>
    let e := s.slot p
    let station := e.action.toNat % 256
    if station = port then
      if e.ts = s.exm.mower.clock ∨ s.justWritten p then s
      else (s.bothCopies x.table d p).foldl (fun s p => s.setSlot p ((s.slot p).stamp s.exm.mower.clock)) s
    else s.learn x.table x.key.toNat d.width port (some (station, e.action.toNat, e.learned))

/-- The result of an exact-match search of a frame (R187, R188). -/
def State.exactAnswer (s : State) (x : Search) (f : Frame) : State :=
  let s := (s.until (x.at_ + 40)).endSearch x
  match s.exDesc x.table x.epoch with
  | none => s.answerRole f.num x.role false 0
  | some d =>
    let r := s.exactSearch d x.key.toNat x.epoch true
    let s := s.noteFailing x.table x.epoch r.failing
    let s := s.cnt (if r.hit.isSome then Reg.exactHitCount else Reg.exactMissCount) 1
    let s := if r.hit.isNone ∧ r.degraded then s.cnt Reg.exactDegradedCount 1 else s
    let s := if s.rb Reg.exactCtrl 1 ∧ d.learnEn ∧ d.learnProfile = x.profile then s.learnResult x d f.ingress r else s
    s.answerRole f.num x.role r.hit.isSome r.action

/-- The exact-match searches whose results reach the lanes before that of `x`, or with it from a lower lane (R201), in that order. -/
def State.exactBefore (s : State) (x : Search) : List Search :=
  sortBy (fun y : Search => 8 * y.at_ + y.lane) (s.tern.searches.filter (fun y =>
    y.exact && y.lane != 8 && decide (8 * y.at_ + y.lane < 8 * x.at_ + x.lane) && s.laneOpen y))

/-- A search of a frame answers, where the frame still stands. -/
def State.exactResult (s : State) (x : Search) : State := (s.frame x.frame).elim s (s.exactAnswer x)

/-- EXACT_SEARCH_RESULT (R187): results that come earlier are taken first. -/
def execExactSearchResult (frame : Nat) (role : Nat) (s : State) : Host.Outcome State Fault Refusal :=
  finish s (whileUp s fun s =>
    match s.tern.searches.find? (fun x => x.frame == frame && x.role == role && x.lane != 8), s.frame frame with
    | some x, some _ => if x.exact ∧ s.laneOpen x then ((s.exactBefore x).foldl State.exactResult s).exactResult x else s
    | _, _ => s)

/-! ## Action reads (R291 to R294) -/

/-- The action index that a role uses (R291). -/
def Frame.actionOf (f : Frame) (role : Nat) : Option Nat :=
  let r := f.results.getD role roleRes0
  let m := wd f.roles.miss role
  if r.hit then some r.action else if bit m 31 then some (fld m 0 20) else none

/-- Count a frame on the statistics line of an action entry (R294); none when the line cannot be counted on. -/
def State.countStats (s : State) (f : Frame) (e : List Word) : State × Bool :=
  if ¬ bit (wd e 4) 20 then (s, true)
  else
    let l := fld (wd e 4) 0 16
    if s.coh.ctrLines ≤ l then (s, false)
    else match s.atomicBy f.lane (s.coh.ctrBase + l) (.add2 (Fin.ofNat 8 (fld (wd e 4) 16 3)) 1 (BitVec.ofNat 64 f.length)) with
      | (s, some _) => (s, true)
      | (s, none) => (s, false)

/-- Read and apply the action entry of a role (R292, R240).
DESIGN CHOICE: log entry 114. -/
def State.readRole (s : State) (f : Frame) (role : Nat) : State × Frame :=
  match f.actionOf role with
  | none => (s, f)
  | some i =>
    if s.ctrLine (i / 2) then (s.cnt Reg.cohereCtrAccessErrCount 1, { f with actionErr := true })
    else
      let (s, ws, poison) := s.laneRead f.lane (i / 2)
      if poison then (s, { f with actionErr := true })
      else
        let e := entryIn i ws
        let (s, ok) := s.countStats f e
        (s, { f with entries := setAt f.entries role (some e), actionErr := f.actionErr || !ok })

/-- Read the action entries of some roles. -/
def State.readRoles (s : State) (f : Frame) (roles : List Nat) : State × Frame :=
  roles.foldl (fun x r => x.1.readRole x.2 r) (s, f)

/-- No search of the frame is out. -/
def Frame.settled (f : Frame) : Bool := f.results.all (fun r => !r.out)

/-- WAVE2_START (R290): the wave-1 entries have been read. At its deadline the frame is dropped (R308). -/
def execWave2Start (frame : Nat) (s : State) : Host.Outcome State Fault Refusal :=
  finish s (whileUp s fun s =>
    match s.frame frame with
    | none => s
    | some f =>
      if f.stage ≠ .wave1 then s
      else if s.overdue f then s.lateFrame f
      else if ¬ f.settled then s
      else
        let (s, f) := s.readRoles f [0, 1, 2]
        let s := s.setFrame { f with stage := .wave2 }
        [3, 4].foldl (fun s r => s.issueRole frame r) s)

/-! ## Decisions (R293, R295, R304, R312) -/

/-- A field of a role's entry; 0 where the role contributed none. -/
def Frame.ef (f : Frame) (role word lo len : Nat) : Nat := ((f.entry role).map (fun e => fld (wd e word) lo len)).getD 0

/-- The ACL decision: an entry drops the frame. -/
def Frame.denied (f : Frame) : Bool := (f.entries.filterMap id).any (fun e => bit (wd e 0) 0 || fld (wd e 1) 0 2 == 3)

/-- A multicast group as an epoch uses it. -/
def State.group (s : State) (g : Nat) (e : BitVec 3) : McGroup := (s.verAt (smGet versioned0 s.sw.groups g).vers e).getD group0

/-- The members of a group, in INGRESS encoding, ascending. -/
def McGroup.members (g : McGroup) : List Nat :=
  (List.range 32).filter (fun n => bit g.e n) ++ ((List.range 32).filter (fun n => bit g.sLo n)).map (64 + ·) ++
    ((List.range 32).filter (fun n => bit g.sHi n)).map (96 + ·)

/-- The destinations of a frame, with its group. -/
def State.destinations (s : State) (f : Frame) : List Nat × Option (Nat × McGroup) :=
  match f.destEntry with
  | none => ([], none)
  | some e =>
    let k := fld (wd e 1) 0 2
    if k = 1 then
      let p := fld (wd e 1) 8 8
      (if portValid p ∧ p ≠ f.ingress then [p] else [], none)
    else if k = 2 then
      let n := fld (wd e 1) 8 12
      let g := s.group n f.epoch
      (g.members.filter (fun p => !(g.prune && p == f.ingress)), some (n, g))
    else ([], none)

/-- The traffic class (Table 9.4).
DESIGN CHOICE: log entry 116. -/
def State.trafficClass (s : State) (f : Frame) : Nat :=
  let p := s.ethPort f.ingress
  let parsed := parseFrame f.kind f.bytes
  if f.ef 4 0 1 1 = 1 then f.ef 4 0 2 3
  else if f.ef 0 0 1 1 = 1 then f.ef 0 0 2 3
  else if f.ingress < 64 then (if p.trustPcp ∧ parsed.tagged then parsed.pcp else p.defTc)
  else 0

/-- Meter the frame (R311 to R313): its colour and the policer; none where its line is poisoned. -/
def State.meterFrame (s : State) (f : Frame) : State × Option (Nat × Policer) :=
  let p := f.ef 3 2 0 16
  let x := s.policerAt p f.epoch
  if f.ef 3 2 16 1 = 0 ∨ ¬ x.enable then (s, some (0, x))
  else
    let c := f.ef 0 0 5 2
    match s.atomicBy f.lane (s.coh.ctrBase + p) (.meter (BitVec.ofNat 16 p) f.epoch f.length (Fin.ofNat 3 c)) with
    | (s, some (_, colour)) => (s, some (colour, x))
    | (s, none) => (s, none)

/-- What the colour makes of a frame: its traffic class, or none when it is dropped (R312). -/
def colourAct (x : Policer) (colour tc : Nat) : Option Nat :=
  if colour = 0 then some tc
  else
    let lo := if colour = 1 then 0 else 8
    match fld x.act lo 2 with
    | 0 => some tc
    | 1 => some (fld x.act (lo + 4) 3)
    | _ => none

/-- The Ethernet frame that carries a stored image (R329, Table 10.4).
DESIGN CHOICE: log entry 115. -/
def State.tunnelFrame (s : State) (chan : Nat) (image : List Byte) : List Byte :=
  let c := s.chan chan
  let tag := if bit c.tunnel 15 then bytesBE 2 0x8100 ++ bytesBE 2 (fld c.tunnel 12 3 * 2 ^ 13 + fld c.tunnel 0 12) else []
  pad60 (bytesLE 6 c.tunnelDa ++ s.mapperMac ++ tag ++ bytesBE 2 (s.rf Reg.mapperEtype 0 16) ++ [0x12, 0, 0, 0, 0, 0] ++
    bytesBE 2 image.length ++ image)

/-- Make one copy of a frame for a port (R300, R305, R307). -/
def State.makeCopy (s : State) (n tc session port : Nat) : State :=
  match s.frame n with
  | none => s
  | some f =>
    let q := if port < 64 then tc else 0
    let refuse (r : Nat) : State := (s.setFrame { f with drops := f.drops ++ [(port, r)] }).drop port r
    if ¬ s.egressUp port then refuse 13
    else match s.charge (queueHolder port q) f.cells with
      | none => refuse 12
      | some s =>
        let bytes := if f.kind ≠ 0 ∧ port < 64 then s.tunnelFrame (f.ingress - 64) f.bytes else f.bytes
        s.setCopies (s.sw.copies ++ [{
          frame := n, ingress := f.ingress, port := port, queue := q, cells := f.cells, bytes := bytes
          image := f.kind != 0 && decide (64 ≤ port), session := session, deadline := some f.deadline, pdu := none
          released := false, eligible := false, relAt := f.relAt, sending := false, wire := [] }])

/-- The frame is decided: its copies are made and its ingress charge is released (R296, R300, R304). -/
def State.admitCopies (s : State) (f : Frame) (tc : Nat) (ports : List Nat) (group : Option (Nat × McGroup)) : State :=
  let s := s.setFrame { f with stage := .decided, group := group.map (·.1), gi := group.any (·.2.gi) }
  let s := if group.isSome then s.cnt Reg.switchMcastCopyCount ports.length else s
  let s := ports.foldl (fun s p => s.makeCopy f.num tc (f.ef 2 3 0 13) p) s
  let s := s.uncharge (ingHolder f.ingress) f.cells
  let s : State := { s with pwr := { s.pwr with laneIdle := smSet 0 s.pwr.laneIdle f.lane s.clk.age } }
  s.endFrame f.num

/-- After wave 2 (R295): the first reason to drop that applies, or the copies. -/
def State.judge (s : State) (f : Frame) : State :=
  let (ports, group) := s.destinations f
  if f.actionErr ∨ (f.ef 3 2 16 1 = 1 ∧ s.coh.ctrLines ≤ f.ef 3 2 0 16) then s.dropFrame f 9
  else
    let s := if f.kind = 0 then s else s.offerSlow (w32 (f.ef 0 5 0 32)) f.bytes f.rxAge
    if f.denied then s.dropFrame f 7
    else if ports.isEmpty then s.dropFrame f 10
    else match s.meterFrame f with
      | (s, none) => s.dropFrame f 9
      | (s, some (colour, x)) =>
        match colourAct x colour (s.trafficClass f) with
        | none => s.dropFrame f 8
        | some tc => s.admitCopies f tc ports group

/-- FRAME_DECIDED (R295). At its deadline the frame is dropped (R308). -/
def execFrameDecided (frame : Nat) (s : State) : Host.Outcome State Fault Refusal :=
  finish s (whileUp s fun s =>
    match s.frame frame with
    | none => s
    | some f =>
      if f.stage ≠ .wave2 then s
      else if s.overdue f then s.lateFrame f
      else if ¬ f.settled then s
      else
        let (s, f) := s.readRoles f [3, 4]
        s.judge f)

end Sys2Proof.Machine
end

