-- ==== Sys2Proof/Machine/Egress.lean ====
section
/-! DEFINITION. Egress (R285, R296, R297, R307, R308, R329, R344): the resequencer, the fixed-latency hold, transmission,
late drops, and ports that go down and come up. -/

namespace Sys2Proof.Machine

/-! ## Release (R296, R297, R17) -/

/-- Every earlier frame of the same ingress is decided: the horizon has passed the copy. -/
def State.pastHorizon (s : State) (c : Copy) : Bool :=
  !s.sw.frames.any (fun f => f.ingress == c.ingress && f.stage != .decided && decide (f.num < c.frame))

/-- The copy of a frame for a port. -/
def State.copyAt (s : State) (n port : Nat) : Option Copy := s.sw.copies.find? (fun c => c.frame == n && c.port == port && n != 0)

/-- Release a copy: it enters its queue behind what has been released before, and becomes eligible as the port's latency
mode says.
DESIGN CHOICE: log entry 111. -/
def State.releaseCopy (s : State) (c : Copy) : State :=
  let hold := decide (c.port < 64) && !(s.ethPort c.port).lat
  let now := s.clk.age
  let s := s.setCopies (s.sw.copies.erase c ++ [{ c with released := true, eligible := !hold || decide (c.relAt ≤ now) }])
  if hold ∧ c.relAt < now then s.cnt (Reg.switchFixedLatMiss c.port) 1 else s

/-- The copies that a port's resequencer releases with a copy: those of earlier frames of its ingress that it still holds, in their
order, and itself (R296). -/
def State.releases (s : State) (c : Copy) : List Copy :=
  sortBy Copy.frame (s.sw.copies.filter (fun d =>
    d.port == c.port && d.ingress == c.ingress && !d.released && d.frame != 0 && decide (d.frame ≤ c.frame)))

/-- RESEQUENCER_RELEASE (R296). -/
def execResequencerRelease (frame : Nat) (port : Nat) (s : State) : Host.Outcome State Fault Refusal :=
  finish s (whileUp s fun s =>
    match s.copyAt frame port with
    | some c => if ¬ c.released ∧ s.pastHorizon c then (s.releases c).foldl State.releaseCopy s else s
    | none => s)

/-- Replace a copy where it stands. -/
def State.setCopy (s : State) (old new : Copy) : State := s.setCopies (mapFirst (· == old) (fun _ => new) s.sw.copies)

/-- FIXED_LATENCY_HOLD_END (R297): the release cycle of R15. -/
def execFixedLatencyHoldEnd (frame : Nat) (port : Nat) (s : State) : Host.Outcome State Fault Refusal :=
  finish s (whileUp s fun s =>
    match s.copyAt frame port with
    | some c => if c.released ∧ ¬ c.eligible then (s.until c.relAt).setCopy c { c with eligible := true } else s
    | none => s)

/-! ## Transmission (R285, R297, R329) -/

/-- The copy at the head of a queue that is not being sent. -/
def State.headCopy (s : State) (port q : Nat) : Option Copy :=
  s.sw.copies.find? (fun c => c.port == port && c.queue == q && c.released && !c.sending)

/-- A port transmits something. -/
def State.transmitting (s : State) (port : Nat) : Bool := s.sw.copies.any (fun c => c.port == port && c.sending)

/-- A port may start a copy: it is up, not in its link hold, sends nothing, and is not set to listen only. -/
def State.mayTransmit (s : State) (port : Nat) : Bool :=
  s.egressUp port && !s.transmitting port &&
    (if port < 64 then (s.ethPort port).lossSince.isNone else !bit (s.chan (port - 64)).w0 12)

/-- A copy on a slow channel carries no image that fits it (R329). -/
def State.unfit (s : State) (c : Copy) : Bool :=
  decide (64 ≤ c.port) && !(s.copyImage c).any (s.chan (c.port - 64)).fits

/-- What a copy puts on the wire, protected as its port or channel is set (R374, R379); none when it is cut off. -/
def State.wireBytes (s : State) (c : Copy) : State × Option (List Byte) :=
  if c.port < 64 then s.macsecTx c.port c.session c.bytes
  else match s.copyImage c with
    | none => (s, none)
    | some b =>
      let n := c.port - 64
      let (s, data) := s.chanTx n c.session (imageId b) (lenFit (frameKind (imageId b))) (imageData b)
      (s, data.map (fun d => b.take 4 ++ bytesBE 2 d.length ++ (b.drop 6).take 10 ++ d))

/-- The reason of a late drop of a copy: GATE at the head of its queue before a closed gate, otherwise LATE_EGRESS.
DESIGN CHOICE: log entry 219. -/
def State.lateReason (s : State) (c : Copy) : Nat :=
  if s.headCopy c.port c.queue = some c ∧ ¬ s.gateOpen c.port c.queue (s.copyNs c) then 14 else 15

/-- Drop late a copy whose transmission has not started (R308, R344). -/
def State.lateCopy (s : State) (c : Copy) : State :=
  let r := s.lateReason c
  match c.pdu with
  | some p => (s.dropCopy c r).losePdu p
  | none => (s.cnt Reg.switchLateDropCount 1).dropCopy c r

/-- Drop the copies of a port whose deadlines have come. -/
def State.dropOverdue (s : State) (port : Nat) : State :=
  (s.sw.copies.filter (fun c => c.port == port && !c.sending && c.deadline.any (· ≤ s.clk.age))).foldl State.lateCopy s

/-- Start a copy, or cut it off with TX_ABORT. -/
def State.startCopy (s : State) (c : Copy) : State :=
  match s.wireBytes c with
  | (s, none) => s.dropCopy c 16
  | (s, some w) => s.setCopy c { c with sending := true, wire := w }

/-- TRANSMISSION_START (R297): the head copy of the highest queue that has an eligible one and an open gate. An image that
does not fit is cut off at the head, and a copy whose deadline has come is dropped first. -/
def execTransmissionStart (port : Nat) (s : State) : Host.Outcome State Fault Refusal :=
  finish s (whileUp s fun s =>
    let s := s.dropOverdue port
    let heads := [7, 6, 5, 4, 3, 2, 1, 0].filterMap (s.headCopy port)
    if ¬ s.mayTransmit port then s
    else match heads.find? (fun c => c.eligible && (s.unfit c || s.gateOpen port c.queue (s.copyNs c))) with
      | none => s
      | some c => if s.unfit c then s.dropCopy c 16 else s.startCopy c)

/-- Bytes that a copy has sent, as R16 counts them. -/
def Copy.sentBytes (c : Copy) : Nat := if c.port < 64 then c.wire.length + 4 else c.wire.length

/-- A port is in its link hold, in which it transmits nothing (R285). -/
def State.inHold (s : State) (port : Nat) : Bool := decide (port < 64) && (s.ethPort port).lossSince.isSome

/-- TRANSMISSION_END (R297). A copy whose transmission a loss of link has met does not end before the PCS reports link again (R285).
DESIGN CHOICE: log entry 218. -/
def execTransmissionEnd (port : Nat) (s : State) : Host.Outcome State Fault Refusal :=
  finish s (whileUp s fun s =>
    match s.sw.copies.find? (fun c => c.port == port && c.sending) with
    | none => s
    | some c =>
      if s.inHold port then s
      else
      let s := (s.takeCopyOut c).countTx port c.sentBytes
      let s : State := { s with out := { s.out with frames := s.out.frames ++ [(port, c.wire)] } }
      let s := c.pdu.elim s s.sentPdu
      match s.frame c.frame with
      | none => s
      | some f => (s.setFrame { f with sent := f.sent + 1 }).endFrame f.num)

/-! ## Late drops (R308, R309, R344) -/

/-- Drop late what of a frame has not started transmission. -/
def State.lateDrop (s : State) (f : Frame) : State :=
  if f.stage ≠ .decided then s.lateFrame f
  else
    ((s.copiesFor f.num).filter (fun c => !c.sending)).foldl State.lateCopy s

/-- FRAME_DEADLINE (R308). -/
def execFrameDeadline (frame : Nat) (s : State) : Host.Outcome State Fault Refusal :=
  finish s (whileUp s fun s =>
    match s.frame frame with
    | none => s
    | some f => (s.until f.deadline).lateDrop f)

/-- PDU_WINDOW_EXPIRY (R344). -/
def execPduWindowExpiry (pdu : Nat) (s : State) : Host.Outcome State Fault Refusal :=
  finish s (whileUp s fun s =>
    match s.sw.copies.find? (fun c => c.pdu == some pdu && !c.sending) with
    | none => s
    | some c =>
      (s.until (c.deadline.getD 0)).lateCopy c)

/-- ARBITRATION_LOST (R344): the copy stays at the head of its queue. -/
def execArbitrationLost (chan : Nat) (s : State) : Host.Outcome State Fault Refusal :=
  finish s (whileUp s fun s =>
    let m := (s.chan chan).mode
    match s.sw.copies.find? (fun c => c.port == 64 + chan && c.sending) with
    | some c =>
      if m = 1 ∨ m = 2 then
        (s.cnt (Reg.slowchArbLostCount chan) 1).setCopy c { c with sending := false, wire := [] }
      else s
    | none => s)

/-! ## Ports down and up (R285, R307) -/

/-- Flush a port or channel (R307): its copies are dropped, one being sent with TX_ABORT. Answers how many. -/
def State.flushPort (s : State) (port : Nat) : State × Nat :=
  let cs := s.sw.copies.filter (fun c => c.port == port)
  (cs.foldl (fun s c => s.dropCopy c (if c.sending then 16 else 13)) s, cs.length)

/-- An Ethernet port goes down: flushed, with its event. `mode` is the mode it had.
DESIGN CHOICE: log entry 112. -/
def State.takeDown (s : State) (n : Nat) : State :=
  let p := s.ethPort n
  let s := s.setEth n { p with linkUp := false, lossSince := none, downAt := some s.clk.age }
  let (s, k) := s.flushPort n
  s.event 0x0A 0x01 n (w32 k) (w32 p.mode)

/-- LINK_HOLD_US in CCLK. -/
def State.linkHold (s : State) (n : Nat) : Nat := min 1000 (s.rf (Reg.ethportCtrl n) 0 10) * usC

/-- PCS_LINK_LOSS: the hold starts (R285). -/
def execPcsLinkLoss (port : Fin 32) (s : State) : Host.Outcome State Fault Refusal :=
  finish s (whileUp s fun s =>
    let p := s.ethPort port.val
    if p.linkUp ∧ p.lossSince = none then s.setEth port.val { p with lossSince := some s.clk.age } else s)

/-- PORT_DOWN: loss of link has lasted for the hold (R285, R307). -/
def execPortDown (port : Fin 32) (s : State) : Host.Outcome State Fault Refusal :=
  finish s (whileUp s fun s =>
    match (s.ethPort port.val).lossSince with
    | none => s
    | some t => (s.until (t + s.linkHold port.val)).takeDown port.val)

/-- PORT_UP: the PCS reports link (R285). In mode 6 it says the speed that the partner's control word gives.
DESIGN CHOICE: log entry 113. -/
def execPortUp (port : Fin 32) (mbps : Nat) (s : State) : Host.Outcome State Fault Refusal :=
  finish s (whileUp s fun s =>
    let p := s.ethPort port.val
    let speed := if mbps = 10 ∨ mbps = 100 then mbps else 1000
    if p.mode = 0 ∨ s.pwr.refclkLost ∨ s.lifeCycle = 5 then s
    else
      let t := s.setEth port.val { p with linkUp := true, lossSince := none, mbps := speed }
      if p.linkUp then t else t.event 0x0A 0x02 port.val 0 (w32 p.mode))

end Sys2Proof.Machine
end

