-- ==== Sys2Proof/Machine/SwitchCmd.lean ====
section
/-! DEFINITION. The commands of Frame Forwarding, Buffers and Policing (R313 to R320). -/

namespace Sys2Proof.Machine

/-! ## Role sets (R289, R290) -/

/-- The role set in parameter words 3 to 9. -/
def Request.roleSet (q : Request) : RoleSet := { w3 := q.w 3, w4 := q.w 4, miss := [q.w 5, q.w 6, q.w 7, q.w 8, q.w 9] }

/-- A role set sets a bit that must be 0. -/
def RoleSet.stray (r : RoleSet) : Bool :=
  strayBits r.w3 0x7F7F7F7F || strayBits r.w4 0x7F || r.miss.any (fun w => strayBits w 0x800FFFFF)

/-- An enabled role names a profile whose WAVE in the current epoch is not the role's (ROLE_WAVE). -/
def State.roleWave (s : State) (r : RoleSet) : Bool :=
  (List.range 5).any (fun i => (r.profile i).any (fun p => (s.profile p s.glue.c).wave != waveOf i))

/-! ## PORT_CONFIG and QUEUE_CONFIG (R314, R315) -/

/-- PORT_CONFIG (R314). A change of MODE flushes the port and retrains it. -/
def State.portConfig (s : State) (q : Request) : State × CmdEnd :=
  let n := q.f 0 0 5
  let mode := q.f 0 8 3
  let mtu := q.f 1 0 14
  let p := s.ethPort n
  if q.stray 0 0x000F171F ∨ 6 < mode ∨ q.stray 1 0x3FFF ∨ mtu < 64 ∨ 9216 < mtu ∨ q.roleSet.stray then (s, fin 0x0170)
  else if s.roleWave q.roleSet then (s, fin 0x0175)
  else
    let s := if mode = p.mode then s
      else if p.linkUp ∨ mode = 0 then s.takeDown n
      else (s.flushPort n).1
    let p := s.ethPort n
    (s.setEth n { p with
        mode := mode, lat := q.b 0 12, defTc := q.f 0 16 3, trustPcp := q.b 0 19, maxFrame := mtu, portUser := q.w 2
        roles := q.roleSet }, fin St.ok)

/-- PORT_CONFIG. -/
def execPortConfig (q : Request) (s : State) : Host.Outcome State Fault Refusal :=
  finish s (runCmd Op.portConfig q State.portConfig s)

/-- One holder's setting of QUEUE_CONFIG, and whether it is out of range. -/
structure HolderSet where
  holder : Nat
  min : Nat
  quota : Nat
  bad : Bool
deriving DecidableEq, Repr

/-- The settings that QUEUE_CONFIG carries. -/
def Request.holderSets (q : Request) : List HolderSet :=
  (List.range (q.words.length / 3)).map (fun i =>
    let k := 3 * i
    let port := q.f k 8 8
    let queue := q.f k 16 3
    let kind := q.f k 0 1
    let min := q.f (k + 1) 0 17
    let quota := q.f (k + 2) 0 17
    { holder := if kind = 0 then ingHolder port else queueHolder port queue, min := min, quota := quota
      bad := q.stray k 0x0007FF01 || q.stray (k + 1) 0x1FFFF || q.stray (k + 2) 0x1FFFF || !portValid port ||
        (queue != 0 && (kind == 0 || decide (64 ≤ port))) || quota == 0 || decide (98304 < quota) || decide (quota < min) })

/-- Set a holder's minimum and quota (R301).
DESIGN CHOICE: log entry 119. -/
def State.setLimits (s : State) (h : HolderSet) : State :=
  let x := { s.holder h.holder with min := h.min, quota := h.quota }
  s.setHolder h.holder (x.over (decide (x.quota < x.used) || (x.overQ && decide (x.quota ≤ x.used))) s.clk.age)

/-- Keep the limits that stood at the start of this CCLK (R303). -/
def State.keepLimits (s : State) : State :=
  if s.sw.limitsWas.any (fun p => p.1 == s.clk.age) then s
  else { s with sw := { s.sw with limitsWas := some (s.clk.age, s.sw.holders) } }

/-- QUEUE_CONFIG (R303, R315). -/
def State.queueConfig (s : State) (q : Request) : State × CmdEnd :=
  let hs := q.holderSets
  let t := hs.foldl State.setLimits s.keepLimits
  if hs.any (·.bad) ∨ (hs.map (·.holder)).eraseDups.length ≠ hs.length then (s, fin 0x0171)
  else if 98304 < t.sumMin then (s, fin 0x0270)
  else (t, .final St.ok [w32 t.sharedSize, w32 (t.sw.holders.filter (fun x => x.2.overQ)).length])

/-- QUEUE_CONFIG. -/
def execQueueConfig (q : Request) (s : State) : Host.Outcome State Fault Refusal :=
  finish s (runCmd Op.queueConfig q State.queueConfig s)

/-! ## Policers (R313, R316, R317) -/

/-- A policer with its versions. -/
def State.policer (s : State) (p : Nat) : Versioned Policer := smGet versioned0 s.sw.policers p

/-- Store a policer. -/
def State.setPolicer (s : State) (p : Nat) (v : Versioned Policer) : State :=
  { s with sw := { s.sw with policers := smSet versioned0 s.sw.policers p v } }

/-- The settings that POLICER_WRITE carries. -/
def Request.policer (q : Request) : Policer :=
  { rfc4115 := q.b 0 16, aware := q.b 0 17, enable := q.b 0 19, lenAdj := signed 8 (q.f 1 24 8), cir := (q.w 2).toNat
    cbs := (q.w 3).toNat, pir := (q.w 4).toNat, pbs := (q.w 5).toNat, act := q.w 6 }

/-- The checks of POLICER_WRITE before those of the glue-up.
DESIGN CHOICE: log entry 118. -/
def State.policerPre (s : State) (q : Request) : Nat :=
  if q.stray 0 0x000FFF00 ∨ q.stray 1 0xFF00FFFF ∨ q.stray 6 0x7373 ∨ s.coh.ctrLines ≤ q.f 1 0 16 ∨
      (¬ q.b 0 16 ∧ (q.w 4).toNat < (q.w 2).toNat) then 0x0172
  else 0

/-- POLICER_WRITE in a glue-up: the new settings wait for the clamp (R149, R316). -/
def policerAct (q : Request) (s : State) (g : Nat) : GlueRes :=
  let n := q.f 1 0 16
  let v := s.policer n
  match v.pend with
  | some (h, _, r) =>
    if h ≠ g then .claimed h else .done (s.setPolicer n { v with pend := some (g, q.policer, r || q.b 0 18) }) 1 []
  | none => .done (s.setPolicer n { v with pend := some (g, q.policer, q.b 0 18) }) 1 []

/-- POLICER_WRITE. -/
def execPolicerWrite (q : Request) (s : State) : Host.Outcome State Fault Refusal :=
  finish s (runCmd Op.policerWrite q (fun s q => s.glueOp Op.policerWrite q (s.policerPre q) (policerAct q)) s)

/-- The settings of a policer in POLICER_WRITE layout with GLUE 0. -/
def Policer.words (x : Policer) (n : Nat) : List Word :=
  [w32 (b2n x.rfc4115 * 2 ^ 16 + b2n x.aware * 2 ^ 17 + b2n x.enable * 2 ^ 19),
    w32 (n + (x.lenAdj % 256).toNat * 2 ^ 24), w32 x.cir, w32 x.cbs, w32 x.pir, w32 x.pbs, x.act]

/-- Take words 3 to 7 of a counter line each by SWAP with 0. -/
def State.takeCounts (s : State) (l : Nat) : State :=
  [3, 4, 5, 6, 7].foldl (fun s w => (s.atomicBy 8 l (.swap (Fin.ofNat 8 w) 0)).1) s

/-- POLICER_READ (R317). A poisoned line is a data fault of the firmware (R240). -/
def State.policerRead (s : State) (q : Request) : State × CmdEnd :=
  let n := q.f 0 0 16
  let l := s.coh.ctrBase + n
  if q.stray 0 0x1FFFF ∨ s.coh.ctrLines ≤ n then (s, fin 0x0172)
  else match s.atomicBy 8 l .readLine with
    | (s, none) => (s, fin St.internalFault)
    | (s, some (ws, _)) =>
      let s := if q.b 0 16 then s.takeCounts l else s
      (s, .final St.ok ((s.policerAt n s.glue.c).words n ++ ws.flatMap (fun d => toWords 2 d.toNat)))

/-- POLICER_READ. -/
def execPolicerRead (q : Request) (s : State) : Host.Outcome State Fault Refusal :=
  finish s (runCmd Op.policerRead q State.policerRead s)

/-! ## Groups and the budget (R304, R318, R319) -/

/-- A multicast group with its versions. -/
def State.groupVers (s : State) (n : Nat) : Versioned McGroup := smGet versioned0 s.sw.groups n

/-- Store a multicast group. -/
def State.setGroup (s : State) (n : Nat) (v : Versioned McGroup) : State :=
  { s with sw := { s.sw with groups := smSet versioned0 s.sw.groups n v } }

/-- MCAST_GROUP_WRITE in a glue-up (R149, R318). -/
def mcastAct (q : Request) (s : State) (g : Nat) : GlueRes :=
  let n := q.f 1 0 12
  let v := s.groupVers n
  let x : McGroup := { e := q.w 2, sLo := q.w 3, sHi := q.w 4, gi := q.b 0 16, prune := q.b 0 17 }
  if v.pend.any (fun p => p.1 != g) then .claimed ((v.pend.map (·.1)).getD 0)
  else .done (s.setGroup n { v with pend := some (g, x, false) }) 1 []

/-- MCAST_GROUP_WRITE. -/
def execMcastGroupWrite (q : Request) (s : State) : Host.Outcome State Fault Refusal :=
  finish s (runCmd Op.mcastGroupWrite q (fun s q =>
    s.glueOp Op.mcastGroupWrite q (if q.stray 0 0x3FF00 ∨ q.stray 1 0xFFF then 0x0173 else 0) (mcastAct q)) s)

/-- FRAME_BUDGET_SET (R319). -/
def State.frameBudgetSet (s : State) (q : Request) : State × CmdEnd :=
  let n := q.f 0 0 10
  if q.stray 0 0x3FF ∨ n < 2 ∨ 1000 < n then (s, fin 0x0174)
  else
    let s := s.wr Reg.switchBudget (w32 n)
    (s, .final St.ok [w32 (n + b2n (decide (7 * s.quantum < n)) * 2 ^ 16)])

/-- FRAME_BUDGET_SET. -/
def execFrameBudgetSet (q : Request) (s : State) : Host.Outcome State Fault Refusal :=
  finish s (runCmd Op.frameBudgetSet q State.frameBudgetSet s)

/-! ## PORT_STATS (R320) -/

/-- The addresses of a port's counters that PORT_STATS reads and clears. -/
def statAddrs (port : Nat) : List Nat :=
  let b := portBase port
  (if port < 64 then [0x100, 0x104, 0x108, 0x10C, 0x110, 0x114, 0x118, 0x11C, 0x120, 0x124] else [0x100, 0x104]).map (b + ·) ++
    (List.range 16).map (fun i => b + 0x140 + 4 * i) ++ (if port < 64 then [Reg.switchFixedLatMiss port] else [])

/-- The 27 words of PORT_STATS (Table 9.7). -/
def State.portWords (s : State) (port : Nat) : List Word :=
  let b := portBase port
  let drops := (List.range 16).map (fun i => s.rd (b + 0x140 + 4 * i))
  if port < 64 then
    [s.rd (b + 0x100), s.rd (b + 0x104), s.rd (b + 0x108), s.rd (b + 0x10C), s.rd (b + 0x110), s.rd (b + 0x114),
      s.rd (b + 0x118), s.rd (b + 0x11C)] ++ drops ++ [s.rd (Reg.switchFixedLatMiss port), s.rd (b + 0x120), s.rd (b + 0x124)]
  else
    let c := s.chan (port - 64)
    [s.rd (b + 0x100), 0] ++ toWords 2 c.rxBytes ++ [s.rd (b + 0x104), 0] ++ toWords 2 c.txBytes ++ drops ++ [0, 0, 0]

/-- Zero the counters that PORT_STATS reads. -/
def State.clearStats (s : State) (port : Nat) : State :=
  let s := (statAddrs port).foldl (fun s a => s.wr a 0) s
  if port < 64 then s else s.setChan (port - 64) { s.chan (port - 64) with rxBytes := 0, txBytes := 0 }

/-- PORT_STATS (R320). -/
def State.portStats (s : State) (q : Request) : State × CmdEnd :=
  let port := q.f 0 0 8
  if q.stray 0 0x1FF ∨ ¬ portValid port then (s, fin 0x0142)
  else (if q.b 0 8 then s.clearStats port else s, .final St.ok (s.portWords port))

/-- PORT_STATS. -/
def execPortStats (q : Request) (s : State) : Host.Outcome State Fault Refusal :=
  finish s (runCmd Op.portStats q State.portStats s)

end Sys2Proof.Machine
end

