-- ==== Sys2Proof/Machine/Slow.lean ====
section
/-! DEFINITION. Slow channels (R323 to R328, R350, R354, R362): configuration, reception, bus-off and its recovery. -/

namespace Sys2Proof.Machine

/-! ## Bit rates (R325) -/

/-- The clock of the slow channels' bit timing, in Hz. -/
def slowClk : Nat := 160000000

/-- A CAN rate whose divider lies in a range. -/
def canRate (rate lo hi : Nat) : Bool :=
  rate != 0 && slowClk % rate == 0 && decide (lo ≤ slowClk / rate) && decide (slowClk / rate ≤ hi)

/-- An HDLC or UART rate: the rounded divider is at least 16 and the rate achieved lies within 1 %. The least rate is
that of Table 10.1. -/
def serialRate (rate : Nat) : Bool :=
  let n := (2 * slowClk + rate) / (2 * rate)
  decide (1200 ≤ rate) && decide (16 ≤ n) && decide (99 * rate * n ≤ 100 * slowClk) && decide (100 * slowClk ≤ 101 * rate * n)

/-- A sample point in per mille. -/
def samplePoint (n : Nat) : Bool := decide (500 ≤ n) && decide (n ≤ 900)

/-- The rates of CHANNEL_CONFIG meet R325. -/
def Request.ratesOk (q : Request) : Bool :=
  let nom := (q.w 1).toNat
  let data := (q.w 2).toNat
  match q.f 0 8 3 with
  | 0 => true
  | 1 => canRate nom 160 1280 && samplePoint (q.f 11 0 10) && (data == 0 || (canRate data 20 slowClk && samplePoint (q.f 11 16 10)))
  | 2 => canRate nom 160 1280 && samplePoint (q.f 11 0 10) && (data == 0 || (canRate data 8 slowClk && samplePoint (q.f 11 16 10)))
  | _ => serialRate nom

/-! ## CHANNEL_CONFIG (R354) -/

/-- The settings that CHANNEL_CONFIG carries, over what the channel keeps. -/
def Request.channel (q : Request) (c : SlowCh) : SlowCh :=
  { c with w0 := q.w 0, nomRate := (q.w 1).toNat, dataRate := (q.w 2).toNat, roles := q.roleSet, portUser := q.w 10
           sp := q.w 11, tunnel := q.w 12, tunnelDa := (q.w 13).toNat + 2 ^ 32 * q.f 14 0 16 }

/-- Channel `n` is designated for the wake matcher. -/
def State.designated (s : State) (n : Nat) : Bool := s.heath.desig.contains n

/-- A channel starts anew: flushed, and integrating on its bus if it is enabled (R307, R354).
PRESUMED: log entry 134. -/
def State.restartChan (s : State) (n : Nat) : State :=
  let s := (s.flushPort (64 + n)).1
  s.setChan n { s.chan n with active := false, busOff := false, recessive := false, recover := false, tec := 0, rec_ := 0 }

/-- CHANNEL_CONFIG (R354). -/
def State.channelConfig (s : State) (q : Request) : State × CmdEnd :=
  let n := q.f 0 0 6
  let mode := q.f 0 8 3
  let idle := q.f 0 24 4
  let old := s.chan n
  let new := q.channel old
  let unfit := s.mapper.pdus.any (fun x => x.2.en && x.2.slow && x.2.port == 64 + n && !x.2.fits new)
  if q.stray 0 0x0F0F773F ∨ 4 < mode ∨ (mode = 4 ∧ (idle < 2)) ∨ q.roleSet.stray ∨ q.stray 11 0x03FF03FF ∨ q.stray 12 0xFFFF ∨
      q.stray 14 0xFFFF then (s, fin 0x0180)
  else if ¬ q.ratesOk then (s, fin 0x0181)
  else if s.roleWave q.roleSet then (s, fin 0x0175)
  else if mode ≠ old.mode ∧ unfit then (s, fin 0x0383)
  else if s.designated n ∧ mode ≠ 1 ∧ mode ≠ 2 then (s, .final St.applyConflict [w32 (3 * 2 ^ 16 + n)])
  else
    let fresh := mode ≠ old.mode ∨ new.nomRate ≠ old.nomRate ∨ new.dataRate ≠ old.dataRate ∨ bit new.w0 12 ≠ bit old.w0 12
    let s := s.setChan n new
    (if fresh then s.restartChan n else s, fin St.ok)

/-- CHANNEL_CONFIG. -/
def execChannelConfig (q : Request) (s : State) : Host.Outcome State Fault Refusal :=
  finish s (runCmd Op.channelConfig q State.channelConfig s)

/-! ## State of the bus (R326) -/

/-- The channel is enabled, integrated and not bus-off. -/
def State.chanActive (s : State) (n : Nat) : State :=
  let c := s.chan n
  (s.setChan n { c with active := true, busOff := false, recessive := false, recover := false }).event 0x0C 0x02 (64 + n) 0
    (w32 c.mode)

/-- CHANNEL_ACTIVE (R326). -/
def execChannelActive (chan : Nat) (s : State) : Host.Outcome State Fault Refusal :=
  finish s (whileUp s fun s =>
    let c := s.chan chan
    if c.mode = 0 ∨ c.active ∨ c.busOff ∨ 64 ≤ chan ∨ s.lifeCycle = 5 then s else s.chanActive chan)

/-- CAN_BUS_OFF (R326): the channel is flushed as a port that goes down. The error counts at that point are those of
ISO 11898-1, which the model does not follow bit by bit: TEC is some value from 256 on. -/
def execCanBusOff (chan : Nat) (s : State) : Host.Outcome State Fault Refusal :=
  finish s (whileUp s fun s =>
    let c := s.chan chan
    if ¬ (c.active ∧ (c.mode = 1 ∨ c.mode = 2)) then s
    else
      let (t, s) := s.freeN 256
      let (r, s) := s.freeN 256
      let s := s.setChan chan { c with active := false, busOff := true, recessive := false, recover := false
                                       tec := 256 + t, rec_ := r }
      let s := (s.flushPort (64 + chan)).1
      (s.cnt (Reg.slowchBusoffCount chan) 1).event 0x0C 0x01 (64 + chan) (w32 (256 + t + r * 2 ^ 16)) 0)

/-- A channel recovers once the recessive bits have passed and, with BUSOFF_MANUAL, it has been told to. -/
def State.tryRecover (s : State) (n : Nat) : State :=
  let c := s.chan n
  if c.busOff ∧ c.recessive ∧ (¬ bit c.w0 13 ∨ c.recover) then (s.setChan n { c with tec := 0, rec_ := 0 }).chanActive n else s

/-- BUS_OFF_RECOVERY (R326): 128 occurrences of 11 recessive bits have passed. -/
def execBusOffRecovery (chan : Nat) (s : State) : Host.Outcome State Fault Refusal :=
  finish s (whileUp s fun s =>
    let c := s.chan chan
    if c.busOff then (s.setChan chan { c with recessive := true }).tryRecover chan else s)

/-- RECOVER of SLOWCH_RECOVER is written (R326). -/
def State.recoverChan (s : State) (n : Nat) (v : Word) : State :=
  let c := s.chan n
  if bit v 0 ∧ c.busOff then (s.setChan n { c with recover := true }).tryRecover n else s

/-- SLOWCH_RECOVER. -/
def execSlowchRecover (chan : Fin 64) (v : Word) (s : State) : Host.Outcome State Fault Refusal :=
  finish s (whileUp s fun s => s.recoverChan chan.val v)

/-! ## Reception (R324, R327, R328) -/

/-- The largest data field of a kind of frame on a channel. -/
def kindMax (mode kind : Nat) : Nat :=
  match kind with
  | 4 => 256
  | 0 => 8
  | 1 => 64
  | _ => if mode = 2 ∨ mode = 3 then 2048 else 0

/-- KIND of the metadata for a channel's mode (Table 3.6). -/
def kindOf (frame : Nat) : Nat := if frame < 2 then 1 else if frame = 2 then 2 else 3

/-- The receive error count after a frame (ISO 11898-1). -/
def recAfter (r : Nat) (good : Bool) : Nat := if good then (if 127 < r then 120 else r - 1) else min 255 (r + 1)

/-- The image of a received frame (Table 10.2). BRS and ESI are bits of a CAN FD frame.
DESIGN CHOICE: log entry 135. -/
def slowImage (chanId : Nat) (data : List Byte) (flags : Byte) (af ns : Nat) : List Byte :=
  bytesBE 4 chanId ++ bytesBE 2 data.length ++ [if frameKind chanId = 1 then flags &&& 0xC0#8 else 0, 0] ++ bytesBE 4 af ++ bytesBE 4 ns ++ data

/-- A frame that passed checks 1 to 3 goes on: its tag is verified and it is admitted. -/
def State.slowAdmit (s : State) (n : Nat) (f : SlowFrame) (back late : Nat) : State :=
  let kind := frameKind f.chanId.toNat
  let id := f.chanId.toNat
  let af := if kind = 2 then f.af.toNat else 0
  match s.chanRx n id f.data with
  | (s, none) => s.drop (64 + n) 5
  | (s, some d) =>
    let ns := s.nsAgo (back + late)
    s.admitFrame (64 + n) (kindOf kind) (16 + d.length) (slowImage id d f.flags af ns) (s.clk.age - back - late) ns late

/-- SLOW_FRAME_RECEIVED (R328). A frame that the channel's mode does not know is none. -/
def execSlowFrameReceived (chan : Nat) (f : SlowFrame) (s : State) : Host.Outcome State Fault Refusal :=
  finish s (whileUp s fun s =>
    let c := s.chan chan
    let kind := frameKind f.chanId.toNat
    if ¬ c.active ∨ ¬ kindFits c.mode kind then s
    else if s.twin.ingressHeld then s.cnt Reg.mitreResyncDropCount 1
    else if s.pwr.entry.isSome then s.cnt Reg.powerEntryDropCount 1
    else if ¬ s.ingressOpen then s
    else
      let can := kind < 3
      let back := ceilDiv (c.wireNs (slowImage f.chanId.toNat f.data f.flags (if kind = 2 then f.af.toNat else 0) 0) * 5) 4
      let late := s.fifoWait back
      let s := s.leaveDozeIn late
      let s := if can then s.setChan chan { c with rec_ := recAfter c.rec_ f.good } else s
      if kind = 0 ∧ f.remote ∧ f.good then s.cnt (Reg.slowchRemoteCount chan) 1
      else if (kind = 3 ∧ f.runt) ∨ (kind = 4 ∧ f.data.isEmpty) then s.drop (64 + chan) 2
      else if kindMax c.mode kind < f.data.length then s.drop (64 + chan) 3
      else if ¬ f.good then (s.cnt (Reg.slowchRxErrCount chan) 1).drop (64 + chan) 1
      else s.slowAdmit chan f back late)

/-! ## WAKE_PATTERN_WRITE (R350, R362) -/

/-- The designated channels in word 0, 0x7F naming none. -/
def Request.desigs (q : Request) : List Nat := [0, 8, 16, 24].map (fun i => q.f 0 i 7)

/-- The patterns, eight words each. -/
def Request.patterns (q : Request) : List (List Word) :=
  (List.range (q.words.length / 8)).map (fun i => (q.words.drop (1 + 8 * i)).take 8)

/-- A pattern sets a bit that must be 0. -/
def patternStray (p : List Word) : Bool :=
  strayBits (wd p 0) 0x000F0F7F || strayBits (wd p 1) 0x1FFFFFFF || strayBits (wd p 2) 0x1FFFFFFF || wd p 7 != 0

/-- WAKE_PATTERN_WRITE (R362).
DESIGN CHOICE: log entry 199. -/
def State.wakePatternWrite (s : State) (q : Request) : State × CmdEnd :=
  let ds := q.desigs.filter (· != 0x7F)
  let ps := q.patterns
  let idx := ps.map (fun p => fld (wd p 0) 0 4)
  let slow (n : Nat) : Bool := [125000, 250000, 500000].contains (s.chan n).nomRate
  if q.stray 0 0x7F7F7F7F ∨ ds.any (fun d => decide (64 ≤ d) || !slow d) ∨ ds.eraseDups.length ≠ ds.length ∨
      idx.eraseDups.length ≠ idx.length ∨ ps.any patternStray then (s, fin 0x0186)
  else match ds.find? (fun d => (s.chan d).mode != 1 && (s.chan d).mode != 2) with
    | some d => (s, .final St.applyConflict [w32 (4 * 2 ^ 16 + d)])
    | none =>
      let pats := ps.foldl (fun m p => smSet [] m (fld (wd p 0) 0 4) p) s.heath.patterns
      ({ s with heath := { s.heath with desig := q.desigs, patterns := pats } }, fin St.ok)

/-- WAKE_PATTERN_WRITE. -/
def execWakePatternWrite (q : Request) (s : State) : Host.Outcome State Fault Refusal :=
  finish s (runCmd Op.wakePatternWrite q State.wakePatternWrite s)

end Sys2Proof.Machine
end

