-- ==== Sys2Proof/Machine/Power.lean ====
section
/-! DEFINITION. Power, clocks and resets (R458 to R467, R471, R472, R476, R479, R480): the clearing events, the rails, the
wakes and the rows of the Heath domain. -/

namespace Sys2Proof.Machine

/-! ## Clearing events (R7, R472) -/

/-- Registers of the HEATH block, which keep their values at a clearing event (R484). -/
def heathKept (a : Nat) : Bool := decide (0x10000 ≤ a) && decide (a < 0x11000) && a != Reg.heathPosted

/-- The registers that divide action memory, whose values a clearing event puts into force (R225). -/
def regionKept (a : Nat) : Bool :=
  a == Reg.cohereCtrBase || a == Reg.cohereCtrLines || a == Reg.cohereCowBase || a == Reg.cohereCowCount

/-- The core domain returns to its reset state (R7, Table 14.5). The Heath domain, the OTP, the flash, the rails and what
the device has sent stay. A rewrite of the user calibration store under way is cut short (R477). -/
def State.resetCore (s : State) : State :=
  { State.reset with
    pending := s.pending
    free := s.free
    reg := { regReset with vals := s.reg.vals.filter (fun x => heathKept x.1 || regionKept x.1) }
    cmdq := { cmdqReset with nextId := s.cmdq.nextId }
    fab := { fabReset with nextIdent := s.fab.nextIdent }
    twin := { twinReset with nextRef := s.twin.nextRef }
    sw := { switchReset with nextFrame := s.sw.nextFrame }
    sec := { s.sec with sessions := [], cfg := [], keys := keys0, wipeEnd := 0, internalFault := false }
    pwr := { s.pwr with
      starting := true, booted := false, fwReady := false, recovery := false, entry := none, dozeOn := false
      lanes := 0xFF, laneIdle := [], ungating := [], temp := 0, thermWarn := false, user := []
      calFlash := if s.pwr.calWrites = 0 then s.pwr.calFlash else [], calWrites := 0 }
    heath := s.heath
    upd := { s.upd with
      onTrial := false, headerFirst := false, verified := false, verifying := none, chunks := [], relay := none
      relayFrom := none, relayRecurse := false, unreadable := false, settings := [], apply := none, readyAt := 0
      restart := false }
    out := s.out }

/-- The return from Keep: a clearing event through which the tables and the action memory stay (Table 14.5). -/
def State.resetKeep (s : State) : State :=
  let r := s.resetCore
  { r with
    tern := { ternReset with
      rows := s.tern.rows, words := s.tern.words, segments := s.tern.segments, tables := s.tern.tables
      profiles := s.tern.profiles, invalid := s.tern.invalid }
    exm := { exactReset with slots := s.exm.slots, tables := s.exm.tables }
    coh := { cohReset with mem := s.coh.mem, cow := s.coh.cow }
    sw := { r.sw with policers := s.sw.policers, everEnabled := s.sw.everEnabled, groups := s.sw.groups }
    mapper := { mapperReset with
      routes := smMap route0 (fun _ (x : Route) => { x with value := none, last := none }) s.mapper.routes
      pdus := smMap pdu0 (fun _ (x : Pdu) => { x with slot := 0, slotNs := 0 }) s.mapper.pdus }
    time := { timeReset with
      tables := smMap slotTable0 (fun _ (x : SlotTable) => { x with entry := 0, cycleNs := 0, swapFrom := 0, deferred := [] })
        s.time.tables } }

/-- The core domain runs or is starting, so that a hold or a loss of its supply resets it. -/
def State.coreOn (s : State) : Bool := s.pwr.state == .run || s.pwr.state == .doze

/-- A hold resets the core domain; in standby there is none to reset. It ends in Run. -/
def State.resetIfOn (s : State) : State :=
  if s.coreOn then { s.resetCore with pwr := { s.resetCore.pwr with state := .run } } else s

/-! ## Wakes (R459, R471, R475, R476) -/

/-- The straps VIO2_SEL_k are sampled at VAON power-on and at every rise of PWR_IO_EN (R522). -/
def State.sampleStraps (s : State) (rises : Bool) : State :=
  if rises then { s with pwr := { s.pwr with vio2Sel := s.pwr.vio2Strap } } else s

/-- The rail requests of a power state (Table 14.4). -/
def State.setPower (s : State) (p : PowerState) : State :=
  let s := s.sampleStraps (p != .fallow && !s.pwr.ioEn)
  { s with pwr := { s.pwr with
      state := p
      coreEn := p == .run || p == .doze || p == .keep
      retEn := p == .keep
      ioEn := p != .fallow
      ioFirst := s.pwr.ioFirst || p == .watch } }

/-- The power state of a STATE value (Table 14.4). -/
def powerOf (n : Nat) : PowerState :=
  match n with
  | 0 => .run
  | 1 => .doze
  | 2 => .keep
  | 3 => .watch
  | _ => .fallow

/-- The states in which a cause wakes the device (Table 14.4). -/
def wakeListed (p : PowerState) (cause : Nat) : Bool :=
  match p with
  | .keep => decide (cause ≤ 5) || cause == 7
  | .watch => decide (cause ≤ 5) || cause == 7
  | .fallow => cause == 1 || cause == 2 || cause == 7
  | _ => false

/-- WAKE_CONFIG has enabled the source (R476, R482). A WAKE_IN must not be claimed for time capture. -/
def State.wakeEnabled (s : State) (cause detail : Nat) : Bool :=
  let b (i : Nat) : Bool := s.rb Reg.heathWakeCtrl i
  match cause with
  | 1 => b (4 + detail) && nfld s.time.capture detail 1 == 0
  | 2 => b 12
  | 3 => b 0
  | 4 => b 13
  | 5 => b 14
  | 7 => true
  | _ => false

/-- The device wakes from standby: the wake is recorded, the rails are requested and the start is due (R476). RST_N loses
the tables even in Keep (R464). -/
def State.wakeNow (s : State) (w : Wake) : State :=
  let keep := s.pwr.state == .keep && w.cause != 7
  let s := s.wakeRecord w.cause w.detail w.chan
  let s : State := { s with heath := { s.heath with wakeAt := some s.heath.rtc } }
  (if keep then s.resetKeep else s.resetCore).setPower .run

/-- A wake source acts in the Heath cycle in which another one has woken the device: the lowest cause is recorded (R476). -/
def State.sameWake (s : State) (cause detail chan : Nat) : State :=
  let was := s.rd Reg.heathWakeCause
  if s.pwr.starting ∧ s.heath.wakeAt = some s.heath.rtc ∧ wakeListed (powerOf (fld was 24 3)) cause ∧ cause < fld was 0 4 then
    s.wakeNote (fld was 24 3) cause detail chan
  else s

/-- A wake source acts (R475, R476). Of wakes latched during an entry the lowest cause stands. -/
def State.wakeEvent (s : State) (cause detail chan : Nat) : State :=
  let w : Wake := ⟨cause, detail, chan⟩
  if ¬ s.wakeEnabled cause detail then s
  else match s.pwr.entry with
    | some e =>
      let first := e.latched.all (fun l => decide (cause < l.cause))
      if wakeListed e.target cause then
        { s with pwr := { s.pwr with entry := some { e with
            latched := if first then some w else e.latched, asked := e.asked || cause == 5 } } }
      else s
    | none => if wakeListed s.pwr.state cause then s.wakeNow w else s.sameWake cause detail chan

/-- WAKE_IN_EDGE: a wake source on its chosen edge, and a capture on the rising edge (R335, R476). -/
def execWakeInEdge (pin : Fin 4) (rising : Bool) (s : State) : Host.Outcome State Fault Refusal :=
  finishReset s (
    let n := pin.val
    let s := if s.coreUp ∧ rising ∧ nfld s.time.capture n 1 = 1 then
        { s with time := { s.time with caps := smSet capture0 s.time.caps n s.capture } }
      else s
    if s.rb Reg.heathWakeCtrl (8 + n) = rising then s.wakeEvent 1 n 0 else s)

/-- RTC_ALARM: the seconds value reaches HEATH_RTC_ALARM (R467, R476).
DESIGN CHOICE: log entry 185. -/
def execRtcAlarm (s : State) : Host.Outcome State Fault Refusal :=
  finishReset s (
    let at_ := (s.rd Reg.heathRtcAlarm).toNat * 32768
    if at_ + 32768 ≤ s.heath.rtc then s else (s.untilRtc at_).wakeEvent 4 0 0)

/-- HEATH_WAKE_REQ: an SPI write of 1 (R476). -/
def execHeathWakeReq (s : State) : Host.Outcome State Fault Refusal :=
  finishReset s (if s.spiUp then s.wakeEvent 5 0 0 else s)

/-- WAKE_OUT_RELEASE (R476). -/
def execWakeOutRelease (s : State) : Host.Outcome State Fault Refusal :=
  finish s (match s.heath.wakeOut with
    | none => s
    | some t =>
      let s := s.untilRtc t
      { s with heath := { s.heath with wakeOut := none } })

/-! ## The wake matcher (R350 to R352) -/

/-- The wake matcher runs. -/
def State.matcherOn (s : State) : Bool :=
  (s.pwr.state == .keep || s.pwr.state == .watch) && s.pwr.entry.isNone && !s.pwr.holdVaon && s.rb Reg.heathWakeCtrl 0

/-- The designation that channel `n` holds, in the order that CHANS numbers them. -/
def State.desigOf (s : State) (n : Nat) : Option Nat := firstBelow 4 (fun i => s.heath.desig.getD i 0x7F == n)

/-- WAKE_MATCHER_EDGE: the first dominant edge starts the RC oscillator (R351). -/
def execWakeMatcherEdge (chan : Nat) (s : State) : Host.Outcome State Fault Refusal :=
  finish s (if s.matcherOn ∧ (s.desigOf chan).isSome then { s with heath := { s.heath with wakeRc := true } } else s)

/-- A pattern matches a frame received without error (R352); `d` is the channel's designation. -/
def patternMatches (p : List Word) (d : Nat) (f : SlowFrame) : Bool :=
  let w (i : Nat) : Nat := (wd p i).toNat
  let id := f.chanId.toNat
  let kind := frameKind id
  let ident := if kind = 2 then id % 2 ^ 11 else id % 2 ^ 29
  let ide := kind < 2 && nfld id 29 1 == 1
  let same := (ident ^^^ w 1) &&& w 2 == 0 && ide == bit (wd p 0) 5
  let byteOk (k : Nat) : Bool :=
    let m := nfld (w (5 + k / 4)) (8 * (k % 4)) 8
    m == 0 || (decide (k < f.data.length) && ((f.data.getD k 0).toNat ^^^ nfld (w (3 + k / 4)) (8 * (k % 4)) 8) &&& m == 0)
  bit (wd p 0) 4 && bit (wd p 0) (8 + d) && same &&
    (if kind = 0 then decide (fld (wd p 0) 16 4 ≤ f.data.length) && (List.range 8).all byteOk
     else decide (kind < 3) && bit (wd p 0) 6)

/-- WAKE_MATCH: a frame decoded after the oscillator has started (R351, R352). The lowest pattern that matches is
recorded. -/
def execWakeMatch (chan : Nat) (frame : SlowFrame) (s : State) : Host.Outcome State Fault Refusal :=
  finishReset s (
    match s.desigOf chan with
    | none => s
    | some d =>
      if ¬ s.matcherOn ∨ ¬ s.heath.wakeRc ∨ ¬ frame.good ∨ frame.remote ∨ frame.runt then s
      else match firstBelow 16 (fun i => patternMatches (smGet [] s.heath.patterns i) d frame) with
        | none => s
        | some i => ({ s with heath := { s.heath with wakeRc := false } } : State).wakeEvent 3 i chan)

/-! ## Rails (R459 to R463) -/

/-- The number of a rail: 0 VAON to 5 + k for bank k of VDDIO2. -/
def Rail.num : Rail → Nat
  | .vaon => 0
  | .vddc => 1
  | .vdda => 2
  | .vddah => 3
  | .vddio1 => 4
  | .vddio2 k => 5 + k.val

/-- Rail `p` has an earlier position than rail `r` (Table 14.1).
DEDUCED: log entry 177. -/
def railBefore (p r : Nat) : Bool := decide (p < r) && decide (p < 4 ∨ r < 5)

/-- Rail `p` stands below 90 % without excuse: VDDC at its retention level is allowed in Keep and while it rises again
(R460). -/
def State.railMissing (s : State) (p : Nat) : Bool :=
  s.rail p != .high && !(p == 1 && s.rail 1 == .ret && (s.pwr.retEn || s.pwr.starting))

/-- Rail `r` is out of order with rail `p` missing (R460): not the I/O rails with the core rails absent in the Heath-watch
configuration, on the way into it or out of it. -/
def State.outOfOrder (s : State) (r p : Nat) : Bool :=
  let watch := (s.pwr.ioEn && !s.pwr.coreEn) || s.pwr.ioFirst
  railBefore p r && s.rail r != .low && s.railMissing p && !(watch && decide (4 ≤ r) && decide (1 ≤ p))

/-- The first rail out of order and the missing rail nearest before it. -/
def State.orderFault (s : State) : Option (Nat × Nat) :=
  (List.range 13).findSome? (fun r => ((List.range r).reverse.find? (fun p => s.outOfOrder r p)).map (fun p => (r, p)))

/-- An order fault is recorded and holds the core domain in reset (R461). The count's value past 255 is open. -/
def State.recordOrder (s : State) (rail pred : Nat) (falling : Bool) : State :=
  let n := s.rf Reg.heathPowerOrder 16 8
  let (c, s) := if n < 255 then (n + 1, s) else s.freeN 256
  let s := s.wr Reg.heathPowerOrder (w32 (min rail 5 + 1 + (pred + 1) * 2 ^ 4 + b2n falling * 2 ^ 8 + c * 2 ^ 16))
  let s : State := { s with
    pwr := { s.pwr with holdOrder := true }
    heath := { s.heath with orderRec := true, orderPending := true } }
  s.resetIfOn

/-- How far a rail is up. -/
def RailLevel.rank : RailLevel → Nat
  | .low => 0
  | .ret => 1
  | .mid => 1
  | .high => 2

/-- A rail has a new voltage, in mV. -/
def State.setRail (s : State) (r mv : Nat) : State := { s with pwr := { s.pwr with rails := smSet 0 s.pwr.rails r mv } }

/-- RAIL_CHANGE: a rail crosses a threshold and the order is checked (R460, R461). A fault that stands already is the same
fault. Without VDDC the core domain has lost its state. The straps have the levels given from now on; they count at the next sample
(R522). -/
def execRailChange (rail : Rail) (v : RailReading) (s : State) : Host.Outcome State Fault Refusal :=
  finishReset s (
    let before := s.orderFault
    let was := (s.rail rail.num).rank
    let s := s.setRail rail.num v.mv
    let s : State := { s with pwr := { s.pwr with vio2Strap := v.straps } }
    let level := s.rail rail.num
    let falling := decide (level.rank < was)
    let up := s.pwr.coreEn && [1, 2, 3].all (fun r => s.rail r == .high)
    let s : State := { s with pwr := { s.pwr with ioFirst := s.pwr.ioFirst && !up } }
    if s.pwr.holdVaon then s
    else match s.orderFault with
      | some (r, p) => if before = none then s.recordOrder r p falling else s
      | none => if rail = .vddc ∧ level ≠ .high ∧ ¬ s.pwr.starting then s.resetIfOn else s)

/-- The Heath domain as VAON leaves it; the pins keep their levels. -/
def State.resetHeath (s : State) : State :=
  { s with
    reg := { s.reg with vals := s.reg.vals.filter (fun x => !heathKept x.1) }
    heath := { heathReset with presLow := s.heath.presLow, sealOpen := s.heath.sealOpen } }

/-- VAON_BROWNOUT: VAON below 1.5 V (R463). Nothing works until VAON is back. -/
def execVaonBrownout (s : State) : Host.Outcome State Fault Refusal :=
  finishReset s (
    let s := (s.resetCore.resetHeath).setPower .run
    { s.setRail 0 1400 with pwr := { (s.setRail 0 1400).pwr with holdVaon := true } })

/-- VAON_POWER_ON: VAON reaches 90 % (R459, R460, R463). A rail found up at this moment is an order fault. -/
def execVaonPowerOn (s : State) : Host.Outcome State Fault Refusal :=
  finishReset s (
    let s := (((s.resetCore.resetHeath).setPower .run).sampleStraps true).setRail 0 1800
    let s : State := { s with pwr := { s.pwr with
      ioFirst := false, holdVaon := false, holdOrder := false, holdSysclk := false, holdTherm := false } }
    match (List.range 13).find? (fun r => decide (1 ≤ r) && s.rail r != .low) with
    | some r => s.recordOrder r 0 false
    | none => s)

/-! ## Reset and clocks (R464 to R466, R480) -/

/-- A presence window closes (R381). -/
def State.closeWindow (s : State) : State := { s with heath := { s.heath with windowEnd := none } }

/-- RST_N_LOW: RST_N has been low for `ns` (R464). -/
def execRstNLow (ns : Nat) (s : State) : Host.Outcome State Fault Refusal :=
  finishReset s (
    if ns < 1000 ∨ s.pwr.holdVaon then s
    else
      let s := s.closeWindow
      let s : State := { s with pwr := { s.pwr with holdRst := true } }
      if s.coreOn then s.resetIfOn else s.wakeNow ⟨7, 0, 0⟩)

/-- RST_N_RISE: RST_N rises after `ns` low (R461, R464, R469, R480). -/
def execRstNRise (ns : Nat) (s : State) : Host.Outcome State Fault Refusal :=
  finish s (
    if ¬ s.pwr.holdRst then s
    else { s with pwr := { s.pwr with
      holdRst := false, holdTherm := false
      holdOrder := s.pwr.holdOrder && !(decide (10000 ≤ ns) && s.railsHigh) } })

/-- SYSCLK_LOSS (R466). -/
def execSysclkLoss (s : State) : Host.Outcome State Fault Refusal :=
  finishReset s (
    if ¬ s.coreOn then s
    else ({ s with
      pwr := { s.pwr with holdSysclk := true }, heath := { s.heath with clkRec := true } } : State).resetIfOn)

/-- SYSCLK_RESTORED: SYSCLK has been present for 1 ms (R466, R476). -/
def execSysclkRestored (s : State) : Host.Outcome State Fault Refusal :=
  finish s (
    if ¬ s.pwr.holdSysclk then s
    else ({ s with pwr := { s.pwr with holdSysclk := false } } : State).wakeRecord 8 0 0)

/-- XTAL_FAIL (R466). -/
def execXtalFail (s : State) : Host.Outcome State Fault Refusal :=
  finish s { s with heath := { s.heath with xtalFail := true } }

/-- THERMAL_TRIP: 135 °C (R480). -/
def execThermalTrip (s : State) : Host.Outcome State Fault Refusal :=
  finishReset s (
    if ¬ s.coreOn ∨ s.pwr.holdTherm then s
    else
      let s := s.cnt Reg.heathThermTripCount 1
      ({ s with
        pwr := { s.pwr with holdTherm := true }
        heath := { s.heath with thermRec := true, thermPending := true } } : State).resetIfOn)

/-- THERMAL_RESTART: the junction falls below 105 °C (R480). -/
def execThermalRestart (s : State) : Host.Outcome State Fault Refusal :=
  finish s (
    if ¬ s.pwr.holdTherm ∨ ¬ s.rb Reg.heathThermCtrl 0 then s
    else ({ s with pwr := { s.pwr with holdTherm := false } } : State).wakeRecord 8 0 0)

/-- The records that a write of HEATH_RECORD_CLEAR clears: ORDER, CLK, THERM, VAON_POR (R461, R463, R466, R480). -/
def State.clearRecords (s : State) (v : Word) : State :=
  let s := if bit v 0 then s.wr Reg.heathPowerOrder 0 else s
  { s with heath := { s.heath with
      orderRec := s.heath.orderRec && !bit v 0, orderPending := s.heath.orderPending && !bit v 0
      clkRec := s.heath.clkRec && !bit v 1
      thermRec := s.heath.thermRec && !bit v 2, thermPending := s.heath.thermPending && !bit v 2
      vaonPor := s.heath.vaonPor && !bit v 3 } }

/-- HEATH_RECORD_CLEAR.ORDER (R461). -/
def execClearOrderRecord (s : State) : Host.Outcome State Fault Refusal := finish s (s.clearRecords 1)

/-- HEATH_RECORD_CLEAR.CLK (R466). -/
def execClearClkRecord (s : State) : Host.Outcome State Fault Refusal := finish s (s.clearRecords 2)

/-- HEATH_RECORD_CLEAR.THERM (R480). -/
def execClearThermRecord (s : State) : Host.Outcome State Fault Refusal := finish s (s.clearRecords 4)

/-- HEATH_RECORD_CLEAR.VAON_POR (R463). -/
def execClearVaonPorRecord (s : State) : Host.Outcome State Fault Refusal :=
  finish s (s.clearRecords 8)

/-! ## Gating within Run (R479) -/

/-- MIN_LANES (Table 14.9). -/
def State.minLanes (s : State) : Nat := min 8 (max 1 (s.rf Reg.powerLaneCtrl 0 4))

/-- IDLE_US in CCLK. -/
def State.laneIdleC (s : State) : Nat := max 1 (s.rf Reg.powerLaneCtrl 8 8) * usC

/-- The age clock at which lane `l` has been idle for IDLE_US. -/
def State.laneDue (s : State) (l : Nat) : Nat := smGet 0 s.pwr.laneIdle l + s.laneIdleC

/-- LANE_GATE (R479), with the lane's cache (R228). A higher lane that is due goes first, and a read of the lane's cache that is still
open is waited for. -/
def execLaneGate (lane : Nat) (s : State) : Host.Outcome State Fault Refusal :=
  finish s (whileUp s fun s =>
    let on := (List.range 8).filter s.laneOn
    if on.length ≤ s.minLanes ∨ ¬ on.contains lane ∨ s.laneLoad lane ≠ 0 ∨ s.agentReads lane then s
    else
      let s := s.until (s.laneDue lane)
      if on.any (fun l => decide (lane < l) && s.laneLoad l == 0 && decide (s.laneDue l ≤ s.clk.age)) then s
      else
        let s := s.gateCache lane
        { s with pwr := { s.pwr with lanes := s.pwr.lanes - 2 ^ lane } })

/-- LANE_UNGATE_DONE: 1,250 CCLK after the ungating began (R479). -/
def execLaneUngateDone (lane : Nat) (s : State) : Host.Outcome State Fault Refusal :=
  finish s (whileUp s fun s =>
    if ¬ s.pwr.ungating.contains lane ∨ s.laneOn lane then s
    else
      let s := (s.until (smGet 0 s.pwr.laneIdle lane + 1250)).ungateCache lane
      { s with pwr := { s.pwr with lanes := s.pwr.lanes + 2 ^ lane, ungating := s.pwr.ungating.erase lane } })

/-! ## Calibration (R477, R478) -/

/-- A calibration item and index of Table 14.6. -/
def calExists (item index : Nat) : Bool :=
  if item = 1 ∨ item = 2 then decide (index < 52) else decide (1 ≤ item) && decide (item ≤ 7) && index == 0

/-- CAL_READ: POWER_CAL_CMD with OP 0 and GO. An item that Table 14.6 does not list has no value: it reads a free one. -/
def State.calRead (s : State) : State :=
  let item := s.rf Reg.powerCalSel 0 4
  let index := s.rf Reg.powerCalSel 8 6
  if calExists item index then
    let (v, user) := s.calValue item index
    s.wr Reg.powerCalResult (w32 ((v % 2 ^ 16).toNat + b2n user * 2 ^ 16))
  else
    let (n, s) := s.freeN (2 ^ 16)
    s.wr Reg.powerCalResult (w32 n)

/-- CAL_WRITE: POWER_CAL_CMD with OP 1 and GO. The item takes no user value: ERR.
DESIGN CHOICE: log entry 179. -/
def State.calWrite (s : State) : State :=
  let item := s.rf Reg.powerCalSel 0 4
  let index := s.rf Reg.powerCalSel 8 6
  if calExists item index ∧ item ≤ 5 then
    let v := signed 16 (s.rf Reg.powerCalValue 0 16)
    let s := s.wr Reg.powerCalResult (w32 ((v % 2 ^ 16).toNat + 2 ^ 16))
    { s with pwr := { s.pwr with
        user := smSet none s.pwr.user (64 * item + index) (some v), calWrites := s.pwr.calWrites + 1 } }
  else s.wr Reg.powerCalResult (w32 (2 ^ 17))

/-- POWER_CAL_CMD as the firmware takes a GO. -/
def State.calGo (s : State) (op : Nat) : State :=
  if op = 0 then s.calRead else if op = 1 then s.calWrite else s

/-- POWER_CAL_CMD is written. A GO that finds the firmware not running is kept until it runs, with one further request (R4, R6). -/
def State.calCmd (s : State) (v : Word) : State :=
  let s := s.wr Reg.powerCalCmd (w32 (fld v 0 2))
  if ¬ bit v 31 then s
  else if s.fwUp ∧ s.pwr.calReqs = 0 then s.calGo (fld v 0 2)
  else { s with pwr := { s.pwr with calReqs := min 2 (s.pwr.calReqs + 1) } }

/-- A kept request of POWER_CAL_CMD starts, with the register values of its own start (R6). -/
def State.calNext (s : State) : State :=
  if s.pwr.calReqs = 0 ∨ ¬ s.fwUp then s
  else ({ s with pwr := { s.pwr with calReqs := s.pwr.calReqs - 1 } } : State).calGo (s.rf Reg.powerCalCmd 0 2)

/-- CAL_READ: a write of POWER_CAL_CMD with GO. -/
def execCalRead (v : Word) (s : State) : Host.Outcome State Fault Refusal := finish s (whileUp s (·.calCmd v))

/-- CAL_WRITE: a write of POWER_CAL_CMD with GO. -/
def execCalWrite (v : Word) (s : State) : Host.Outcome State Fault Refusal := finish s (whileUp s (·.calCmd v))

/-- CAL_STORE_WRITTEN: the user store has been rewritten, or erased for CAL_RESTORE_FACTORY, with or without an error. A
store that could not be rewritten fails its CRC (R477). -/
def execCalStoreWritten (ok : Bool) (s : State) : Host.Outcome State Fault Refusal :=
  finish s (whileFw s fun s =>
    if s.pwr.calWrites ≠ 0 then
      { s with pwr := { s.pwr with calFlash := if ok then s.pwr.user else [], calWrites := 0 } }
    else if s.waits .calErase then
      let s : State := { s with pwr := { s.pwr with calFlash := if ok then [] else s.pwr.calFlash } }
      s.wakeWith .calErase (fun w => if ok then (St.ok, w.payload) else (0x06C0, []))
    else s)

/-- CAL_RESTORE_FACTORY (R478). Its reply waits for the flash. -/
def State.calRestore (s : State) (q : Request) : State × CmdEnd :=
  if s.lifeCycle = 2 then (s, fin St.lcRefused)
  else
    let n := s.pwr.user.length
    let s : State := { s with pwr := { s.pwr with user := [] } }
    (s.wait .calErase Op.calRestoreFactory q St.ok [w32 n], .quiet)

/-- CAL_RESTORE_FACTORY. -/
def execCalRestoreFactory (q : Request) (s : State) : Host.Outcome State Fault Refusal :=
  finish s (runCmd Op.calRestoreFactory q State.calRestore s)

/-- TEMP_READING: the sensor reads `t` in 0.25 °C before the offset of item 3 (R480). -/
def execTempReading (t : Int) (s : State) : Host.Outcome State Fault Refusal :=
  finish s (whileUp s fun s =>
    let temp := t + (s.calValue 3 0).1
    let warn : Int := 4 * s.rf Reg.powerThermWarn 0 8
    let on := if s.pwr.thermWarn then decide (warn - 20 < temp) else decide (warn ≤ temp)
    let was := s.pwr.thermWarn
    let s : State := { s with pwr := { s.pwr with temp := temp, thermWarn := on } }
    if on ∧ ¬ was then s.event 0x15 0x01 0 (w32 (temp % 2 ^ 12).toNat) 0 else s)

/-! ## Commands (R481 to R483) -/

/-- Some wake source of a state other than RST_N is enabled. -/
def State.anyWake (s : State) (p : PowerState) : Bool :=
  (wakeListed p 1 && [0, 1, 2, 3].any (fun n => s.wakeEnabled 1 n)) ||
    [2, 3, 4, 5].any (fun c => wakeListed p c && s.wakeEnabled c 0)

/-- WAKE_CONFIG (R482). -/
def State.wakeConfig (s : State) (q : Request) : State × CmdEnd :=
  if q.stray 0 0xFFFF7FF1 ∨ q.f 0 24 8 = 0 then (s, fin 0x01C0)
  else match firstBelow 4 (fun n => q.b 0 (4 + n) && nfld s.time.capture n 1 == 1) with
    | some n => (s, .final St.applyConflict [w32 (2 * 2 ^ 16 + n)])
    | none => ((s.wr Reg.heathWakeCtrl (q.w 0)).wr Reg.heathRtcAlarm (q.w 1), fin St.ok)

/-- WAKE_CONFIG. -/
def execWakeConfig (q : Request) (s : State) : Host.Outcome State Fault Refusal :=
  finish s (runCmd Op.wakeConfig q State.wakeConfig s)

/-- The powered segments (R109, R479).
DESIGN CHOICE: log entry 196. -/
def State.poweredSegs (s : State) : Nat := bitmap ((s.tern.segments.filter (fun x => x.2.table != 0)).map (·.1))

/-- The powered Ethernet ports: those in a MODE other than 0. -/
def State.poweredPorts (s : State) : Nat := bitmap ((List.range 32).filter (fun n => (s.ethPort n).mode != 0))

/-- The powered groups of eight slow channels. -/
def State.poweredGroups (s : State) : Nat :=
  bitmap ((List.range 8).filter (fun k => (List.range 8).any (fun i => (s.chan (8 * k + i)).mode != 0)))

/-- POWER_REPORT (R483). -/
def State.powerReport (s : State) (_ : Request) : State × CmdEnd :=
  let w0 := s.pwr.state.code + s.pwr.lanes * 2 ^ 8 + s.coresOn * 2 ^ 16 + b2n s.pwr.recovery * 2 ^ 24
  (s, .final St.ok ([w32 w0] ++ toWords 4 s.poweredSegs ++ [w32 s.poweredPorts, w32 s.poweredGroups,
    s.rd Reg.arrayGovCtrl, w32 (s.tern.govLevel / 1250), w32 (s.pwr.temp % 2 ^ 12).toNat]))

/-- POWER_REPORT. -/
def execPowerReport (q : Request) (s : State) : Host.Outcome State Fault Refusal :=
  finish s (runCmd Op.powerReport q State.powerReport s)

end Sys2Proof.Machine
end

