-- ==== Sys2Proof/Machine/SecCmd.lean ====
section
/-! DEFINITION. Keys, sessions, presence, tamper and the life cycle (R366 to R370, R380 to R396). -/

namespace Sys2Proof.Machine

/-! ## The wipe (R366, R368) -/

/-- An offset of the secure region (R366). -/
def inSecure (o : Nat) : Bool := decide (0x380000 ≤ o) && decide (o ≤ 0x3FFFFF)

/-- What a command that may wipe leaves: of the scratchpad, at most the secure region is zeroed (R368). -/
def State.afterWipe (s t : State) : State :=
  { t with
    pending := s.pending, sec := { t.sec with log := s.sec.log }
    scr := { t.scr with
      mem := if t.scr.mem = s.scr.mem then s.scr.mem else s.scr.mem.filter (fun c => !inSecure c.1) } }

/-- The outcome of a command that may wipe. -/
def finishWipe (s t : State) : Host.Outcome State Fault Refusal := .next (s.afterWipe t)

/-- A wipe: sessions and keys go at once, the zeroing of the secure region ends within 10 µs, and the erase of the flash key store
begins (R368). `cause` is that of the event.
DESIGN CHOICE: log entry 147. -/
def State.wipe (s : State) (cause : Nat) : State :=
  let (n, s) := s.freeN (10 * usC + 1)
  let s : State := { s with
    sec := { s.sec with sessions := [], keys := keys0, flashKeys := keys0, wipeEnd := s.clk.age + n }
    scr := { s.scr with
      mem := s.scr.mem.filter (fun c => !inSecure c.1), bad := s.scr.bad.filter (fun c => !inSecure c.1) }
    heath := { s.heath with pendingWipe := true } }
  (s.cnt Reg.secWipeCount 1).event 0x12 0x03 0 (w32 cause) 0

/-- KEY_STORE_ERASE_DONE (R368). -/
def execKeyStoreEraseDone (s : State) : Host.Outcome State Fault Refusal :=
  finish s (whileFw s fun s => { s with heath := { s.heath with pendingWipe := false } })

/-! ## Sessions (R370, R388 to R391) -/

/-- The life-cycle state permits KEY_LOAD, FABRIC_KEY_SET and SESSION_CREATE (Table 11.3). -/
def State.lcKeys (s : State) : Bool := s.lifeCycle == 1 || s.lifeCycle == 2 || s.lifeCycle == 3

/-- Two sessions claim one binding (R370). -/
def sameBinding (x y : Session) : Bool :=
  x.kind == y.kind && x.port == y.port &&
    (match x.kind with
     | 0 => x.an == y.an
     | 1 => x.an == y.an && x.sci == y.sci
     | 2 => x.dflt && y.dflt
     | _ => x.chanId == y.chanId)

/-- BAD_SEC_PARAM of SESSION_CREATE with OBJ 0 (Tables 11.4 and 11.5). -/
def State.badSession (s : State) (q : Request) : Bool :=
  let kind := q.f 0 2 2
  let port := q.f 1 0 8
  let mac := decide (kind < 2)
  let xpn := mac && (s.secCfg port).xpn
  let zero (i : Nat) : Bool := q.w i == 0
  q.stray 0 0x1FFF01FF || q.stray 1 0x1FFF || q.words.length != (if q.b 0 8 then 20 else 16) ||
    !(if mac then decide (port < 32) else decide (64 ≤ port) && decide (port < 128)) ||
    (!mac && q.f 1 8 2 != 0) || (mac && q.f 1 10 2 != 0) || q.f 1 10 2 == 3 || (kind != 2 && q.b 1 12) ||
    ((kind == 0 || kind == 2) && !(zero 2 && zero 3)) || ((!xpn) && !(zero 5 && zero 6 && zero 7 && zero 8 && zero 9)) ||
    (mac && zero 4 && zero 5)

/-- The session that SESSION_CREATE describes. -/
def Request.session (q : Request) (key : List Byte) : Session :=
  let kind := q.f 0 2 2
  let n := (q.w 4).toNat + 2 ^ 32 * (q.w 5).toNat
  { kind := kind, port := q.f 1 0 8, an := q.f 1 8 2, tagLen := q.f 1 10 2, dflt := q.b 1 12
    sci := if kind = 1 then BitVec.ofNat 64 ((q.w 2).toNat + 2 ^ 32 * (q.w 3).toNat) else 0
    chanId := if kind = 3 then q.w 2 else 0, window := if kind = 3 then q.w 3 else 0
    pn := n, low := n, ssci := q.w 6, salt := BitVec.ofNat 96 (ofWords [q.w 7, q.w 8, q.w 9]), key := key
    exhausted := false, threshold := false, good := 0, failures := 0, replays := 0, unusable := false }

/-- The session number that SESSION_CREATE takes; none with AUTO and no session free. -/
def State.sessionPick (s : State) (q : Request) : Option Nat :=
  if q.b 0 28 then firstBelow 4096 (fun n => (s.session n).isNone) else some (q.f 0 16 12)

/-- SESSION_CREATE with OBJ 0 (R369, R387, R388).
DEDUCED: log entry 144. -/
def State.sessionCreate (s : State) (q : Request) : State × CmdEnd :=
  let wrapped := nats ((bytesOf (q.words.drop 10)).take (if q.b 0 8 then 40 else 24))
  if s.badSession q then (s, fin 0x0190)
  else if ¬ s.lcKeys then (s, fin St.lcRefused)
  else if s.heath.tampPresent then (s, fin 0x0493)
  else match smGet none s.sec.keys.keks (q.f 0 4 4) with
    | none => (s, fin 0x0492)
    | some kek =>
      match keyUnwrap (nats kek) wrapped with
      | none => (s, fin 0x0491)
      | some key =>
        match s.sessionPick q with
        | none => (s, fin 0x0290)
        | some n =>
          let x := q.session (bytes key)
          if (s.session n).isSome then (s, .final St.applyConflict [w32 (5 * 2 ^ 16 + n)])
          else if (s.findSession (sameBinding x)).isSome then (s, fin 0x0390)
          else (s.setSession n (some x), .final St.ok [w32 n])

/-- BAD_SEC_PARAM of SESSION_CREATE with OBJ 1. -/
def Request.badSecCfg (q : Request) : Bool :=
  let port := q.f 0 8 8
  q.words.length != 4 ||
    (if port < 32 then q.stray 0 0x0FFFFF03 || q.f 0 23 2 == 3 || q.f 0 21 2 == 3
     else !(decide (64 ≤ port) && decide (port < 128)) || q.stray 0 0x0007FF03 || q.f 0 17 2 == 3 ||
       q.w 1 != 0 || q.w 2 != 0 || q.w 3 != 0)

/-- SESSION_CREATE with OBJ 1 (R389). -/
def State.secSettings (s : State) (q : Request) : State × CmdEnd :=
  if q.badSecCfg then (s, fin 0x0190)
  else if ¬ s.lcKeys then (s, fin St.lcRefused)
  else
    let c : SecCfg := ⟨q.w 0, q.w 1, BitVec.ofNat 64 ((q.w 2).toNat + 2 ^ 32 * (q.w 3).toNat)⟩
    ({ s with sec := { s.sec with cfg := smSet secCfg0 s.sec.cfg (q.f 0 8 8) c } }, fin St.ok)

/-- SESSION_CREATE (R388, R389). -/
def execSessionCreate (q : Request) (s : State) : Host.Outcome State Fault Refusal :=
  finish s (runCmd Op.sessionCreate q (fun s q =>
    match q.f 0 0 2 with
    | 0 => s.sessionCreate q
    | 1 => s.secSettings q
    | _ => (s, fin 0x0190)) s)

/-- SESSION_DELETE (R390). -/
def State.sessionDelete (s : State) (q : Request) : State × CmdEnd :=
  let n := q.f 0 0 12
  if q.stray 0 0xFFF then (s, fin 0x0190)
  else if (s.session n).isNone then (s, fin 0x0191)
  else (s.setSession n none, fin St.ok)

/-- SESSION_DELETE. -/
def execSessionDelete (q : Request) (s : State) : Host.Outcome State Fault Refusal :=
  finish s (runCmd Op.sessionDelete q State.sessionDelete s)

/-- SESSION_STATUS (R391). A MACsec receive SA reports the number before the next one it expects.
DEDUCED: log entry 145. -/
def State.sessionStatus (s : State) (q : Request) : State × CmdEnd :=
  if q.stray 0 0xFFF then (s, fin 0x0190)
  else match s.session (q.f 0 0 12) with
    | none => (s, fin 0x0191)
    | some x =>
      let n := if x.kind = 1 then x.pn - 1 else x.pn
      let w0 := x.kind + b2n x.exhausted * 4 + b2n x.threshold * 8 + x.an * 16 + x.port * 256
      (s, .final St.ok (w32 w0 :: toWords 2 n ++ [w32 x.good, w32 x.failures, w32 x.replays]))

/-- SESSION_STATUS. -/
def execSessionStatus (q : Request) (s : State) : Host.Outcome State Fault Refusal :=
  finish s (runCmd Op.sessionStatus q State.sessionStatus s)

/-! ## Keys (R394) -/

/-- The key check value: the first three bytes of the encryption of a zero block, byte 0 lowest. -/
def keyCheck (key : List Byte) : Word :=
  w32 (ofBytesLE ((bytes (aesEnc (nats key) (List.replicate 16 0))).take 3))

/-- The key that KEY_LOAD or FABRIC_KEY_SET carries; none to erase. -/
def Request.key (q : Request) : Option (List Byte) :=
  if q.b 0 8 then none else some ((bytesOf (q.words.drop 1)).take (if q.b 0 9 then 32 else 16))

/-- BAD_SEC_PARAM of a key command: `slots` is the number of slots it may name. -/
def Request.badKey (q : Request) (slots : Nat) : Bool :=
  let zeroFrom (i : Nat) : Bool := (q.words.drop i).all (· == 0)
  q.stray 0 0x30F || decide (slots ≤ q.f 0 0 4) || (q.b 0 8 && !zeroFrom 1) || (!q.b 0 9 && !zeroFrom 5)

/-- What a key command answers once it has stored the key. -/
def Request.keyReply (q : Request) : CmdEnd := .final St.ok [(q.key.map keyCheck).getD 0]

/-- A key command's checks that every key needs (R385, R387); 0 when they pass. -/
def State.keyRefused (s : State) : Nat :=
  if ¬ s.lcKeys then St.lcRefused else if s.heath.tampPresent then 0x0493 else 0

/-- KEY_LOAD (R394). -/
def State.keyLoad (s : State) (q : Request) : State × CmdEnd :=
  if q.badKey 16 then (s, fin 0x0190)
  else if s.keyRefused ≠ 0 then (s, fin s.keyRefused)
  else
    let put (k : KeyStore) : KeyStore := { k with keks := smSet none k.keks (q.f 0 0 4) q.key }
    ({ s with sec := { s.sec with keys := put s.sec.keys, flashKeys := put s.sec.flashKeys } }, q.keyReply)

/-- KEY_LOAD. -/
def execKeyLoad (q : Request) (s : State) : Host.Outcome State Fault Refusal :=
  finish s (runCmd Op.keyLoad q State.keyLoad s)

/-- FABRIC_KEY_SET (R394): the fabric key has 256 bits.
DESIGN CHOICE: log entry 146. -/
def State.fabricKeySet (s : State) (q : Request) : State × CmdEnd :=
  if q.badKey 1 ∨ (¬ q.b 0 8 ∧ ¬ q.b 0 9) then (s, fin 0x0190)
  else if s.keyRefused ≠ 0 then (s, fin s.keyRefused)
  else
    let put (k : KeyStore) : KeyStore := { k with fabric := q.key }
    ({ s with sec := { s.sec with keys := put s.sec.keys, flashKeys := put s.sec.flashKeys } }, q.keyReply)

/-- FABRIC_KEY_SET. -/
def execFabricKeySet (q : Request) (s : State) : Host.Outcome State Fault Refusal :=
  finish s (runCmd Op.fabricKeySet q State.fabricKeySet s)

/-! ## Life cycle (R383, R384, R393) -/

/-- The transitions of Table 11.2. -/
def lcAllowed (from_ to_ : Nat) : Bool :=
  match from_ with
  | 0 => to_ == 1
  | 1 => to_ == 2 || to_ == 4 || to_ == 5
  | 2 => to_ == 3 || to_ == 4 || to_ == 5
  | 3 => to_ == 2 || to_ == 4 || to_ == 5
  | 4 => to_ == 1 || to_ == 5
  | _ => false

/-- Transition entries left (R383). -/
def State.lcLeft (s : State) : Nat := 62 - s.sec.log.length

/-- LIFECYCLE_SET (R384, R393): the wipe, and the burn begins. Its final reply waits for the burn.
DESIGN CHOICE: log entry 149. -/
def State.lifecycleSet (s : State) (q : Request) : State × CmdEnd :=
  let to_ := q.f 0 0 4
  if q.stray 0 0xFFFF000F ∨ 5 < to_ then (s, fin 0x0190)
  else if q.f 0 16 16 ≠ 0x4C43 ∨ ¬ lcAllowed s.lifeCycle to_ then (s, fin 0x0494)
  else if to_ ≠ 5 ∧ s.lcLeft = 0 then (s, fin 0x0495)
  else
    let s := s.wipe 1
    ({ s with sec := { s.sec with burning := some (to_, q) } }, .quiet)

/-- LIFECYCLE_SET. -/
def execLifecycleSet (q : Request) (s : State) : Host.Outcome State Fault Refusal :=
  finishWipe s (runCmd Op.lifecycleSet q State.lifecycleSet s)

/-- In SCRAPPED every port and channel is held disabled (R385). -/
def State.scrap (s : State) : State :=
  let s := (List.range 32).foldl (fun s n =>
    if (s.ethPort n).mode = 0 then s
    else
      let s := if (s.ethPort n).linkUp then s.takeDown n else s
      s.setEth n { s.ethPort n with mode := 0 }) s
  (List.range 64).foldl (fun s n =>
    if (s.chan n).mode = 0 then s
    else (s.setChan n { s.chan n with w0 := (s.chan n).w0 &&& 0xFFFFF8FF#32 }).restartChan n) s

/-- LIFECYCLE_BURN_DONE: the entry, or the fuse of SCRAPPED, is burned (R383, R393). -/
def execLifecycleBurnDone (s : State) : Host.Outcome State Fault Refusal :=
  finishOtp s (whileFw s fun s =>
    match s.sec.burning with
    | none => s
    | some (to_, q) =>
      let s : State := { s with sec := { s.sec with burning := none } }
      if to_ ≠ 5 ∧ (¬ lcAllowed s.lifeCycle to_ ∨ s.lcLeft = 0) then s
      else
        let s : State := if to_ = 5 then ({ s with sec := { s.sec with scrapped := true } } : State).scrap
          else { s with sec := { s.sec with log := s.sec.log ++ [some to_] } }
        s.reply Op.lifecycleSet q St.ok [w32 (s.lifeCycle + s.lcLeft * 2 ^ 8)])

/-! ## Presence (R380, R381) -/

/-- PRES_N_FALL: a press begins, and wakes where it is enabled (R380, R476). -/
def execPresNFall (s : State) : Host.Outcome State Fault Refusal :=
  finishReset s (
    if s.heath.presLow ∨ s.pwr.holdVaon then s
    else
      let s : State := { s with heath := { s.heath with
        presLow := true, pressAt := s.heath.rtc, sealOk := s.heath.sealOpen } }
      s.wakeEvent 2 0 0)

/-- PRES_N_RISE: a press of `cycles` Heath cycles ends (R380). The window opens only in Run (R476).
DESIGN CHOICE: log entry 150. -/
def execPresNRise (cycles : Nat) (s : State) : Host.Outcome State Fault Refusal :=
  finish s (
    if ¬ s.heath.presLow then s
    else
      let s := s.untilRtc (s.heath.pressAt + cycles)
      let fits := decide (65536 ≤ cycles) && decide (cycles ≤ 327680) && s.heath.sealOk && s.heath.sealOpen
      let s : State := { s with heath := { s.heath with presLow := false } }
      if ¬ fits then s.cnt Reg.heathPresRejectCount 1
      else if s.pwr.state ≠ .run then s
      else
        let s := if s.presence then s else s.cnt Reg.heathPresCount 1
        { s with heath := { s.heath with windowEnd := some (s.heath.rtc + 120 * 32768) } })

/-- PRESENCE_WINDOW_EXPIRY: 120 s have passed (R380, R381). -/
def execPresenceWindowExpiry (s : State) : Host.Outcome State Fault Refusal :=
  finish s (match s.heath.windowEnd with
    | none => s
    | some t => (s.untilRtc t).closeWindow)

/-- SEAL_CLOSED: SEAL_N is low in four samples (R381). A press in progress no longer qualifies (R380). -/
def execSealClosed (s : State) : Host.Outcome State Fault Refusal :=
  finish s (({ s with heath := { s.heath with sealOpen := false, sealOk := false } } : State).closeWindow)

/-- SEAL_OPENED: SEAL_N goes high. -/
def execSealOpened (s : State) : Host.Outcome State Fault Refusal :=
  finish s { s with heath := { s.heath with sealOpen := true } }

/-! ## Tamper (R386, R387, R392, R396) -/

/-- TAMPER_DETECTED (R386). In standby the wipe is completed at the next start.
DESIGN CHOICE: log entry 151. -/
def execTamperDetected (input : Fin 2) (s : State) : Host.Outcome State Fault Refusal :=
  finishWipe s (
    if ¬ s.rb Reg.heathTampCtrl input.val ∨ s.pwr.holdVaon then s
    else
      let secs := s.heath.rtc / 32768
      let cause := s.heath.tampCause ||| 2 ^ input.val
      let s : State := { s with heath := { s.heath with
        tampPresent := true, tampCause := cause, tampCount := min 255 (s.heath.tampCount + 1)
        tampFirst := if s.heath.tampPresent then s.heath.tampFirst else w32 secs, tampLast := w32 secs } }
      let s := s.closeWindow
      if s.coreUp then (s.wipe 2).event 0x12 0x04 0 (w32 cause) (w32 secs)
      else { s with
        sec := { s.sec with sessions := [], keys := keys0 }, heath := { s.heath with pendingWipe := true } })

/-- HEATH_TAMPER_STATUS (Table 11.7). -/
def State.tamperStatus (s : State) : Word :=
  w32 (b2n s.heath.tampPresent + s.heath.tampCause * 2 + b2n s.heath.pendingWipe * 8 + s.heath.tampCount * 2 ^ 8)

/-- TAMPER_READ (R392). -/
def execTamperRead (q : Request) (s : State) : Host.Outcome State Fault Refusal :=
  finish s (runCmd Op.tamperRead q (fun s _ =>
    (s, .final St.ok [s.tamperStatus, s.heath.tampFirst, s.heath.tampLast, s.rd Reg.heathPresCount])) s)

/-- TAMPER_CLEAR (R396). -/
def execTamperClear (q : Request) (s : State) : Host.Outcome State Fault Refusal :=
  finish s (runCmd Op.tamperClear q (fun s _ =>
    ({ s with heath := { s.heath with
        tampPresent := false, tampCause := 0, tampCount := 0, tampFirst := 0, tampLast := 0 } }, fin St.ok)) s)

end Sys2Proof.Machine
end

