-- ==== Sys2Proof/Machine/Update.lean ====
section
/-! DEFINITION. Firmware and settings update (R486 to R515): the flash, images and chunks, the boot pointer, the trial,
relays and the settings stores. -/

namespace Sys2Proof.Machine

/-! ## Flash (R486, R487) -/

/-- Where a bank begins: false is bank A (Table 15.1). -/
def bankBase (b : Bool) : Nat := if b then 0x200000 else 0x100000

/-- Bytes that an image may take: 28 chunks. -/
def imageMax : Nat := 28 * 4096

/-- A byte of the flash. The image with which the device came has open bytes.
PRESUMED: log entry 18. -/
def State.flByte (s : State) (o : Nat) : Byte :=
  let base := bankBase (s.upd.delivered.getD false)
  if s.upd.delivered.isSome ∧ base ≤ o ∧ o < base + imageMax then Config.imageByte (o - base)
  else smGet 0xFF#8 s.upd.flash o

/-- Bytes of the flash. -/
def State.flBytes (s : State) (o n : Nat) : List Byte := (List.range n).map (fun i => s.flByte (o + i))

/-- Program bytes. -/
def State.flProgram (s : State) (o : Nat) (bs : List Byte) : State :=
  let m := (List.range bs.length).foldl (fun m i => smSet 0xFF#8 m (o + i) (bs.getD i 0)) s.upd.flash
  { s with upd := { s.upd with flash := m } }

/-- Erase a range. -/
def State.flErase (s : State) (o n : Nat) : State :=
  { s with upd := { s.upd with flash := s.upd.flash.filter (fun x => !(decide (o ≤ x.1) && decide (x.1 < o + n))) } }

/-- The check value of a chunk, a pointer or a record: CRC-32C (R490). -/
def flashCrc (bs : List Byte) : Nat := crc32c 0xFFFFFFFF (nats bs)

/-- A little-endian field of some bytes. -/
def leField (bs : List Byte) (i k : Nat) : Nat := ofBytesLE ((bs.drop i).take k)

/-! ## The boot pointer (R492, R493) -/

/-- Read a copy of the boot pointer; none when it is not valid.
PRESUMED: log entry 186. -/
def ptrOf (b : List Byte) : Option BootPtr :=
  let f := leField b 8 1
  let t (i : Nat) : Bool := nfld f i 1 == 1
  if leField b 0 4 = 0x50424756 ∧ leField b 60 4 = flashCrc (b.take 60) then
    some { seq := w32 (leField b 4 4), active := t 0, trial := t 1, prevOk := t 2, floorPending := t 3
           tries := nfld f 4 2, auto := t 6, lastFallback := leField b 9 1, trialStart := w32 (leField b 12 4) }
  else none

/-- The 64 bytes of a boot pointer (Table 15.3). -/
def BootPtr.bytes (p : BootPtr) : List Byte :=
  let f := b2n p.active + b2n p.trial * 2 + b2n p.prevOk * 4 + b2n p.floorPending * 8 + p.tries % 4 * 16 + b2n p.auto * 64
  let b := bytesLE 4 0x50424756 ++ bytesLE 4 p.seq.toNat ++ bytesLE 1 f ++ bytesLE 1 p.lastFallback ++ [0, 0] ++
    bytesLE 4 p.trialStart.toNat ++ List.replicate 44 0
  b ++ bytesLE 4 (flashCrc b)

/-- The copies of the boot pointer. -/
def State.ptrCopy (s : State) (copy : Nat) : Option BootPtr := ptrOf (s.flBytes (0x1000 * copy) 64)

/-- The copy in force; none when no copy is valid. -/
def State.ptrCopyInForce (s : State) : Option Nat :=
  match s.ptrCopy 0, s.ptrCopy 1 with
  | some a, some b => if olderAge b.seq a.seq then some 0 else some 1
  | some _, none => some 0
  | none, some _ => some 1
  | none, none => none

/-- The pointer with every field 0. -/
def ptr0 : BootPtr where
  seq := 0
  active := false
  trial := false
  prevOk := false
  floorPending := false
  tries := 0
  auto := false
  lastFallback := 0
  trialStart := 0

/-- The pointer in force. -/
def State.ptr (s : State) : BootPtr := (s.ptrCopyInForce.bind s.ptrCopy).getD ptr0

/-- A pointer write (R493).
DESIGN CHOICE: log entry 189. -/
def State.writePtr (s : State) (p : BootPtr) : State :=
  let copy := if s.ptrCopyInForce = some 0 then 1 else 0
  (s.flErase (0x1000 * copy) 0x1000).flProgram (0x1000 * copy) ({ p with seq := p.seq + 1 } : BootPtr).bytes

/-! ## Images (R488, R489, R491) -/

/-- The stepping code (Table 2.13). -/
def stepping : Nat := 0x11

/-- Checks 1 to 5 of R489 on the 4,096 bytes of a header: 0, HEADER_INVALID or SIGNATURE_FAILED. -/
def State.headerStatus (s : State) (h : List Byte) : Nat :=
  let f (i k : Nat) := leField h i k
  let body := f 18 4
  let key := f 5 1
  let shape := f 0 4 == 0x57464756 && f 4 1 == 1 && f 23 1 == 0 && ((h.drop 80).take 3920).all (· == 0) && h.length == 4096
  let part := f 6 2 == 0x8432 && decide (f 8 1 ≤ stepping) && decide (stepping ≤ f 9 1)
  let sizes := decide (1 ≤ body) && decide (body ≤ 110592) && decide (nfld (f 13 1) 0 6 ≤ 62)
  if ¬ (shape ∧ part ∧ sizes ∧ nfld s.upd.revoked (key % 4) 1 = 0) then 0x04D0
  else if ecdsaOk (Config.bootKey (key % 4)) (nats (h.take 4000)) (ofBytesBE ((h.drop 4000).take 48))
      (ofBytesBE ((h.drop 4048).take 48)) then 0
  else 0x04D1

/-- The header of the image in a bank. -/
def State.header (s : State) (b : Bool) : List Byte := s.flBytes (bankBase b) 4096

/-- BODY_LEN of a header. -/
def bodyLen (h : List Byte) : Nat := leField h 18 4

/-- The image in a bank is good (0), or the status of the check that fails (R489). -/
def State.imageStatus (s : State) (b : Bool) : Nat :=
  if s.upd.delivered = some b then 0
  else
    let h := s.header b
    if s.headerStatus h ≠ 0 then s.headerStatus h
    else if sha384 (nats (s.flBytes (bankBase b + 4096) (bodyLen h))) = nats ((h.drop 32).take 48) then 0
    else 0x04D2

/-- What a header says (Table 15.2). -/
def runningOf (h : List Byte) : Running where
  version := w32 (leField h 10 3)
  svn := leField h 13 1 % 64
  raise := decide (128 ≤ leField h 13 1)
  schema := leField h 14 2
  schemaMin := leField h 16 2
  revoke := leField h 22 1 % 16
  keyId := leField h 5 1 % 4

/-- What the image in a bank says. That of the image with which the device came is what State.reset runs. -/
def State.infoOf (s : State) (b : Bool) : Running :=
  if s.upd.delivered = some b then updReset.running else runningOf (s.header b)

/-- The life-cycle state refuses images below the security floor (R491, Table 11.3). -/
def State.floorHolds (s : State) : Bool := s.lifeCycle == 2 || s.lifeCycle == 5

/-- The image in a bank is below the floor in a state that refuses it. -/
def State.belowFloor (s : State) (b : Bool) : Bool := s.floorHolds && decide ((s.infoOf b).svn < s.upd.floor)

/-- The bank that receives downloads: the one that does not run; bank A in recovery (R508). -/
def State.inactive (s : State) : Bool := if s.pwr.recovery then false else !s.upd.bank

/-! ## The journal (R499) -/

/-- The records of the journal from number `i` on, at most `n`. -/
def State.journalFrom (s : State) : Nat → Nat → List (List Byte)
  | 0, _ => []
  | n + 1, i =>
    let r := s.flBytes (0x10000 + 16 * i) 16
    if leField r 12 4 = flashCrc (r.take 12) then r :: s.journalFrom n (i + 1) else []

/-- The journal. -/
def State.journal (s : State) : List (List Byte) := s.journalFrom 4096 0

/-- An open download session: TOTAL, IMAGE_TAG, and the chunks done with their check values. -/
structure Download where
  total : Nat
  tag : Word
  done : List (Nat × Word)
deriving DecidableEq, Repr

/-- What a record does to the session. -/
def journalStep (d : Option Download) (r : List Byte) : Option Download :=
  match leField r 0 1 with
  | 1 => some ⟨leField r 2 1, w32 (leField r 4 4), []⟩
  | 2 => d.map (fun d => { d with done := (leField r 1 1, w32 (leField r 8 4)) :: d.done })
  | 3 => none
  | _ => d

/-- The open session. -/
def State.download (s : State) : Option Download := s.journal.foldl journalStep none

/-- Write a record. -/
def State.record (s : State) (kind index total : Nat) (tag check : Word) : State :=
  let b := bytesLE 1 kind ++ bytesLE 1 index ++ bytesLE 1 total ++ [0] ++ bytesLE 4 tag.toNat ++ bytesLE 4 check.toNat
  s.flProgram (0x10000 + 16 * s.journal.length) (b ++ bytesLE 4 (flashCrc b))

/-- The check value recorded for a chunk. -/
def Download.check (d : Download) (k : Nat) : Option Word := (d.done.find? (fun x => x.1 == k)).map (·.2)

/-- The bitmap of the chunks done. -/
def Download.bitmap (d : Download) : Nat := Sys2Proof.Machine.bitmap (d.done.map (·.1))

/-- The chunks that are missing. -/
def Download.missing (d : Download) : Nat := ((List.range d.total).filter (fun k => (d.check k).isNone)).length

/-- Every chunk is done. -/
def State.downloaded (s : State) : Bool := s.download.any (fun d => d.missing == 0)

/-- The two words that UPDATE_CHUNK answers. -/
def State.chunkWords (s : State) : List Word :=
  match s.download with
  | some d => [w32 d.bitmap, w32 d.missing]
  | none => [0, 0]

/-! ## Links -/

/-- The number of a link: D0 to D3, then the mitre link. -/
def LinkId.num : LinkId → Nat
  | .d0 => 0
  | .d1 => 1
  | .d2 => 2
  | .d3 => 3
  | .mitre => 4

/-- The links in their order. -/
def allLinks : List LinkId := [.d0, .d1, .d2, .d3, .mitre]

/-- A link is up. -/
def State.linkIsUp (s : State) (l : LinkId) : Bool := if l = .mitre then s.twin.linkUp else s.fab.up.contains l

/-! ## Relays (R507) -/

/-- Chunk `k` of the image in a bank, as a relay carries it. -/
def State.relayChunk (s : State) (r : Relay) (k : Nat) : RelayChunk :=
  let len := bodyLen (s.header r.bank)
  let data := s.flBytes (bankBase r.bank + 4096 * k) (if k = 0 then 4096 else min 4096 (len - 4096 * (k - 1)))
  { index := k, total := 1 + ceilDiv len 4096, tag := r.tag, check := w32 (flashCrc data), recurse := r.recurse, data := data }

/-- The results of a relay as UPDATE_RELAY reports them (R513). -/
def Relay.word (r : Relay) : Word :=
  w32 ((r.targets.map (fun t => t.result.getD 0 * 2 ^ (4 * t.link.num))).foldl (· + ·) 0)

/-- A relay whose targets have all ended is reported. -/
def State.settleRelay (s : State) : State :=
  match s.upd.relay with
  | none => s
  | some r =>
    if r.targets.any (fun t => t.result.isNone) then s
    else
      let s : State := { s with upd := { s.upd with relay := none } }
      let ok := r.targets.all (fun t => t.result.getD 0 < 2)
      match r.who with
      | some q => s.reply Op.updateRelay q (if ok then St.ok else 0x05D0) [r.word]
      | none => s.event 0x16 0x05 0 r.word 0

/-- Send the chunk that is due to a target. -/
def State.sendChunk (s : State) (r : Relay) (l : LinkId) (k : Nat) : State :=
  (s.send l (.relayChunk (s.relayChunk r k))).cnt Reg.updateRelayChunkCount 1

/-- Begin a relay to the links given; one that is down has result 2. -/
def State.startRelay (s : State) (bank : Bool) (tag : Word) (links : List LinkId) (recurse : Bool) (who : Option Request) :
    State :=
  let r : Relay := { bank := bank, tag := tag, recurse := recurse, who := who
                     targets := links.map (fun l => ⟨l, 0, if s.linkIsUp l then none else some 2, s.clk.age⟩) }
  let s : State := { s with upd := { s.upd with relay := some r } }
  ((links.filter s.linkIsUp).foldl (fun s l => s.sendChunk r l 0) s).settleRelay

/-- Change the target of the running relay that a link leads to. -/
def State.updTarget (s : State) (l : LinkId) (f : RelayTarget → RelayTarget) : State :=
  { s with upd := { s.upd with relay := s.upd.relay.map (fun r =>
      { r with targets := r.targets.map (fun t => if t.link = l ∧ t.result = none then f t else t) }) } }

/-- RELAY_CHUNK_DONE: a target answers (R507). -/
def execRelayChunkDone (link : LinkId) (auth : Bool) (a : RelayAnswer) (s : State) : Host.Outcome State Fault Refusal :=
  finish s (whileReady s fun s =>
    if ¬ auth then s.cnt Reg.secFabricAuthFailCount 1
    else match s.upd.relay with
      | none => s
      | some r =>
        match a with
        | .ended x => (s.updTarget link (fun t => { t with result := some (x % 16) })).settleRelay
        | .done k =>
          let total := (s.relayChunk r 0).total
          let next := r.targets.any (fun t => t.link == link && t.result.isNone && t.next == k) && decide (k + 1 < total)
          let now := s.clk.age
          let s := s.updTarget link (fun t => { t with next := if next then k + 1 else t.next, since := now })
          if next then s.sendChunk r link (k + 1) else s)

/-- RELAY_TARGET_TIMEOUT: no answer within 1 s (Table 15.6). -/
def execRelayTargetTimeout (link : LinkId) (s : State) : Host.Outcome State Fault Refusal :=
  finish s (whileReady s fun s =>
    match s.upd.relay.bind (fun r => r.targets.find? (fun t => t.link == link && t.result.isNone)) with
    | none => s
    | some t => ((s.until (t.since + secC)).updTarget link (fun t => { t with result := some 2 })).settleRelay)

/-! ## Chunks (R490, R500 to R502) -/

/-- A relay from the inactive bank or a verify holds the bank. -/
def State.bankHeld (s : State) : Bool :=
  s.upd.verifying.isSome || s.upd.relay.any (fun r => r.bank == s.inactive)

/-- The settings store of a bank. -/
def State.store (s : State) (b : Bool) : Store := if b then s.upd.storeB else s.upd.storeA

/-- Replace the settings store of a bank. -/
def State.setStore (s : State) (b : Bool) (x : Store) : State :=
  if b then { s with upd := { s.upd with storeB := x } } else { s with upd := { s.upd with storeA := x } }

/-- Erase a bank: its image is lost. -/
def State.eraseBank (s : State) (b : Bool) : State :=
  let s := s.flErase (bankBase b) imageMax
  { s with upd := { s.upd with delivered := if s.upd.delivered = some b then none else s.upd.delivered } }

/-- A download session opens (R500). -/
def State.openDownload (s : State) (total : Nat) (tag : Word) (headerFirst : Bool) : State :=
  let s := s.writePtr { s.ptr with prevOk := false }
  let s := (s.flErase 0x10000 0x10000).record 1 0 total tag 0
  let s := (s.eraseBank s.inactive).setStore s.inactive { store0 with valid := false }
  { s with upd := { s.upd with headerFirst := headerFirst, verified := false } }

/-- Answer a chunk: its command, or the link that it was relayed on. -/
def State.answerChunk (s : State) (c : ChunkWrite) (status : Nat) : State :=
  let s := if status = St.ok ∨ status = 0x06D1 then s else s.cnt Reg.updateChunkRejectCount 1
  let s := match c.who with
    | some q => s.reply Op.updateChunk q status (if status = St.ok then s.chunkWords else [])
    | none => s
  match c.link with
  | none => s
  | some l =>
    let a := if status = St.ok then RelayAnswer.done c.index
      else .ended (if status = 0x06D1 then 5 else if status = 0x03D1 ∨ status = 0x03D8 then 3 else 4)
    s.send l (.relayAnswer a)

/-- The status of a chunk whose number is recorded already, or none. -/
def State.chunkKnown (s : State) (c : ChunkWrite) : Option Nat :=
  (s.download.bind (fun d => d.check c.index)).map (fun x => if x = c.check then St.ok else 0x03D9)

/-- A chunk is in the flash and recorded (R501). The same chunk of another stream finds it done. A relay's last chunk starts
the verification (R507). -/
def State.chunkDone (s : State) (c : ChunkWrite) : State :=
  let base := bankBase s.inactive + 4096 * c.index
  let s := ((s.flErase base 4096).flProgram base c.data).record 2 c.index c.total c.tag c.check
  let s : State := { s.cnt Reg.updateChunkCount 1 with upd := { s.upd with verified := false } }
  let twins := s.upd.chunks.filter (fun d => d.index == c.index)
  let s : State := { s with upd := { s.upd with chunks := s.upd.chunks.filter (fun d => d.index != c.index) } }
  let s := (c :: twins).foldl (fun s d => s.answerChunk d ((s.chunkKnown d).getD St.ok)) s
  if c.link.isSome ∧ s.downloaded then { s with upd := { s.upd with verifying := some none } } else s

/-- Take the first chunk of the queue of flash writes. -/
def State.popChunk (s : State) : State := { s with upd := { s.upd with chunks := s.upd.chunks.drop 1 } }

/-- Complete `n` queued chunk writes: they precede an opening that was asked for after them (R487). -/
def State.finishChunks (s : State) : Nat → State
  | 0 => s
  | n + 1 =>
    match s.upd.chunks with
    | [] => s
    | c :: _ => (s.popChunk.chunkDone c).finishChunks n

/-- The chunk's own shape (R501). -/
def ChunkWrite.shapeOk (c : ChunkWrite) : Bool :=
  decide (2 ≤ c.total) && decide (c.total ≤ 28) && decide (c.index < c.total) && decide (1 ≤ c.data.length) &&
    decide (c.data.length ≤ 4096) && (c.data.length == 4096 || c.index + 1 == c.total)

/-- The last chunk's length does not match BODY_LEN of a chunk 0 that is held. -/
def State.badLast (s : State) (c : ChunkWrite) : Bool :=
  s.download.any (fun d => (d.check 0).isSome && c.index + 1 == d.total &&
    4096 * (c.index - 1) + c.data.length != bodyLen (s.header s.inactive))

/-- A chunk arrives (R500 to R502): it is refused, found done, or queued for its flash write. -/
def State.takeChunk (s : State) (c : ChunkWrite) (restart headerFirst : Bool) : State :=
  let d := s.download
  let opening := d.isNone || restart
  let first := s.pwr.recovery || c.link.isSome || (if opening then headerFirst else s.upd.headerFirst)
  let held0 := !opening && d.any (fun d => (d.check 0).isSome)
  if ¬ c.shapeOk then s.answerChunk c 0x01D2
  else if s.upd.onTrial then s.answerChunk c 0x03D1
  else if s.bankHeld then s.answerChunk c 0x03D8
  else if ¬ opening ∧ d.any (fun d => d.tag != c.tag || d.total != c.total) then s.answerChunk c 0x03D0
  else if flashCrc c.data ≠ c.check.toNat then s.answerChunk c 0x01D1
  else if ¬ opening ∧ s.badLast c then s.answerChunk c 0x01D2
  else if ¬ opening ∧ (s.chunkKnown c).isSome then s.answerChunk c ((s.chunkKnown c).getD 0)
  else if first ∧ c.index ≠ 0 ∧ ¬ held0 then s.answerChunk c 0x03DA
  else
    let s := if opening then (s.finishChunks s.upd.chunks.length).openDownload c.total c.tag first else s
    let bad := if first ∧ c.index = 0 then s.headerStatus c.data else 0
    if bad ≠ 0 then s.answerChunk c bad
    else { s with upd := { s.upd with chunks := s.upd.chunks ++ [c] } }

/-- UPDATE_CHUNK (R510): the checks of word 0 and of the length; the rest with the chunk. -/
def State.updateChunk (s : State) (q : Request) : State × CmdEnd :=
  let len := q.f 0 16 13
  let c : ChunkWrite := { index := q.f 0 0 5, total := q.f 0 8 5, tag := q.w 1, check := q.w 2
                          data := (bytesOf (q.words.drop 3)).take len, who := some q, link := none, retried := false }
  let no (st : Nat) : State × CmdEnd := (s.cnt Reg.updateChunkRejectCount 1, fin st)
  let range := { c with data := List.replicate len (0 : Byte) : ChunkWrite }
  if ¬ s.rb Reg.updateLock 0 then no 0x03DB
  else if q.stray 0 0x1FFF7F1F then no 0x01D0
  else if ¬ range.shapeOk then no 0x01D2
  else if q.words.length ≠ 3 + ceilDiv len 4 then no St.badLength
  else (s.takeChunk c (q.b 0 13) (q.b 0 14), .quiet)

/-- UPDATE_CHUNK. -/
def execUpdateChunk (q : Request) (s : State) : Host.Outcome State Fault Refusal :=
  finish s (runCmd Op.updateChunk q State.updateChunk s)

/-- CHUNK_WRITTEN: the flash write of the oldest chunk ends; `ok` says that it reads back (R501). A mismatch is retried
once. -/
def execChunkWritten (ok : Bool) (s : State) : Host.Outcome State Fault Refusal :=
  finish s (whileReady s fun s =>
    match s.upd.chunks with
    | [] => s
    | c :: rest =>
      if ok then s.popChunk.chunkDone c
      else
        let s := s.cnt Reg.updateFlashErrCount 1
        if ¬ c.retried then { s with upd := { s.upd with chunks := { c with retried := true } :: rest } }
        else
          let (junk, s) := s.freeBytes 4096
          let base := bankBase s.inactive + 4096 * c.index
          (s.popChunk.flProgram base junk).answerChunk c 0x06D1)

/-- The target holds the image that a relay offers, in either bank (R507). -/
def State.holdsImage (s : State) (h : List Byte) : Bool :=
  [false, true].any (fun b => (s.header b).drop 24 |>.take 56 |> (· == (h.drop 24).take 56))

/-- RELAY_CHUNK: a chunk arrives from a neighbour (R507). `auth` says that its tag agrees with the fabric key here. -/
def execRelayChunk (link : LinkId) (auth : Bool) (c : RelayChunk) (s : State) : Host.Outcome State Fault Refusal :=
  finish s (whileReady s fun s =>
    if ¬ auth then s.cnt Reg.secFabricAuthFailCount 1
    else if ¬ s.rb Reg.updateLock 2 ∨ s.upd.relayFrom.any (· != link) ∧ s.upd.chunks.any (·.link.isSome) then
      s.send link (.relayAnswer (.ended 3))
    else if c.index = 0 ∧ s.holdsImage c.data then s.send link (.relayAnswer (.ended 1))
    else
      let s : State := { s with upd := { s.upd with relayFrom := some link, relayRecurse := c.recurse } }
      s.takeChunk { index := c.index, total := c.total, tag := c.tag, check := c.check, data := c.data, who := none
                    link := some link, retried := false } false true)

/-! ## Verify and activate (R503, R511) -/

/-- BUSY of UPDATE_STATUS (Table 15.8).
DESIGN CHOICE: log entry 192. -/
def State.updBusy (s : State) : Bool := s.upd.verifying.isSome || s.upd.relay.isSome || s.upd.apply.isSome

/-- UPDATE_VERIFY (R511). -/
def State.updateVerify (s : State) (q : Request) : State × CmdEnd :=
  if s.updBusy then (s, fin 0x03D8)
  else if ¬ s.downloaded then (s, fin 0x03D4)
  else ({ s with upd := { s.upd with verifying := some (some q) } }, .pendElse)

/-- UPDATE_VERIFY. -/
def execUpdateVerify (q : Request) (s : State) : Host.Outcome State Fault Refusal :=
  finish s (runCmd Op.updateVerify q State.updateVerify s)

/-- The three words of a verified image. -/
def State.verifyWords (s : State) (b : Bool) : List Word :=
  let i := s.infoOf b
  [i.version, w32 (i.svn + b2n (decide (i.svn < s.upd.floor)) * 2 ^ 8 + i.schema * 2 ^ 16), w32 (leField (s.header b) 24 4)]

/-- UPDATE_VERIFY_DONE: the image of the inactive bank has been checked (R503, R507). -/
def execUpdateVerifyDone (s : State) : Host.Outcome State Fault Refusal :=
  finish s (whileReady s fun s =>
    match s.upd.verifying with
    | none => s
    | some who =>
      let b := s.inactive
      let st := s.imageStatus b
      let s : State := { s with upd := { s.upd with verifying := none, verified := st == 0 } }
      match who with
      | some q => s.reply Op.updateVerify q st (if st = 0 then s.verifyWords b else [])
      | none =>
        match s.upd.relayFrom with
        | none => s
        | some l =>
          let s := s.send l (.relayAnswer (.ended (if st = 0 then 0 else 4)))
          if st = 0 ∧ s.upd.relayRecurse ∧ s.upd.relay.isNone then
            s.startRelay b (s.download.elim 0 (·.tag)) (allLinks.filter (fun k => k != l && s.linkIsUp k)) true none
          else s)

/-- UPDATE_ACTIVATE (R503, R508, R511).
DESIGN CHOICE: log entry 193. -/
def State.updateActivate (s : State) (q : Request) : State × CmdEnd :=
  let b := s.inactive
  if ¬ s.rb Reg.updateLock 1 then (s, fin 0x03DB)
  else if s.upd.onTrial then (s, fin 0x03D1)
  else if ¬ s.upd.verified then (s, fin 0x03D3)
  else if s.belowFloor b then (s, fin St.lcRefused)
  else
    let p := s.ptr
    let p : BootPtr := if s.pwr.recovery then { p with active := false, trial := false, prevOk := false, tries := 0, auto := false }
      else { p with active := b, trial := true, prevOk := true, tries := 0, auto := q.b 0 0, trialStart := 0 }
    let s := s.writePtr p
    let s := s.record 3 0 (s.download.elim 0 (·.total)) (s.download.elim 0 (·.tag)) 0
    ({ s with upd := { s.upd with restart := q.b 0 1 || s.pwr.recovery } }, .final St.ok [w32 (b2n b)])

/-- UPDATE_ACTIVATE. -/
def execUpdateActivate (q : Request) (s : State) : Host.Outcome State Fault Refusal :=
  finish s (runCmd Op.updateActivate q State.updateActivate s)

/-! ## Trial, confirmation and fallback (R494 to R497, R512, R515) -/

/-- The instant at which CONFIRM_HOLD_S has passed since FW_READY. -/
def State.holdEnd (s : State) : Nat := s.upd.readyAt + s.rf Reg.updateCtrl 8 8 * secC

/-- HEALTH_OK (R496). -/
def State.healthOk (s : State) : Bool :=
  s.fwUp && !s.upd.unreadable && !s.sec.internalFault && decide (s.holdEnd ≤ s.clk.age)

/-- Steps 2 and 3 of R497: fuses for the image that runs, and FLOOR_PENDING off. -/
def State.burnFloor (s : State) : State :=
  let r := s.upd.running
  let keys := r.revoke - nfld r.revoke r.keyId 1 * 2 ^ r.keyId
  let s : State := { s with upd := { s.upd with
    floor := if r.raise then max s.upd.floor r.svn else s.upd.floor, revoked := s.upd.revoked ||| keys } }
  s.writePtr { s.ptr with floorPending := false }

/-- Confirmation (R497). -/
def State.confirmTrial (s : State) : State :=
  let r := s.upd.running
  let due := (r.raise && decide (s.upd.floor < r.svn)) || (r.revoke ||| s.upd.revoked) != s.upd.revoked
  let s := s.writePtr { s.ptr with trial := false, tries := 0, floorPending := due }
  let s : State := { s with upd := { s.upd with onTrial := false } }
  if due then s.burnFloor else s

/-- Enter an event of the UPDATE block at the next FW_READY.
DESIGN CHOICE: log entry 194. -/
def State.bootEvent (s : State) (code : Nat) (a b : Word) : State :=
  { s with upd := { s.upd with bootEvents := s.upd.bootEvents ++ [(code, a, b)] } }

/-- A fallback's pointer write (R494): the other bank, with the reason. `left` is the version left. -/
def State.fallBack (s : State) (reason : Nat) (left : Word) : State :=
  let p := s.ptr
  (s.writePtr { p with active := !p.active, trial := false, tries := 0, prevOk := !p.trial, lastFallback := reason }).bootEvent
    2 (w32 reason) left

/-- A fallback of the running image, which ends its trial, with the restart that follows. -/
def State.fallAndRestart (s : State) (reason : Nat) : State :=
  let s := s.fallBack reason s.upd.running.version
  { s with upd := { s.upd with restart := true, onTrial := false } }

/-- UPDATE_CONFIRM (R512). -/
def State.updateConfirm (s : State) (q : Request) : State × CmdEnd :=
  if ¬ s.upd.onTrial then (s, fin 0x03D5)
  else if q.b 0 0 then (s.fallAndRestart 4, fin St.ok)
  else if s.upd.unreadable then (s, fin 0x06D0)
  else if ¬ s.healthOk then (s, fin 0x03D7)
  else
    let s := s.confirmTrial
    (s, .final St.ok [w32 s.upd.floor])

/-- UPDATE_CONFIRM. -/
def execUpdateConfirm (q : Request) (s : State) : Host.Outcome State Fault Refusal :=
  finish s (runCmd Op.updateConfirm q State.updateConfirm s)

/-- AUTO_CONFIRM (R496). -/
def execAutoConfirm (s : State) : Host.Outcome State Fault Refusal :=
  finish s (whileFw s fun s =>
    if ¬ s.upd.onTrial ∨ ¬ s.ptr.auto then s
    else
      let s := s.until s.holdEnd
      if s.healthOk then s.confirmTrial else s)

/-- The seconds value at which the trial ends. -/
def State.trialEnd (s : State) : Nat := s.ptr.trialStart.toNat + 600

/-- TRIAL_EXPIRY: 600 s without confirmation (R496). -/
def execTrialExpiry (s : State) : Host.Outcome State Fault Refusal :=
  finish s (whileFw s fun s =>
    if ¬ s.upd.onTrial ∨ s.upd.restart then s else (s.untilRtc (s.trialEnd * 32768)).fallAndRestart 2)

/-- UPDATE_RESTART: 1 ms after the final reply (R495). -/
def execUpdateRestart (s : State) : Host.Outcome State Fault Refusal :=
  finishReset s (if s.coreUp ∧ s.upd.restart then (s.advance msC).resetIfOn else s)

/-- FORCE_FALLBACK (R515). -/
def State.forceFallback (s : State) (_ : Request) : State × CmdEnd :=
  if ¬ s.rb Reg.updateLock 1 then (s, fin 0x03DB)
  else if s.upd.onTrial then (s.fallAndRestart 5, fin St.ok)
  else if ¬ s.ptr.prevOk then (s, fin 0x03D6)
  else if s.belowFloor (!s.upd.bank) then (s, fin St.lcRefused)
  else
    let p := s.ptr
    let s := (s.writePtr { p with active := !s.upd.bank, prevOk := true, lastFallback := 5 }).bootEvent 2 5 s.upd.running.version
    ({ s with upd := { s.upd with restart := true } }, fin St.ok)

/-- FORCE_FALLBACK. -/
def execForceFallback (q : Request) (s : State) : Host.Outcome State Fault Refusal :=
  finish s (runCmd Op.forceFallback q State.forceFallback s)

/-! ## UPDATE_STATUS and UPDATE_RELAY (R512, R513) -/

/-- Word 0 of UPDATE_STATUS. -/
def State.updateWord (s : State) : Word :=
  let p := s.ptr
  let d := s.download
  let stage := if s.pwr.recovery then 5 else if s.upd.onTrial then 4 else if s.upd.verified then 3
    else if s.downloaded then 2 else if d.isSome then 1 else 0
  w32 (stage + b2n s.upd.bank * 2 ^ 4 + p.tries * 2 ^ 8 + b2n p.prevOk * 2 ^ 10 + b2n s.healthOk * 2 ^ 11 +
    b2n s.upd.unreadable * 2 ^ 12 + b2n p.floorPending * 2 ^ 13 + d.elim 0 (·.total) * 2 ^ 16 + s.upd.floor * 2 ^ 24)

/-- Seconds left in the trial. -/
def State.trialLeft (s : State) : Nat := if s.upd.onTrial then s.trialEnd - s.heath.rtc / 32768 else 0

/-- UPDATE_STATUS (R512). A device in recovery runs version 0.0.0 (R508). -/
def State.updateReport (s : State) (_ : Request) : State × CmdEnd :=
  let d := s.download
  let other := !s.upd.bank
  let ok := s.upd.delivered == some other || s.headerStatus (s.header other) == 0
  (s, .final St.ok [s.updateWord, w32 (d.elim 0 (·.bitmap)), d.elim 0 (·.tag), w32 s.trialLeft,
    if s.pwr.recovery then 0 else s.upd.running.version,
    if ok then (s.infoOf other).version else 0, w32 (s.store s.upd.bank).gen, w32 s.ptr.lastFallback])

/-- UPDATE_STATUS. -/
def execUpdateStatus (q : Request) (s : State) : Host.Outcome State Fault Refusal :=
  finish s (runCmd Op.updateStatus q State.updateReport s)

/-- UPDATE_RELAY (R513). SOURCE and TARGETS are read at the bits that R513 gives each.
DESIGN CHOICE: log entry 191. -/
def State.updateRelay (s : State) (q : Request) : State × CmdEnd :=
  let source := q.b 0 0
  let links := allLinks.filter (fun l => q.b 0 l.num)
  let bank := if source then s.upd.bank else s.inactive
  let tag := if source then w32 (leField (s.header bank) 24 4) else s.download.elim 0 (·.tag)
  if q.stray 0 0x11F ∨ q.w 1 ≠ 0 ∨ links = [] then (s, fin 0x01D0)
  else if s.updBusy then (s, fin 0x03D8)
  else if ¬ source ∧ ¬ s.upd.verified then (s, fin 0x03D3)
  else ((s.replyPending Op.updateRelay q).startRelay bank tag links (q.b 0 8) (some q), .quiet)

/-- UPDATE_RELAY. -/
def execUpdateRelay (q : Request) (s : State) : Host.Outcome State Fault Refusal :=
  finish s (runCmd Op.updateRelay q State.updateRelay s)

/-- An entry to standby stops a verify and a relay (R509). -/
def State.interruptUpdate (s : State) : State :=
  let v := s.upd.verifying
  let r := s.upd.relay
  let s : State := { s with upd := { s.upd with verifying := none, relay := none } }
  let s := match v with
    | some (some q) => s.reply Op.updateVerify q 0x03DC []
    | _ => s
  match r.bind (·.who) with
  | some q => s.reply Op.updateRelay q 0x03DC []
  | none => s

/-! ## Settings stores (R504 to R506, R514) -/

/-- The packet that SETTINGS_SAVE carries. -/
def Request.packet (q : Request) : Header := parsePacket .internal (bytesOf (q.words.drop 1))

/-- A packet that a record may hold (R504). -/
def recordOk (h : Header) : Bool :=
  let glue := match glueNames h.op h.q.words with | [g] => g | _ => 0
  h.version == 3 && opAssigned h.op && classOf h.op == h.cls && ([1, 3, 5, 6, 8].contains h.cls ||
    (h.op == Op.sessionCreate && h.q.f 0 0 2 == 1)) && glue == 0 && envelope h.cls h.q == 0 &&
    plenOk h.op h.plen 16380 && h.q.words.length == h.plen

/-- Bytes of the live records. -/
def Store.size (x : Store) : Nat := (x.records.map (fun r => r.2.length)).foldl (· + ·) 0

/-- The store of the running bank, as changes are made to it: an invalid one starts empty. -/
def State.ownStore (s : State) : Store :=
  let x := s.store s.upd.bank
  if x.valid then x else { store0 with schema := s.upd.running.schema }

/-- SETTINGS_SAVE (R514). -/
def State.settingsSave (s : State) (q : Request) : State × CmdEnd :=
  let op := q.f 0 0 2
  let n := q.f 0 16 10
  let h := q.packet
  let x := s.ownStore
  let write (p : List Byte) : State × CmdEnd :=
    ({ s with upd := { s.upd with settings := s.upd.settings ++ [⟨n, p, q⟩] } }, .quiet)
  if q.stray 0 0x03FF0003 then (s, fin 0x01D0)
  else if op = 0 ∧ (q.words.length < 5 ∨ q.words.length ≠ 5 + h.plen) ∨ op ≠ 0 ∧ q.words.length ≠ 1 then (s, fin St.badLength)
  else if s.upd.apply.isSome then (s, fin 0x03D8)
  else match op with
    | 0 =>
      let p := (bytesOf (q.words.drop 1)).take (16 + 4 * h.plen)
      if ¬ recordOk h then (s, fin 0x01D3)
      else if 262144 < (x.size - (smGet [] x.records n).length) + p.length then (s, fin 0x02D0)
      else write p
    | 1 => if smGet [] x.records n = [] then (s, .final St.ok [w32 x.gen]) else write []
    | 2 =>
      let p := smGet [] x.records n
      (s, .final St.ok (w32 (b2n (!p.isEmpty)) :: wordsOf (p.length / 4) p))
    | _ =>
      let run (s : State) (r : Nat × List Byte) : State :=
        let h := parsePacket .internal r.2
        s.acceptCmd h.op { h.q with tag := w32 r.1, flags := h.q.flags ||| 2 } none none
      let s := x.records.foldl run s
      ({ s with upd := { s.upd with apply := some ⟨0, 0, none, q⟩ } }, .pendElse)

/-- SETTINGS_SAVE. -/
def execSettingsSave (q : Request) (s : State) : Host.Outcome State Fault Refusal :=
  finish s (runCmd Op.settingsSave q State.settingsSave s)

/-- SETTINGS_STORE_WRITTEN: the append of the oldest change ends (R504). -/
def execSettingsStoreWritten (ok : Bool) (s : State) : Host.Outcome State Fault Refusal :=
  finish s (whileFw s fun s =>
    match s.upd.settings with
    | [] => s
    | w :: rest =>
      let s : State := { s with upd := { s.upd with settings := rest } }
      if ¬ ok then s.reply Op.settingsSave w.who 0x06D1 []
      else
        let x := s.ownStore
        let x := { x with records := smSet [] x.records w.record w.packet, gen := x.gen + 1 }
        (s.setStore s.upd.bank x).reply Op.settingsSave w.who St.ok [w32 x.gen])

/-- SETTINGS_APPLY_DONE: every record has executed (R514). -/
def execSettingsApplyDone (s : State) : Host.Outcome State Fault Refusal :=
  finish s (whileFw s fun s =>
    match s.upd.apply with
    | none => s
    | some a =>
      if s.cmdq.cmds.any (fun c => c.q.stream == .internal) then s
      else
        let s : State := { s with upd := { s.upd with apply := none } }
        s.reply Op.settingsSave a.who St.ok
          [w32 a.ok, w32 a.failed, a.first.elim 0 (fun f => w32 (f.1 + f.2 * 2 ^ 16))])

/-- What a store's records come to under the schema of the image that runs; none where one cannot be translated. -/
def translateAll (from_ to_ : Nat) : SMap (List Byte) → Option (SMap (List Byte))
  | [] => some []
  | (n, p) :: rest =>
    match (if from_ = to_ then some p else Config.translate from_ to_ p), translateAll from_ to_ rest with
    | some p, some rest => some ((n, p) :: rest)
    | _, _ => none

/-- The firmware reads its settings at a start (R505). -/
def State.readSettings (s : State) : State :=
  let r := s.upd.running
  let own := s.store s.upd.bank
  let other := s.store (!s.upd.bank)
  let copy := s.upd.onTrial && !own.valid && other.valid
  let src := if copy then other else own
  let fits := src.valid && decide (r.schemaMin ≤ src.schema) && decide (src.schema ≤ r.schema)
  match (if fits then translateAll src.schema r.schema src.records else none) with
  | some recs =>
    if copy then s.setStore s.upd.bank { valid := true, schema := r.schema, gen := other.gen, base := other.gen, records := recs }
    else s.setStore s.upd.bank { own with schema := r.schema, records := recs }
  | none =>
    let s := s.bootEvent 3 (w32 src.schema) (w32 r.schemaMin)
    let s : State := { s with upd := { s.upd with unreadable := true } }
    if s.upd.onTrial then s.setStore s.upd.bank { store0 with schema := r.schema } else s

end Sys2Proof.Machine
end

