-- ==== Sys2Proof/Machine/Start.lean ====
section
/-! DEFINITION. A start of the device (R468 to R470, R494, R508): the boot ROM, the restoration of what survives, and
FW_READY. -/

namespace Sys2Proof.Machine

/-! ## The boot ROM (R494) -/

/-- A bank may be started (R491, R494). -/
def State.bankGood (s : State) (b : Bool) : Bool := s.imageStatus b == 0 && !s.belowFloor b

/-- A bank has failed its check at a start. -/
def State.bankFailed (s : State) (b : Bool) : State := s.bootEvent 6 (w32 (b2n b)) 0

/-- Load the image of a bank. -/
def State.loadBank (s : State) (b : Bool) : State :=
  { s with upd := { s.upd with bank := b, running := s.infoOf b, onTrial := s.ptr.trial } }

/-- No image can be started (R508). -/
def State.enterRecovery (s : State) : State :=
  { s with pwr := { s.pwr with recovery := true }, upd := { s.upd with bank := false, onTrial := false } }

/-- The count of a trial start. TRIAL_START is set by the first one (R503).
DEDUCED: log entry 190. -/
def State.countTrial (s : State) : State :=
  let p := s.ptr
  let now := s.heath.rtc / 32768
  if ¬ p.trial then s
  else
    let p : BootPtr := if p.tries = 0 ∨ now < p.trialStart.toNat then { p with trialStart := w32 now } else p
    if p.tries = 3 then s.fallBack 1 (s.infoOf p.active).version
    else if p.trialStart.toNat + 600 ≤ now then s.fallBack 2 (s.infoOf p.active).version
    else s.writePtr { p with tries := p.tries + 1 }

/-- The choice of the bank and the load of its image. -/
def State.bootSelect (s : State) : State :=
  let p := s.ptr
  if s.bankGood p.active then s.loadBank p.active
  else
    let s := s.bankFailed p.active
    if p.trial then
      let s := s.fallBack 3 (s.infoOf p.active).version
      if s.bankGood (!p.active) then s.loadBank (!p.active) else (s.bankFailed (!p.active)).enterRecovery
    else if p.prevOk ∧ s.bankGood (!p.active) then
      let left := (s.infoOf p.active).version
      let s := s.writePtr { p with active := !p.active, prevOk := false, lastFallback := 6 }
      (s.bootEvent 2 6 left).loadBank (!p.active)
    else s.enterRecovery

/-- Events of a start that runs a new bank, a trial image or a fallback (R495, R506). `was` is the bank that ran before. -/
def State.startEvents (s : State) (was : Bool) : State :=
  let fell := s.upd.bootEvents.any (fun e => e.1 == 2)
  let other := s.store (!s.upd.bank)
  let s := if fell ∧ other.valid ∧ other.base < other.gen then s.bootEvent 4 (w32 (other.gen - other.base)) 0 else s
  if fell ∨ s.upd.onTrial ∨ s.upd.bank ≠ was then s.bootEvent 1 (w32 (b2n s.upd.bank)) s.upd.running.version else s

/-! ## The start sequence (R469) -/

/-- A burn of a life-cycle entry that a reset cut short has used up its entry (R383). -/
def State.cutBurn (s : State) : State :=
  match s.sec.burning with
  | none => s
  | some (to_, _) =>
    { s with sec := { s.sec with
        burning := none
        log := if to_ = 5 ∨ s.lcLeft = 0 then s.sec.log else s.sec.log ++ [none] } }

/-- A pending wipe is finished before anything is restored (R368). -/
def State.finishWipe (s : State) : State :=
  if ¬ s.heath.pendingWipe then s
  else
    let s : State := { s with
      sec := { s.sec with flashKeys := keys0 }, heath := { s.heath with pendingWipe := false } }
    (s.cnt Reg.secWipeCount 1).event 0x12 0x03 0 3 0

/-- What the firmware restores before FW_READY (R367, R477, R497, R505). -/
def State.restore (s : State) : State :=
  let s := s.finishWipe
  let s : State := { s with
    sec := { s.sec with keys := if s.heath.tampPresent then keys0 else s.sec.flashKeys }
    pwr := { s.pwr with user := s.pwr.calFlash } }
  let s := if s.ptr.floorPending ∧ ¬ s.upd.onTrial then s.burnFloor else s
  s.readSettings

/-- The regions of action memory take the extents that their registers hold, or the reset extents where those do not fit (R225).
DEDUCED: log entry 86. -/
def State.takeRegions (s : State) : State :=
  let cb := s.rf Reg.cohereCtrBase 0 19
  let cl := s.rf Reg.cohereCtrLines 0 20
  let pb := s.rf Reg.cohereCowBase 0 20
  let pc := s.rf Reg.cohereCowCount 0 21
  if cb % 32 ≠ 0 ∨ cl % 32 ≠ 0 ∨ 2 ^ 19 < cb + cl ∨ 2 ^ 20 < pb + pc ∨
      (cl ≠ 0 ∧ pc ≠ 0 ∧ pb < 2 * (cb + cl) ∧ 2 * cb < pb + pc) then
    { s with coh := { s.coh with
        ctrBase := 0x70000, ctrLines := 0x10000, cowBase := 0xDC000, cowCount := 0x4000, defaulted := true } }
  else
    { s with coh := { s.coh with ctrBase := cb, ctrLines := cl, cowBase := pb, cowCount := pc, defaulted := false } }

/-- The firmware's C0 clears the scratchpad first of all, in 16,384 MCLK (R403). The clearing event has left it zero.
DESIGN CHOICE: log entry 158. -/
def State.clearScratch (s : State) : State := { s with scr := { s.scr with clearEnd := s.clk.age + 25600 } }

/-- The start sequence up to the load of the firmware. -/
def State.startUp (s : State) : State :=
  let was := s.upd.bank
  let s := s.takeRegions.cutBurn.countTrial.bootSelect
  if s.pwr.recovery then { s with pwr := { s.pwr with booted := true, starting := false, fwReady := true } }
  else
    let s := (s.clearScratch.restore).startEvents was
    { s with pwr := { s.pwr with booted := true } }

/-- START_SEQUENCE (R469). -/
def execStartSequence (s : State) : Host.Outcome State Fault Refusal :=
  finishOtp s (whileUp s fun s => if s.pwr.starting ∧ ¬ s.pwr.booted then s.startUp else s)

/-- The events that FW_READY enters (Table 14.3, R495). -/
def State.readyEvents (s : State) : State :=
  let secs := w32 (s.heath.rtc / 32768)
  let s := s.event 0x01 0x01 0 (s.rd Reg.heathWakeCause) secs
  let s := if s.heath.orderPending then s.event 0x01 0x02 0 (s.rd Reg.heathPowerOrder) 0 else s
  let s := if s.heath.thermPending then s.event 0x01 0x03 0 0 secs else s
  let s := s.upd.bootEvents.foldl (fun s e => s.event 0x16 e.1 0 e.2.1 e.2.2) s
  { s with
    heath := { s.heath with orderPending := false, thermPending := false }
    upd := { s.upd with bootEvents := [] } }

/-- FW_READY: every core and engine is loaded (R468).
DESIGN CHOICE: log entry 181. -/
def execFwReady (s : State) : Host.Outcome State Fault Refusal :=
  finish s (whileUp s fun s =>
    if ¬ s.pwr.starting ∨ ¬ s.pwr.booted then s
    else
      let s := s.until s.scr.clearEnd
      let s : State := { s with
        pwr := { s.pwr with fwReady := true, starting := false }, upd := { s.upd with readyAt := s.clk.age } }
      s.readyEvents)

end Sys2Proof.Machine
end

