-- ==== Sys2Proof/Machine/Fabric.lean ====
section
/-! DEFINITION. The fabric (R249 to R256, R264 to R267, R274 to R276): roles, boundary reports, the coordinator's decision and
its effects, joining and leaving, the time transfer, and the links. Fabric searches are in FabSearch. -/

namespace Sys2Proof.Machine

/-! ## Roles and figures (R250 to R255) -/

/-- T_F in CCLK (R259). -/
def fabTime (depth : Nat) : Nat := 140 + 330 * (depth - 1)

/-- The magnitude of the offset exceeds 16 ns (R253). -/
def State.syncLost (s : State) : Bool := s.fab.joined && decide (16 < s.fab.offset.natAbs)

/-- The device at a fabric address is a member, as this device knows it. -/
def State.hasMember (s : State) (addr : Nat) : Bool := s.fab.members.any (fun m => m.addr == addr)

/-- The root lead device is the coordinator; the root follow device is while that has not joined or is declared lost
(R255). -/
def State.coordinator (s : State) : Bool :=
  s.fab.joined && s.fab.level == 0 && (s.fab.side == 0 || !s.hasMember 0 || s.twin.lost)

/-- CUT_OFF: no path to the root in this plane (Table 8.6): D0 is down, or the last decision has not come all the way in this plane.
DESIGN CHOICE: log entry 217. -/
def State.cutOff (s : State) : Bool :=
  s.fab.joined && s.fab.level != 0 && (!s.linkIsUp .d0 || decide (s.fab.inPlaneAt < s.fab.decidedAt))

/-- The down links that are up. -/
def State.downLinks (s : State) : List LinkId := [LinkId.d1, .d2, .d3].filter s.linkIsUp

/-- The fabric glue-up IDs that this device holds in the states given (R256). -/
def State.fabricIds (s : State) (sts : List GlueState) : List Nat :=
  (s.glue.ups.filter (fun x => s.fabricId x.1 && sts.contains x.2.st)).map (·.1)

/-- The limit of R265 in CCLK: 1 to 10,000 ms. -/
def State.clampLimit (s : State) : Nat := min 10000 (max 1 (s.rf Reg.fabricClampLimit 0 14)) * msC

/-- The slot table that the registers give (R257). -/
def State.slotRegs (s : State) : List Word := (List.range 64).map (fun n => s.rd (Reg.fabricSlot n))

/-- Store a slot table as the one in force. -/
def State.setSlots (s : State) (ws : List Word) : State :=
  { s with fab := { s.fab with slots := (ws.zip (List.range 64)).foldl (fun m x => smSet 0#32 m x.2 x.1) [] } }

/-! ## Reports (R255, R256) -/

/-- What this device reports of itself at the boundary `b` (device time in µs). -/
def State.ownReport (s : State) (b : Nat) : FabReport :=
  let held := s.fabricIds [.opened, .clamping]
  { boundary := b
    members := 1
    held := held
    notReady := s.fabricIds [.opened]
    joins := (s.fab.pendJoins.filter (fun j => j.1.parent == s.fab.node)).map (·.1)
    leaves := if s.fab.leaves.any (fun l => l == (s.ownAddr, 1)) then [s.ownAddr] else []
    holders := held.map (fun i => (s.ownAddr, i))
    badQuantum := if s.coordinator ∨ s.quantum = s.fab.quantum then [] else [s.ownAddr]
    resync := if s.twin.resync.any (fun r => r.source && r.ready && !r.due) then [s.fab.node] else [] }

/-- The merge of two reports of one boundary (R256). -/
def mergeReports (a b : FabReport) : FabReport :=
  { boundary := a.boundary
    members := a.members + b.members
    held := (a.held ++ b.held).eraseDups
    notReady := (a.notReady ++ b.notReady).eraseDups
    joins := (a.joins ++ b.joins).eraseDups
    leaves := a.leaves ++ b.leaves
    holders := (a.holders ++ b.holders).eraseDups
    badQuantum := a.badQuantum ++ b.badQuantum
    resync := (a.resync ++ b.resync).eraseDups }

/-- Pass a report on (R255): up this plane, or over the mitre link from a device that is cut off and from the root follow
side. A report that came over the mitre link does not go back. -/
def State.passReport (s : State) (fromMitre : Bool) (r : FabReport) : State :=
  let l : LinkId := if s.fab.level = 0 ∨ s.cutOff then .mitre else .d0
  if l = .mitre ∧ fromMitre then s else s.send l (.report r)

/-! ## Decisions (R255, R264 to R267) -/

/-- The nodes below some nodes, these among them. -/
def nodesBelow (ms : List FabMember) : Nat → List Nat → List Nat
  | 0, ns => ns
  | k + 1, ns =>
    nodesBelow ms k (ns ++ ((ms.filter (fun m => ns.contains m.parent && !ns.contains (m.addr / 2))).map (·.addr / 2)).eraseDups)

/-- The device addresses at and below a device, in its own plane. -/
def State.planeBelow (s : State) (addr : Nat) : List Nat :=
  let ms := s.fab.members.filter (fun m => m.addr % 2 == addr % 2)
  let ns := nodesBelow (ms.filter (fun m => m.level != 0)) 7 [addr / 2]
  (ms.filter (fun m => ns.contains (m.addr / 2))).map (·.addr)

/-- The addresses of a node and of every node below it, on both sides. -/
def State.nodeBelow (s : State) (node : Nat) : List Nat :=
  let ns := nodesBelow (s.fab.members.filter (fun m => m.level != 0)) 7 [node]
  (s.fab.members.filter (fun m => ns.contains (m.addr / 2))).map (·.addr)

/-- The status with which a join is refused (R266); 0 when it is admitted. `ms` are the members, those that the same decision
admits among them.
DEDUCED: log entry 91. -/
def State.joinCheck (s : State) (ms : List FabMember) (j : JoinReq) : Nat :=
  if ms.any (fun m => m.addr == fabAddr j.node j.side) then 0x0360
  else if s.fab.depth ≤ j.level ∨ 512 < ((j.node :: ms.map (·.addr / 2)).eraseDups).length then 0x0260
  else if j.quantum ≠ s.quantum ∨ j.depth ≠ s.fab.depth ∨ j.twinned ≠ s.fab.twinned ∨ j.glueBase ≠ s.fab.glueBase then 0x0361
  else 0

/-- The member that a join makes. -/
def JoinReq.member (j : JoinReq) : FabMember := { addr := fabAddr j.node j.side, level := j.level, parent := j.parent }

/-- The joins of a report, split into those admitted and those refused. -/
def State.admitJoins (s : State) (js : List JoinReq) : List JoinReq × List (JoinReq × Nat) :=
  js.foldl (fun a j =>
    let st := s.joinCheck (s.fab.members ++ a.1.map JoinReq.member) j
    if st = 0 then (a.1 ++ [j], a.2) else (a.1, a.2 ++ [(j, st)])) ([], [])

/-- The devices that a report and the evictions asked for remove, each once, with its reason (R254, R267, R474).
DESIGN CHOICE: log entry 90. -/
def State.removals (s : State) (r : FabReport) : List (Nat × Nat) :=
  let all := r.leaves.map (fun a => (a, 1)) ++ r.leaves.flatMap (fun a => (s.planeBelow a).map (fun b => (b, 2))) ++
    (s.fab.leaves.filter (fun l => l.2 == 2)).flatMap (fun l => (s.nodeBelow l.1).map (fun b => (b, 2))) ++
    r.badQuantum.map (fun a => (a, 3)) ++ r.badQuantum.flatMap (fun a => (s.planeBelow a).map (fun b => (b, 2)))
  (all.filter (fun x => s.hasMember x.1)).foldl (fun l x => if l.any (fun y => y.1 == x.1) then l else l ++ [x]) []

/-- What the coordinator decides from the merged report (R255, R256). -/
def State.decision (s : State) (r : FabReport) : FabDecision :=
  let now := s.clk.age
  let (joins, refused) := s.admitJoins r.joins
  let removed := s.removals r
  let commits := if r.members = s.fab.members.length then r.held.filter (fun i => !r.notReady.contains i) else []
  let expired := r.held.filter (fun i => (smGet none s.fab.limits i).any (fun t => decide (s.clampLimit ≤ now - t)))
  let lost := ((s.fab.holders.filter (fun x => removed.any (fun y => y.1 == x.1))).map (·.2)).eraseDups
  let aborts := ((expired ++ lost).eraseDups).filter (fun i => !commits.contains i)
  let slots := if s.fab.newSlots ∨ joins ≠ [] then some s.slotRegs else none
  let change := !commits.isEmpty || !aborts.isEmpty || !joins.isEmpty || !removed.isEmpty || slots.isSome || !r.resync.isEmpty
  let members := (s.fab.members ++ joins.map JoinReq.member).filter (fun m => !removed.any (fun x => x.1 == m.addr))
  { at_ := r.boundary + s.quantum, fe := s.fab.fe + w32 (b2n change), quantum := s.quantum, commits := commits, aborts := aborts
    joins := joins, refused := refused, removed := removed, members := members, slots := slots, resync := r.resync }

/-- The decision changes something, so that FE goes up (R256). -/
def FabDecision.changes (d : FabDecision) : Bool :=
  !d.commits.isEmpty || !d.aborts.isEmpty || !d.joins.isEmpty || !d.removed.isEmpty || d.slots.isSome ||
    !d.resync.isEmpty

/-- Pass a decision down, with whether it has come in this plane all the way. -/
def State.passDown (s : State) (d : FabDecision) (inPlane : Bool) : State :=
  s.downLinks.foldl (fun s l => s.send l (.decision d inPlane)) s

/-- Keep a decision and pass it down, and to the partner in a twinned fabric (R255). -/
def State.takeDecision (s : State) (d : FabDecision) (inPlane : Bool) : State :=
  let s : State := { s with fab := { s.fab with decision := some d, lastDecision := s.clk.age, decidedAt := d.at_ } }
  let s := s.passDown d (inPlane || s.fab.level == 0)
  if s.fab.twinned ∧ s.twin.linkUp then s.send .mitre (.decision d false) else s

/-- Since when the coordinator has seen each fabric ID in HELD, and which device holds it (R265). Only a complete report shows that one has gone. -/
def State.noteHeld (s : State) (r : FabReport) : State :=
  let all := r.members == s.fab.members.length
  let kept := if all then s.fab.limits.filter (fun x => r.held.contains x.1) else s.fab.limits
  let now := s.clk.age
  let limits := r.held.foldl (fun m i => if (smGet none m i).isSome then m else smSet none m i (some now)) kept
  let before := if all then [] else s.fab.holders.filter (fun x => !r.holders.any (fun y => y.1 == x.1))
  { s with fab := { s.fab with limits := limits, holders := before ++ r.holders } }

/-- The coordinator decides, or decides afresh, on the report that it now has. -/
def State.coordinate (s : State) (r : FabReport) : State :=
  let s : State := { s with fab := { s.fab with report := some r } }
  let s := s.noteHeld r
  s.takeDecision (s.decision r) true

/-- At the boundary `b` (µs) a joined device sends its report up, or starts the coordinator's merge (R255). -/
def State.reportAt (s : State) (b : Nat) : State :=
  if ¬ s.fab.joined then s
  else
    let (done, s) := if s.twin.resync.any (fun r => r.source && !r.ready) then s.freeB else (false, s)
    let s : State := if done then
        { s with twin := { s.twin with resync := s.twin.resync.map (fun r => { r with ready := true }) } } else s
    let r := s.ownReport b
    if s.coordinator then s.coordinate r else s.passReport false r

/-- FABRIC_REPORT: a report from a child or the partner is merged by the coordinator and passed up by others. A join in it is
remembered for the route table.
DESIGN CHOICE: log entry 89. -/
def execFabricReport (link : LinkId) (r : FabReport) (s : State) : Host.Outcome State Fault Refusal :=
  finish s (whileUp s fun s =>
    if ¬ s.fab.joined ∨ link = .d0 then s
    else
      let fresh := (r.joins.filter (fun j => !s.fab.pendJoins.any (fun p => p.1 == j))).map (fun j => (j, link))
      let s : State := if link = .mitre then s else { s with fab := { s.fab with pendJoins := s.fab.pendJoins ++ fresh } }
      if s.coordinator then
        match s.fab.report with
        | some own => if own.boundary = r.boundary then s.coordinate (mergeReports own r) else s
        | none => s
      else s.passReport (link == .mitre) r)

/-- FABRIC_DECISION_RECEIVED: a decision that is new here is kept and passed on, and so is the first one that has come in this plane all
the way from the root (R255). -/
def execFabricDecisionReceived (m : DecisionIn) (s : State) : Host.Outcome State Fault Refusal :=
  finish s (whileUp s fun s =>
    let d := m.dec
    let direct := m.link == .d0 && m.inPlane
    let again := decide (d.at_ ≤ s.fab.inPlaneAt)
    if s.deafOn m.link then s
    else
    let s : State := if direct then { s with fab := { s.fab with inPlaneAt := max s.fab.inPlaneAt d.at_ } } else s
    if s.fab.decision = some d then (if s.fab.joined ∧ direct ∧ ¬ again then s.passDown d true else s)
    else if s.fab.joined then s.takeDecision d direct
    else if s.fab.join.isSome then { s with fab := { s.fab with decision := some d } }
    else s)

/-! ## What a decision does at its boundary -/

/-- A fabric glue-up aborts with reason FABRIC, OPEN or CLAMPING (R265). -/
def State.abortFabric (s : State) (id : Nat) : State :=
  let g := s.glueUp id
  if g.st ≠ .opened ∧ g.st ≠ .clamping then s
  else
    let s := s.setGlue id { g with st := .aborting, held := false, reason := 6, lastAbort := 6 }
    (s.cnt Reg.glueAbortCount 1).cnt Reg.fabricAbortCount 1

/-- This device is no longer in a fabric: its own glue-ups with fabric IDs abort (R265, R267). -/
def State.leaveFabric (s : State) : State :=
  let s := (s.fabricIds [.opened, .clamping]).foldl State.abortFabric s
  let s := { s with fab := { fabReset with
    up := s.fab.up, nextIdent := s.fab.nextIdent, jobs := s.fab.jobs, launches := s.fab.launches, prevC := s.fab.prevC } }
  s.wake .leave St.ok []

/-- The device becomes a member (R266); `ms` are the members then. -/
def State.becomeMember (s : State) (j : JoinReq) (fe : Word) (ms : List FabMember) : State :=
  let s : State := { s with fab := { s.fab with
    joined := true, node := j.node, side := j.side, level := j.level, depth := j.depth, twinned := j.twinned
    glueBase := j.glueBase, fe := fe, offset := 0, quantum := j.quantum, join := none, leaves := [], limits := []
    members := ms, routes := [], holders := [], lastDecision := s.clk.age } }
  s.wake .join St.ok [w32 j.level, fe, w32 (fabTime j.depth)]

/-- The event of a device that joins or leaves. NODE[8:0] and SIDE[9] of FABRIC_LEFT share bits 8 and 9 with REASON[11:8] (Table
13.6): where they differ, what these two bits show is open.
DEDUCED: log entry 94. -/
def State.memberEvent (s : State) (code addr reason : Nat) (fe : Word) : State :=
  let node := addr / 2
  let mine := node / 256 + 2 * (addr % 2)
  let (b, s) := if reason = 0 ∨ reason = mine then (mine, s) else s.freeN 4
  s.event 0x13 code 0 (w32 (node % 256 + b * 2 ^ 8 + reason / 4 * 2 ^ 10)) fe

/-- The effects of a decision on the membership, the slots and FE; the fabric aborts enter ABORTING. `c` is the epoch that
was current before the boundary (R261). -/
def State.applyDecision (s : State) (d : FabDecision) : State :=
  let c := s.glue.c
  if s.fab.joined then
    let mine := s.ownAddr
    let side := s.fab.side
    let link (m : SMap LinkId) (j : JoinReq) : LinkId :=
      if j.parent = s.fab.node then ((s.fab.pendJoins.find? (fun p => p.1 == j)).map (·.2)).getD .d0 else smGet LinkId.d0 m j.parent
    let decided (j : JoinReq) : Bool := d.joins.contains j || d.refused.any (fun x => x.1 == j)
    let gone (a : Nat) : Bool := d.removed.any (fun x => x.1 == a)
    let evicted := (s.fab.leaves.filter (fun l => l.2 == 2 && d.removed.any (fun x => x.1 / 2 == l.1))).map (·.1)
    let routes := (d.joins.filter (fun j => j.side == side && j.level != 0)).foldl (fun m j => smSet LinkId.d0 m j.node (link m j)) s.fab.routes
    let routes := routes.filter (fun x => d.members.any (fun m => m.addr == fabAddr x.1 side))
    let s := d.aborts.foldl State.abortFabric s
    let s : State := { s with fab := { s.fab with
      fe := d.fe, quantum := d.quantum, decision := none, members := d.members, routes := routes
      prevC := if d.changes then c else s.fab.prevC
      prevRoutes := if d.changes then s.fab.routes else s.fab.prevRoutes
      pendJoins := s.fab.pendJoins.filter (fun p => !decided p.1)
      leaves := s.fab.leaves.filter (fun l => !(l.2 == 2 && evicted.contains l.1))
      newSlots := s.fab.newSlots && d.slots != some s.slotRegs
      limits := s.fab.limits.filter (fun x => !d.commits.contains x.1 && !d.aborts.contains x.1) } }
    let s := d.slots.elim s s.setSlots
    let s : State := if d.resync.contains s.fab.node then
        { s with twin := { s.twin with resync := s.twin.resync.map (fun r => { r with due := true }) } } else s
    let s := d.joins.foldl (fun s j => s.memberEvent 0x01 (fabAddr j.node j.side) 0 d.fe) s
    let s := d.removed.foldl (fun s x => s.memberEvent 0x02 x.1 x.2 d.fe) s
    let s := evicted.foldl (fun s n => s.wake (.evict n) St.ok []) s
    if gone mine then s.leaveFabric else s
  else match s.fab.join with
    | none => s
    | some p =>
      let me (j : JoinReq) : Bool := j.node == p.req.node && j.side == p.req.side
      let s : State := { s with fab := { s.fab with decision := none } }
      match d.joins.find? me, d.refused.find? (fun x => me x.1) with
      | some j, _ =>
        let s := s.becomeMember j d.fe d.members
        let s := d.slots.elim s s.setSlots
        s.memberEvent 0x01 (fabAddr j.node j.side) 0 d.fe
      | none, some x =>
        let s : State := { s with fab := { s.fab with join := none } }
        s.wake .join x.2 []
      | none, none => s

/-- The join message of this device goes to its parent: up D0, or over the mitre link from the second side of the root node. -/
def State.sendJoin (s : State) : State :=
  match s.fab.join with
  | none => s
  | some p =>
    let l : LinkId := if p.req.node = 0 then .mitre else .d0
    let s : State := { s with fab := { s.fab with join := some { p with sent := true } } }
    s.send l (.join p.req)

/-- The partner has joined a fabric as the other side of its root (R266, R268). -/
def State.partnerIsRoot (s : State) : Bool := s.partnerPresent && s.twin.partnerAddr.any (fun a => decide (a < 2))

/-- A device that forms a fabric does so at its next boundary (R266), with the slot table of its registers and FE 0.
DESIGN CHOICE: log entry 92. -/
def State.formFabric (s : State) : State :=
  match s.fab.join with
  | some p =>
    if s.fab.joined ∨ p.sent ∨ p.req.node ≠ 0 then s
    else if p.req.twinned ∧ s.partnerIsRoot then s.sendJoin
    else
      let s := (s.becomeMember p.req 0 [p.req.member]).setSlots s.slotRegs
      let s : State := { s with fab := { s.fab with newSlots := false } }
      s.memberEvent 0x01 p.req.side 0 0
  | none => s

/-- The fabric's part of the boundary at `b` µs: its decision for that boundary takes effect. Answers the glue-up IDs that the
decision commits. -/
def State.fabricAt (s : State) (b : Nat) : State × List Nat :=
  let s := s.formFabric
  match s.fab.decision with
  | none => (s, [])
  | some d =>
    if s.fab.joined ∧ b < d.at_ then (s, [])
    else (s.applyDecision d, (s.fabricIds [.clamping]).filter (fun i => d.commits.contains i))

/-- FABRIC_CLAMP_LIMIT_EXPIRY: no decision for FABRIC_CLAMP_LIMIT (R265). A device that enters standby treats itself as left
(R474). -/
def execFabricClampLimitExpiry (s : State) : Host.Outcome State Fault Refusal :=
  finish s (whileUp s fun s =>
    if ¬ s.fab.joined then s
    else
      let s := s.until (s.fab.lastDecision + s.clampLimit)
      let s := (s.fabricIds [.opened, .clamping]).foldl State.abortFabric s
      if s.pwr.entry.isSome then s.leaveFabric else s)

/-! ## Joining and leaving (R266, R267, R274, R275) -/

/-- FABRIC_JOIN (R274).
DESIGN CHOICE: log entry 93. -/
def State.fabricJoin (s : State) (q : Request) : State × CmdEnd :=
  let node := q.f 0 0 9
  let depth := q.f 0 16 3
  let twinned := q.b 0 20
  let base := q.f 1 0 8
  let side := if twinned ∧ s.isFollow then 1 else 0
  let forms := decide (node = 0) && !(twinned && s.partnerIsRoot)
  let l : LinkId := if node = 0 then .mitre else .d0
  if q.stray 0 0x1701FF ∨ q.stray 1 0xFF ∨ depth = 0 ∨ (base ≠ 0 ∧ (base < 128 ∨ 254 < base)) then (s, fin 0x0160)
  else if s.fab.joined ∨ s.fab.join.isSome then (s, fin 0x0365)
  else if s.quantum < 4 ∨ (twinned ∧ ¬ s.twin.formed) then (s, fin 0x0361)
  else if ¬ forms ∧ ¬ s.linkIsUp l then (s, fin 0x0560)
  else
    let j : JoinReq := { node := node, side := side, level := 0, parent := node, depth := depth, twinned := twinned
                         glueBase := base, quantum := s.quantum }
    let s : State := { s with fab := { s.fab with join := some { req := j, since := s.clk.age, sent := false }, decision := none } }
    (if forms then s else s.sendJoin, .pend .join [])

/-- FABRIC_JOIN. -/
def execFabricJoin (q : Request) (s : State) : Host.Outcome State Fault Refusal :=
  finish s (runCmd Op.fabricJoin q State.fabricJoin s)

/-- JOIN_REQUEST: the parent takes the join into its reports, with the level and itself as the parent; the root lead takes one
of the root follow side. `auth` is as for a command (R395). -/
def execJoinRequest (link : LinkId) (auth : Bool) (j : JoinReq) (s : State) : Host.Outcome State Fault Refusal :=
  finish s (whileUp s fun s =>
    if ¬ auth then s.cnt Reg.secFabricAuthFailCount 1
    else if ¬ s.fab.joined ∨ link = .d0 ∨ (link = .mitre ∧ s.fab.level ≠ 0) then s
    else
      let level := if link = .mitre then 0 else s.fab.level + 1
      let j : JoinReq := { j with level := level, parent := s.fab.node }
      if s.fab.pendJoins.any (fun p => p.1 == j) then s
      else { s with fab := { s.fab with pendJoins := s.fab.pendJoins ++ [(j, link)] } })

/-- FABRIC_JOIN_TIMEOUT: a join unanswered after 100 ms (R274). -/
def execFabricJoinTimeout (s : State) : Host.Outcome State Fault Refusal :=
  finish s (whileFw s fun s =>
    match s.fab.join with
    | none => s
    | some p =>
      let s := s.until (p.since + 100 * msC)
      let s : State := { s with fab := { s.fab with join := none } }
      s.wake .join St.fabricNoReply [])

/-- A node is joined below this one.
DESIGN CHOICE: log entry 95. -/
def State.hasChildren (s : State) : Bool :=
  s.fab.members.any (fun m => m.level != 0 && m.parent == s.fab.node && m.addr / 2 != s.fab.node)

/-- FABRIC_LEAVE (R275). -/
def State.fabricLeave (s : State) (q : Request) : State × CmdEnd :=
  let node := q.f 0 0 9
  let leave (s : State) (x : Nat × Nat) : State :=
    if s.fab.leaves.contains x then s else { s with fab := { s.fab with leaves := s.fab.leaves ++ [x] } }
  if q.stray 0 0x101FF then (s, fin 0x0160)
  else if ¬ s.fab.joined then (s, fin St.notInFabric)
  else if q.b 0 16 then
    if ¬ s.coordinator then (s, fin 0x0160)
    else if ¬ s.fab.members.any (fun m => m.addr / 2 == node) then (s, fin St.fabricNodeAbsent)
    else (leave s (node, 2), .pend (.evict node) [])
  else if s.hasChildren then (s, fin 0x0362)
  else (leave s (s.ownAddr, 1), .pend .leave [])

/-- FABRIC_LEAVE. -/
def execFabricLeave (q : Request) (s : State) : Host.Outcome State Fault Refusal :=
  finish s (runCmd Op.fabricLeave q State.fabricLeave s)

/-- FABRIC_STATUS word 0 (R276). -/
def State.fabricWord (s : State) : Word :=
  w32 (1 + b2n (s.fab.level == 0) * 2 + b2n s.coordinator * 4 + b2n s.syncLost * 8 + b2n s.fab.twinned * 16 +
    s.fab.node * 2 ^ 8 + s.fab.side * 2 ^ 17 + s.fab.level * 2 ^ 20 + s.fab.depth * 2 ^ 24)

/-- FABRIC_OFFSET (Table 8.6). -/
def State.offsetWord (s : State) : Word := w32 (s.fab.offset % 65536).toNat

/-- FABRIC_STATUS. -/
def execFabricStatus (q : Request) (s : State) : Host.Outcome State Fault Refusal :=
  finish s (runCmd Op.fabricStatus q (fun s _ =>
    (s, .final St.ok (if s.fab.joined then
      [s.fabricWord, w32 (fabTime s.fab.depth), s.fab.fe, w32 (if s.coordinator then s.fab.members.length else 0), s.offsetWord]
    else [0, 0, 0, 0, 0]))) s)

/-! ## Time and links (R253, R263, R266, R466, R527) -/

/-- FABRIC_TIME_TRANSFER: the offset found, and what the servo makes of it, which is open: a step or a rate.
DESIGN CHOICE: log entry 96. -/
def execFabricTimeTransfer (offsetNs : Int) (s : State) : Host.Outcome State Fault Refusal :=
  finish s (whileUp s fun s =>
    if ¬ s.fabricTimed then s
    else
      let (step, s) := s.freeB
      let s := if step then s.stepTime (-offsetNs) else s.freeRate
      { s with fab := { s.fab with offset := offsetNs } })

/-- LINK_UP: a link whose one-way delay is at most 8 ns comes up (R527), and a join that waits goes up (R266). -/
def execLinkUp (link : LinkId) (delay : Nat) (s : State) : Host.Outcome State Fault Refusal :=
  finish s (whileUp s fun s =>
    if 8 < delay ∨ s.pwr.refclkLost then s
    else if link = .mitre then { s with twin := { s.twin with linkUp := true } }
    else
      let s : State := { s with fab := { s.fab with up := link :: s.fab.up.filter (· != link) } }
      if link = .d0 ∧ s.fab.join.any (fun p => !p.sent && p.req.node != 0) then s.sendJoin else s)

/-- A link goes down. A join that has gone up it has to go again. -/
def State.linkLost (s : State) (link : LinkId) : State :=
  if link = .mitre then { s with twin := { s.twin with linkUp := false } }
  else
    let s : State := { s with fab := { s.fab with up := s.fab.up.filter (· != link) } }
    if link = .d0 then
      { s with fab := { s.fab with
          join := s.fab.join.map (fun p => if p.req.node = 0 then p else { p with sent := false }) } }
    else s

/-- LINK_DOWN. -/
def execLinkDown (link : LinkId) (s : State) : Host.Outcome State Fault Refusal :=
  finish s (whileUp s fun s => s.linkLost link)

/-- REFCLK_LOSS: every Ethernet port and every link goes down (R466). -/
def execRefclkLoss (s : State) : Host.Outcome State Fault Refusal :=
  finish s (whileUp s fun s =>
    let s := (List.range 32).foldl (fun s n => if (s.ethPort n).linkUp then s.takeDown n else s) s
    let s := allLinks.foldl State.linkLost s
    { s with pwr := { s.pwr with refclkLost := true } })

/-- REFCLK_RESTORED: ports and links can come up again. -/
def execRefclkRestored (s : State) : Host.Outcome State Fault Refusal :=
  finish s (whileUp s fun s => { s with pwr := { s.pwr with refclkLost := false } })

end Sys2Proof.Machine
end

