-- ==== Sys2Proof/Machine/Twin.lean ====
section
/-! DEFINITION. Twins (R268 to R273, R278 to R280, R474): heartbeats and the loss of the partner, the two-phase clamp, the
parting, the resync, and the commands of twins. Mirrored operations are in MirrorOps. -/

namespace Sys2Proof.Machine

/-- Change the twin. -/
def State.setTwin (s : State) (t : TwinSt) : State := { s with twin := t }

/-! ## Divergence (R269, R272, R474) -/

/-- The glue-ups that carry the lead's changes on this side and are still OPEN: those that the host has opened. -/
def State.mirroredOpen (s : State) : List Nat :=
  (s.glue.ups.filter (fun x => x.2.st == .opened && x.2.opener == .host)).map (·.1)

/-- The final replies that wait for the follow side go out. -/
def State.releaseMirrors (s : State) : State :=
  let ms := s.twin.mirrors
  ms.foldl (fun s m => m.final.elim s (fun f => s.replyFrom m.op m.q f.1 (s.sideFlag m.q) f.2)) (s.setTwin { s.twin with mirrors := [] })

/-- The glue-ups that were to clamp on both sides clamp alone, at the first boundary at least 250 CCLK from now; those that are
committed keep their boundary (R272). -/
def State.clampAlone (s : State) : State :=
  let b := s.boundaryAfter 250
  s.setTwin { s.twin with
    preps := s.twin.preps.map (fun p => if p.committed then p else { p with target := b, alone := true })
    prepared := (s.twin.prepared.filter (·.ready)).map (fun p =>
      if p.commitAt.isSome then p else { p with commitAt := some b, alone := true }) }

/-- This side sets DIVERGED. Mirrored glue-ups still OPEN on a follow side abort with reason TWIN. -/
def State.diverge (s : State) : State :=
  let follow := s.isFollow
  let s := if follow ∧ ¬ s.twin.diverged then s.mirroredOpen.foldl (fun s i => s.abortGlue i 5 0) s else s
  (s.clampAlone.setTwin { s.clampAlone.twin with diverged := true, actingLead := follow, parting := false, waitOps := [] }).releaseMirrors

/-- This side declares its partner lost (R269). -/
def State.declareLost (s : State) : State :=
  let s := (s.cnt Reg.mitrePartnerLostCount 1).event 0x14 0x01 0 0 0
  let s := s.setTwin { s.twin with lostAt := some s.clk.age }
  s.diverge

/-- No two-phase clamp is in progress. -/
def State.noPhase (s : State) : Bool := s.twin.preps.isEmpty && s.twin.prepared.isEmpty

/-- After PARTING both sides set DIVERGED once no two-phase clamp is in progress (R474). The side that stays aborts mirrored
glue-ups still OPEN with reason TWIN; the side that enters aborts its own at its boundary, with reason POWER. -/
def State.settleParting (s : State) : State :=
  if ¬ (s.twin.parting ∧ s.twin.formed ∧ ¬ s.twin.diverged ∧ s.noPhase) then s
  else if s.pwr.entry.isSome then
    (s.setTwin { s.twin with diverged := true, parting := false, waitOps := [] }).releaseMirrors
  else
    let s := s.mirroredOpen.foldl (fun s i => s.abortGlue i 5 0) s
    (s.setTwin { s.twin with lost := true }).declareLost

/-- PARTING: the partner leaves for standby. -/
def execParting (s : State) : Host.Outcome State Fault Refusal :=
  finish s (whileUp s fun s =>
    if s.twin.formed ∧ ¬ s.twin.diverged then (s.setTwin { s.twin with parting := true }).settleParting else s)

/-! ## Heartbeats (R268, R269, R278) -/

/-- 10 µs in ns. -/
abbrev beatNs : Nat := 10000

/-- HEARTBEAT_SEND, every 10 µs of device time. -/
def execHeartbeatSend (s : State) : Host.Outcome State Fault Refusal :=
  finish s (whileUp s fun s =>
    match s.twin.config with
    | none => s
    | some follow =>
      let due := s.twin.lastSent + beatNs
      let s := s.untilNs due
      let s := s.setTwin { s.twin with lastSent := max due (s.timeNs / beatNs * beatNs) }
      if ¬ s.twin.linkUp then s
      else
        let ready := (s.twin.prepared.filter (·.ready)).flatMap (·.ids)
        s.send .mitre (.heartbeat ⟨follow, s.twin.diverged, s.twin.actingLead, ready, if s.fab.joined then some s.ownAddr else none⟩))

/-- HEARTBEAT_RECEIVED: the run of misses ends; a partner of the other role makes the pair, which starts DIVERGED.
DESIGN CHOICE: log entry 98. -/
def execHeartbeatReceived (h : Heartbeat) (s : State) : Host.Outcome State Fault Refusal :=
  finish s (whileUp s fun s =>
    match s.twin.config with
    | none => s
    | some follow =>
      let s := s.setTwin { s.twin with
        partnerSeen := true, misses := 0, lost := false, lastBeat := s.timeNs, partnerAddr := h.addr }
      if h.follow = follow then
        s.setTwin { s.twin with roleClash := true, formed := false, diverged := false, actingLead := false }
      else if s.twin.formed then s.setTwin { s.twin with roleClash := false }
      else s.setTwin { s.twin with roleClash := false, formed := true, diverged := true })

/-- HEARTBEAT_MISSED: 10 µs since the last heartbeat or miss; the third in a row loses the partner. -/
def execHeartbeatMissed (s : State) : Host.Outcome State Fault Refusal :=
  finish s (whileUp s fun s =>
    if s.twin.config = none ∨ (¬ s.twin.partnerSeen ∧ s.twin.misses = 0) then s
    else
      let due := s.twin.lastBeat + beatNs
      let s := (s.untilNs due).cnt Reg.mitreHbMissed 1
      let s := s.setTwin { s.twin with lastBeat := due, misses := s.twin.misses + 1 }
      if s.twin.misses ≠ 3 then s
      else
        let first := s.twin.formed && !s.twin.lost
        let s := s.setTwin { s.twin with lost := true, partnerSeen := false }
        if first then s.declareLost else s)

/-! ## The two-phase clamp (R272) -/

/-- The follow side holds every mirrored operation of a glue-up: it is OPEN and none of its operations waits. -/
def State.holdsAll (s : State) (id : Nat) : Bool :=
  (s.glueUp id).st == .opened && (s.glueUp id).reason != 5 && !s.glue.retryQ.any (fun r => r.id == id) &&
    !s.glue.moves.any (fun m => m.id == id && !m.finished) && !s.exm.inserts.any (fun i => i.id == id)

/-- Answer the PREPAREs whose glue-ups are now held whole: they enter CLAMPING and READY goes back. -/
def State.settlePrepare (s : State) : State :=
  s.twin.prepared.foldl (fun s p =>
    if p.ready ∨ ¬ p.ids.all s.holdsAll then s
    else
      let now := s.clk.age
      let s := p.ids.foldl (fun s i => s.setGlue i { s.glueUp i with st := .clamping, clampAt := now, held := true }) s
      let s := s.setTwin { s.twin with
        prepared := mapFirst (fun x => x == p) (fun x => { x with ready := true, since := now }) s.twin.prepared }
      s.send .mitre (.ready p.ids)) s

/-- PREPARE at the follow side. -/
def execPrepare (ids : List Nat) (s : State) : Host.Outcome State Fault Refusal :=
  finish s (whileUp s fun s =>
    if ¬ s.followRefuses then s
    else
      let p : FollowPrep := { ids := ids, ready := false, since := s.clk.age, commitAt := none, alone := false }
      (s.setTwin { s.twin with prepared := s.twin.prepared ++ [p] }).settlePrepare)

/-- READY at the lead: COMMIT goes out for the target, or for the first boundary at least 400 CCLK from now. -/
def execReady (ids : List Nat) (s : State) : Host.Outcome State Fault Refusal :=
  finish s (whileUp s fun s =>
    let mine (p : PrepJob) : Bool := p.ids == ids && !p.committed && !p.alone
    match s.twin.preps.find? mine with
    | none => s
    | some p =>
      let b := max p.target (s.boundaryAfter 400)
      let ps := mapFirst mine (fun p => { p with target := b, committed := true }) s.twin.preps
      (s.setTwin { s.twin with preps := ps }).send .mitre (.commit ids b))

/-- COMMIT at the follow side: the named boundary where it lies at least 250 CCLK ahead, else the next that does.
DESIGN CHOICE: log entry 102. -/
def execCommit (ids : List Nat) (boundary : Nat) (s : State) : Host.Outcome State Fault Refusal :=
  finish s (whileUp s fun s =>
    let mine (p : FollowPrep) : Bool := p.ids == ids && p.ready && p.commitAt.isNone
    if ¬ s.twin.prepared.any mine then s
    else
      let late := decide (boundary * dtUnit < s.clk.dt + 250 * s.tickUnits)
      let b := if late then max (boundary + 1) (s.boundaryAfter 250) else boundary
      let s := if late then s.cnt Reg.mitreLateCommitCount 1 else s
      s.setTwin { s.twin with prepared := mapFirst mine (fun p => { p with commitAt := some b }) s.twin.prepared })

/-- The two-phase clamp of the lead whose target comes first among those without READY. -/
def State.nextPrep (s : State) : Option PrepJob :=
  (s.twin.preps.filter (fun p => !p.committed && !p.alone)).foldl (fun b p => match b with
    | none => some p
    | some q => if p.target < q.target then some p else some q) none

/-- PREPARE_RETARGET: no READY by cycle −400 of the target, which moves on by one boundary. -/
def execPrepareRetarget (s : State) : Host.Outcome State Fault Refusal :=
  finish s (whileUp s fun s =>
    match s.nextPrep with
    | none => s
    | some p =>
      let s := s.untilNs (p.target - 320)
      let b := p.target + s.quantum * 1000
      s.setTwin { s.twin with preps := mapFirst (fun x => x == p) (fun x => { x with target := b }) s.twin.preps })

/-- READY_TIMEOUT: no READY 100 µs after PREPARE (R272, step 7). -/
def execReadyTimeout (s : State) : Host.Outcome State Fault Refusal :=
  finish s (whileUp s fun s =>
    match s.twin.preps.find? (fun p => !p.committed && !p.alone) with
    | none => s
    | some p => (s.until (p.since + 100 * usC)).declareLost)

/-- COMMIT_TIMEOUT: no COMMIT 100 µs after READY (R272, step 7). -/
def execCommitTimeout (s : State) : Host.Outcome State Fault Refusal :=
  finish s (whileUp s fun s =>
    match s.twin.prepared.find? (fun p => p.ready && p.commitAt.isNone) with
    | none => s
    | some p => (s.until (p.since + 100 * usC)).declareLost)

/-- The glue-ups whose two-phase clamp falls on the boundary at `b` ns, with whether they clamp alone. -/
def State.phaseDue (s : State) (b : Nat) : List (List Nat × Bool) :=
  (s.twin.preps.filter (fun p => (p.committed || p.alone) && decide (p.target ≤ b))).map (fun p => (p.ids, p.alone)) ++
    (s.twin.prepared.filter (fun p => p.commitAt.any (fun t => decide (t ≤ b)))).map (fun p => (p.ids, p.alone))

/-- They are done; each glue-up that clamps alone is counted. -/
def State.phaseDone (s : State) (due : List (List Nat × Bool)) : State :=
  let n := ((due.filter (·.2)).map (·.1.length)).foldl (· + ·) 0
  (s.cnt Reg.mitreClampAloneCount n).setTwin { s.twin with
    preps := s.twin.preps.filter (fun p => !due.any (fun x => x.1 == p.ids))
    prepared := s.twin.prepared.filter (fun p => !due.any (fun x => x.1 == p.ids)) }

/-! ## TWIN_CONFIG and TWIN_STATUS (R278, R280) -/

/-- The side becomes standalone: its glue-ups that waited for the partner go on locally.
DESIGN CHOICE: log entry 101. -/
def State.dissolve (s : State) : State :=
  let s := s.releaseMirrors
  let ids := s.twin.preps.flatMap (·.ids) ++ s.twin.prepared.flatMap (·.ids)
  let s := ids.foldl (fun s i => s.setGlue i { s.glueUp i with held := false }) s
  let s := s.setTwin { twinReset with linkUp := s.twin.linkUp, nextRef := s.twin.nextRef, lastSent := s.twin.lastSent }
  s.wake .resync 0x0567 []

/-- TWIN_CONFIG. -/
def State.twinConfig (s : State) (q : Request) : State × CmdEnd :=
  let op := q.f 0 0 2
  let role := q.b 0 4
  if q.stray 0 0x13 ∨ 1 < op then (s, fin 0x0161)
  else if s.fab.joined then (s, fin 0x0364)
  else if op = 0 then (s.dissolve, fin St.ok)
  else if s.twin.config = some role then (s, fin St.ok)
  else
    let s := s.dissolve
    (s.setTwin { s.twin with config := some role, lastSent := s.timeNs }, fin St.ok)

/-- TWIN_CONFIG. -/
def execTwinConfig (q : Request) (s : State) : Host.Outcome State Fault Refusal :=
  finish s (runCmd Op.twinConfig q State.twinConfig s)

/-- ROLE, as in IDENTIFY. -/
def State.twinRole (s : State) : Nat := match s.twin.config with | none => 0 | some f => if f then 2 else 1

/-- The number of prepared glue-ups. -/
def State.preparedCount (s : State) : Nat := ((s.twin.prepared.filter (·.ready)).flatMap (·.ids)).length

/-- TWIN_STATUS. How far a resync has come is open. -/
def State.twinStatus (s : State) (_q : Request) : State × CmdEnd :=
  let t := s.twin
  let (n, s) := if t.resync.isSome then s.freeW else (0, s)
  (s, .final St.ok [
    w32 (s.twinRole + b2n t.actingLead * 4 + b2n t.diverged * 8 + b2n t.linkUp * 16 + b2n t.partnerSeen * 32 +
      b2n t.resync.isSome * 64 + b2n t.roleClash * 128 + s.preparedCount % 256 * 2 ^ 8),
    s.rd Reg.mitreHbMissed, w32 (t.lostAt.elim 0 (fun a => min 0xFFFFFFFF ((s.clk.age - a) / usC))), n])

/-- TWIN_STATUS. -/
def execTwinStatus (q : Request) (s : State) : Host.Outcome State Fault Refusal :=
  finish s (runCmd Op.twinStatus q State.twinStatus s)

/-! ## Resync (R273, R279) -/

/-- A resync starts on this side. The target holds its ingress and gives up what is still OPEN. -/
def State.beginResync (s : State) (source : Bool) : State :=
  let s := s.setTwin { s.twin with resync := some ⟨source, false, false, false⟩ }
  if source then s
  else
    let s := s.mirroredOpen.foldl (fun s i => s.abortGlue i 5 0) s
    s.setTwin { s.twin with ingressHeld := true }

/-- TWIN_RESYNC: both sides start, the partner by a message over the mitre link.
DESIGN CHOICE: log entry 99. -/
def State.twinResync (s : State) (q : Request) : State × CmdEnd :=
  let source := !q.b 0 0
  if q.stray 0 0x3 then (s, fin 0x0161)
  else if ¬ s.twin.diverged ∧ ¬ q.b 0 1 then (s, fin 0x0561)
  else if s.twin.resync.isSome then (s, fin 0x0363)
  else if ¬ s.twin.linkUp then (s, fin 0x0560)
  else if ¬ s.partnerPresent then (s, fin St.partnerAbsent)
  else
    let ref := s.twin.nextRef
    let s := (s.setTwin { s.twin with nextRef := ref + 1 }).send .mitre (.mirror ⟨ref, Op.twinResync, [], [w32 (b2n source)]⟩)
    (s.beginResync source, .pend .resync [])

/-- TWIN_RESYNC. -/
def execTwinResync (q : Request) (s : State) : Host.Outcome State Fault Refusal :=
  finish s (runCmd Op.twinResync q State.twinResync s)

/-- The target discards its ternary, exact-match and action contents once only its current epoch is in flight (R273). Counter
words stay. -/
def State.dropForResync (s : State) : State :=
  if ¬ s.twin.resync.any (fun r => !r.source && !r.dropped) ∨ ¬ epochs.all (fun x => x == s.glue.c || !s.inflight x) then s
  else
    let s := s.setTwin { s.twin with resync := s.twin.resync.map (fun r => { r with dropped := true }) }
    { s with
      tern := { ternReset with govLevel := s.tern.govLevel, portFree := s.tern.portFree, searches := s.tern.searches }
      exm := { exactReset with mower := { exactReset.mower with clock := s.exm.mower.clock, nextTick := s.exm.mower.nextTick } }
      coh := { s.coh with
        mem := s.coh.mem.filter (fun x => decide (s.coh.ctrBase ≤ x.1 / 16 ∧ x.1 / 16 < s.coh.ctrBase + s.coh.ctrLines))
        dir := [], caches := [], cow := [] } }

/-- Fill a map with listed pairs. -/
def smFill {α : Type} [DecidableEq α] (d : α) (m img : SMap α) : SMap α := img.foldl (fun m x => smSet d m x.1 x.2) m

/-- What the source copies (Table 8.4): committed and veneer rows alike, without learned entries and counter words. -/
def State.resyncImage (s : State) (bytes : Nat) : ResyncImage where
  rows := s.tern.rows
  words := s.tern.words
  segments := s.tern.segments
  tables := s.tern.tables
  profiles := s.tern.profiles
  invalid := s.tern.invalid
  slots := s.exm.slots.filter (fun x => !x.2.learned)
  exact := s.exm.tables
  mem := s.writeBack.coh.mem.filter (fun x => !s.ctrLine (x.1 / 16))
  cow := s.coh.cow
  policers := s.sw.policers
  groups := s.sw.groups
  routes := s.mapper.routes
  pdus := s.mapper.pdus
  slotTables := s.time.tables
  ups := s.glue.ups
  bytes := bytes

/-- The target takes the contents that the source has copied. -/
def State.takeImage (s : State) (g : ResyncImage) : State :=
  let isCtr (x : Nat × Word) : Bool := decide (s.coh.ctrBase ≤ x.1 / 16 ∧ x.1 / 16 < s.coh.ctrBase + s.coh.ctrLines)
  { s with
    tern := { s.tern with
      rows := smFill row0 [] g.rows, words := smFill word0 [] g.words, segments := smFill segment0 [] g.segments
      tables := smFill ternTable0 [] g.tables, profiles := smFill profile0 [] g.profiles, invalid := g.invalid }
    exm := { s.exm with slots := smFill slot0 [] g.slots, tables := smFill exactTable0 [] g.exact }
    coh := { s.coh with
      mem := smFill 0#32 (s.coh.mem.filter isCtr) (g.mem.filter (fun x => !isCtr x)), cow := smFill cow0 [] g.cow }
    sw := { s.sw with
      policers := smFill versioned0 [] g.policers, groups := smFill versioned0 [] g.groups }
    mapper := { s.mapper with
      routes := smMap route0 (fun _ (x : Route) => { x with value := none, last := none }) (smFill route0 [] g.routes)
      pdus := smMap pdu0 (fun _ (x : Pdu) => { x with seq := 0, sent := 0, lost := 0, slot := 0, slotNs := 0 }) (smFill pdu0 [] g.pdus) }
    time := { s.time with
      tables := smMap slotTable0 (fun _ (x : SlotTable) => { x with entry := 0, cycleNs := 0, swapFrom := 0, deferred := [] })
        (smFill slotTable0 [] g.slotTables) }
    glue := { s.glue with ups := smFill glueUp0 [] g.ups } }

/-- RESYNC_ABORTED: the mitre link is lost during the copy. A target keeps its ingress held. -/
def execResyncAborted (s : State) : Host.Outcome State Fault Refusal :=
  finish s (whileUp s fun s =>
    if s.twin.resync.isNone then s
    else
      let s := s.linkLost .mitre
      (s.setTwin { s.twin with resync := none }).wake .resync 0x0567 [])

end Sys2Proof.Machine
end

