-- ==== Sys2Proof/Machine/Boundary.lean ====
section
/-! DEFINITION. Epoch boundaries (R144 to R154, R165, R167): what a boundary does, the rewrite cycle, what glue-ups that clamp or
abort leave behind, and the end of settling. -/

namespace Sys2Proof.Machine

/-! ## The rewrite cycle of rows and entries (R150, Table 5.2) -/

/-- What a rewrite cycle is given: K, A and D, C before it and after it, and O. -/
structure Cycle where
  k : List Nat
  a : List Nat
  drained : List (BitVec 3)
  c : BitVec 3
  next : BitVec 3
  oldest : BitVec 3
deriving DecidableEq, Repr

/-- The hidden part that a rewrite cycle changes: STATE, TAG, BIRTH and DEATH. -/
structure Hidden where
  st : RowState
  tag : Nat
  birth : BitVec 3
  death : BitVec 3
deriving DecidableEq, Repr

/-- BIRTH after the settle row of Table 5.2. -/
def Cycle.settle (y : Cycle) (b : BitVec 3) : BitVec 3 := if epochAge y.c y.oldest < epochAge y.c b then y.oldest else b

/-- Table 5.2 for one row or entry. -/
def Cycle.apply (y : Cycle) (h : Hidden) : Hidden :=
  match h.st with
  | .free => h
  | .veneer =>
    if h.tag = 0 then (if y.drained.contains h.death then { h with st := .free } else h)
    else if y.k.contains h.tag then { h with st := .live, birth := y.next, tag := 0 }
    else if y.a.contains h.tag then { h with st := .free, tag := 0 }
    else h
  | .live =>
    let h' := { h with birth := y.settle h.birth }
    if h.tag = 0 then h'
    else if y.k.contains h.tag then { h' with st := .dying, death := y.next, tag := 0 }
    else if y.a.contains h.tag then { h' with tag := 0 }
    else h'
  | .dying => if y.drained.contains h.death then { h with st := .free } else { h with birth := y.settle h.birth }

/-- The hidden part of a row. -/
def Row.hid (r : Row) : Hidden := ⟨r.state, r.tag.toNat, r.birth, r.death⟩

/-- A row in its rewrite cycle (R74). -/
def Cycle.row (y : Cycle) (r : Row) : Row :=
  let h := y.apply r.hid
  r.rewrite { r with state := h.st, tag := BitVec.ofNat 8 h.tag, birth := h.birth, death := h.death }

/-- The hidden part of an exact-match slot. -/
def Slot.hid (x : Slot) : Hidden := ⟨x.state, x.tag.toNat, x.birth, x.death⟩

/-- A slot's tag-table word in its rewrite cycle (R148, R180). -/
def Cycle.slot (y : Cycle) (x : Slot) : Slot :=
  let h := y.apply x.hid
  x.retag { x with state := h.st, tag := BitVec.ofNat 8 h.tag, birth := h.birth, death := h.death }

/-- A row or entry that the reclamation row of Table 5.2 frees.
DEDUCED: log entry 37. -/
def Cycle.reclaims (y : Cycle) (h : Hidden) : Bool :=
  (h.st == .dying || (h.st == .veneer && h.tag == 0)) && y.drained.contains h.death

/-- A row or entry waits for reclamation with the death epoch given. -/
def Hidden.waitsAt (h : Hidden) (p : BitVec 3 → Bool) : Bool :=
  (h.st == .dying || (h.st == .veneer && h.tag == 0)) && p h.death

/-- Some row or entry waits for reclamation with a death epoch that satisfies `p`.
DEDUCED: log entry 39. -/
def State.anyWaits (s : State) (p : BitVec 3 → Bool) : Bool :=
  s.tern.rows.any (fun x => x.2.hid.waitsAt p) || s.exm.slots.any (fun x => x.2.hid.waitsAt p)

/-! ## Which action a boundary takes (R145) -/

/-- A versioned object waits for an advance: a profile version, or a descriptor that a command changes. -/
def State.objectDue (s : State) : Bool :=
  s.tern.profiles.any (fun x => x.2.standby.isSome) ||
    s.tern.tables.any (fun x => match x.2.busy with
      | .growing _ _ => true
      | .swapping _ _ _ => true
      | .destroying => true
      | _ => false) ||
    s.exm.tables.any (fun x => x.2.busy == .destroying)

/-- A replaced version waits with its death epoch current. -/
def State.anyVersWait (s : State) : Bool :=
  s.tern.profiles.any (fun x => s.versWait x.2.vers) || s.tern.tables.any (fun x => s.versWait x.2.vers) ||
    s.exm.tables.any (fun x => s.versWait x.2.vers) || s.sw.policers.any (fun x => s.versWait x.2.vers) ||
    s.sw.groups.any (fun x => s.versWait x.2.vers)

/-- The glue-ups in a state. -/
def State.idsIn (s : State) (st : GlueState) : List Nat := (s.glue.ups.filter (fun x => x.2.st == st)).map (·.1)

/-- The glue-ups that clamp at this boundary of their own accord (R165): accepted at least 250 CCLK ago; all of them at the
boundary that resolves a power entry (R473). -/
def State.localDue (s : State) (all : Bool) : List Nat :=
  (s.glue.ups.filter (fun x => x.2.st == .clamping && !x.2.held && (all || decide (x.2.clampAt + 250 ≤ s.clk.age)))).map (·.1)

/-! ## What the clamp of entries brings with it -/

/-- The ternary tables that have a row with a TAG in a list. -/
def State.ternTouched (s : State) (k : List Nat) : List Nat :=
  ((s.tern.rows.filter (fun x => x.2.tag != 0 && k.contains x.2.tag.toNat && x.2.state != .free)).map (fun x =>
    (s.segment (x.1 / 16384)).table)).eraseDups

/-- The (table, index) pairs that an insert in a list of glue-ups makes. -/
def State.ternInserted (s : State) (k : List Nat) : List (Nat × Nat) :=
  s.tern.rows.filterMap (fun x =>
    let t := (s.segment (x.1 / 16384)).table
    let first := (s.ternNow t).any (fun d => x.1 % d.rowsPer == 0)
    if x.2.state == .veneer && x.2.tag != 0 && k.contains x.2.tag.toNat && first then some (t, (s.word x.1).index.toNat) else none)

/-- A change of an exact-match key: its table, its descriptor, the position, and whether it is an insert. -/
structure KeyChange where
  table : Nat
  desc : ExactDesc
  pos : Nat
  insert : Bool
deriving DecidableEq, Repr

/-- The change that the slot at a position stands for: the first slot of an entry. -/
def State.changeAt (s : State) (p : Nat) (x : Slot) : Option KeyChange :=
  match s.ownerAt p with
  | some (t, d) => if p % d.w = 0 then some ⟨t, d, p, x.state == .veneer⟩ else none
  | none => none

/-- The slot carries a pending change of one of some glue-ups. -/
def Slot.changedBy (x : Slot) (k : List Nat) : Bool :=
  x.tag != 0#8 && k.contains x.tag.toNat && (x.state == .live || x.state == .veneer)

/-- The exact-match changes of a list of glue-ups. -/
def State.exactChanges (s : State) (k : List Nat) : List KeyChange :=
  (s.exm.slots.filter (fun x => x.2.changedBy k)).filterMap (fun x => s.changeAt x.1 x.2)

/-- Records of the pending-learn filter that the clamp of some changes releases (R200).
DESIGN CHOICE: log entry 65. -/
def State.releaseRecords (s : State) (cs : List KeyChange) : State :=
  let hit (r : FilterRec) : Bool := cs.any (fun c =>
    c.table == r.table && s.keyAt c.desc.w c.pos == r.key && (r.move || c.insert))
  { s with exm := { s.exm with filter := s.exm.filter.filter (fun r => !hit r) } }

/-- EVICTED and AGED notifications and their counters at the clamp of the deletions (R192, R206). -/
def State.noteDeletions (s : State) (k : List Nat) (cs : List KeyChange) : State :=
  let tagAt (c : KeyChange) : Nat := (s.slot c.pos).tag.toNat
  let inForce (c : KeyChange) : Bool := s.exNow c.table == some c.desc
  let gone := cs.filter (fun c => !c.insert && inForce c)
  let evicted := gone.filter (fun c => s.exm.evicts.contains (tagAt c))
  let aged := gone.filter (fun c => s.exm.mower.ids.any (fun m => m.1 == tagAt c))
  let s := evicted.foldl (fun s c => (s.noteEntry 3 c.table c.desc c.pos).cnt Reg.exactEvictCount 1) s
  let s := aged.foldl (fun s c =>
    (if c.desc.notifyAged then s.noteEntry 4 c.table c.desc c.pos else s).cnt Reg.exactAgedCount 1) s
  { s with exm := { s.exm with
      evicts := s.exm.evicts.filter (fun f => !k.contains f)
      mower := { s.exm.mower with ids := s.exm.mower.ids.filter (fun m => !k.contains m.1) } } }

/-- The rewrite cycle of every row and entry, with what their clamps bring. -/
def State.rewriteEntries (s : State) (y : Cycle) : State :=
  let tern := s.ternTouched y.k
  let ins := s.ternInserted y.k
  let cs := s.exactChanges y.k
  let dying := s.exm.slots.filter (fun x => x.2.state == .live && (y.slot x.2).state != .live)
  let freedRows := (s.tern.rows.filter (fun x => y.reclaims x.2.hid)).length
  let freedEntries := (s.exm.slots.filter (fun x =>
    y.reclaims x.2.hid && (s.ownerAt x.1).all (fun o => x.1 % o.2.w == 0))).length
  let s := (s.releaseRecords cs).noteDeletions y.k cs
  let s := (s.cnt Reg.glueReclaimCount (freedRows + freedEntries))
  let s : State := { s with
    tern := { s.tern with
      rows := smMap row0 (fun _ r => y.row r) s.tern.rows
      invalid := s.tern.invalid.filter (fun x => !ins.contains x) }
    exm := { s.exm with slots := smMap slot0 (fun _ x => y.slot x) s.exm.slots } }
  let s := s.dropQueued (dying.map (·.1))
  let s := tern.foldl State.ternGen s
  ((cs.map (·.table)).eraseDups).foldl State.exactGen s

/-! ## Versioned objects (R149) -/

/-- A profile, in a rewrite cycle. -/
def State.rewriteProfiles (s : State) (y : Cycle) (advance : Bool) : State :=
  let next (p : ProfileSt) : Option Profile := if advance then p.standby else none
  { s with tern := { s.tern with profiles := smMap profile0 (fun _ p =>
      { vers := s.rewriteVers p.vers (some profileOff) (next p) y.next, standby := if advance then none else p.standby }) s.tern.profiles } }

/-- A ternary table: a grow or a shrink gives it its new descriptor, a destroy takes it away. GEN goes up by 1 however many changes the
advance brings (R132); `was` is the state before the cycle. -/
def State.rewriteTern (s was : State) (y : Cycle) (advance : Bool) (n : Nat) (t : TernTable) : TernTable :=
  let gen := (was.ternTable n).gen + 1
  let now := s.verNow t.vers
  let resized (segs : Nat) (sets : List (List Nat)) : Option (Option TernDesc) :=
    now.map (fun d => d.map (fun d => { d with segs := segs, sets := sets }))
  let plain : TernTable := { t with vers := s.rewriteVers t.vers none none y.next }
  if ¬ advance then plain
  else match t.busy with
    | .growing k sets => { vers := s.rewriteVers t.vers none (resized k sets) y.next, gen := gen, busy := .idle }
    | .swapping k sets _ => { vers := s.rewriteVers t.vers none (resized k sets) y.next, gen := gen, busy := .releasing }
    | .destroying => { vers := s.rewriteVers t.vers none (some none) y.next, gen := t.gen, busy := .draining y.c }
    | _ => plain

/-- An exact-match table: a destroy takes its descriptor away, and the swap of a rehash gives it the new one. -/
def State.rewriteExact (s was : State) (y : Cycle) (advance : Bool) (n : Nat) (t : ExactTable) : ExactTable :=
  let swap : Option ExactDesc := s.exm.rehash.bind (fun r => match r.phase with
    | .swapping id => if r.table = n ∧ y.k.contains id then some r.new else none
    | _ => none)
  let plain : ExactTable := { t with vers := s.rewriteVers t.vers none none y.next }
  if ¬ advance then plain
  else if t.busy = .destroying then { t with vers := s.rewriteVers t.vers none (some none) y.next, busy := .draining y.c, gone := (s.verNow t.vers).bind id }
  else match swap with
    | some d => { t with vers := s.rewriteVers t.vers none (some (some d)) y.next, gen := (was.exTable n).gen + 1, descSeq := t.descSeq + 1 }
    | none => plain

/-- The rehash whose swap has clamped waits for its old epoch to drain (R195). -/
def Cycle.rehash (y : Cycle) (r : Rehash) : Rehash :=
  match r.phase with
  | .swapping id => if y.k.contains id then { r with phase := .draining y.c } else r
  | _ => r

/-- A policer or a multicast group. -/
def State.rewriteVersioned {α : Type} (s : State) (y : Cycle) (first : α) (v : Versioned α) : Versioned α :=
  let mine (l : List Nat) : Bool := v.pend.any (fun p => l.contains p.1)
  let next := if mine y.k then v.pend.map (·.2.1) else none
  { vers := s.rewriteVers v.vers (some first) next y.next, pend := if mine y.k || mine y.a then none else v.pend }

/-- The fills that the policers of the clamp set need (R313). -/
def State.newFills (s : State) (y : Cycle) : List PolicerFill :=
  s.sw.policers.filterMap (fun x => x.2.pend.bind (fun p =>
    let first := p.2.1.enable && !smGet false s.sw.everEnabled x.1
    if y.k.contains p.1 ∧ (p.2.2 ∨ first) then some ⟨p.1, x.1, first⟩ else none))

/-- Policers and groups, in a rewrite cycle. -/
def State.rewriteSwitch (s : State) (y : Cycle) : State :=
  let fills := s.newFills y
  { s with sw := { s.sw with
      policers := smMap versioned0 (fun _ v => s.rewriteVersioned y policer0 v) s.sw.policers
      groups := smMap versioned0 (fun _ v => s.rewriteVersioned y group0 v) s.sw.groups
      fills := s.sw.fills ++ fills
      everEnabled := (fills.filter (·.zero)).foldl (fun m f => smSet false m f.policer true) s.sw.everEnabled } }

/-- A slot table whose standby write or swap clamps or aborts (R348). `five` is DT_NS of cycle 5 of the advance. -/
def Cycle.slots (y : Cycle) (five : Int) (t : SlotTable) : SlotTable :=
  match t.pend with
  | none => t
  | some p =>
    if y.k.contains p.id then
      let t := p.copy.elim t t.setStandby
      { t with pend := none, swapPend := t.swapPend || p.swap, swapFrom := if p.swap then five else t.swapFrom }
    else if y.a.contains p.id then { t with pend := none }
    else t

/-- Every versioned object, in a rewrite cycle. -/
def State.rewriteObjects (s was : State) (y : Cycle) (advance : Bool) : State :=
  let s := (s.rewriteProfiles y advance).rewriteSwitch y
  { s with
    tern := { s.tern with tables := smMap ternTable0 (fun n t => s.rewriteTern was y advance n t) s.tern.tables }
    exm := { s.exm with
      tables := smMap exactTable0 (fun n t => s.rewriteExact was y advance n t) s.exm.tables
      rehash := s.exm.rehash.map y.rehash }
    time := { s.time with tables := smMap slotTable0 (fun _ t => y.slots (s.glue.lastBoundary + 4) t) s.time.tables } }

/-! ## Glue-ups after the cycle (R155, R165, R167, R171) -/

/-- The final reply of an implicit glue-up with the epoch of its clamp (R130, R214, R247, R358). -/
def withEpoch (op : Nat) (e : BitVec 3) (w : List Word) : List Word :=
  if op = Op.writeEntry then setAt w 2 (wd w 2 + w32 (e.toNat * 2 ^ 16)) else setAt w 1 (w32 e.toNat)

/-- CLAMPED_DIVERGED and GLUE_ABORTED. -/
abbrev St.clampedDiverged : Nat := 0x0562
abbrev St.glueAborted : Nat := 0x0332

/-- The replies of the commands whose glue-ups have clamped; `alone` are those that clamped on this side alone (R272). -/
def State.clampReplies (s : State) (y : Cycle) (alone : List Nat) : State :=
  let st (ids : List Nat) : Nat :=
    if ids.any y.a.contains then St.glueAborted else if ids.any alone.contains then St.clampedDiverged else St.ok
  let ends (w : Waiter) : Bool := match w.on with
    | .implicit id => y.k.contains id || y.a.contains id
    | .clamp ids => ids.any (fun i => y.k.contains i || y.a.contains i) && !ids.any (fun i => (s.glueUp i).st == .clamping)
    | .abort id => y.a.contains id
    | _ => false
  let ws := s.cmdq.waiters.filter ends
  let s : State := { s with cmdq := { s.cmdq with waiters := s.cmdq.waiters.filter (fun w => !ends w) } }
  ws.foldl (fun s w => match w.on with
    | .implicit id =>
      if y.a.contains id then s.reply w.op w.q St.glueAborted []
      else s.reply w.op w.q (st [id]) (withEpoch w.op y.next w.payload)
    | .clamp ids =>
      if ids.any y.a.contains then s.reply w.op w.q St.glueAborted []
      else s.reply w.op w.q (st ids) [wd w.payload 0 + w32 y.next.toNat]
    | _ => s.reply w.op w.q w.status w.payload) s

/-- Operations that still wait for an aborted glue-up end with GLUE_ABORTED (R167, R171, R191). -/
def State.abortReplies (s : State) (a : List Nat) : State :=
  let rs := s.glue.retryQ.filter (fun r => a.contains r.id)
  let ms := s.glue.moves.filter (fun m => a.contains m.id && !m.finished)
  let is := s.exm.inserts.filter (fun i => a.contains i.id)
  let s : State := { s with
    glue := { s.glue with
      retryQ := s.glue.retryQ.filter (fun r => !a.contains r.id), moves := s.glue.moves.filter (fun m => !a.contains m.id) }
    exm := { s.exm with inserts := s.exm.inserts.filter (fun i => !a.contains i.id) } }
  (rs.map (fun r => (r.op, r.q)) ++ ms.map (fun m => (m.op, m.q)) ++ is.map (fun i => (i.op, i.q))).foldl (fun s x =>
    s.reply x.1 x.2 St.glueAborted []) s

/-- A make-room move has clamped: its job goes on, and the copy takes over the pending delete that its source had for the job's
glue-up (R171). -/
def State.moveDone (s : State) (y : Cycle) (m : MakeRoom) : State :=
  match m.moving, s.ternNow m.table with
  | some (id, dst), some d =>
    if ¬ y.k.contains id then s
    else
      let s := s.setJob m { m with moving := none, redo := false }
      if ¬ m.redo then s
      else if y.k.contains m.id then s.freeSlot d m.part dst
      else if y.a.contains m.id then s
      else s.tagSlot d m.part dst m.id
  | _, _ => s

/-- The event of a glue-up that has aborted (R167); an abort with reason IMPLICIT enters none. -/
def State.abortEvent (s : State) (id : Nat) : State :=
  let g := s.glueUp id
  if g.reason = 8 then s
  else s.event 0x04 0x01 0 (w32 (id + g.reason * 2 ^ 8 + (if g.reason = 2 then g.wounder * 2 ^ 16 else 0))) g.age

/-- Glue-ups in K enter SETTLING and those in A become FREE, with their pins, copies and commands. -/
def State.endGlue (s : State) (y : Cycle) (alone : List Nat) : State :=
  let s := s.glue.moves.foldl (fun s m => s.moveDone y m) s
  let s := y.k.foldl (fun s i => s.setGlue i { s.glueUp i with st := .settling, clampEpoch := y.next, held := false }) s
  let s := (s.cnt Reg.glueClampCount y.k.length)
  let s := y.a.foldl (fun s i => (s.abortEvent i).freeGlue i) s
  let s := (s.unpin (y.k ++ y.a)).settleCopies y.k y.a
  let s := (s.abortReplies y.a).clampReplies y alone
  { s with glue := { s.glue with moves := s.glue.moves.filter (fun m => !(m.finished && (y.k.contains m.id || y.a.contains m.id))) } }

/-! ## Commands that an advance completes -/

/-- Profiles whose standby version has become active, and tables that a grow has given their new descriptor, reply. `was` is the
state before the advance. -/
def State.advanceReplies (s was : State) : State :=
  let s := (was.tern.profiles.filter (fun x => x.2.standby.isSome)).foldl (fun s x => s.wake (.profile x.1) St.ok []) s
  (was.tern.tables.filter (fun x => match x.2.busy with | .growing _ _ => true | _ => false)).foldl (fun s x =>
    s.wake (.resize x.1) St.ok ((s.ternNow x.1).elim [] (fun d => segReply d.sets))) s

/-- What the firmware goes on with after a rewrite cycle: shrinks and flushes. -/
def State.afterCycle (s : State) (k : List Nat) : State :=
  let s := (s.tern.tables.filter (fun x => match x.2.busy with | .shrinking _ _ _ => true | _ => false)).foldl (fun s x =>
    s.shrinkRound x.1) s
  s.exm.flushes.foldl (fun s f =>
    let f' := { f with ids := f.ids.filter (fun i => !k.contains i) }
    (s.setFlush f f').flushSettle f') s

/-! ## The boundary (R145, R151, R152) -/

/-- Frames still stamped with the number that the advance reuses are dropped; one that is already on its way out is counted no more (R151).
DESIGN CHOICE: log entry 121. -/
def State.dropReused (s : State) (c' : BitVec 3) : State :=
  let fs := s.sw.frames.filter (fun f => f.epoch == c')
  if fs.isEmpty then s
  else
    let s := fs.foldl State.lateDrop s
    let s : State := { s with sw := { s.sw with frames := s.sw.frames.map (fun f => if fs.any (fun g => g.num == f.num) then { f with counted := false } else f) } }
    (s.cnt Reg.glueReuseDropCount fs.length).event 0x04 0x02 0 (w32 c'.toNat) (w32 fs.length)

/-- The cycle's sets, as they stand before it. -/
def State.cycleOf (s : State) (k : List Nat) (advance : Bool) : Cycle :=
  let c := s.glue.c
  { k := k, a := s.idsIn .aborting, drained := epochs.filter (fun x => !s.inflight x), c := c, next := if advance then c + 1 else c, oldest := s.oldest }

/-- A rewrite cycle: an advance or a sweep (Table 5.3). The sets are fixed in cycle 0, rows, entries and versions change in cycle 4, in
which no search is granted (R82), and what follows takes effect in cycle 5. -/
def State.runCycle (s : State) (k alone : List Nat) (advance : Bool) : State :=
  let s := if advance then s.dropReused (s.glue.c + 1) else s
  let y := s.cycleOf k advance
  let s := (s.advance 4).readBacks
  let s : State := { s with tern := { s.tern with rewriteAt := s.clk.age } }
  let was := s
  let s := ((s.rewriteEntries y).rewriteObjects was y advance).advance 1
  let s : State := { s with glue := { s.glue with c := y.next } }
  let s := s.cnt (if advance then Reg.glueAdvanceCount else Reg.glueSweepCount) 1
  let s := s.endGlue y alone
  let s := if advance then s.advanceReplies was else s
  s.afterCycle y.k

/-- The boundary resolves the glue-ups for a power entry: the fabric has been left and the pair is DIVERGED (R473, R474).
DESIGN CHOICE: log entry 183. -/
def State.resolvesNow (s : State) : Bool :=
  s.pwr.entry.any (fun e => !e.resolved) && !s.fab.joined && !(s.twin.formed && !s.twin.diverged)

/-- At that boundary every glue-up still OPEN aborts with reason POWER. -/
def State.powerAborts (s : State) : State :=
  let s := (s.idsIn .opened).foldl (fun s i => s.abortGlue i 4 0) s
  { s with pwr := { s.pwr with entry := s.pwr.entry.map (fun e => { e with resolved := true }) } }

/-- The boundary at `b` ns of device time, which is now. -/
def State.boundaryAt (s : State) (b : Nat) : State :=
  let s : State := { s.leaveDoze with glue := { s.leaveDoze.glue with lastBoundary := b } }
  let resolve := s.resolvesNow
  let (s, fabric) := s.fabricAt (b / 1000)
  let s := if resolve then s.powerAborts else s
  let due := s.phaseDue b
  let k := (s.localDue resolve ++ due.flatMap (·.1) ++ fabric).eraseDups.filter (fun i => (s.glueUp i).st == .clamping)
  let alone := (due.filter (·.2)).flatMap (·.1)
  let s := s.phaseDone due
  let c := s.glue.c
  let advance := !k.isEmpty || s.objectDue || s.anyWaits (· == c) || s.anyVersWait
  let sweep := !(s.idsIn .aborting).isEmpty || s.anyWaits (fun d => !s.inflight d)
  let s := if advance then s.runCycle k alone true else if sweep then s.runCycle [] alone false else s
  ((s.dropForResync.settleParting).settlePrepare).reportAt (b / 1000)

/-- The next boundary, at its own instant (R144). -/
def State.boundary (s : State) : State :=
  let b := s.nextBoundary
  (s.untilNs b).boundaryAt b

/-- EPOCH_BOUNDARY. -/
def execEpochBoundary (s : State) : Host.Outcome State Fault Refusal :=
  finish s (whileUp s State.boundary)

/-! ## The end of settling (R155, R313) -/

/-- Fill the buckets of a policer to CBS and PBS and set LAST, each by SWAP; words 3 to 7 are zeroed on its first enable. -/
def State.fillPolicer (s : State) (f : PolicerFill) : State :=
  let l := s.coh.ctrBase + f.policer
  let p := s.policerAt f.policer s.glue.c
  let put (s : State) (w : Fin 8) (v : Nat) : State := (s.atomicBy 8 l (.swap w (BitVec.ofNat 64 v))).1
  let s := put s 0 (p.cbs * bucketUnit)
  let s := put s 1 (p.pbs * bucketUnit)
  let s := put s 2 s.dtNs
  if f.zero then [3, 4, 5, 6, 7].foldl (fun s w => put s w 0) s else s

/-- A SETTLING glue-up becomes FREE once what it has left to do is done. -/
def State.settleGlue (s : State) (id : Nat) : State :=
  if (s.glueUp id).st ≠ .settling then s
  else
    let fs := s.sw.fills.filter (fun f => f.id == id)
    let s := fs.foldl State.fillPolicer s
    let s : State := { s with sw := { s.sw with fills := s.sw.fills.filter (fun f => f.id != id) } }
    s.freeGlue id

/-! ## Retries (R168) -/

/-- One more attempt of a waiting operation, by its command.
DEDUCED: log entry 57. -/
def State.retryOne (s : State) (r : RetryOp) : State :=
  let q := r.q
  let retry (mir : Bool) (act : State → Nat → GlueRes) : State := s.glueRetry r mir id act
  if r.op = Op.entryWrite then retry true (entryAct q)
  else if r.op = Op.exactInsert then
    retry (!q.b 0 16 && q.stream != .own && !s.twin.mirrors.any (fun m => m.op == r.op && m.q == q)) (insertAct q)
  else if r.op = Op.exactDelete then retry (s.deleteMirrors q) (deleteAct q)
  else if r.op = Op.policerWrite then retry true (policerAct q)
  else if r.op = Op.mcastGroupWrite then retry true (mcastAct q)
  else if r.op = Op.slotWrite then retry true (slotWriteAct q)
  else if r.op = Op.slotSwap then retry true (slotSwapAct q)
  else if r.op = Op.writeEntry then
    let sent := s.twin.mirrors.any (fun m => m.op == Op.writeEntry && m.q == q)
    s.glueRetry r (!sent) (fun s => s.undoWrite r.op q r.id) (writeEntryAct q)
  else s

/-- The waiting operations, oldest requester first; the ages of R156 are compared with the next age to be given. -/
def State.retryOrder (s : State) : List RetryOp :=
  sortBy (fun r : RetryOp => 2 ^ 32 - (s.glue.nextAge - (s.glueUp r.id).age).toNat) s.glue.retryQ

/-- Every waiting operation, attempted once. -/
def State.retryAll (s : State) : State :=
  (s.retryOrder.foldl (fun s r => if s.glue.retryQ.contains r then s.retryOne r else s) s).settlePrepare

end Sys2Proof.Machine
end

