-- ==== Sys2Proof/Machine/Standby.lean ====
section
/-! DEFINITION. POWER_STATE, the entry to standby and Doze (R473 to R475, R481). -/

namespace Sys2Proof.Machine

/-- An entry to standby starts (R473, R474, R509): update work stops, a joined device asks to leave, and a side of a pair that is
not DIVERGED tells its partner. -/
def State.startEntry (s : State) (p : PowerState) : State :=
  let s := s.interruptUpdate
  let s : State := { s with pwr := { s.pwr with entry := some { target := p, resolved := false, since := s.clk.age, latched := none, asked := false } } }
  let leave := (s.ownAddr, 1)
  let s : State := if s.fab.joined ∧ ¬ s.fab.leaves.contains leave then
      { s with fab := { s.fab with leaves := s.fab.leaves ++ [leave] } } else s
  if s.twin.formed ∧ ¬ s.twin.diverged then ((s.send .mitre .parting).setTwin { s.twin with parting := true }).settleParting else s

/-- POWER_STATE (R481).
DEDUCED: log entry 184. -/
def State.powerState (s : State) (q : Request) : State × CmdEnd :=
  let n := q.f 0 0 3
  let p := powerOf n
  if q.stray 0 0x7 ∨ 4 < n then (s, fin 0x01C0)
  else if n = 0 then (({ s with pwr := { s.pwr with dozeOn := false } } : State).leaveDoze, fin St.ok)
  else if n = 1 then ({ s with pwr := { s.pwr with dozeOn := true } }, fin St.ok)
  else if n = 4 ∧ ¬ s.rb Reg.heathFallowCtrl 0 then (s, fin 0x03C1)
  else if ¬ s.anyWake p then (s, fin 0x02C0)
  else (s.startEntry p, .pend .powerEntry [])

/-- POWER_STATE. -/
def execPowerState (q : Request) (s : State) : Host.Outcome State Fault Refusal :=
  finish s (runCmd Op.powerState q State.powerState s)

/-! ## The entry (R473) -/

/-- Steps 1 to 4 are over: the glue-ups are resolved, no frame is in the device, the fabric is left, the pair is DIVERGED, and
flash writes have ended; for Keep only the current epoch is in flight and nothing waits for reclamation. -/
def State.entryReady (s : State) (e : Entry) : Bool :=
  e.resolved && s.sw.frames.isEmpty && s.sw.copies.isEmpty && !s.fab.joined && !(s.twin.formed && !s.twin.diverged) &&
    s.upd.chunks.isEmpty && s.upd.settings.isEmpty && s.pwr.calWrites == 0 &&
    (e.target != .keep ||
      (epochs.all (fun x => x == s.glue.c || !s.inflight x) && !s.anyWaits (fun _ => true) && (s.idsIn .clamping).isEmpty &&
        (s.idsIn .aborting).isEmpty))

/-- The only version that stays of an object. -/
def State.soleVer {α : Type} (s : State) (vs : List (Ver α)) : List (Ver α) :=
  (s.verNow vs).elim [] (fun x => [⟨0, x⟩])

/-- A versioned object with its current version alone. -/
def State.soleObj {α : Type} (s : State) (v : Versioned α) : Versioned α := { vers := s.soleVer v.vers, pend := none }

/-- Table work that ends with the entry to Keep: the segments that a shrink has emptied and the tables that a destroy has taken
away are freed, and a shrink or a rehash under way stops. -/
def State.endTableWork (s : State) : State :=
  let s := s.tern.tables.foldl (fun s x => match x.2.busy with
    | .shrinking _ _ _ => s.stopShrink x.1
    | .releasing =>
      let segs := (s.tern.segments.filter (fun y => y.2.table == x.1 && y.2.releasing)).map (·.1)
      ((s.clearSegs segs).giveSegs segs segment0).setTern x.1 { s.ternTable x.1 with busy := .idle }
    | .draining _ =>
      let segs := (s.tern.segments.filter (fun y => y.2.table == x.1)).map (·.1)
      ((s.clearSegs segs).giveSegs segs segment0).setTern x.1 ternTable0
    | _ => s) s
  let s := s.exm.tables.foldl (fun s x => match x.2.busy with
    | .draining _ => ((x.2.vers.filterMap (·.val)).foldl State.clearCopy s).setEx x.1 exactTable0
    | _ => s) s
  match s.exm.rehash with
  | none => s
  | some r => (s.clearCopy (match r.phase with | .draining _ => r.old | _ => r.new))

/-- The current version of a slot table: a committed swap is switched and copied back, and no write is pending. -/
def SlotTable.settle (t : SlotTable) : SlotTable :=
  let t := if t.swapPend then { t with activeB := !t.activeB } else t
  let t := if t.swapping then t.setStandby t.active else t
  { t with pend := none, swapPend := false, copyBack := false }

/-- The last rewrite cycle before Keep: BIRTH 0 and TAG 0 throughout, and current versions alone (R473). The caches lose their
power, so that the lines in M and O are written back (R228) and the action memory keeps its contents (Table 14.5). -/
def State.normalise (s : State) : State :=
  let s := s.endTableWork.writeBack
  let row (r : Row) : Row := if r.state = .live then r.rewrite { r with birth := 0, tag := 0 } else r
  let slot (x : Slot) : Slot := if x.state = .live then x.retag { x with birth := 0, tag := 0 } else x
  { s with
    tern := { s.tern with
      rows := smMap row0 (fun _ r => row r) s.tern.rows
      tables := smMap ternTable0 (fun _ (t : TernTable) => { t with vers := s.soleVer t.vers, busy := .idle }) s.tern.tables
      profiles := smMap profile0 (fun _ (p : ProfileSt) => { vers := s.soleVer p.vers, standby := none }) s.tern.profiles }
    exm := { s.exm with
      slots := smMap slot0 (fun _ x => slot x) s.exm.slots
      tables := smMap exactTable0 (fun _ (t : ExactTable) => { t with vers := s.soleVer t.vers, busy := .idle }) s.exm.tables }
    sw := { s.sw with
      policers := smMap versioned0 (fun _ v => s.soleObj v) s.sw.policers
      groups := smMap versioned0 (fun _ v => s.soleObj v) s.sw.groups }
    time := { s.time with tables := smMap slotTable0 (fun _ (t : SlotTable) => t.settle) s.time.tables } }

/-- The counter of entries to a state. -/
def entryCounter (p : PowerState) : Nat :=
  match p with
  | .keep => Reg.powerKeepCount
  | .watch => Reg.powerWatchCount
  | _ => Reg.powerFallowCount

/-- Step 6: the device enters the state; a wake that was latched follows at once (R475). -/
def State.enterStandby (s : State) (e : Entry) : State :=
  let s := s.cnt (entryCounter e.target) 1
  let s := if e.target = .keep then s.normalise else s.closeWindow
  let s : State := { s with pwr := { s.pwr with entry := none } }
  let s := s.setPower e.target
  e.latched.elim s s.wakeNow

/-- The final reply of the entry goes out (R45): posted at once where the completion queue has room. -/
def State.entryReply (s : State) : State :=
  let pairs := (s.cmdq.waiters.filter (fun w => w.on == .powerEntry)).filterMap (fun w => match w.q.stream with
    | .pcie n => some n
    | _ => none)
  pairs.foldl State.postNext (s.wake .powerEntry St.ok [])

/-- Every reply has been delivered. -/
def State.repliesOut (s : State) : Bool :=
  s.cmdq.pairs.all (fun p => p.2.held.isEmpty) && s.cmdq.spiReplies.isEmpty && s.sw.copies.isEmpty

/-- POWER_ENTRY_COMPLETE: step 5 and, once the reply has been delivered, step 6. A reply that waits for the SPI host, for room in
a completion queue or for its port is delivered first, and the entry completes at the next such event. -/
def execPowerEntryComplete (s : State) : Host.Outcome State Fault Refusal :=
  finish s (whileUp s fun s =>
    match s.pwr.entry with
    | none => s
    | some e =>
      if ¬ s.entryReady e then s
      else
        let s := s.entryReply
        if s.repliesOut then s.enterStandby e else s)

/-! ## Doze (R475) -/

/-- Boundary work is pending under R145. -/
def State.boundaryWork (s : State) : Bool :=
  !(s.idsIn .clamping).isEmpty || !(s.idsIn .aborting).isEmpty || s.objectDue || s.anyVersWait || s.anyWaits (fun _ => true)

/-- DOZE_ENTRY: the clocks are gated in the first cycle with nothing to do. -/
def execDozeEntry (s : State) : Host.Outcome State Fault Refusal :=
  finish s (whileUp s fun s =>
    if s.pwr.dozeOn ∧ s.pwr.state = .run ∧ s.pwr.entry.isNone ∧ s.sw.frames = [] ∧ s.sw.copies = [] ∧ s.cmdq.cmds = [] ∧
        ¬ s.boundaryWork then
      ({ s with pwr := { s.pwr with state := .doze } } : State).cnt Reg.powerDozeCount 1
    else s)

/-- DOZE_EXIT. -/
def execDozeExit (s : State) : Host.Outcome State Fault Refusal := finish s (whileUp s State.leaveDoze)

end Sys2Proof.Machine
end

