-- ==== Sys2Proof/Machine/MirrorOps.lean ====
section
/-! DEFINITION. Mirrored operations in a twin (R270, R271): how the follow side applies what the lead carries to it, and what
the lead does with the confirmation. -/

namespace Sys2Proof.Machine

/-! ## At the follow side -/

/-- The glue-up of the lead that a mirrored operation belongs to, 0 for none. -/
def MirrorOp.glue (m : MirrorOp) : Nat :=
  if m.op = Op.glueOpen ∨ m.op = Op.glueAbort then fld (wd m.words 0) 0 8
  else if opGlued m.op then fld (wd m.words 0) 8 8
  else 0

/-- The operation as a request of its own; a static insert replaces a learned entry of its key (R271). -/
def MirrorOp.request (m : MirrorOp) : Request :=
  let ws := if m.op = Op.exactInsert then (wd m.words 0 ||| 0x20000#32) :: m.words.drop 1 else m.words
  { stream := .mirror m.ref m.places, tag := 0, flags := 0, target := 0, words := ws }

/-- A glue-up ID that carries no change of the lead's: FREE, or held by this side's own learning or by a glue-up that has not
ended here yet. -/
def State.notLead (s : State) (id : Nat) : Bool := !((s.glueUp id).st == .opened && (s.glueUp id).opener == .host)

/-- The mailbox's WRITE_ENTRY, in place or by the copy that the lead has taken (Table 8.4).
DESIGN CHOICE: log entry 104. -/
def State.mirrorEntry (s : State) (q : Request) : State × CmdEnd :=
  let i := q.f 1 0 20
  match q.places with
  | [] =>
    if s.poisoned (i / 2) then (s.usePoison mailboxAgent (i / 2), fin 0x0650)
    else (s.fwWrite i ((q.words.drop 2).take 8) 0, fin St.ok)
  | c :: _ => (s.setCow c ⟨true, i, q.f 0 8 8⟩).glueBody Op.writeEntry q false (writeEntryAct q)

/-- A write of the active copy of a slot table: where it names a busy entry, it is made when that entry ends, the last of several
(R349).
DEDUCED: log entry 131. -/
def State.mirrorActive (s : State) (q : Request) : State × CmdEnd :=
  if s.slotPre q ≠ 0 then (s, fin (s.slotPre q))
  else
    let t := s.slotTable q.slotTarget
    let es := (List.range q.slotCount).map (fun k => (q.slotFirst + k, wd q.slotEntries k))
    match (es.filter (fun e => s.slotBusy (s.slotAt q.slotTarget) e.1)).getLast? with
    | none => (s.slotWriteActive q, fin St.ok)
    | some b =>
      ((s.cnt Reg.timeSlotDeferCount 1).setSlotTable q.slotTarget
        { t with deferred := t.deferred ++ es.map (fun e => (b.1, e)) }, fin St.ok)

/-- What a mirrored command does here. -/
def State.mirrorBody (s : State) (op : Nat) (q : Request) : State × CmdEnd :=
  if op = Op.profileWrite then s.profileWrite q
  else if op = Op.tableCreate then s.tableCreateDo q
  else if op = Op.tableResize then s.tableResizeDo q
  else if op = Op.tableDestroy then s.tableDestroyDo q
  else if op = Op.entryWrite then s.entryWrite q
  else if op = Op.exactTableCreate then (if q.b 0 9 then s.exactDestroy q else s.exactCreate q)
  else if op = Op.exactInsert then s.exactInsert q
  else if op = Op.exactDelete then s.exactDelete q
  else if op = Op.exactRehash then ((s.rehashDo q).1, (s.rehashDo q).2.1)
  else if op = Op.mowerConfig then s.mowerConfigDo q
  else if op = Op.policerWrite then s.glueOp op q (s.policerPre q) (policerAct q)
  else if op = Op.mcastGroupWrite then s.glueOp op q 0 (mcastAct q)
  else if op = Op.routeWrite then s.routeWriteDo q
  else if op = Op.slotWrite then (if q.slotActive then s.mirrorActive q else s.slotWrite q)
  else if op = Op.slotSwap then s.glueOp op q (s.swapPre q) (slotSwapAct q)
  else if op = Op.writeEntry then s.mirrorEntry q
  else (s, fin St.badOpcode)

/-- The glue-up of an aborted PREPARE that has not been answered is no longer prepared. -/
def State.dropPrepared (s : State) (id : Nat) : State :=
  s.setTwin { s.twin with prepared := s.twin.prepared.filter (fun p => p.ready || !p.ids.contains id) }

/-- Apply a mirrored operation. The first operation of a glue-up opens it here under the lead's ID.
DESIGN CHOICE: log entry 97. -/
def State.applyMirror (s : State) (m : MirrorOp) : State :=
  let g := m.glue
  let ok (s : State) : State := s.send .mitre (.confirm m.ref true)
  if m.op = Op.glueOpen then ok (s.openGlue g false 0 .host)
  else if m.op = Op.glueAbort then
    let r := fld (wd m.words 0) 8 8
    ok ((s.abortGlue g (if r = 0 then 1 else r) 0).dropPrepared g)
  else if m.op = Op.glueClamp then
    let ids := m.words.map (fun w => fld w 0 8)
    if m.words.any (fun w => bit w 8) then ok (ids.foldl State.freeGlue s) else ok (s.toClamping ids)
  else
    let s := if g ≠ 0 ∧ (s.glueUp g).st = .free then s.openGlue g false 0 .host else s
    endCmd m.op m.request (s.mirrorBody m.op m.request)

/-- A mirrored operation waits while its ID is not the lead's here, and behind those that wait for the same ID. -/
def State.mirrorWaits (s : State) (m : MirrorOp) : Bool :=
  let g := m.glue
  let behind := s.twin.waitOps.any (fun x => x.glue == g)
  if m.op = Op.glueClamp then false
  else if g = 0 then false
  else if m.op = Op.glueAbort then behind
  else behind || (s.notLead g && (s.glueUp g).st != .free) || (m.op == Op.glueOpen && (s.glueUp g).st != .free)

/-- Apply a mirrored operation, or let it wait.
DESIGN CHOICE: log entry 103. -/
def State.takeMirror (s : State) (m : MirrorOp) : State :=
  if s.mirrorWaits m then s.setTwin { s.twin with waitOps := s.twin.waitOps ++ [m] } else s.applyMirror m

/-- The mirrored operations that wait are tried again, in order. -/
def State.retryMirrors (s : State) : State :=
  let ms := s.twin.waitOps
  (ms.foldl State.takeMirror (s.setTwin { s.twin with waitOps := [] })).settlePrepare

/-- MIRRORED_OPERATION: the start of a resync, a change that a target will take with the copy (R273), or an operation of the lead
at its follow side. -/
def execMirroredOperation (m : MirrorOp) (s : State) : Host.Outcome State Fault Refusal :=
  finish s (whileFw s fun s =>
    if m.op = Op.twinResync then
      if s.twin.resync.isSome then s else s.beginResync (!bit (wd m.words 0) 0)
    else if s.twin.resync.any (fun r => !r.source) then s.send .mitre (.confirm m.ref true)
    else if s.followRefuses then (s.takeMirror m).settlePrepare
    else s)

/-- The switch-over of a resync (R273): a target takes the image of the source and its epoch; a source has sent its own. -/
def State.switchOver (s : State) (r : Resync) (epoch : BitVec 3) (img : ResyncImage) : State :=
  let s : State := if r.source then
      { s with out := { s.out with images := s.out.images ++ [(s.glue.c, s.resyncImage img.bytes)] } }
    else { s.takeImage img with glue := { (s.takeImage img).glue with c := epoch } }
  let s := s.setTwin { s.twin with
    diverged := false, actingLead := false, lostAt := none, ingressHeld := false, resync := none, parting := false }
  let s := (s.cnt64 Reg.mitreResyncBytesLo img.bytes).event 0x14 0x03 0 (w32 (img.bytes / 2 ^ 20)) 0
  s.wake .resync St.ok (toWords 2 img.bytes)

/-- RESYNC_SWITCHOVER: at the next boundary, or at the fabric boundary that the coordinator has set for it, once the target has discarded its
contents. `epoch` is the source's current epoch and `img` what it has copied. -/
def execResyncSwitchover (epoch : BitVec 3) (img : ResyncImage) (s : State) : Host.Outcome State Fault Refusal :=
  finish s (whileUp s fun s =>
    let s := if s.twin.resync.isSome ∧ ¬ s.fab.joined then s.boundary else s
    match s.twin.resync with
    | none => s
    | some r => if (s.fab.joined ∧ ¬ r.due) ∨ (¬ r.source ∧ ¬ r.dropped) then s else s.switchOver r epoch img)

/-- GLUE_SETTLED. -/
def execGlueSettled (id : Nat) (s : State) : Host.Outcome State Fault Refusal :=
  finish s (whileFw s fun s => (s.settleGlue id).retryMirrors)

/-- CLAIM_RETRY.
DESIGN CHOICE: log entry 58. -/
def execClaimRetry (s : State) : Host.Outcome State Fault Refusal :=
  finish s (whileFw s fun s => s.retryAll.retryMirrors)

/-! ## At the lead -/

/-- MIRROR_FAILED (Table 8.5). -/
abbrev St.mirrorFailed : Nat := 0x0563

/-- What still waits of a command on this side ends without a reply of its own. -/
def State.forget (s : State) (op : Nat) (q : Request) : State :=
  { s with
    cmdq := { s.cmdq with waiters := s.cmdq.waiters.filter (fun w => !(w.op == op && w.q == q)) }
    glue := { s.glue with
      retryQ := s.glue.retryQ.filter (fun r => !(r.op == op && r.q == q))
      moves := s.glue.moves.filter (fun m => m.finished || !(m.op == op && m.q == q)) }
    exm := { s.exm with inserts := s.exm.inserts.filter (fun i => !(i.op == op && i.q == q)) } }

/-- The lead aborts a glue-up on both sides with reason TWIN. One that waits for READY is taken back, with those that were to
clamp with it. -/
def State.abortTwin (s : State) (id : Nat) : State :=
  let mine (p : PrepJob) : Bool := p.ids.contains id && !p.committed
  let ids := ((s.twin.preps.filter mine).flatMap (·.ids) ++ [id]).eraseDups
  let s := s.setTwin { s.twin with preps := s.twin.preps.filter (fun p => !mine p) }
  ids.foldl (fun s i =>
    let g := s.glueUp i
    let s := if g.st = .clamping then s.setGlue i { g with st := .opened, held := false } else s
    if (s.glueUp i).st = .opened then (s.abortGlue i 5 0).tellAbort i 5 else s) s

/-- The glue-up of a mirrored operation can still be aborted: it is OPEN, or CLAMPING without a COMMIT. -/
def State.canAbort (s : State) (id : Nat) : Bool :=
  (s.glueUp id).st == .opened ||
    ((s.glueUp id).st == .clamping && s.twin.preps.any (fun p => p.ids.contains id && !p.committed))

/-- A mirrored operation has failed on the follow side. Where its glue-up has ended meanwhile, it ends with that glue-up. -/
def State.mirrorFail (s : State) (m : MirrorWait) : State :=
  if m.glue ≠ 0 ∧ ¬ s.canAbort m.glue then
    m.final.elim s (fun _ => s.replyFrom m.op m.q St.glueAborted (s.sideFlag m.q) [])
  else
    let s := (s.cnt Reg.mitreMirrorFailCount 1).event 0x14 0x02 0 (w32 m.op) (w32 m.glue)
    let s := s.forget m.op m.q
    let s := if m.glue = 0 then s else s.abortTwin m.glue
    s.replyFrom m.op m.q St.mirrorFailed (s.sideFlag m.q) []

/-- MIRROR_CONFIRM: the final reply that waited goes out, or the operation has failed. -/
def execMirrorConfirm (ref : Nat) (ok : Bool) (s : State) : Host.Outcome State Fault Refusal :=
  finish s (whileUp s fun s =>
    match s.twin.mirrors.find? (fun m => m.ref == ref) with
    | none => s
    | some m =>
      let s := s.setTwin { s.twin with mirrors := dropFirst (fun m => m.ref == ref) s.twin.mirrors }
      if ¬ ok then s.mirrorFail m
      else
        let s := s.cnt Reg.mitreMirrorOpsCount 1
        m.final.elim s (fun f => s.replyFrom m.op m.q f.1 (s.sideFlag m.q) f.2))

end Sys2Proof.Machine
end

