-- ==== Sys2Proof/Machine/FabSearch.lean ====
section
/-! DEFINITION. Fabric searches (R257 to R263, R277): the launch in an owned slot, the root, the local searches, the merge, and the
result. -/

namespace Sys2Proof.Machine

/-! ## Slots and instants (R257 to R259) -/

/-- An entry of the slot table in force gives its slot to a node. -/
def slotOf (w : Word) (node : Nat) : Bool := bit w 16 && fld w 0 9 == node

/-- The slots that a node owns. -/
def State.ownedSlots (s : State) (node : Nat) : List Nat :=
  (List.range 64).filter (fun n => slotOf (smGet 0#32 s.fab.slots n) node)

/-- The next owned slot that has not been used: its number and its start in ns. -/
def State.nextOwned (s : State) : Option (Nat × Nat) :=
  let k := ceilDiv s.clk.dt (8 * dtUnit)
  let own := s.ownedSlots s.fab.node
  (List.range 65).findSome? (fun i =>
    let n := (k + i) % 64
    if own.contains n ∧ s.fab.lastLaunch ≠ some (8 * (k + i)) then some (n, 8 * (k + i)) else none)

/-- Time passes until `cclk` cycles of 0.8 ns after the launch of a fabric search. -/
def State.untilCycle (s : State) (r : FabRequest) (cclk : Nat) : State := s.untilNs (r.launched + ceilDiv (cclk * 4) 5)

/-- j of Table 8.3. -/
def State.fabJ (s : State) : Nat := s.fab.depth - 1

/-! ## Replies (R262, R263) -/

/-- Nothing contributed yet. -/
def fabReply0 : FabReply where
  hits := []
  degraded := false
  fallback := false
  incomplete := false
  absent := 0
  absentNodes := []
  noTable := 0
  positional := false
  refused := false

/-- The rank of a result: the lower, the higher it ranks (R262). -/
def FabHit.rank (positional : Bool) (h : FabHit) : Nat :=
  ((if positional then 0 else 65535 - h.pri) * 2 ^ 10 + h.addr) * 2 ^ 21 + h.index

/-- Merge two contributions: the highest result of a single-match search, and up to eight of a multi-match search.
DESIGN CHOICE: log entry 106. -/
def mergeFab (multi : Bool) (a b : FabReply) : FabReply :=
  let pos := a.positional || b.positional
  { hits := (sortBy (FabHit.rank pos) (a.hits ++ b.hits)).take (if multi then 8 else 1)
    degraded := a.degraded || b.degraded
    fallback := a.fallback || b.fallback
    incomplete := a.incomplete || b.incomplete
    absent := a.absent + b.absent
    absentNodes := (a.absentNodes ++ b.absentNodes).take 4
    noTable := a.noTable + b.noTable
    positional := pos
    refused := a.refused || b.refused }

/-! ## Jobs -/

/-- Remove a fabric search. -/
def State.dropJobF (s : State) (ident : Nat) : State :=
  { s with fab := { s.fab with jobs := s.fab.jobs.filter (fun x => x.req.ident != ident) } }

/-- The route table that a request sees: a request stamped before the last change expects nothing of a node that it admitted
(R266). -/
def State.routesFor (s : State) (r : FabRequest) : SMap LinkId :=
  if r.fe + 1 = s.fab.fe then s.fab.prevRoutes else s.fab.routes

/-- The nodes that the route table places below a link. -/
def State.nodesUnder (s : State) (r : FabRequest) (l : LinkId) : List Nat :=
  ((s.routesFor r).filter (fun x => x.2 == l)).map (·.1)

/-- The down links that have members. -/
def State.memberLinks (s : State) (r : FabRequest) : List LinkId :=
  [LinkId.d1, .d2, .d3].filter (fun l => !(s.nodesUnder r l).isEmpty)

/-- The child node on a down link. -/
def State.childOn (s : State) (r : FabRequest) (l : LinkId) : Nat :=
  let ns := s.nodesUnder r l
  (ns.find? (fun n => s.fab.members.any (fun m => m.addr / 2 == n && m.parent == s.fab.node))).getD (ns.headD 0)

/-- The merged reply of a whole plane goes to the initiator. -/
def State.toInitiator (s : State) (ident : Nat) (r : FabReply) : State :=
  match s.fabJob ident with
  | some j => if j.own.isSome then s.setJobF { j with result := some r } else s.dropJobF ident
  | none => s

/-- The link towards the device that launched a search, with its reply on it. -/
def State.sendDown (s : State) (ident : Nat) (r : FabReply) : State :=
  if ident % 1024 = s.ownAddr then s.toInitiator ident r else (s.sendTo (ident % 1024) (.fabReply ident r)).dropJobF ident

/-- A member whose contribution and whose children's are all in passes the merge up, and the root passes it to the initiator. -/
def State.fabSettle (s : State) (ident : Nat) : State :=
  match s.fabJob ident with
  | none => s
  | some j =>
    if j.open_ ∨ j.sent ∨ j.await ≠ [] then s
    else if s.fab.level = 0 then (s.setJobF { j with sent := true }).sendDown ident j.merged
    else
      let s := s.send .d0 (.fabReply ident j.merged)
      if j.own.isSome then s.setJobF { j with sent := true } else s.dropJobF ident

/-- This member's own contribution. -/
def State.contribute (s : State) (ident : Nat) (r : FabReply) : State :=
  match s.fabJob ident with
  | none => s
  | some j => (s.setJobF { j with open_ := false, granted := none, merged := mergeFab j.req.multi j.merged r }).fabSettle ident

/-! ## FABRIC_SEARCH (R277) -/

/-- The checks of FABRIC_SEARCH in the order of its statuses; 0 when they pass. -/
def State.fabCheck (s : State) (q : Request) : Nat :=
  let exact := q.b 0 20
  let width := q.f 0 8 2
  let multi := q.b 0 12
  let count := q.f 0 16 4
  if q.words.length ≠ 1 + kwOf width then St.badLength
  else if q.stray 0 0x1F13FF ∨ (exact ∧ (1 < width ∨ multi)) then 0x0160
  else if multi ∧ (count = 0 ∨ 8 < count) then 0x0112
  else if ¬ s.fab.joined then St.notInFabric
  else if s.syncLost then 0x0564
  else if (s.ownedSlots s.fab.node).isEmpty then 0x0565
  else 0

/-- FABRIC_SEARCH waits for an owned slot.
DESIGN CHOICE: log entry 105. -/
def State.fabricSearch (s : State) (q : Request) : State × CmdEnd :=
  if s.fabCheck q ≠ 0 then (s, fin (s.fabCheck q))
  else ({ s with fab := { s.fab with launches := s.fab.launches ++ [q] } }, .quiet)

/-- FABRIC_SEARCH. -/
def execFabricSearch (q : Request) (s : State) : Host.Outcome State Fault Refusal :=
  finish s (runCmd Op.fabricSearch q State.fabricSearch s)

/-- The request that a FABRIC_SEARCH launches. -/
def Request.fabRequest (q : Request) (initiator ident slot launched : Nat) : FabRequest :=
  let width := q.f 0 8 2
  let bits := 80 * 2 ^ width
  { initiator := initiator, ident := ident, slot := slot, launched := launched, fe := 0, table := q.f 0 0 8, exact := q.b 0 20
    width := width, multi := q.b 0 12, count := q.f 0 16 4
    key := BitVec.ofNat 640 (ofWords ((q.words.drop 1).take (kwOf width)) % 2 ^ bits) }

/-- Launch a FABRIC_SEARCH at the start of a slot. -/
def State.launch (s : State) (q : Request) (slot start : Nat) : State :=
  let s := (s.untilNs start).cnt Reg.fabricSearchCount 1
  let r := q.fabRequest s.ownAddr (s.ownAddr + 1024 * s.fab.nextIdent) slot start
  let s : State := { s with fab := { s.fab with nextIdent := s.fab.nextIdent + 1, lastLaunch := some start } }
  let s := s.setJobF { req := r, own := some q, granted := none, open_ := true, sent := false, merged := fabReply0, await := []
                       result := none }
  if s.fab.level = 0 then s else s.send .d0 (.request r)

/-- FABRIC_SEARCH_LAUNCH: the oldest waiting FABRIC_SEARCH in the next owned slot. -/
def execFabricSearchLaunch (s : State) : Host.Outcome State Fault Refusal :=
  finish s (whileFw s fun s =>
    match s.fab.launches with
    | [] => s
    | q :: rest =>
      let s : State := { s with fab := { s.fab with launches := rest } }
      if s.fabCheck q ≠ 0 then s.reply Op.fabricSearch q (s.fabCheck q) []
      else match s.nextOwned with
        | some (n, t) => s.launch q n t
        | none => s)

/-! ## The root (R258) -/

/-- FABRIC_REQUEST_AT_ROOT: a request climbs to the root, which takes it at its own time, or refuses it. -/
def execFabricRequestAtRoot (r : FabRequest) (s : State) : Host.Outcome State Fault Refusal :=
  finish s (whileUp s fun s =>
    let due := r.launched + 8 + 64 * s.fabJ
    let no (s : State) : State := s.sendDown r.ident { fabReply0 with refused := true }
    if ¬ s.fab.joined then s
    else if s.fab.level ≠ 0 then s.send .d0 (.request r)
    else if due * dtUnit < s.clk.dt then no (s.cnt Reg.fabricSlotLateCount 1)
    else if ¬ slotOf (smGet 0#32 s.fab.slots r.slot) (r.initiator / 2) then no (s.cnt Reg.fabricSlotCollisionCount 1)
    else
      let s := s.untilNs due
      let r := { r with fe := s.fab.fe }
      let old := s.fabJob r.ident
      let s := s.setJobF { req := r, own := old.bind (·.own), granted := none, open_ := true, sent := false, merged := fabReply0
                           await := s.memberLinks r, result := none }
      (s.memberLinks r).foldl (fun s l => if s.linkIsUp l then s.send l (.search r) else s) s)

/-! ## Members (R260, R261) -/

/-- The epoch that a member searches: where it has made its advance for FE + 1 already, the one before that advance. -/
def State.fabEpoch (s : State) (r : FabRequest) : BitVec 3 := if r.fe + 1 = s.fab.fe then s.fab.prevC else s.glue.c

/-- The boundary of FE = f that this member has not made yet comes at once (R261). -/
def State.catchUp (s : State) (r : FabRequest) : State := if s.fab.fe + 1 = r.fe then s.boundary else s

/-- The local search of an exact-match table. -/
def State.fabExact (s : State) (r : FabRequest) (d : ExactDesc) (e : BitVec 3) : State :=
  let s := s.lsIssue
  let x := s.exactSearch d r.key.toNat e true
  let s := s.noteFailing r.table e x.failing
  let hits := x.hit.toList.map (fun p => (⟨s.ownAddr, p, x.action, 0⟩ : FabHit))
  s.contribute r.ident { fabReply0 with hits := hits, degraded := x.hit.isNone && x.degraded, positional := true }

/-- The local search of a ternary table goes to the array arbiter in the urgent class. -/
def State.fabTernary (s : State) (r : FabRequest) (e : BitVec 3) : State :=
  let x : Search := {
    lane := 8, frame := 0, role := r.ident, profile := 0, epoch := e, table := r.table, exact := false, key := r.key
    width := r.width, urgent := true, phase := .waiting, issued := s.clk.age, at_ := s.clk.age, replica := 0, port := 0, waited := false, starved := false, blocks := [], picks := [], res := none }
  s.issueSearch x

/-- The local search of a request that has arrived.
DESIGN CHOICE: log entry 107. -/
def State.localSearch (s : State) (r : FabRequest) : State :=
  let e := s.fabEpoch r
  let none_ (s : State) : State := s.contribute r.ident { fabReply0 with noTable := 1 }
  if r.exact then
    match (s.exDesc r.table e).filter (fun d => d.width == r.width) with
    | some d => (s.cnt Reg.fabricLocalCount 1).fabExact r d e
    | none => none_ s
  else
    match (s.ternDesc r.table e).filter (fun d => d.width == r.width) with
    | some _ => (s.cnt Reg.fabricLocalCount 1).fabTernary r e
    | none => none_ s

/-- FABRIC_SEARCH_INSTANT: the request that the root has stamped arrives; it goes on down, and this member searches. -/
def execFabricSearchInstant (r : FabRequest) (s : State) : Host.Outcome State Fault Refusal :=
  finish s (whileUp s fun s =>
    if ¬ s.fab.joined then s
    else
      let s := s.untilNs (r.launched + 8 + 128 * s.fabJ)
      if s.fab.level = 0 then
        match s.fabJob r.ident with
        | some j => if j.open_ ∧ j.granted.isNone ∧ ¬ s.tern.searches.any (fun x => x.lane == 8 && x.frame == 0 && x.role == r.ident)
            then (s.catchUp j.req).localSearch j.req else s
        | none => s
      else
        let s := s.catchUp r
        let own := (s.fabJob r.ident).bind (·.own)
        let ls := s.memberLinks r
        let s := s.setJobF { req := r, own := own, granted := none, open_ := true, sent := false, merged := fabReply0, await := ls
                             result := none }
        let s := ls.foldl (fun s l => if s.linkIsUp l then s.send l (.search r) else s) s
        s.localSearch r)

/-- The result of a granted local search. -/
def State.fabResult (s : State) (x : Search) (res : SearchRes) : State :=
  let hits := res.hits.map (fun h => (⟨s.ownAddr, h.index, h.action, h.pri⟩ : FabHit))
  let pos := (s.ternDesc x.table x.epoch).any (fun d => d.resolution != 0)
  s.contribute x.role { fabReply0 with hits := hits, degraded := res.degraded, fallback := res.fallback, positional := pos }

/-- A local search that has not been granted by cycle 90 + 160j is late, and contributes nothing (R260). -/
def State.lateLocal (s : State) (x : Search) : State :=
  let s := s.cnt Reg.fabricLocalLateCount 1
  let s : State := { s with tern := { s.tern with searches := s.tern.searches.erase x } }
  s.contribute x.role { fabReply0 with incomplete := true, absent := 1 }

/-- Local searches whose grant deadline has passed are late. -/
def State.lateLocals (s : State) : State :=
  (s.tern.searches.filter (fun x => x.phase != .granted && s.fabLate x)).foldl State.lateLocal s

/-- FABRIC_GRANT_DEADLINE: the deadline of a local search passes. -/
def execFabricGrantDeadline (ident : Nat) (s : State) : Host.Outcome State Fault Refusal :=
  finish s (whileUp s fun s =>
    match s.fabJob ident, s.tern.searches.find? (fun x => x.lane == 8 && x.frame == 0 && x.role == ident && x.phase != .granted) with
    | some j, some x => (s.untilCycle j.req (90 + 160 * s.fabJ)).lateLocal x
    | _, _ => s)

/-! ## Replies and the result -/

/-- FABRIC_REPLY: a child's reply is merged; one that comes down goes on to the initiator. A late one is discarded (R263). -/
def execFabricReply (link : LinkId) (ident : Nat) (r : FabReply) (s : State) : Host.Outcome State Fault Refusal :=
  finish s (whileUp s fun s =>
    if s.deafOn link then s
    else if link = .d0 then s.sendDown ident r
    else match s.fabJob ident with
      | none => s
      | some j =>
        if ¬ j.await.contains link then s
        else (s.setJobF { j with await := j.await.filter (· != link), merged := mergeFab j.req.multi j.merged r }).fabSettle ident)

/-- FABRIC_CHILD_TIMEOUT: no reply 80 CCLK after the child's reply cycle; every node below the link is absent. -/
def execFabricChildTimeout (ident : Nat) (link : LinkId) (s : State) : Host.Outcome State Fault Refusal :=
  finish s (whileUp s fun s =>
    match s.fabJob ident with
    | none => s
    | some j =>
      if ¬ j.await.contains link then s
      else
        let s := s.untilCycle j.req (120 + 160 * s.fabJ + 90 * (s.fabJ - s.fab.level))
        let gone : FabReply := { fabReply0 with
          incomplete := true, absent := (s.nodesUnder j.req link).length, absentNodes := [s.childOn j.req link] }
        (s.setJobF { j with await := j.await.filter (· != link), merged := mergeFab j.req.multi j.merged gone }).fabSettle ident)

/-- Two places of the list of absent nodes. -/
def absentWord (ns : List Nat) (i : Nat) : Word :=
  let place (n : Nat) : Nat := ((ns[n]?).map (fun x => x % 512 + 2 ^ 15)).getD 0
  w32 (place i + place (i + 1) * 2 ^ 16)

/-- A result of the reply (R277). -/
def FabHit.words (h : FabHit) : List Word := [w32 h.addr, w32 h.index, w32 h.action, w32 h.pri]

/-- The reply of FABRIC_SEARCH. -/
def State.fabReplyWords (s : State) (j : FabJob) (r : FabReply) : List Word :=
  let hits := r.hits.take (if j.req.multi then j.req.count else 1)
  [w32 (hits.length + b2n r.degraded * 16 + b2n r.fallback * 32 + b2n r.incomplete * 64 + s.fab.side * 128 +
      r.absent % 1024 * 2 ^ 8 + r.noTable % 1024 * 2 ^ 18), j.req.fe, absentWord r.absentNodes 0, absentWord r.absentNodes 2] ++
    hits.flatMap FabHit.words

/-- An incomplete result is counted and reported under R108. -/
def State.noteIncomplete (s : State) (j : FabJob) (r : FabReply) : State :=
  if ¬ r.incomplete then s
  else
    let n := r.absentNodes.headD 0
    (s.cnt Reg.fabricIncompleteCount 1).eventSup 0x13 0x03 0 (w32 (r.absent % 1024 + n * 2 ^ 16)) j.req.fe [n]
      Reg.arrayEventSuppressCount

/-- FABRIC_RESULT: at T_F the result is available and the reply goes out. Where none has come back, how many nodes are absent
is open. -/
def execFabricResult (ident : Nat) (s : State) : Host.Outcome State Fault Refusal :=
  finish s (whileUp s fun s =>
    match s.fabJob ident with
    | none => s
    | some j =>
      match j.own with
      | none => s
      | some q =>
        let s := s.untilCycle j.req (fabTime s.fab.depth)
        let (r, s) : FabReply × State := match j.result with
          | some r => (r, s)
          | none => let (n, s) := s.freeN 1024; ({ fabReply0 with incomplete := true, absent := n }, s)
        let s := s.dropJobF ident
        if r.refused then s.reply Op.fabricSearch q 0x0566 []
        else (s.noteIncomplete j r).reply Op.fabricSearch q St.ok (s.fabReplyWords j r))

end Sys2Proof.Machine
end

