-- ==== Sys2Proof/Machine/Arbiter.lean ====
section
/-! DEFINITION. The array arbiter (R79 to R83, R89, R97 to R99, R416 to R422): pre-emption, hints and the grant and result commands; and the
refills, broken locks and starvation of all arbiters (R417, R420, R423). -/

namespace Sys2Proof.Machine

/-! ## Granting -/

/-- The ordinary or urgent grants that hold a port letter on some blocks now. -/
def State.holders (s : State) (blocks : List Nat) (l : Nat) : List Search :=
  s.tern.searches.filter (fun y => !y.exact && y.phase == .granted && y.port == l && y.blocks.any blocks.contains &&
    decide (s.clk.age < y.at_ + s.lengthOf y))

/-- An array port of one of the blocks is locked (R420). -/
def State.blockLocked (s : State) (blocks : List Nat) (l : Nat) : Bool :=
  s.arb.locks.any (fun k => decide (k.resource < 4096) && k.resource % 2 == l && blocks.contains (k.resource / 2) &&
    decide (s.clk.age < k.ends))

/-- A search is stopped (R421): it waits again, with its credit refunded, and its port is free. -/
def State.stopSearch (s : State) (y : Search) : State :=
  let s := s.setCredit 0 y.lane (min 255 (s.credit 0 y.lane + s.lengthOf y))
  let s := (s.occupy y.blocks y.port s.clk.age).cnt Reg.arbPreemptCount 1
  s.setSearch y { y with phase := .waiting, port := 0, blocks := [], picks := [], res := none }

/-- An urgent search without a free port takes port A, or else port B, from ordinary searches (R421).
DESIGN CHOICE: log entry 155. -/
def State.preempt (s : State) (x : Search) (b : Bid) : State :=
  let open_ (l : Nat) : Bool := !s.blockLocked b.blocks l && (s.holders b.blocks l).all (fun y => !y.urgent)
  if s.govOn ∧ 0 < b.blocks.length ∧ s.tern.govLevel < b.blocks.length * 1250 then s.governed x b
  else match [0, 1].find? open_ with
    | none => s
    | some l => ((s.holders b.blocks l).foldl State.stopSearch s).governed x { b with letter := l, free := s.clk.age }

/-- A search finds no free port: counted once (R81). -/
def State.notePortWait (s : State) (x : Search) : State :=
  if x.waited then s else (s.setSearch x { x with waited := true }).cnt Reg.arrayPortWaitCount 1

/-- A search is before the arbiter: its lane has issued it. -/
def State.mayBid (s : State) (x : Search) : Bool :=
  x.phase == .held || (s.laneOpen x && decide (s.laneFree x ≤ s.clk.age))

/-- The arbiter comes to one search of its list.
DEDUCED: log entry 34. -/
def State.decideSearch (s : State) (x : Search) : State :=
  if ¬ s.tern.searches.contains x ∨ ¬ s.mayBid x then s
  else match s.bid x with
    | none => s.setSearch x { x with phase := .granted, at_ := s.clk.age }
    | some b =>
      if b.free ≤ s.clk.age ∧ ¬ s.blockLocked b.blocks b.letter then s.governed x b
      else if x.urgent then s.preempt x b
      else s.notePortWait x

/-- The age clock at which the arbiter can next do something with a search. -/
def State.readyAt (s : State) (x : Search) : Option Nat :=
  let out := if x.phase = .held then s.clk.age else max s.clk.age (s.laneFree x)
  match s.bid x with
  | none => some out
  | some b =>
    let n := b.blocks.length * 1250
    let port := s.pastRewrite (if x.urgent then out else max out b.free)
    if neverFree ≤ port ∨ (x.phase ≠ .held ∧ ¬ s.laneOpen x) then none
    else if ¬ s.govOn ∨ n = 0 then some port
    else if x.phase = .held then
      if s.govMax < n then none else some (max port (s.clk.age + ceilDiv (n - s.tern.govLevel) s.govCap))
    else if s.govHolding ∧ n ≤ s.tern.govLevel then none
    else some port

/-- A search is waiting for a port (R106). -/
def State.portWaiting (s : State) : Bool :=
  s.tern.searches.any (fun x => !x.exact && x.phase == .waiting && s.mayBid x &&
    (s.bid x).any (fun b => decide (s.clk.age < b.free) || s.blockLocked b.blocks b.letter))

/-- The turn hints of the searches that still wait before the arbiter (R422). -/
def State.hints (s : State) : State :=
  ((s.ranked.filter s.mayBid).foldl (fun (a : State × Nat) x =>
    let free := (s.bid x).elim 0 (fun b => min 255 (b.free - s.clk.age))
    (a.1.wr (Reg.arbArrayHint x.lane) (w32 (min 255 (free + a.2))), a.2 + s.lengthOf x)) (s, 0)).1

/-- ARRAY_SEARCH_GRANT: the next cycle in which a waiting search can be granted, held or stopped for.
DESIGN CHOICE: log entry 154. -/
def execArraySearchGrant (s : State) : Host.Outcome State Fault Refusal :=
  finish s (whileUp s fun s =>
    match (s.ranked.filterMap s.readyAt).foldl (fun (m : Option Nat) t => some (m.elim t (min t))) none with
    | none => s.hints
    | some t =>
      let late (x : Search) : Bool := x.phase == .waiting && s.laneOpen x &&
        (s.bid x).any (fun b => let i := max s.clk.age (s.laneFree x); decide (i < t ∧ i < b.free))
      let s := if s.clk.age < t then (s.ranked.filter late).foldl State.notePortWait s else s
      let s := s.until t
      let s := s.lateLocals
      (s.ranked.foldl State.decideSearch s).hints)

/-- ARRAY_SEARCH_RESULT (R89): the merged result reaches its lane 40 CCLK after the grant. -/
def execArraySearchResult (frame : Nat) (role : Nat) (s : State) : Host.Outcome State Fault Refusal :=
  finish s (whileUp s fun s =>
    match s.tern.searches.find? (fun x => x.frame == frame && x.role == role && !x.exact && x.phase == .granted) with
    | none => s
    | some x =>
      let res := x.res.getD (s.resultOf x)
      let s := ((s.until (x.at_ + 40)).endSearch x).noteResult x.table x.epoch x.lane res
      if x.lane = 8 then s.fabResult x res
      else s.answerRole frame role (!res.hits.isEmpty) ((res.hits.head?).elim 0 (·.action)))

/-! ## Refills (R417) -/

/-- A window register: values below 16 act as 16. -/
def windowOf (w : Word) : Nat := max 16 (fld w 0 16)

/-- The weight of a scratchpad master. -/
def State.scratchWeight (s : State) (m : Nat) : Nat := weightOf (s.rd (Reg.arbScratchReq m))

/-- Every credit of the array arbiter is set to its weight. -/
def State.refillArray (s : State) (t : Nat) : State :=
  let s := (List.range 9).foldl (fun s n => s.setCredit 0 n (weightOf (s.rd (Reg.arbArrayReq n)))) s
  { s with arb := { s.arb with arrayRefill := t } }

/-- Every credit of the scratchpad arbiters is set to its weight. -/
def State.refillScratch (s : State) (t : Nat) : State :=
  let s := (List.range 32).foldl (fun s k => (List.range 7).foldl (fun s m => s.setCredit (k + 1) m (s.scratchWeight m)) s) s
  { s with arb := { s.arb with scratchRefill := t } }

/-- ARB_WINDOW_REFILL: the next window boundary, of the array arbiter or of the scratchpad arbiters (1 MCLK is 25/16 CCLK).
DESIGN CHOICE: log entry 156. -/
def execArbWindowRefill (s : State) : Host.Outcome State Fault Refusal :=
  finish s (whileUp s fun s =>
    let a := s.arb.arrayRefill + windowOf (s.rd Reg.arbArrayWindow)
    let b := s.arb.scratchRefill + ceilDiv (windowOf (s.rd Reg.arbScratchWindow) * 25) 16
    let s := s.until (min a b)
    let s := if a ≤ b then s.refillArray (max a s.clk.age) else s
    if b ≤ a then s.refillScratch (max b s.clk.age) else s)

/-- A write of WEIGHT changes the credit by the difference, holding at 0 (R417). -/
def State.reweigh (s : State) (arbiter n old new : Nat) : State :=
  s.setCredit arbiter n (min 255 (s.credit arbiter n + new - old))

/-! ## Locks and starvation (R420, R423) -/

/-- ARB_LOCK_BROKEN: the lock of a bank port outlasts the lock timeout, and breaks then. A lock of fewer cycles ends by itself, and those of
the array break in `State.takePort`. -/
def execArbLockBroken (resource : Nat) (s : State) : Host.Outcome State Fault Refusal :=
  finish s (whileUp s fun s =>
    match s.arb.locks.find? (fun k => k.resource == resource && decide (4096 ≤ k.resource ∧ s.lockTimeout 8 < k.left + k.held)) with
    | none => s
    | some k => (s.until (s.clk.age + ceilDiv ((s.lockTimeout 8 - k.held) * 25) 16)).breakLock k)

/-- A crossing of the starvation bound is reported. -/
def State.noteStarved (s : State) (arbiter n key : Nat) : State :=
  let s : State := { s with arb := { s.arb with starvedAt := smSet 0 s.arb.starvedAt key (s.clk.age + 1) } }
  (s.cnt Reg.arbStarveCount 1).eventSup 0x08 0x01 0 (w32 arbiter) (w32 n) [n] Reg.arbEventSuppressCount

/-- The starvation bound of the array, in CCLK. -/
def State.arrayBound (s : State) : Nat := max 1 (s.rf Reg.arbArrayStarve 0 16)

/-- The starvation bound of the scratchpad, in MCLK. -/
def State.scratchBound (s : State) : Nat := max 1 (s.rf Reg.arbScratchStarve 0 16)

/-- ARB_STARVED: a waiting request of the requester crosses the bound. -/
def execArbStarved (master : Nat) (scratch : Bool) (s : State) : Host.Outcome State Fault Refusal :=
  finish s (whileUp s fun s =>
    if scratch then
      match s.scr.waits.find? (fun w => w.req.master.val == master && !w.starved) with
      | none => s
      | some w =>
        let s := s.advance (ceilDiv ((s.scratchBound + 1 - w.waited) * 25) 16)
        let n := max w.waited (s.scratchBound + 1)
        let s : State := { s with scr := { s.scr with
          waits := mapFirst (· == w) (fun w => { w with starved := true, waited := n }) s.scr.waits } }
        s.noteStarved (1 + 2 * (w.req.offset.toNat / 8 % 16) + b2n (master == 4 || master == 5)) master (16 + master)
    else
      match s.tern.searches.find? (fun x => x.lane == master && !x.exact && x.phase != .granted && !x.starved) with
      | none => s
      | some x =>
        let s := s.until (x.issued + s.arrayBound + 1)
        (s.setSearch x { x with starved := true }).noteStarved 0 master master)

/-- STARVED_BIT_CLEAR: 1 ms after the last cycle in which a request of the requester exceeded the bound. -/
def execStarvedBitClear (master : Nat) (scratch : Bool) (s : State) : Host.Outcome State Fault Refusal :=
  finish s (whileUp s fun s =>
    let key := if scratch then 16 + master else master
    let still := if scratch then s.scr.waits.any (fun w => w.req.master.val == master && w.starved)
      else s.tern.searches.any (fun x => x.lane == master && x.phase != .granted && x.starved)
    let t := smGet 0 s.arb.starvedAt key
    if t = 0 ∨ still then s
    else
      let s := s.until (t - 1 + msC)
      { s with arb := { s.arb with starvedAt := smSet 0 s.arb.starvedAt key 0 } })

end Sys2Proof.Machine
end

