-- ==== Sys2Proof/Machine/Scratch.lean ====
section
/-! DEFINITION. The scratchpad (R399 to R408): its words and their parity, two accesses to one word, its port arbiters with locks and
gleaner windows (R414 to R420), and the host access path. -/

namespace Sys2Proof.Machine

/-! ## Words and bytes (R399, R402) -/

/-- The canonical form of the scratchpad's memory: offsets rise, and no listed byte is zero, what an unlisted one reads as. -/
def Memory.wf (m : SMap Byte) : Bool := smWf (fun _ => 0#8) m

/-- A byte of the scratchpad; every byte that is not listed is zero (R403). -/
def State.scrByte (s : State) (o : Nat) : Byte := smGet 0#8 s.scr.mem o

/-- The 64-bit word at a word-aligned offset. -/
def State.scrWord (s : State) (o : Nat) : DWord := BitVec.ofNat 64 (ofBytesLE ((List.range 8).map (fun i => s.scrByte (o + i))))

/-- The bytes of a word whose parity fails, one bit per byte. -/
def State.badBytes (s : State) (o : Nat) : Nat := bitmap ((List.range 8).filter (fun i => smGet false s.scr.bad (o + i)))

/-- Write a byte, with its parity computed afresh. -/
def State.putByte (s : State) (o : Nat) (v : Byte) : State :=
  { s with scr := { s.scr with mem := smSet 0#8 s.scr.mem o v, bad := smSet false s.scr.bad o false } }

/-- Write the bytes of a word that `be` enables. -/
def State.putWord (s : State) (o : Nat) (v : DWord) (be : Nat) : State :=
  (List.range 8).foldl (fun s i => if nfld be i 1 = 1 then s.putByte (o + i) (BitVec.ofNat 8 (v.toNat / 256 ^ i)) else s) s

/-! ## Accesses (R400, R401, R406) -/

/-- The offset of the word that an access names. -/
def ScratchReq.word (q : ScratchReq) : Nat := q.offset.toNat / 8 * 8

/-- The bank of an access. -/
def ScratchReq.bank (q : ScratchReq) : Nat := q.offset.toNat / 8 % 16

/-- The port letter of the master: 0 for A, 1 for B (Table 12.1). -/
def ScratchReq.letter (q : ScratchReq) : Nat := if q.master = 4 ∨ q.master = 5 then 1 else 0

/-- The access is kept out of the secure region (R401). -/
def ScratchReq.barred (q : ScratchReq) : Bool :=
  decide (0x380000 ≤ q.offset.toNat) && !(q.master == 6 || (q.master == 0 && q.secure))

/-- An ADD or SWAP. -/
def ScratchReq.atomic (q : ScratchReq) : Bool := q.op == .add || q.op == .swap

/-- The access changes its word. -/
def ScratchReq.changes (q : ScratchReq) : Bool := q.op != .read && !q.barred

/-- What an access returns: the data, the failing bytes, and whether the secure region barred it. -/
structure ScratchRes where
  data : DWord
  bad : Nat
  secure : Bool
deriving DecidableEq, Repr

/-- A read that fails parity is counted and reported under R108 (R402).
DESIGN CHOICE: log entry 159. -/
def State.noteParity (s : State) (q : ScratchReq) : State :=
  let b := s.badBytes q.word
  if b = 0 then s
  else (s.cnt Reg.scratchParityCount 1).eventSup 0x07 0x01 0 (w32 q.word) (w32 (q.master.val + b * 2 ^ 8)) [q.word]
    Reg.scratchEventSuppressCount

/-- A read of a word, with its report. -/
def State.scrRead (s : State) (q : ScratchReq) : State × ScratchRes :=
  if q.barred then (s, ⟨0, 0, true⟩) else (s.noteParity q, ⟨s.scrWord q.word, s.badBytes q.word, false⟩)

/-- One access. -/
def State.scrAccess (s : State) (q : ScratchReq) : State × ScratchRes :=
  let o := q.word
  let s := if q.atomic then s.cnt Reg.scratchAtomicCount 1 else s
  match q.op with
  | .read => s.scrRead q
  | .write => if q.barred then (s, ⟨0, 0, true⟩) else (s.putWord o q.data q.be.toNat, ⟨0, 0, false⟩)
  | .add => let (t, r) := s.scrRead q; (if q.barred then t else t.putWord o (r.data + q.data) 0xFF, r)
  | .swap => let (t, r) := s.scrRead q; (if q.barred then t else t.putWord o q.data 0xFF, r)

/-! ## Completions -/

/-- An access of master m counts in SCRATCH_CONFLICT_COUNT_m (R407). -/
def State.conflict (s : State) (q : ScratchReq) : State := s.cnt (Reg.scratchConflictCount q.master.val) 1

/-- An access is complete: M4's goes to the registers of the host path (R408). -/
def State.scrDone (s : State) (q : ScratchReq) (r : ScratchRes) (lost refused : Bool) : State :=
  let d : ScratchDone := { req := q, data := r.data, lost := lost, secure := r.secure, badBytes := BitVec.ofNat 8 r.bad, refused := refused }
  let s : State := { s with scr := { s.scr with done := s.scr.done ++ [d] } }
  if q.master ≠ 4 then s
  else
    let s := s.wr Reg.scratchHostResult (merge (s.rd Reg.scratchHostResult) (w32 (b2n lost + b2n r.secure * 2 + r.bad * 2 ^ 8)) 0xFF03)
    if q.op = .write then s else s.wr64 Reg.scratchHostRdataLo r.data.toNat

/-- An access that its port has granted takes effect. -/
def State.scrLand (s : State) (q : ScratchReq) : State := let (t, r) := s.scrAccess q; t.scrDone q r false false

/-- An access of port B that is discarded: it returns the word as it stands after A's (R405). -/
def State.scrLose (s : State) (w : ScratchWait) : State :=
  let q := w.req
  let (t, r) := if q.atomic then (s.cnt Reg.scratchAtomicCount 1).scrRead q else (s, ⟨0, 0, q.barred⟩)
  let t := if w.waited = 0 then t.conflict q else t
  (t.cnt Reg.scratchWriteLostCount 1).scrDone q r true false

/-- The two grants of a bank in one MCLK take effect (Table 12.2). -/
def State.scrPair (s : State) (a b : ScratchWait) : State :=
  let x := a.req
  let y := b.req
  if x.word ≠ y.word then (s.scrLand x).scrLand y
  else if x.changes ∧ y.changes ∧ ¬ (x.atomic ∧ y.atomic) then (s.scrLand x).scrLose b
  else if ¬ x.changes ∧ y.changes then (s.scrLand y).scrLand x
  else (s.scrLand x).scrLand y

/-! ## The port arbiters (R414, R416, R420, R422) -/

/-- The lock resource of a bank port. -/
def portLock (bank letter : Nat) : Nat := 4096 + 2 * bank + letter

/-- The lock that stands on a bank port. -/
def State.lockOn (s : State) (bank letter : Nat) : Option ArbLock := s.arb.locks.find? (fun k => k.resource == portLock bank letter)

/-- The master owns the lock of the port that the access uses. -/
def State.ownsLock (s : State) (q : ScratchReq) : Bool := (s.lockOn q.bank q.letter).any (fun k => k.owner == q.master.val)

/-- An urgent access (Table 12.1, R414). -/
def State.isUrgent (s : State) (q : ScratchReq) : Bool :=
  q.master == 6 || (q.master != 5 && q.urgent) || s.ownsLock q

/-- The access touches a word of the window in progress. -/
def State.inWindow (s : State) (q : ScratchReq) : Bool :=
  s.glean.window.any (fun w => w.bank == q.bank && w.index == q.offset.toNat / 2 ^ 15)

/-- A gleaner window keeps the access back (R414). -/
def State.windowBlocks (s : State) (q : ScratchReq) : Bool :=
  s.inWindow q || (q.letter == 1 && !s.isUrgent q && s.glean.window.any (fun w => w.bank == q.bank))

/-- The lock of another requester, or the want of one lock at a time, keeps the access back (R420). -/
def State.lockBlocks (s : State) (q : ScratchReq) : Bool :=
  (s.lockOn q.bank q.letter).any (fun k => k.owner != q.master.val) ||
    (decide (1 ≤ q.lock ∧ q.lock ≤ 64) &&
      ((s.lockOn q.bank q.letter).isSome || s.arb.locks.any (fun k => decide (4096 ≤ k.resource) && k.owner == q.master.val)))

/-- The waiting accesses of a bank port. -/
def State.portWaits (s : State) (bank letter : Nat) : List ScratchWait :=
  s.scr.waits.filter (fun w => w.req.bank == bank && w.req.letter == letter)

/-- The number of a scratchpad arbiter. -/
def scrArbiter (bank letter : Nat) : Nat := 1 + 2 * bank + letter

/-- The clear of the scratchpad at a start is running (R403). -/
def State.clearing (s : State) : Bool := decide (s.clk.age < s.scr.clearEnd)

/-- The access that the arbiter of a port grants: the first of its ranked list (R416); none while the clear uses both ports of every bank
(R403). -/
def State.pickAccess (s : State) (bank letter : Nat) : Option ScratchWait :=
  let ws := (s.portWaits bank letter).filter (fun w => !s.windowBlocks w.req && !s.lockBlocks w.req && !s.clearing)
  (sortBy (fun w : ScratchWait =>
    s.rankReq (scrArbiter bank letter) 7 w.req.master.val (prioOf (s.rd (Reg.arbScratchReq w.req.master.val))) (s.isUrgent w.req)) ws).head?

/-- Take an access out of its arbiter as granted: its credit is charged, and a lock that it asks for or ends is set or
released. -/
def State.grantAccess (s : State) (w : ScratchWait) : State :=
  let q := w.req
  let s : State := { s with scr := { s.scr with waits := s.scr.waits.erase w } }
  let s := s.chargeReq (scrArbiter q.bank q.letter) q.master.val 1
  let s : State := if w.starved then
      { s with arb := { s.arb with starvedAt := smSet 0 s.arb.starvedAt (16 + q.master.val) (s.clk.age + 1) } } else s
  if 1 ≤ q.lock ∧ q.lock ≤ 64 then
    let k : ArbLock := { resource := portLock q.bank q.letter, owner := q.master.val, left := q.lock, held := 0, ends := 0 }
    ({ s with arb := { s.arb with locks := s.arb.locks ++ [k] } }).cnt Reg.arbLockCount 1
  else if q.lock = 66 then
    { s with arb := { s.arb with locks := s.arb.locks.filter (fun k => k.resource != portLock q.bank q.letter) } }
  else s

/-- An MCLK passes for the locks of a bank: a lock ends when its cycles have passed, and breaks at the lock timeout. -/
def State.ageLocks (s : State) (bank : Nat) : State :=
  let mine (k : ArbLock) : Bool := k.resource / 2 == 2048 + bank
  let ks := s.arb.locks.map (fun k => if mine k then { k with left := k.left - 1, held := k.held + 1 } else k)
  let ks := ks.filter (fun k => !(mine k && k.left == 0))
  (ks.filter (fun k => mine k && decide (s.lockTimeout 8 ≤ k.held))).foldl State.breakLock { s with arb := { s.arb with locks := ks } }

/-- An access waits for one more MCLK: its first one counts as a conflict, and a stall on a window counts once (R407, R414). -/
def State.waitMore (s : State) (w : ScratchWait) : State :=
  let q := w.req
  let stalls := s.windowBlocks q && !s.isUrgent q && !w.stalled
  let s := if w.waited = 0 then s.conflict q else s
  let s := if stalls then s.cnt Reg.gleanerWinStallCount 1 else s
  let w' : ScratchWait := { w with waited := w.waited + 1, stalled := w.stalled || stalls }
  { s with scr := { s.scr with waits := mapFirst (· == w) (fun _ => w') s.scr.waits } }

/-- The turn hint of the host path, while it waits (R422). -/
def State.hostHint (s : State) (bank : Nat) : State :=
  let ws := s.portWaits bank 1
  match ws.find? (fun w => w.req.master == 4) with
  | none => s
  | some w =>
    let rank (w : ScratchWait) : Nat :=
      s.rankReq (scrArbiter bank 1) 7 w.req.master.val (prioOf (s.rd (Reg.arbScratchReq w.req.master.val))) (s.isUrgent w.req)
    let lock := ((s.lockOn bank 1).map (·.left)).getD 0
    let hint := min 255 (lock + (ws.filter (fun x => decide (rank x < rank w))).length)
    s.wr Reg.scratchHostResult (merge (s.rd Reg.scratchHostResult) (w32 (hint * 2 ^ 16)) 0xFF0000)

/-- Later accesses of a sequence whose lock is gone are refused (R420). -/
def State.refuseBroken (s : State) (bank : Nat) : State :=
  let gone (w : ScratchWait) : Bool := w.req.bank == bank && decide (65 ≤ w.req.lock) && !s.ownsLock w.req
  let ws := s.scr.waits.filter gone
  let s : State := { s with scr := { s.scr with waits := s.scr.waits.filter (fun w => !gone w) } }
  ws.foldl (fun s w => s.scrDone w.req ⟨0, 0, false⟩ false true) s

/-- One MCLK of the two arbiters of a bank. -/
def State.bankCycle (s : State) (bank : Nat) : State :=
  let s := s.refuseBroken bank
  let a := s.pickAccess bank 0
  let b := s.pickAccess bank 1
  let s := b.elim (a.elim s s.grantAccess) (a.elim s s.grantAccess).grantAccess
  let s := s.ageLocks bank
  let s := (s.portWaits bank 0 ++ s.portWaits bank 1).foldl State.waitMore s
  let s := s.hostHint bank
  match a, b with
  | some a, some b => s.scrPair a b
  | some a, none => s.scrLand a.req
  | none, some b => s.scrLand b.req
  | none, none => s

/-- Accesses arrive at their arbiters. -/
def State.scrArrive (s : State) (qs : List ScratchReq) : State :=
  { s with scr := { s.scr with waits := s.scr.waits ++ qs.map (fun q => ⟨q, 0, false, false⟩) } }

/-! ## The host access path (R6, R408) -/

/-- A core has read a word that fails parity: a command that runs ends with INTERNAL_FAULT and without effect, and a glue-up of the host
that it names aborts with reason FIRMWARE (R402, Table 5.6). Which of the running commands the core works for is a free value. -/
def State.coreFault (s : State) : State :=
  let run := s.cmdq.cmds.filter (fun c => c.phase == .running)
  let (n, s) := s.freeN (max 1 run.length)
  match run[n]? with
  | none => s
  | some c => ((glueNames c.op c.q.words).foldl State.firmwareAbort s).reply c.op c.q St.internalFault []

/-- A security engine has read a word that fails parity: the session whose record it holds is unusable until that is written again. A free
value says which, if any, it is (R402). -/
def State.engineFault (s : State) : State :=
  let (n, s) := s.freeN (s.sec.sessions.length + 1)
  match s.sec.sessions[n]? with
  | none => s
  | some x => s.setSession x.1 (x.2.map (fun y => { y with unusable := true }))

/-- What reads that have failed parity do to cores and security engines, for the completions after the first `n`; the scratchpad stands. -/
def State.readerFaults (s : State) (n : Nat) : State :=
  let bad := (s.scr.done.drop n).filter (fun d => d.badBytes != 0)
  { bad.foldl (fun s d => if d.req.master.val < 4 then s.coreFault else if d.req.master = 6 then s.engineFault else s) s with scr := s.scr }

/-- The request that the registers of the host path spell now. -/
def State.latchHost (s : State) : ScratchReq :=
  let v := s.rd Reg.scratchHostCmd
  { master := 4, op := (match fld v 0 2 with | 0 => .read | 1 => .write | 2 => .add | _ => .swap)
    offset := BitVec.ofNat 22 (s.rf Reg.scratchHostAddr 3 19 * 8), be := BitVec.ofNat 8 (fld v 8 8)
    data := BitVec.ofNat 64 (s.rd64 Reg.scratchHostWdataLo), urgent := bit v 4, secure := false, lock := 0 }

/-- The host path has a request in an arbiter. -/
def State.hostBusy (s : State) : Bool := s.scr.waits.any (fun w => w.req.master == 4)

/-- A request of the host path that waits starts, with the registers of this cycle, once none is running; its bank's arbiters
decide in this cycle. -/
def State.hostStart (s : State) : State :=
  if s.hostBusy ∨ ¬ s.scr.hostNext then s
  else
    let q := s.latchHost
    ((({ s with scr := { s.scr with hostNext := false } }).scrArrive [q]).bankCycle q.bank).readerFaults s.scr.done.length

/-- SCRATCH_HOST_CMD is written; GO requests an access. -/
def State.hostGo (s : State) (v : Word) : State :=
  let s := s.wr Reg.scratchHostCmd (merge 0 v 0xFF13)
  if bit v 31 then ({ s with scr := { s.scr with hostNext := true } }).hostStart else s

/-- SCRATCH_HOST_CMD written with GO and the OP given. -/
def State.hostRow (s : State) (op : Nat) (v : Word) : State := s.hostGo (merge v (w32 (2 ^ 31 + op)) 0x80000003)

/-- SCRATCH_HOST_READ. -/
def execScratchHostRead (v : Word) (s : State) : Host.Outcome State Fault Refusal := finishScr s (whileUp s (·.hostRow 0 v))

/-- SCRATCH_HOST_WRITE. -/
def execScratchHostWrite (v : Word) (s : State) : Host.Outcome State Fault Refusal := finishScr s (whileUp s (·.hostRow 1 v))

/-- SCRATCH_HOST_ADD. -/
def execScratchHostAdd (v : Word) (s : State) : Host.Outcome State Fault Refusal := finishScr s (whileUp s (·.hostRow 2 v))

/-- SCRATCH_HOST_SWAP. -/
def execScratchHostSwap (v : Word) (s : State) : Host.Outcome State Fault Refusal := finishScr s (whileUp s (·.hostRow 3 v))

/-- SCRATCH_ACCESS_GRANT: one MCLK of a bank, in which the accesses of `a` reach port A and those of `b` port B.
DESIGN CHOICE: log entry 157. -/
def execScratchAccessGrant (bank : Fin 16) (a b : List ScratchReq) (s : State) : Host.Outcome State Fault Refusal :=
  finishScr s (whileUp s fun s =>
    let here (l : Nat) (q : ScratchReq) : Bool := q.bank == bank.val && q.letter == l && q.master != 4
    (((s.scrArrive (a.filter (here 0) ++ b.filter (here 1))).bankCycle bank.val).readerFaults s.scr.done.length).hostStart)

end Sys2Proof.Machine
end

