-- ==== Sys2Proof/Machine/Gleaner.lean ====
section
/-! DEFINITION. The gleaner (R137 to R141, R210 to R212, R409 to R414): its walks, what it does with failures, repairs between
partners, and borrowed scratchpad windows. -/

namespace Sys2Proof.Machine

/-! ## Ternary failures (R137 to R141) -/

/-- Change the gleaner. -/
def State.setGlean (s : State) (g : GleanSt) : State := { s with glean := g }

/-- Queue a ternary failure behind the others. -/
def State.requeueTern (s : State) (f : GleanFail) : State := { s with tern := { s.tern with gleanQ := s.tern.gleanQ ++ [f] } }

/-- Two rows of a table belong to the copies of one entry. -/
def State.sameSlot (s : State) (t a b : Nat) : Bool :=
  match s.findSlot t a, s.findSlot t b with
  | some (_, p, _, n), some (_, p', _, n') => p == p' && n == n'
  | _, _ => false

/-- Act on a failing slot of a ternary table, once for all that is queued of it: a claimed one is counted and left until its glue-up has
ended. -/
def State.actTern (s : State) (f : GleanFail) : State :=
  match s.findSlot f.table f.row with
  | none => s
  | some (d, p, _, n) =>
    let same (g : GleanFail) : Bool := g.table == f.table && s.sameSlot f.table f.row g.row
    let f := { f with counted := f.counted || s.tern.gleanQ.any (fun g => same g && g.counted) }
    let s : State := { s with tern := { s.tern with gleanQ := s.tern.gleanQ.filter (fun g => !same g) } }
    if (List.range d.replicas).all (fun r => s.entryOk d (d.rowAt p r n)) then s
    else
      let claimed := s.slotClaimed f.table p n (s.placeAt d p n).tag
      let s := if f.counted then s else s.cnt Reg.gleanerTernErrCount 1
      if claimed then (if f.counted then s else s.cnt Reg.gleanerDeferCount 1).requeueTern { f with counted := true }
      else s.mendSlot f.table d p n

/-- The walk reads one row, and the result word of its slot with the first row: a failing free row is rewritten. -/
def State.readTern (s : State) (a : Nat) : State :=
  let t := (s.segment (a / 16384)).table
  match s.findSlot t a with
  | none => s
  | some (d, p, r, n) =>
    let base := d.rowAt p r n
    let bad := !(s.row a).ok || (a == base && !(s.word base).ok)
    if ¬ bad then s
    else if (s.row a).state = .free then
      let s := (s.setRows a [Row.sealed { s.row a with tag := 0 }]).cnt Reg.gleanerFreeFixCount 1
      if a = base then s.setWord base word0 else s
    else if s.tern.gleanQ.any (fun f => f.table == t && s.sameSlot t f.row base) then s
    else s.actTern ⟨t, base, false⟩

/-- The first row of an assigned segment from row `a` on. -/
def State.nextAssigned (s : State) (a : Nat) : Option Nat :=
  if (s.segment (a / 16384)).table ≠ 0 then some a
  else (firstBelow 128 (fun k => decide (a / 16384 < k) && (s.segment k).table != 0)).map (· * 16384)

/-- Time passes until a read of a walk is due, at `due` ps. -/
def State.paced (s : State) (due : Nat) : State := s.until (ceilDiv due 800)

/-- When the next read of a walk is due, in ps: one period of its rate after this one was, or after now where the walk has fallen behind
(R409). -/
def State.nextRead (s : State) (due rate : Nat) : Nat :=
  max due ((s.clk.age - 1) * 800) + 1000000 / max 1 (s.rf rate 0 11)

/-- GLEANER_TERN_READ: the read waits for a port cycle that no search takes (R82).
DESIGN CHOICE: log entry 160. -/
def execGleanerTernRead (s : State) : Host.Outcome State Fault Refusal :=
  finish s (whileUp s fun s =>
    if ¬ s.rb Reg.gleanerCtrl 0 then s
    else match (s.nextAssigned s.glean.ternNext).or (s.nextAssigned 0) with
      | none => s
      | some a =>
        let s := s.paced s.glean.ternAt
        let s := s.until (s.pastRewrite (max s.clk.age (min (s.portFreeAt [a / 1024] 0) (s.portFreeAt [a / 1024] 1))))
        let s := (s.setGlean { s.glean with ternAt := s.nextRead s.glean.ternAt Reg.gleanerTernRate }).readTern a
        match (if a + 1 < 2097152 then s.nextAssigned (a + 1) else none) with
        | some b => s.setGlean { s.glean with ternNext := b }
        | none => (s.setGlean { s.glean with ternNext := 0 }).cnt Reg.gleanerTernPassCount 1)

/-! ## Exact-match failures (R210 to R212) -/

/-- An event of the gleaner on an exact-match slot. -/
def State.exactEvent (s : State) (code t p b : Nat) : State := s.event 0x05 code 0 (w32 (p % 2 ^ 21 + t * 2 ^ 24)) (w32 b)

/-- Queue an exact-match failure behind the others. -/
def State.requeueExact (s : State) (f : GleanFail) : State := { s with exm := { s.exm with gleanQ := s.exm.gleanQ ++ [f] } }

/-- The tag-table word of a slot is set to VENEER with TAG 0 and DEATH = C; its parity bit changes by the bits that change (R74, R180). -/
def State.hideExact (s : State) (p : Nat) : State :=
  let x := s.slot p
  s.setSlot p (x.retag { x with state := .veneer, tag := 0, death := s.glue.c })

/-- Invalidate the slot or pair at `base` (R211), and ask the partner for the bucket's static entries (R212). -/
def State.dropExact (s : State) (t : Nat) (d : ExactDesc) (base : Nat) : State :=
  let bucket := if base < ovfBase then base / 4 else d.bucketOf (s.keyAt d.w base)
  let ps := (s.bothCopies t d base).flatMap (unit d.w)
  let s := ((ps.foldl State.hideExact s).dropQueued ps).exactGen t
  let s := (s.cnt Reg.gleanerInvalidateCount 1).exactEvent 0x02 t base 0
  if s.canAsk then s.askRepair true t bucket base else s

/-- Act on a failing exact-match slot. One that no epoch sees is written afresh with good parity.
DESIGN CHOICE: log entry 161. -/
def State.actExact (s : State) (f : GleanFail) : State :=
  let x := s.slot f.row
  if x.ok then s
  else
    let claimed := x.tag != 0 || s.exm.inserts.any (fun i => i.slots.contains f.row)
    let s := if f.counted then s else s.cnt Reg.gleanerExactErrCount 1
    if claimed then (if f.counted then s else s.cnt Reg.gleanerDeferCount 1).requeueExact { f with counted := true }
    else match s.ownerAt f.row with
      | none => s.setSlot f.row x.sealed
      | some (t, d) =>
        if x.state = .free ∨ x.state = .veneer then s.setSlot f.row x.sealed
        else s.dropExact t d (f.row - f.row % d.w)

/-- The positions of the store. -/
abbrev exactSlots : Nat := 1056768

/-- GLEANER_EXACT_READ. -/
def execGleanerExactRead (s : State) : Host.Outcome State Fault Refusal :=
  finish s (whileUp s fun s =>
    if ¬ s.rb Reg.gleanerCtrl 1 then s
    else
      let p := s.glean.exactNext
      let s := s.paced s.glean.exactAt
      let s := s.setGlean { s.glean with exactAt := s.nextRead s.glean.exactAt Reg.gleanerExactRate }
      let t := ((s.ownerAt p).map (·.1)).getD 0
      let s := if (s.slot p).ok ∨ s.exm.gleanQ.any (fun f => f.row == p) then s
        else (s.parityEvent t s.glue.c p).actExact ⟨t, p, false⟩
      if p + 1 < exactSlots then s.setGlean { s.glean with exactNext := p + 1 }
      else (s.setGlean { s.glean with exactNext := 0 }).cnt Reg.gleanerExactPassCount 1)

/-- GLEANER_FAILURE_ACTION: the oldest queued failure of a kind. -/
def execGleanerFailureAction (exact : Bool) (s : State) : Host.Outcome State Fault Refusal :=
  finish s (whileUp s fun s =>
    if exact then
      match s.exm.gleanQ with
      | [] => s
      | f :: q => State.actExact { s with exm := { s.exm with gleanQ := q } } f
    else
      match s.tern.gleanQ with
      | [] => s
      | f :: q => State.actTern { s with tern := { s.tern with gleanQ := q } } f)

/-! ## Repairs between partners (R140, R212) -/

/-- What this side sends for a slot of a ternary table. -/
def State.ternCopy (s : State) (t a : Nat) : RepairData :=
  match s.findSlot t a with
  | none => .failed
  | some (d, p, _, n) =>
    let ok (r : Nat) : Bool := s.entryOk d (d.rowAt p r n)
    let b := d.rowAt p (d.pickReplica ok) n
    let x := s.row b
    if ¬ (List.range d.replicas).any ok ∨ (x.state ≠ .live ∧ x.state ≠ .dying) then .failed
    else .ternary ((s.entryRows d b).map (fun r => (r.value, r.care, r.rangeEn, r.pri))) x.tag x.birth
      (if x.state = .dying then some x.death else none) (s.word b).index (s.word b).action

/-- What this side sends for a bucket: the static entries of the table that hash to it. -/
def State.bucketCopy (s : State) (t bucket : Nat) : RepairData :=
  match s.exNow t with
  | none => .failed
  | some d =>
    let ps := (s.exactEntries d).filter (fun p =>
      (s.slot p).state == .live && !(s.slot p).learned && (unit d.w p).all (fun q => (s.slot q).ok) && d.bucketOf (s.keyAt d.w p) == bucket)
    .exact (ps.map (fun p => (s.keyAt d.w p, (s.slot p).action)))

/-- GLEANER_REPAIR_REQUEST at the partner. -/
def execGleanerRepairRequest (exact : Bool) (table key : Nat) (s : State) : Host.Outcome State Fault Refusal :=
  finish s (whileUp s fun s =>
    if ¬ s.canAsk then s
    else s.send .mitre (.repairReply exact table key (if exact then s.bucketCopy table key else s.ternCopy table key)))

/-- Take back a request that has been answered or has timed out. -/
def State.endRepair (s : State) (r : Repair) : State := s.setGlean { s.glean with repairs := s.glean.repairs.erase r }

/-- The entry is invalidated after all, unless it is whole or claimed by now. -/
def State.giveUp (s : State) (t a : Nat) : State :=
  match s.findSlot t a with
  | none => s
  | some (d, p, _, n) =>
    if (List.range d.replicas).all (fun r => s.entryOk d (d.rowAt p r n)) then s
    else if s.slotClaimed t p n (s.placeAt d p n).tag then s.requeueTern ⟨t, a, true⟩
    else s.invalidate t d p n

/-- The partner's rows are written over every failed copy. -/
def State.takeRows (s : State) (t a : Nat) (rows : List (BitVec 80 × BitVec 80 × BitVec 2 × BitVec 16)) (tag : BitVec 8) (birth : BitVec 3)
    (dying : Option (BitVec 3)) (index : BitVec 21) (action : BitVec 20) : State :=
  match s.findSlot t a with
  | none => s
  | some (d, p, _, n) =>
    if s.slotClaimed t p n (s.placeAt d p n).tag then s.requeueTern ⟨t, a, true⟩
    else
      let new := rows.map (fun x => Row.sealed {
        value := x.1, care := x.2.1, rangeEn := x.2.2.1, tag := tag, birth := birth, death := dying.getD 0
        state := if dying.isSome then .dying else .live, pri := x.2.2.2, parity := 0 })
      let s := (List.range d.replicas).foldl (fun s r =>
        let b := d.rowAt p r n
        if s.entryOk d b then s else s.lsWrite b new (mkWord index.toNat action.toNat) true) s
      (s.cnt Reg.gleanerRepairCount 1).gleanEvent 0x02 t index.toNat 1

/-- EXACT_INSERT as the device asks it of itself. -/
def ownInsert (t : Nat) (d : ExactDesc) (key : Nat) (action : BitVec 20) : Request :=
  { stream := .own, tag := 0, flags := 0, target := 0, words := w32 t :: w32 action.toNat :: toWords (kwOf d.width) key }

/-- One entry of the partner's is inserted: in glue-up `f`, or, where it has to wait for a slot or for a claim, in a firmware glue-up of its
own. -/
def State.takeEntry (t : Nat) (d : ExactDesc) (f : Nat) (a : State × Nat × Nat) (e : Nat × BitVec 20) : State × Nat × Nat :=
  let (s, n, m) := a
  let q := ownInsert t d e.1 e.2
  if (s.liveAt d e.1).isSome then a
  else match insertAct q s f with
    | .done s k _ => (s.addOps f k, n + 1, m)
    | .refuse _ => a
    | _ =>
      match s.pickId 1 with
      | none => a
      | some g =>
        let o := s.openGlue g false 0 .maintenance
        match insertAct q o g with
        | .moving s => (s, n, m + 1)
        | .claimed h => ((o.claimFail g h).queueRetry g Op.exactInsert q s.clk.age, n, m + 1)
        | _ => a

/-- The entries of the partner's bucket that the local table lacks are inserted in a firmware glue-up. -/
def State.takeEntries (s : State) (t pos : Nat) (es : List (Nat × BitVec 20)) : State :=
  match s.exNow t, s.pickId 1 with
  | some d, some f =>
    let (s', n, m) := es.foldl (State.takeEntry t d f) (s.openGlue f false 0 .maintenance, 0, 0)
    let s' := if n = 0 then s'.freeGlue f else s'.clampLocal f
    if n + m = 0 then s else (s'.cnt Reg.gleanerRepairCount (n + m)).exactEvent 0x03 t pos (n + m)
  | _, _ => s

/-- GLEANER_REPAIR_REPLY. -/
def execGleanerRepairReply (exact : Bool) (table key : Nat) (d : RepairData) (s : State) : Host.Outcome State Fault Refusal :=
  finish s (whileUp s fun s =>
    match s.glean.repairs.find? (fun r => r.exact == exact && r.table == table && r.key == key) with
    | none => s
    | some r =>
      let s := s.endRepair r
      match exact, d with
      | true, .exact es => s.takeEntries table r.pos es
      | false, .ternary rows tag birth dying index action => s.takeRows table key rows tag birth dying index action
      | true, _ => s
      | false, _ => s.giveUp table key)

/-- GLEANER_REPAIR_TIMEOUT: no reply within 20 µs. -/
def execGleanerRepairTimeout (exact : Bool) (table key : Nat) (s : State) : Host.Outcome State Fault Refusal :=
  finish s (whileUp s fun s =>
    match s.glean.repairs.find? (fun r => r.exact == exact && r.table == table && r.key == key) with
    | none => s
    | some r =>
      let s := (s.until (r.since + 20 * usC)).endRepair r
      if exact then s else s.giveUp table key)

/-! ## The scrub (R409, R410) -/

/-- GLEANER_SCRUB_READ. -/
def execGleanerScrubRead (s : State) : Host.Outcome State Fault Refusal :=
  finish s (whileUp s fun s =>
    let o := 8 * s.glean.scrubNext
    if ¬ s.rb Reg.gleanerCtrl 2 ∨ s.glean.window.any (fun w => w.bank == s.glean.scrubNext % 16) then s
    else
      let s := s.paced s.glean.scrubAt
      let s := s.setGlean { s.glean with scrubAt := s.nextRead s.glean.scrubAt Reg.gleanerScrubRate }
      let b := s.badBytes o
      let s := if b = 0 then s
        else (s.cnt Reg.gleanerScrubErrCount 1).eventSup 0x17 0x03 0 (w32 o) (w32 (b * 2 ^ 8)) [o] Reg.gleanerEventSuppressCount
      if s.glean.scrubNext + 1 < 524288 then s.setGlean { s.glean with scrubNext := s.glean.scrubNext + 1 }
      else (s.setGlean { s.glean with scrubNext := 0 }).cnt Reg.gleanerScrubPassCount 1)

/-! ## Borrowed windows (R411 to R414) -/

/-- GLEANER_WIN_INTERVAL in CCLK: values below 100 µs act as 100. -/
def State.winInterval (s : State) : Nat := max 100 (s.rf Reg.gleanerWinInterval 0 16) * usC

/-- GLEANER_WINDOW_START: the next window of the order, once its bank is free of locks. -/
def execGleanerWindowStart (s : State) : Host.Outcome State Fault Refusal :=
  finish s (whileUp s fun s =>
    let bank := s.glean.nextWindow % 16
    if ¬ s.rb Reg.gleanerCtrl 3 ∨ s.glean.window.isSome ∨ (s.lockOn bank 0).isSome ∨ (s.lockOn bank 1).isSome then s
    else
      let s := s.until (s.glean.lastWindow + s.winInterval)
      s.setGlean { s.glean with
        window := some { bank := bank, index := s.glean.nextWindow / 16, since := s.clk.age }, lastWindow := s.clk.age })

/-- A fault of a window (R413): where in the window it stands is the cell's own.
DESIGN CHOICE: log entry 162. -/
def State.winFault (s : State) (w : Window) : State :=
  let (r, s) := s.freeN 16
  let (c, s) := s.freeN 1152
  let v := w32 (w.bank + (16 * w.index + r) * 2 ^ 4 + c * 2 ^ 16)
  let s := (s.setGlean { s.glean with fault := true }).wr Reg.gleanerFaultLast v
  (s.cnt Reg.gleanerWinFaultCount 1).event 0x17 0x04 0 v 0

/-- A byte of the window fails its comparison: it holds an open value with inverted parity (R413). -/
def State.winSpoil (s : State) (w : Window) : State :=
  let (i, s) := s.freeN 2048
  let (v, s) := s.freeN 256
  let o := w.bank * 8 + 128 * (256 * w.index + i / 8) + i % 8
  let s := s.putByte o (BitVec.ofNat 8 v)
  { s with scr := { s.scr with bad := smSet false s.scr.bad o true } }

/-- GLEANER_WINDOW_END, 688 MCLK after the start: `patternOk` and `restoreOk` say whether every read of the pattern tests and of the
final comparison was as expected. -/
def execGleanerWindowEnd (patternOk restoreOk : Bool) (s : State) : Host.Outcome State Fault Refusal :=
  finishScr s (whileUp s fun s =>
    match s.glean.window with
    | none => s
    | some w =>
      let s := s.until (w.since + 1075)
      let s := if patternOk then s else s.winFault w
      let s := if restoreOk then s else (s.winFault w).winSpoil w
      (s.setGlean { s.glean with window := none, nextWindow := (s.glean.nextWindow + 1) % 1792 }).cnt Reg.gleanerWinCount 1)

/-- `k` MCLK pass for the waits of a bank. -/
def State.bankWait (s : State) (bank k : Nat) : State :=
  let s := s.until (s.clk.age + ceilDiv (k * 25) 16)
  { s with scr := { s.scr with waits := s.scr.waits.map (fun w => if w.req.bank = bank then { w with waited := w.waited + k } else w) } }

/-- URGENT_WINDOW_ACCESS: an urgent access that waits for a word of the window aborts it: the gleaner stops within 8 MCLK, restores the rows in
the next 16, and the access is granted (R414). A free value says how many of the 8 it takes.
DESIGN CHOICE: log entry 222. -/
def execUrgentWindowAccess (s : State) : Host.Outcome State Fault Refusal :=
  finishScr s (whileUp s fun s =>
    match s.glean.window with
    | none => s
    | some w =>
      if s.scr.waits.any (fun x => s.inWindow x.req && s.isUrgent x.req) then
        let (k, s) := s.freeN 9
        (((s.bankWait w.bank (k + 16)).setGlean { s.glean with window := none }).cnt Reg.gleanerWinAbortCount 1).bankCycle w.bank
      else s)

/-- GLEANER_FAULT_CLEAR. -/
def execGleanerFaultClear (s : State) : Host.Outcome State Fault Refusal :=
  finish s (whileUp s fun s => (s.setGlean { s.glean with fault := false }).wr Reg.gleanerFaultLast 0)

end Sys2Proof.Machine
end

