-- ==== Sys2Proof/Machine/RegStat.lean ====
section
/-! DEFINITION. What registers read as (R4, R10, R447, R448): the STAT fields that follow a cause elsewhere in State, the HS bits,
the block summaries and the interrupt conditions. -/

namespace Sys2Proof.Machine

/-- The number of pages between a register's page and a block's first page: the instance of a repeated block. -/
def pageFrom (a base : Nat) : Nat := (a - base) / 0x1000

/-- The index of the instance at `a` in a row of registers that starts at `base`, `step` apart. -/
def idx (a base step : Nat) : Nat := (a - base) / step

/-- `a` is one of `n` registers that start at `base`, `step` apart. -/
def among (a base step n : Nat) : Bool := decide (base ≤ a) && decide (a < base + step * n) && (a - base) % step == 0

/-! ## STAT fields, block by block -/

/-- CMDQ (Table 2.10). -/
def State.statCmdq (s : State) (a : Nat) : Option Nat :=
  if a = Reg.cmdqStatus then
    some (b2n s.pwr.fwReady + b2n (!s.cmdq.inband.isEmpty) * 2 + s.runningCmds * 2 ^ 8 + b2n s.heathOnly * 2 ^ 16)
  else if among a (Reg.cmdqQStatus 0) 0x20 16 then
    let p := s.pair (idx a (Reg.cmdqQStatus 0) 0x20)
    some (p.sqHead + p.cqTail * 2 ^ 16 + b2n p.doorbellErr * 2 ^ 30 + b2n p.stopped * 2 ^ 31)
  else none

/-- ARRAY (Table 3.12). -/
def State.statArray (s : State) (a : Nat) : Option Nat :=
  if a = Reg.arrayStatus then some (b2n s.govHolding + b2n s.portWaiting * 2)
  else if a = Reg.arrayGovLevel then some (s.tern.govLevel / 1250)
  else none

/-- GLUE (Table 5.11). -/
def State.statGlue (s : State) (a : Nat) : Option Nat :=
  if a = Reg.glueEpochStatus then
    some (s.glue.c.toNat + s.oldest.toNat * 2 ^ 4 + s.inflightMask * 2 ^ 8 + b2n (!s.glue.retryQ.isEmpty) * 2 ^ 24 +
      b2n (epochs.all s.inflight) * 2 ^ 25)
  else if among a (Reg.glueInflight 0) 4 8 then
    some (min 0xFFFFFFFF (s.inflightCount (BitVec.ofNat 3 (idx a (Reg.glueInflight 0) 4))))
  else if among a (Reg.glueOpenMap 0) 4 8 then
    let k := idx a (Reg.glueOpenMap 0) 4
    some (bitmap ((List.range 32).filter (fun j => 32 * k + j != 0 && (s.glueUp (32 * k + j)).st != .free)))
  else none

/-- Overflow slots that are not FREE. -/
def State.ovfUsed (s : State) : Nat := (s.exm.slots.filter (fun x => decide (ovfBase ≤ x.1) && x.2.state != .free)).length

/-- EXACT (Table 6.9). -/
def State.statExact (s : State) (a : Nat) : Option Nat :=
  let learn := s.exm.learnQ.length
  let records := s.exm.filter.length
  if a = Reg.exactStatus then
    some (b2n (learn != 0) + b2n (records == 256) * 2 + b2n (decide (s.rf Reg.exactOvfThreshold 0 14 ≤ s.ovfUsed)) * 4 +
      b2n (learn == 4096) * 8 + b2n s.exm.rehash.isSome * 16)
  else if a = Reg.exactMowerClock then some s.exm.mower.clock.toNat
  else if a = Reg.exactOvfUsed then some s.ovfUsed
  else if a = Reg.exactLearnQueueLevel then some learn
  else if a = Reg.exactFilterUsed then some records
  else none

/-- Some directory set has all its 16 ways pinned (R238). -/
def State.dirPinFull (s : State) : Bool :=
  let pinned := (s.coh.dir.filter (fun x => x.2.pin != 0)).map (fun x => x.1 / 16)
  pinned.eraseDups.any (fun k => (pinned.filter (· == k)).length == 16)

/-- COHERE (Table 7.11). -/
def State.statCohere (s : State) (a : Nat) : Option Nat :=
  if a = Reg.cohereStatus then
    some (b2n (!s.coh.poison.isEmpty) + b2n (s.coh.failed != 0) * 2 + b2n s.dirPinFull * 4 + b2n s.coh.defaulted * 8 +
      b2n (!s.coh.seniors.isEmpty) * 16)
  else if a = Reg.cohereAgentFailed then some s.coh.failed.toNat
  else if a = Reg.cohereCowFree then some (s.coh.cowCount - (s.coh.cow.filter (·.2.used)).length)
  else if a = Reg.coherePoisonLines then some s.coh.poison.length
  else if a = Reg.coherePoisonLast then some s.coh.poisonLast.toNat
  else none

/-- FABRIC (Table 8.6). Outside a fabric only the link bits are not 0. -/
def State.statFabric (s : State) (a : Nat) : Option Nat :=
  let j := s.fab.joined
  if a = Reg.fabricStatus then
    some (b2n j + b2n (j && s.fab.level == 0) * 2 + b2n s.coordinator * 4 + b2n s.syncLost * 8 + b2n (s.linkIsUp .d0) * 16 +
      b2n (s.linkIsUp .d1) * 32 + b2n (s.linkIsUp .d2) * 64 + b2n (s.linkIsUp .d3) * 128 + b2n s.cutOff * 256)
  else if a = Reg.fabricId then
    some (if j then s.fab.node + s.fab.side * 2 ^ 9 + s.fab.level * 2 ^ 12 + s.fab.depth * 2 ^ 16 + b2n s.fab.twinned * 2 ^ 20
      else 0)
  else if a = Reg.fabricTime then some (if j then fabTime s.fab.depth else 0)
  else if a = Reg.fabricEpoch then some s.fab.fe.toNat
  else if a = Reg.fabricGlueBase then some (if j then s.fab.glueBase else 0)
  else if a = Reg.fabricOffset then some s.offsetWord.toNat
  else if a = Reg.fabricMembers then some (if s.coordinator then s.fab.members.length else 0)
  else if among a (Reg.fabricSlotAct 0) 4 64 then some (smGet 0#32 s.fab.slots (idx a (Reg.fabricSlotAct 0) 4)).toNat
  else none

/-- MITRE (Table 8.7). -/
def State.statMitre (s : State) (a : Nat) : Option Nat :=
  let t := s.twin
  if a = Reg.mitreStatus then
    some (b2n t.linkUp + b2n t.partnerSeen * 2 + b2n t.diverged * 4 + b2n t.actingLead * 8 + b2n t.resync.isSome * 16 +
      b2n (t.prepared.any (fun p => p.ready && p.commitAt.isNone)) * 32 + b2n t.roleClash * 64)
  else if a = Reg.mitreRole then some s.twinRole
  else none

/-- Cells of the buffer in use: those of every frame in the device once, and those of the PDUs and replies of the device itself.
DESIGN CHOICE: log entry 110. -/
def State.cellsUsed (s : State) : Nat :=
  let own := s.sw.copies.filter (fun c => c.frame == 0 || !s.sw.frames.any (fun f => f.num == c.frame))
  s.sw.frames.foldl (fun n f => n + f.cells) 0 + own.foldl (fun n c => n + c.cells) 0

/-- SWITCH (Table 9.9). -/
def State.statSwitch (s : State) (a : Nat) : Option Nat :=
  if a = Reg.switchStatus then
    some (b2n (decide (s.sharedSize < s.sharedUsed)) + b2n (s.sw.holders.any (·.2.overQ)) * 2)
  else if a = Reg.switchSharedSize then some s.sharedSize
  else if a = Reg.switchSharedUsed then some s.sharedUsed
  else if a = Reg.switchCellsFree then some (98304 - s.cellsUsed)
  else none

/-- USED and OVER_QUOTA of a holder. -/
def Holder.usedWord (h : Holder) : Nat := h.used + b2n h.overQ * 2 ^ 31

/-- ETHPORT of En, by the offset in the block (Table 9.10). The PCS reports link while the link is up and no loss is being
timed (R285).
DEDUCED: log entry 173. -/
def State.statEth (s : State) (n off : Nat) : Option Nat :=
  let p := s.ethPort n
  let pcs := p.linkUp && p.lossSince.isNone
  let ing := s.holder (ingHolder n)
  let qs := (List.range 8).map (fun q => s.holder (queueHolder n q))
  let q := (off - 0x20) / 16
  if off = 0x4 then
    some (b2n p.linkUp + b2n (pcs && decide (p.mode ≤ 3)) * 2 + b2n (pcs && p.mode == 2) * 4 +
      b2n (pcs && (p.mode == 5 || p.mode == 6)) * 8 + b2n ing.overQ * 16 + b2n (qs.any (·.overQ)) * 32)
  else if off = 0xC then
    some (p.mode + b2n p.lat * 2 ^ 4 + b2n p.trustPcp * 2 ^ 5 + p.defTc * 2 ^ 8 + p.maxFrame * 2 ^ 16)
  else if off = 0x10 then some ing.usedWord
  else if off = 0x14 then some ing.min
  else if off = 0x18 then some ing.quota
  else if among off 0x20 16 8 then some (s.holder (queueHolder n q)).usedWord
  else if among off 0x24 16 8 then some (s.holder (queueHolder n q)).min
  else if among off 0x28 16 8 then some (s.holder (queueHolder n q)).quota
  else none

/-- SLOWCH of Sn, by the offset in the block (Table 10.6). A CAN channel is error-passive when an error counter is above 127
(ISO 11898-1).
DESIGN CHOICE: log entry 137. -/
def State.statChan (s : State) (n off : Nat) : Option Nat :=
  let c := s.chan n
  let ing := s.holder (ingHolder (64 + n))
  let q := s.holder (queueHolder (64 + n) 0)
  if off = 0x4 then
    some (b2n c.active + b2n (!c.busOff && (decide (127 < c.tec) || decide (127 < c.rec_))) * 2 + b2n c.busOff * 4 +
      b2n ing.overQ * 8 + b2n q.overQ * 16 + b2n (s.desigOf n).isSome * 32)
  else if off = 0xC then some (c.mode + fld c.w0 12 2 * 8)
  else if off = 0x10 then some (c.tec % 2 ^ 9 + c.rec_ % 2 ^ 8 * 2 ^ 16)
  else if off = 0x18 then some (Config.freeNat s.free % 256)
  else if off = 0x20 then some ing.usedWord
  else if off = 0x24 then some ing.min
  else if off = 0x28 then some ing.quota
  else if off = 0x2C then some q.usedWord
  else if off = 0x30 then some q.min
  else if off = 0x34 then some q.quota
  else none

/-- MAPPER (Table 10.7). -/
def State.statMapper (s : State) (a : Nat) : Option Nat :=
  if a = Reg.mapperStatus then some (b2n s.allStale)
  else if a = Reg.mapperRoutes then some (s.mapper.routes.filter (·.2.en)).length
  else if a = Reg.mapperSourceLists then some (sourceLists s.mapper.routes)
  else none

/-- The three words of a capture of device time: NSEC, SEC_LO and SEC_HI. -/
def Capture.word (c : Capture) (i : Nat) : Nat :=
  match i with
  | 0 => c.nsec
  | 1 => c.sec % 2 ^ 32
  | _ => c.sec / 2 ^ 32 % 2 ^ 16

/-- The slot tables of 32 ports or channels, in the order of TIME_GATE_COPY_k. -/
def gateTable (k j : Nat) : Nat := if k = 0 then j else 64 + 32 * (k - 1) + j

/-- TIME (Table 10.8). -/
def State.statTime (s : State) (a : Nat) : Option Nat :=
  if a = Reg.timeStatus then
    some (b2n (s.time.ptpState == 3) + b2n s.time.ppsSeen * 2 + b2n s.time.holdover * 4 + b2n s.fabricTimed * 8)
  else if among a Reg.timeNowNsec 4 3 then some (s.capture.word (idx a Reg.timeNowNsec 4))
  else if a = Reg.timeAgeLo then some (s.clk.age % 2 ^ 32)
  else if a = Reg.timeAgeHi then some (s.clk.age / 2 ^ 32)
  else if a = Reg.timeRate then some (intWord s.clk.rate).toNat
  else if a = Reg.timeOffset then some (intWord s.time.offset).toNat
  else if among a Reg.timePpsInNsec 4 3 then some (s.time.ppsIn.word (idx a Reg.timePpsInNsec 4))
  else if (List.range 4).any (fun n => among a (Reg.timeCapNsec n) 4 3) then
    let n := idx a (Reg.timeCapNsec 0) 16
    some ((smGet capture0 s.time.caps n).word (idx a (Reg.timeCapNsec n) 4))
  else if among a Reg.timeGen0Period 8 64 then some (s.gen (idx a Reg.timeGen0Period 8)).p
  else if among a (Reg.timeGenPhase 0) 8 64 then some (s.gen (idx a (Reg.timeGenPhase 0) 8)).phi
  else if among a Reg.timeGen0Owners 4 64 then some (s.gen (idx a Reg.timeGen0Owners 4)).owners
  else if among a (Reg.timeGateCopy 0) 4 3 then
    some (bitmap ((List.range 32).filter (fun j => (s.slotTable (gateTable (idx a (Reg.timeGateCopy 0) 4) j)).activeB)))
  else if among a (Reg.timeGatePend 0) 4 3 then
    some (bitmap ((List.range 32).filter (fun j => (s.slotTable (gateTable (idx a (Reg.timeGatePend 0) 4) j)).swapping)))
  else none

/-- SEC (Table 11.6). -/
def State.statSec (s : State) (a : Nat) : Option Nat :=
  if a = Reg.secStatus then
    some (b2n (decide (s.clk.age < s.sec.wipeEnd)) + b2n (s.sec.keys.keks.isEmpty) * 2 + b2n s.heath.tampPresent * 4 +
      b2n (s.sec.sessions.any (fun x => x.2.any (·.threshold))) * 8)
  else if a = Reg.secLc then some (s.lifeCycle + s.lcLeft * 2 ^ 8)
  else if a = Reg.secSessionsUsed then some s.sec.sessions.length
  else if among a (Reg.secPortCfg 0) 4 32 then some (s.secCfg (idx a (Reg.secPortCfg 0) 4)).w0.toNat
  else if among a (Reg.secChanCfg 0) 4 64 then some (s.secCfg (64 + idx a (Reg.secChanCfg 0) 4)).w0.toNat
  else none

/-- A block has a posted write pending (R436): 0 HEATH, 1 + n En, 33 + n Sn. -/
def State.postedAt (s : State) (blk : Nat) : Bool := (smGet none s.reg.posted blk).isSome

/-- HEATH (Tables 11.7 and 14.8). -/
def State.statHeath (s : State) (a : Nat) : Option Nat :=
  let h := s.heath
  if a = Reg.heathStatus then
    some (b2n h.xtalFail + b2n h.orderRec * 2 + b2n h.clkRec * 4 + b2n h.thermRec * 8 + b2n h.vaonPor * 16)
  else if a = Reg.heathRtcLo then some (h.rtc % 2 ^ 32)
  else if a = Reg.heathRtcHi then some (h.rtc / 2 ^ 32)
  else if a = Reg.heathState then some s.pwr.state.code
  else if a = Reg.heathPresStatus then
    some (b2n s.presence + b2n h.sealOpen * 2 + b2n h.presLow * 4 +
      h.windowEnd.elim 0 (fun t => ceilDiv (t - h.rtc) 32768 % 2 ^ 8 * 2 ^ 8))
  else if a = Reg.heathTamperStatus then some s.tamperStatus.toNat
  else if a = Reg.heathTamperFirst then some h.tampFirst.toNat
  else if a = Reg.heathTamperLast then some h.tampLast.toNat
  else if a = Reg.heathPosted then some (b2n (s.postedAt 0))
  else none

/-- The spare columns in use in a bank: at most 8 (R404). -/
def spares (bank : Nat) : Nat := min 8 (Config.spareColumns bank)

/-- SCRATCH (Table 12.6). -/
def State.statScratch (s : State) (a : Nat) : Option Nat :=
  if a = Reg.scratchStatus then some (b2n s.clearing + b2n ((List.range 16).any (fun b => decide (0 < spares b))) * 2)
  else if among a (Reg.scratchSpare 0) 4 16 then some (spares (idx a (Reg.scratchSpare 0) 4))
  else none

/-- GLEANER (Table 12.7). -/
def State.statGleaner (s : State) (a : Nat) : Option Nat :=
  if a = Reg.gleanerStatus then
    some (s.glean.window.elim 0 (fun w => 1 + w.bank * 2 ^ 4 + w.index * 2 ^ 8) + b2n s.glean.fault * 2 ^ 16)
  else none

/-- The starved requesters of the array (from 0) or masters of the scratchpad (from 16). -/
def State.starvedMap (s : State) (base n : Nat) : Nat :=
  bitmap ((List.range n).filter (fun i => smGet 0 s.arb.starvedAt (base + i) != 0))

/-- ARB (Table 12.8). -/
def State.statArb (s : State) (a : Nat) : Option Nat :=
  if a = Reg.arbStatus then some (b2n (s.starvedMap 0 9 != 0) + b2n (s.starvedMap 16 7 != 0) * 2)
  else if a = Reg.arbArrayStarved then some (s.starvedMap 0 9)
  else if a = Reg.arbScratchStarved then some (s.starvedMap 16 7)
  else none

/-- POWER (Table 14.9). -/
def State.statPower (s : State) (a : Nat) : Option Nat :=
  if a = Reg.powerStatus then
    some (b2n s.pwr.entry.isSome + b2n s.pwr.thermWarn * 2 + b2n s.pwr.recovery * 4 + b2n (s.pwr.lanes != 0xFF) * 8)
  else if a = Reg.powerTemp then some (s.pwr.temp % 2 ^ 12).toNat
  else if a = Reg.powerLanes then some (s.pwr.lanes + s.coresOn * 2 ^ 8)
  else none

/-- UPDATE (Table 15.8). -/
def State.statUpdate (s : State) (a : Nat) : Option Nat :=
  let u := s.upd
  if a = Reg.updateStatus then
    some (b2n u.onTrial + b2n s.pwr.recovery * 2 + b2n u.unreadable * 4 + b2n s.healthOk * 8 + b2n s.ptr.floorPending * 16 +
      b2n (u.verifying.isSome || u.relay.isSome || u.apply.isSome) * 32)
  else if a = Reg.updateStage then some s.updateWord.toNat
  else if a = Reg.updateBitmap then some (s.download.elim 0 (·.bitmap))
  else if a = Reg.updateTrialLeft then some s.trialLeft
  else if a = Reg.updateSettingsGen then some (s.store u.bank).gen
  else none

/-- The groups with a staged value that has not been applied (R440). -/
def State.stagedGroups (s : State) : Nat :=
  let group (a : Nat) : Nat := if a = Reg.powerLaneCtrl then 1 else if a = Reg.heathWakeCtrl ∨ a = Reg.heathRtcAlarm then 2
    else if a = Reg.powerThermWarn then 3 else 0
  let keys := s.reg.staged.map (·.1) ++ s.reg.apply.flatMap (fun p => p.values.map (·.1))
  bitmap (keys.map group).eraseDups

/-- APPLY, CFGCRC and LOCKCTL (Tables 13.10 to 13.12). -/
def State.statConfig (s : State) (a : Nat) : Option Nat :=
  let c := s.reg.crc
  if a = Reg.applyStatus then some s.stagedGroups
  else if a = Reg.cfgcrcStatus then some (b2n c.mismatch + b2n s.safeHold * 2 + b2n c.commitWait * 4)
  else if a = Reg.lockctlStatus then some (b2n (s.rb Reg.lockViolAddr 31 && !s.reg.lockSeen))
  else if a = Reg.lockctlState then some (bitmap ((List.range 32).filter s.groupLocked))
  else none

/-- The STAT fields of every block but GLOBAL that follow a cause; none where the register is stored. -/
def State.statOf (s : State) (a : Nat) : Option Nat :=
  let page := a / 0x1000
  match page with
  | 0x1 => s.statConfig a
  | 0x2 => s.statConfig a
  | 0x3 => s.statConfig a
  | 0x10 => s.statHeath a
  | 0x20 => s.statCmdq a
  | 0x30 => s.statArray a
  | 0x40 => s.statGlue a
  | 0x50 => s.statExact a
  | 0x60 => s.statCohere a
  | 0x70 => s.statScratch a
  | 0x80 => s.statArb a
  | 0x90 => s.statSwitch a
  | 0x100 => s.statMapper a
  | 0x110 => s.statTime a
  | 0x111 => s.statTime a
  | 0x120 => s.statSec a
  | 0x130 => s.statFabric a
  | 0x140 => s.statMitre a
  | 0x150 => s.statPower a
  | 0x160 => s.statUpdate a
  | 0x170 => s.statGleaner a
  | _ =>
    if 0xA0 ≤ page ∧ page < 0xC0 then s.statEth (page - 0xA0) (a % 0x1000)
    else if 0xC0 ≤ page ∧ page < 0x100 then s.statChan (page - 0xC0) (a % 0x1000)
    else none

/-! ## Summaries and interrupts (R448, R449) -/

/-- The summary of a STATUS register and its INT_EN register. -/
def State.sumOf (s : State) (status intEn : Nat) : Bool := (s.statOf status).any (fun v => w32 v &&& s.rd intEn != 0#32)

/-- The GLOBAL_STATUS word (Table 13.8). -/
def State.globalWord (s : State) : Nat :=
  b2n (!s.reg.posted.isEmpty) + b2n (!s.evt.q.isEmpty) * 2 + b2n (decide (1024 ≤ s.evt.q.length)) * 4 +
    b2n (s.rb Reg.globalPostedDropAddr 31 && !s.reg.dropSeen) * 8

/-- The summary of En. -/
def State.ethSummary (s : State) (n : Nat) : Bool := s.sumOf (Reg.ethportStatus n) (Reg.ethportIntEn n)

/-- The summary of Sn. -/
def State.chanSummary (s : State) (n : Nat) : Bool := s.sumOf (Reg.slowchStatus n) (Reg.slowchIntEn n)

/-- The block summaries, by their bit of GLOBAL_INT_STATUS (Table 13.1). -/
def State.summary (s : State) (bitNo : Nat) : Bool :=
  match bitNo with
  | 0 => w32 s.globalWord &&& s.rd Reg.globalStatusIntEn != 0#32
  | 1 => s.sumOf Reg.lockctlStatus Reg.lockctlIntEn
  | 2 => s.sumOf Reg.cfgcrcStatus Reg.cfgcrcIntEn
  | 3 => s.sumOf Reg.heathStatus Reg.heathIntEn
  | 4 => (List.range 16).any (fun n => (s.pair n).doorbellErr)
  | 5 => s.sumOf Reg.arrayStatus Reg.arrayIntEn
  | 6 => (s.rb Reg.glueIntEn 0 && !s.glue.retryQ.isEmpty) || (s.rb Reg.glueIntEn 1 && epochs.all s.inflight)
  | 7 => s.sumOf Reg.exactStatus Reg.exactIntEn
  | 8 => s.sumOf Reg.cohereStatus Reg.cohereIntEn
  | 9 => s.sumOf Reg.scratchStatus Reg.scratchIntEn
  | 10 => s.sumOf Reg.arbStatus Reg.arbIntEn
  | 11 => s.sumOf Reg.switchStatus Reg.switchIntEn
  | 12 => (List.range 32).any s.ethSummary
  | 13 => (List.range 64).any s.chanSummary
  | 14 => s.sumOf Reg.mapperStatus Reg.mapperIntEn
  | 15 => s.sumOf Reg.timeStatus Reg.timeIntEn
  | 16 => s.sumOf Reg.secStatus Reg.secIntEn
  | 17 => s.sumOf Reg.fabricStatus Reg.fabricIntEn
  | 18 => s.sumOf Reg.mitreStatus Reg.mitreIntEn
  | 19 => s.sumOf Reg.powerStatus Reg.powerIntEn
  | 20 => s.sumOf Reg.updateStatus Reg.updateIntEn
  | 21 => s.sumOf Reg.gleanerStatus Reg.gleanerIntEn
  | _ => false

/-- GLOBAL_INT_STATUS. -/
def State.intStatus (s : State) : Nat := bitmap ((List.range 22).filter s.summary)

/-- The level of INT_N (R449): true for high. -/
def State.intN (s : State) : Bool := !(s.rb Reg.globalCtrl 1 && w32 s.intStatus &&& s.rd Reg.globalIntEn != 0#32)

/-- The vector to which summary `b` is routed (R449). -/
def State.vectorOf (s : State) (b : Nat) : Nat := s.rf (Reg.globalIntVec 0 + 4 * (b / 4)) (8 * (b % 4)) 6

/-- The vectors whose condition is 1, one bit each. -/
def State.vectorsOn (s : State) : Nat :=
  bitmap (((List.range 22).filter (fun b => s.rb Reg.globalIntEn b && s.summary b)).map s.vectorOf).eraseDups

/-- The vector conditions are sampled: a message goes out for each that has risen (R449).
DESIGN CHOICE: log entry 170. -/
def State.sampleMsi (s : State) : State :=
  let now := s.vectorsOn
  let risen := (List.range 64).filter (fun v => nfld now v 1 == 1 && nfld s.reg.msiCond v 1 == 0)
  { s with reg := { s.reg with msiCond := now }, out := { s.out with msi := s.out.msi ++ risen } }

/-- GLOBAL (Table 13.8). -/
def State.statGlobal (s : State) (a : Nat) : Option Nat :=
  if a = Reg.globalStatus then some s.globalWord
  else if a = Reg.globalIntStatus then some s.intStatus
  else if a = Reg.globalEthportInt then some (bitmap ((List.range 32).filter s.ethSummary))
  else if a = Reg.globalSlowchIntLo then some (bitmap ((List.range 32).filter s.chanSummary))
  else if a = Reg.globalSlowchIntHi then some (bitmap ((List.range 32).filter (fun n => s.chanSummary (32 + n))))
  else if a = Reg.globalEventLevel then some s.evt.q.length
  else if among a (Reg.globalPostedMap 0) 4 4 then
    let k := idx a (Reg.globalPostedMap 0) 4
    some (if k = 0 then b2n (s.postedAt 0)
      else bitmap ((List.range 32).filter (fun n => s.postedAt (32 * (k - 1) + 1 + n))))
  else none

/-- The STAT fields that follow a cause; none where the register is stored. -/
def State.statNow (s : State) (a : Nat) : Option Nat := if a < 0x1000 then s.statGlobal a else s.statOf a

/-! ## What a register reads as -/

/-- The HS bits that read 1: their operation runs, or a further request of it is remembered (R6). The other HS operations
complete in the cycle of the write.
DEDUCED: log entry 172. -/
def State.hsNow (s : State) (a : Nat) : Nat :=
  if a = Reg.cohereActCmd then b2n (s.coh.mailbox.isSome || s.coh.mailboxNext) * 2 ^ 31
  else if a = Reg.scratchHostCmd then b2n (s.hostBusy || s.scr.hostNext) * 2 ^ 31
  else if a = Reg.applyStrobe then s.reg.apply.foldl (fun m p => m ||| p.groups) s.reg.applyNext
  else if a = Reg.cfgcrcCommit then b2n s.reg.crc.commitWait
  else if 0xC0000 ≤ a ∧ a < 0x100000 ∧ a % 0x1000 = 0x14 then
    let c := s.chan (pageFrom a 0xC0000)
    b2n (c.busOff && c.recover)
  else if a = Reg.powerCalCmd then b2n (s.pwr.calReqs != 0) * 2 ^ 31
  else if a = Reg.heathWakeReq then b2n (s.pwr.entry.any (·.asked))
  else 0

/-- The value that a read of the register at native normal address `a` gives, apart from what its path has latched. Reserved bits
read 0 (R10), and so does a location that no table lists (R430). -/
def State.regVal (s : State) (a : Nat) : Word :=
  match regRow? a with
  | none => 0#32
  | some r =>
    let stored := s.rd a &&& w32 (r.ctrl ||| r.lock ||| r.w1 ||| r.cnt ||| r.stat)
    match s.statNow a with
    | some v => w32 v
    | none => (stored &&& ~~~(w32 r.hs)) ||| w32 (s.hsNow a)

end Sys2Proof.Machine
end

