-- ==== Sys2Proof/Machine/RegAccess.lean ====
section
/-! DEFINITION. Register accesses (R4 to R9, R428 to R449): the two windows and the alias views, what a write does to each kind
of field, slow-domain blocks, 64-bit values, staging and apply groups, locks and MSI-X rearming. -/

namespace Sys2Proof.Machine

/-! ## Decoding (R428 to R433) -/

/-- The four views of a register (R431). -/
inductive View where
  | normal | setBits | clearBits | toggleBits
deriving DecidableEq, Repr

/-- The native block that a compatibility block shows (Table 13.2), by its base. -/
def compatBase (k : Nat) : Option Nat :=
  match k with
  | 0 => some 0x0
  | 1 => some 0x1000
  | 2 => some 0x2000
  | 3 => some 0x3000
  | 4 => some 0x10000
  | 5 => some 0x30000
  | 6 => some 0x50000
  | 7 => some 0x60000
  | 8 => some 0x90000
  | 9 => some 0x110000
  | 10 => some 0x120000
  | 11 => some 0x40000
  | _ => if 16 ≤ k ∧ k ≤ 47 then some (0xA0000 + 0x1000 * (k - 16)) else none

/-- The native normal address and the view that an access of a path reaches; none outside its window (R428, R431, R432). BAR0 is
4 MiB and BAR2 64 KiB, so that only as many address bits arrive; an SPI address above 4 MiB lies outside every block. -/
def State.place (s : State) (path : Path) (addr : Nat) : Option (Nat × View) :=
  match path with
  | .bar2 =>
    if ¬ s.rb Reg.globalCtrl 8 then none
    else (compatBase (addr / 2 ^ 10 % 64)).map (fun b => (b + addr % 2 ^ 8 / 4 * 4, View.normal))
  | _ =>
    let a := if path = .bar0 then addr % 2 ^ 22 else addr
    if 2 ^ 22 ≤ a then none
    else
      let view : View := match a % 0x1000 / 0x400 with | 0 => .normal | 1 => .setBits | 2 => .clearBits | _ => .toggleBits
      some (a / 0x1000 * 0x1000 + a % 0x400 / 4 * 4, view)

/-- The slow-domain block of an address (R434): 0 HEATH, 1 + n En, 33 + n Sn. -/
def slowBlock (a : Nat) : Option Nat :=
  if 0x10000 ≤ a ∧ a < 0x11000 then some 0
  else if 0xA0000 ≤ a ∧ a < 0xC0000 then some (1 + (a - 0xA0000) / 0x1000)
  else if 0xC0000 ≤ a ∧ a < 0x100000 then some (33 + (a - 0xC0000) / 0x1000)
  else none

/-- The address lies in the DEBUG block. -/
def inDebug (a : Nat) : Bool := decide (0x3F0000 ≤ a) && decide (a < 0x400000)

/-- The life-cycle state leaves the DEBUG block open (Table 11.3). -/
def State.debugOpen (s : State) : Bool := s.lifeCycle == 0 || s.lifeCycle == 3 || s.lifeCycle == 4

/-! ## Staging and apply groups (R440 to R443) -/

/-- The staged field of a register: its mask, and its apply group (Table 13.4). -/
def stagedField (a : Nat) : Option (Nat × Nat) :=
  if a = Reg.globalCtrl then some (0x2, 0)
  else if a = Reg.globalIntEn then some (0x3FFFFF, 0)
  else if among a (Reg.globalIntVec 0) 4 5 then some (0x3F3F3F3F, 0)
  else if a = Reg.globalIntVec5 then some (0x3F3F, 0)
  else if a = Reg.powerLaneCtrl then some (0xFF0F, 1)
  else if a = Reg.heathWakeCtrl then some (0xFFFF7FF1, 2)
  else if a = Reg.heathRtcAlarm then some (0xFFFFFFFF, 2)
  else if a = Reg.powerThermWarn then some (0xFF, 3)
  else none

/-- The staged field belongs to one of the groups. -/
def inGroups (groups a : Nat) : Bool := (stagedField a).any (fun f => nfld groups f.2 1 == 1)

/-- The value of a staged field that is pending: staged, or taken by an apply that still runs. -/
def State.pendingValue (s : State) (a : Nat) : Option Word :=
  match smGet none s.reg.staged a with
  | some v => some v
  | none => s.reg.apply.findSome? (fun p => smGet none p.values a)

/-- Stage a value. -/
def State.stage (s : State) (a : Nat) (v : Word) : State :=
  { s with reg := { s.reg with staged := smSet none s.reg.staged a (some v) } }

/-- The conflict of the values that an apply has taken (R441, R442): a wake pin that time capture owns. -/
def State.applyClash (s : State) (vs : SMap (Option Word)) : Nat :=
  match smGet none vs Reg.heathWakeCtrl with
  | none => 0
  | some v => (firstBelow 4 (fun n => bit v (4 + n) && nfld s.time.capture n 1 == 1)).elim 0 (fun n => 2 * 2 ^ 16 + n)

/-- An apply of the groups starts: it takes their staged values and checks their claims (R441).
DESIGN CHOICE: log entry 167. -/
def State.startApply (s : State) (groups : Nat) : State :=
  let vs := s.reg.staged.filter (fun x => inGroups groups x.1)
  { s with reg := { s.reg with
      staged := s.reg.staged.filter (fun x => !inGroups groups x.1)
      apply := s.reg.apply ++ [{ groups := groups, values := vs, conflict := s.applyClash vs }] } }

/-- A write of APPLY_STROBE (R441). A bit that already reads 1 is remembered as one further request (R6); groups 4 to 15 have no
effect.
DESIGN CHOICE: log entry 166. -/
def State.strobe (s : State) (v : Word) : State :=
  let busy := s.reg.apply.foldl (fun m p => m ||| p.groups) 0
  let new := bitmap ((List.range 4).filter (fun g => bit v g && nfld busy g 1 == 0))
  let again := bitmap ((List.range 4).filter (fun g => bit v g && nfld busy g 1 == 1))
  let s : State := { s with reg := { s.reg with applyNext := s.reg.applyNext ||| again } }
  if new = 0 then s else s.startApply new

/-- A staged value takes effect: the bits of its staged field change. -/
def State.applyValue (s : State) (a : Nat) (v : Option Word) : State :=
  s.wr a (merge (s.rd a) (v.getD 0) ((stagedField a).elim 0 (·.1)))

/-- The oldest apply ends (R441): its values take effect, or they are kept as staged values unless newer ones stand. Remembered
requests of its groups then start. -/
def State.endApply (s : State) : State :=
  match s.reg.apply with
  | [] => s
  | p :: rest =>
    let again := bitmap ((List.range 4).filter (fun g => nfld p.groups g 1 == 1 && nfld s.reg.applyNext g 1 == 1))
    let s : State := { s with reg := { s.reg with apply := rest, applyNext := s.reg.applyNext - again } }
    let s : State :=
      if p.conflict = 0 then
        (p.values.foldl (fun s x => s.applyValue x.1 x.2) s).cnt Reg.applyCount 1
      else
        let s := p.values.foldl (fun s x => if (smGet none s.reg.staged x.1).isSome then s else s.stage x.1 (x.2.getD 0)) s
        (s.wr Reg.applyConflictRes (w32 p.conflict)).cnt Reg.applyRejectCount 1
    let s := s.wr Reg.applyResult (w32 ((if p.conflict = 0 then 0 else St.applyConflict) + p.groups * 2 ^ 16))
    if again = 0 then s else s.startApply again

/-- A write of APPLY_DISCARD: the staged values of the groups go; what a running apply has taken stays (R443). -/
def State.discard (s : State) (v : Word) : State :=
  { s with reg := { s.reg with staged := s.reg.staged.filter (fun x => !inGroups (v.toNat % 2 ^ 16) x.1) } }

/-! ## Other handshakes of this chapter -/

/-- A write of CFGCRC_COMMIT (R455). While group 7 is locked it is a write to a locked field. -/
def State.commitCrc (s : State) (v : Word) : State :=
  if ¬ bit v 0 then s
  else if s.groupLocked 7 then s.violate Reg.cfgcrcCommit
  else
    let c := s.reg.crc
    { s with reg := { s.reg with crc := { c with commitWait := true, commitNext := c.commitNext || c.commitWait } } }

/-- A write of GLOBAL_MSI_REARM: with GO a message goes out on the vector if its condition is 1 (R449). -/
def State.rearm (s : State) (v : Word) : State :=
  let n := fld v 0 6
  let on := nfld s.vectorsOn n 1
  let s := s.wr Reg.globalMsiRearm (merge 0 v 0x3F)
  if bit v 31 ∧ on = 1 then { s with out := { s.out with msi := s.out.msi ++ [n] } } else s

/-- A write of LOCKCTL_LOCK_g (R7, R444): the first one takes effect, later ones are writes to a locked field. -/
def State.writeLock (s : State) (a : Nat) (v : Word) : State :=
  if smGet false s.reg.w1done a then s.violate a
  else
    let s := s.wr a (merge 0 v 1)
    { s with reg := { s.reg with w1done := smSet false s.reg.w1done a true } }

/-! ## Writing a register (R4, R431) -/

/-- The value that a field's kind takes as its own before the alias operation: the staged value where one is pending. -/
def State.fieldsNow (s : State) (a : Nat) (r : RegRow) : Word :=
  let stored := s.rd a &&& w32 (r.ctrl ||| r.lock ||| r.w1 ||| r.cnt)
  match stagedField a, s.pendingValue a with
  | some f, some v => merge stored v f.1
  | _, _ => stored

/-- What an access writes, once the view has been worked out (R431). HS bits see the data of a normal or a set write alone. -/
def State.viewData (s : State) (a : Nat) (r : RegRow) (view : View) (d : Word) : Word :=
  let v := s.fieldsNow a r
  let hs := w32 r.hs
  match view with
  | .normal => d
  | .setBits => ((v ||| d) &&& ~~~hs) ||| (d &&& hs)
  | .clearBits => (v &&& ~~~d) &&& ~~~hs
  | .toggleBits => (v ^^^ d) &&& ~~~hs

/-- A write of ARB_ARRAY_REQ_n or ARB_SCRATCH_REQ_m: a changed WEIGHT changes the credits (R417). -/
def State.writeReq (s : State) (a : Nat) (d : Word) : State :=
  let old := weightOf (s.rd a)
  let s := s.wr a (merge 0 d 0x3FF)
  let new := weightOf d
  if a < Reg.arbScratchReq 0 then s.reweigh 0 (idx a (Reg.arbArrayReq 0) 4) old new
  else (List.range 32).foldl (fun s k => s.reweigh (k + 1) (idx a (Reg.arbScratchReq 0) 4) old new) s

/-- The fields of kinds CTRL, LOCK and CNT of a register take the data; a staged field is staged (R4, R440). A LOCK field that is
locked makes the write a violation (R9). -/
def State.writeFields (s : State) (a : Nat) (r : RegRow) (d : Word) : State :=
  let held := (stagedField a).elim 0 (·.1)
  let s := if held = 0 then s else s.stage a (merge 0 d held)
  let s := s.wr a (merge (s.rd a) d ((r.ctrl ||| r.cnt) &&& (0xFFFFFFFF ^^^ held)))
  if r.lock = 0 then s else s.wrLock a d r.lock

/-- A write of `d` to the register at `a` that is not a half of a 64-bit value, with whatever the register does on a write.
DEDUCED: log entry 174. -/
def State.writeWord (s : State) (a : Nat) (r : RegRow) (d : Word) : State :=
  if among a (Reg.cmdqQCfg 0) 0x20 16 then s.writeCfg (idx a (Reg.cmdqQCfg 0) 0x20) d
  else if among a (Reg.cmdqQReset 0) 0x20 16 then if bit d 0 then s.resetPair (idx a (Reg.cmdqQReset 0) 0x20) else s
  else if a = Reg.arrayGovCtrl ∨ a = Reg.arrayGovDepth then (s.writeFields a r d).govCut
  else if a = Reg.glueQuantum then if ¬ s.lockedAt a ∧ (fld d 0 10 = 0 ∨ 1000 < fld d 0 10) then s else s.writeFields a r d
  else if a = Reg.coherePoisonClear then s.poisonClear d
  else if a = Reg.cohereActCmd then s.mailboxGo d
  else if among a (Reg.fabricSlot 0) 4 64 then
    let s := s.writeFields a r d
    { s with fab := { s.fab with newSlots := true } }
  else if 0xC0000 ≤ a ∧ a < 0x100000 ∧ a % 0x1000 = 0x14 then s.recoverChan (pageFrom a 0xC0000) d
  else if a = Reg.scratchHostCmd then s.hostGo d
  else if a = Reg.gleanerFaultClear then
    if bit d 0 then (s.setGlean { s.glean with fault := false }).wr Reg.gleanerFaultLast 0 else s
  else if among a (Reg.arbArrayReq 0) 4 9 || among a (Reg.arbScratchReq 0) 4 7 then s.writeReq a d
  else if a = Reg.globalMsiRearm then s.rearm d
  else if a = Reg.applyStrobe then s.strobe d
  else if a = Reg.applyDiscard then s.discard d
  else if a = Reg.cfgcrcCommit then s.commitCrc d
  else if among a (Reg.lockctlLock 0) 4 32 then s.writeLock a d
  else if a = Reg.heathRecordClear then s.clearRecords d
  else if a = Reg.heathWakeReq then if bit d 0 then s.wakeEvent 5 0 0 else s
  else if a = Reg.powerCalCmd then s.calCmd d
  else s.writeFields a r d

/-! ## 64-bit values (R438, R365) -/

/-- The LO registers of the 64-bit values (R438): those whose HI register stands at the next offset. The SEC registers of TIME follow
R365. -/
def loOffsets : List Nat :=
  [Reg.globalSlowchIntLo, Reg.heathRtcLo, Reg.cmdqInbandMacLo, Reg.arrayActCountLo, Reg.scratchHostWdataLo, Reg.scratchHostRdataLo,
    Reg.mapperMacLo, Reg.timeAgeLo, Reg.mitreResyncBytesLo]

/-- The register at `a` is the LO register of a 64-bit value.
DEDUCED: log entry 164. -/
def isLo (a : Nat) : Bool :=
  loOffsets.contains a || among a (Reg.cmdqQSqBaseLo 0) 0x20 16 || among a (Reg.cmdqQCqBaseLo 0) 0x20 16 ||
    (decide (0xA0000 ≤ a) && decide (a < 0xC0000) && [0x100, 0x108, 0x110, 0x118].contains (a % 0x1000))

/-- The register at `a` is the HI register of a 64-bit value. -/
def isHi (a : Nat) : Bool := decide (4 ≤ a) && isLo (a - 4)

/-- An NSEC register of TIME (R365). -/
def isNsec (a : Nat) : Bool := a == Reg.timeNowNsec || a == Reg.timePpsInNsec || among a (Reg.timeCapNsec 0) 0x10 4

/-- What a path holds. BAR0 and BAR2 are one path (R438). -/
def State.pathSt (s : State) (p : Path) : PathSt :=
  match p with
  | .spi => s.reg.spi
  | .firmware => s.reg.firmware
  | _ => s.reg.pcie

/-- Store what a path holds. -/
def State.setPath (s : State) (p : Path) (x : PathSt) : State :=
  match p with
  | .spi => { s with reg := { s.reg with spi := x } }
  | .firmware => { s with reg := { s.reg with firmware := x } }
  | _ => { s with reg := { s.reg with pcie := x } }

/-- A 64-bit value is loaded from a LO write and the held HI word (R438). A locked pair is one write to a locked field.
DEDUCED: log entry 165. -/
def State.writePair (s : State) (a : Nat) (r : RegRow) (lo hi : Word) : State :=
  let rh := regRow? (a + 4)
  let load (s : State) : State :=
    let s := s.wr a (merge (s.rd a) lo (r.ctrl ||| r.lock ||| r.cnt))
    s.wr (a + 4) (merge (s.rd (a + 4)) hi (rh.elim 0 (fun x => x.ctrl ||| x.lock ||| x.cnt)))
  if r.lock ≠ 0 ∧ s.lockedAt a then s.violate a else load s

/-- A write that reaches its register (R431, R438): a HI write is held, a LO write loads the value, and any other write acts on its
register. -/
def State.landWrite (s : State) (path : Path) (a : Nat) (view : View) (d : Word) : State :=
  match regRow? a with
  | none => s
  | some r =>
    let v := s.viewData a r view d
    let p := s.pathSt path
    if isHi a then s.setPath path { p with held := v }
    else if isLo a then (s.setPath path { p with held := 0 }).writePair a r v p.held
    else s.writeWord a r v

/-! ## Slow domains (R434 to R437) -/

/-- The posted write of a block, if one is pending, reaches its register. -/
def State.landPosted (s : State) (blk : Nat) : State :=
  match smGet none s.reg.posted blk with
  | none => s
  | some w =>
    let s : State := { s with reg := { s.reg with posted := smSet none s.reg.posted blk none } }
    (s.place w.path w.addr).elim s (fun x => s.landWrite w.path x.1 x.2 w.data)

/-- A posted write: it waits, or it is dropped while the block's earlier one is pending (R436, R437).
DESIGN CHOICE: log entry 169. -/
def State.post (s : State) (path : Path) (blk a addr : Nat) (d : Word) : State :=
  if ¬ s.postedAt blk then
    { s with reg := { s.reg with posted := smSet none s.reg.posted blk (some { addr := addr, data := d, path := path }) } }
  else
    let s := s.cnt Reg.globalPostedDropCount 1
    let s : State :=
      if s.rb Reg.globalPostedDropAddr 31 ∧ ¬ s.reg.dropSeen then s
      else
        let s := s.wr Reg.globalPostedDropAddr (w32 (2 ^ 31 + a))
        { s with reg := { s.reg with dropSeen := false } }
    s.event 0x00 0x02 0 (w32 a) 0

/-- Writes of this path are posted (Table 13.3). -/
def State.posts (s : State) (path : Path) : Bool :=
  path == .spi || (path == .bar0 && !s.rb Reg.globalCtrl 0)

/-- A register write of a path. A stalled write follows the block's pending one. -/
def State.write (s : State) (path : Path) (addr : Nat) (d : Word) : State :=
  match s.place path addr with
  | none => s
  | some (a, view) =>
    match slowBlock a with
    | none => s.landWrite path a view d
    | some blk =>
      if s.posts path then s.post path blk a addr d else (s.landPosted blk).landWrite path a view d

/-- A write with its byte enables: on PCI Express a partial one is discarded and counted (R429).
DESIGN CHOICE: log entry 171. -/
def State.busWrite (s : State) (path : Path) (addr : Nat) (d : Word) (be : Nat) : State :=
  if (path = .bar0 ∨ path = .bar2) ∧ be % 16 ≠ 15 then s.cnt Reg.globalBadAccessCount 1 else s.write path addr d

/-! ## Reads -/

/-- A read of the register at `a` by a path (R365, R438, R446). -/
def State.readAt (s : State) (path : Path) (a : Nat) : Word × State :=
  let p := s.pathSt path
  let v := s.regVal a
  if isNsec a then
    (v, s.setPath path { p with lastLo := a
                                shadow := BitVec.ofNat 64 ((s.regVal (a + 4)).toNat + 2 ^ 32 * (s.regVal (a + 8)).toNat) })
  else if 4 ≤ a ∧ isNsec (a - 4) ∧ p.lastLo = a - 4 then (p.shadow.setWidth 32, s)
  else if 8 ≤ a ∧ isNsec (a - 8) ∧ p.lastLo = a - 8 then ((p.shadow >>> 32).setWidth 32, s)
  else if isLo a then (v, s.setPath path { p with lastLo := a, shadow := (s.regVal (a + 4)).setWidth 64 })
  else if isHi a ∧ p.lastLo = a - 4 then (p.shadow.setWidth 32, s)
  else if a = Reg.lockViolAddr then (v, { s with reg := { s.reg with lockSeen := true } })
  else if a = Reg.globalPostedDropAddr then (v, { s with reg := { s.reg with dropSeen := true } })
  else if a = Reg.powerLanes ∨ (0xC0000 ≤ a ∧ a < 0x100000 ∧ a % 0x1000 = 0x18) then (v, { s with free := s.free + 1 })
  else (v, s)

/-- A register read of a path: the pending posted write of the block counts as done (R435), and an open DEBUG block reads a free
value.
DESIGN CHOICE: log entry 152. -/
def State.read (s : State) (path : Path) (addr : Nat) : Word × State :=
  match s.place path addr with
  | none => (0, s)
  | some (a, _) =>
    if inDebug a then if s.debugOpen then s.freeW else (0, s)
    else ((slowBlock a).elim s s.landPosted).readAt path a

/-- The answer of a read goes out on its path. -/
def State.answerRead (path : Path) (addr : Nat) (x : Word × State) : State :=
  { x.2 with out := { x.2.out with reads := x.2.out.reads ++ [(path, addr, x.1)] } }

/-- A path reaches an address: PCI Express and the firmware while the core domain runs, SPI outside Fallow, and then only HEATH while
HEATH_ONLY is 1 (R54, R55). -/
def State.reaches (s : State) (path : Path) (addr : Nat) : Bool :=
  match path with
  | .spi => s.spiUp && (!s.heathOnly || (decide (0x10000 ≤ addr) && decide (addr < 0x11000)))
  | _ => s.coreUp

/-- A read as its command makes it; SPI reads zero where it reaches nothing (R55). -/
def State.regReadBy (s : State) (path : Path) (addr : Nat) : State :=
  if s.reaches path addr then State.answerRead path addr (s.read path addr)
  else if path = .spi ∧ s.spiUp then State.answerRead path addr (0, s)
  else s

/-- A write as its command makes it. A write into an open DEBUG block may do anything (R430): refused. -/
def State.regWriteBy (s : State) (path : Path) (addr : Nat) (v : Word) (be : Nat) : Host.Outcome State Fault Refusal :=
  if ¬ s.reaches path addr then finish s s
  else if (s.place path addr).any (fun x => inDebug x.1) ∧ s.debugOpen ∧ (path = .spi ∨ path = .firmware ∨ be % 16 = 15) then
    .refused .debugRegister
  else if (s.place path addr).any (fun x => x.1 == Reg.scratchHostCmd) then finishScr s (s.busWrite path addr v be)
  else finishReset s (s.busWrite path addr v be)

/-! ## The commands -/

/-- REG_READ. -/
def execRegRead (addr : BitVec 24) (s : State) : Host.Outcome State Fault Refusal := finishReset s (s.regReadBy .spi addr.toNat)

/-- REG_WRITE. -/
def execRegWrite (addr : BitVec 24) (v : Word) (s : State) : Host.Outcome State Fault Refusal := s.regWriteBy .spi addr.toNat v 15

/-- REGISTER_WRITE. -/
def execRegisterWrite (path : Path) (addr : BitVec 24) (v : Word) (be : BitVec 4) (s : State) : Host.Outcome State Fault Refusal :=
  s.regWriteBy path addr.toNat v be.toNat

/-- POSTED_WRITE_LANDED. -/
def execPostedWriteLanded (block : Nat) (s : State) : Host.Outcome State Fault Refusal :=
  finishReset s (if s.coreUp ∨ block = 0 then s.landPosted block else s)

/-- LO_READ: a read of a LO register of R438, or of an NSEC register of R365. -/
def execLoRead (path : Path) (addr : BitVec 24) (s : State) : Host.Outcome State Fault Refusal :=
  finishReset s (s.regReadBy path addr.toNat)

/-- HI_WRITE. -/
def execHiWrite (path : Path) (addr : BitVec 24) (v : Word) (s : State) : Host.Outcome State Fault Refusal :=
  s.regWriteBy path addr.toNat v 15

/-- LO_WRITE. -/
def execLoWrite (path : Path) (addr : BitVec 24) (v : Word) (s : State) : Host.Outcome State Fault Refusal :=
  s.regWriteBy path addr.toNat v 15

/-- LOCK_VIOL_ADDR_READ. -/
def execLockViolAddrRead (path : Path) (s : State) : Host.Outcome State Fault Refusal :=
  finish s (if s.coreUp then State.answerRead path Reg.lockViolAddr (s.readAt path Reg.lockViolAddr) else s)

/-- POSTED_DROP_ADDR_READ. -/
def execPostedDropAddrRead (path : Path) (s : State) : Host.Outcome State Fault Refusal :=
  finish s (if s.coreUp then State.answerRead path Reg.globalPostedDropAddr (s.readAt path Reg.globalPostedDropAddr) else s)

/-- LOCK_GROUP_SET. -/
def execLockGroupSet (path : Path) (addr : BitVec 24) (v : Word) (s : State) : Host.Outcome State Fault Refusal :=
  s.regWriteBy path addr.toNat v 15

/-- APPLY_STROBE. -/
def execApplyStrobe (v : Word) (s : State) : Host.Outcome State Fault Refusal := finish s (whileUp s (·.strobe v))

/-- APPLY_DONE. -/
def execApplyDone (s : State) : Host.Outcome State Fault Refusal := finish s (whileUp s State.endApply)

/-- APPLY_DISCARD. -/
def execApplyDiscard (v : Word) (s : State) : Host.Outcome State Fault Refusal := finish s (whileUp s (·.discard v))

/-- MSI_REARM. -/
def execMsiRearm (v : Word) (s : State) : Host.Outcome State Fault Refusal := finish s (whileUp s (·.rearm v))

/-! ## The configuration CRC (R453 to R455) -/

/-- CFGCRC_COMMIT. -/
def execCfgcrcCommit (v : Word) (s : State) : Host.Outcome State Fault Refusal := finish s (whileUp s (·.commitCrc v))

/-- The covered fields of a register: CTRL, LOCK and W1 outside the exclusions of R453. -/
def coveredMask (a : Nat) (r : RegRow) : Nat :=
  if (0x1000 ≤ a ∧ a < 0x3000) ∨ a = Reg.cohereActCmd ∨ a = Reg.cohereActIndex ∨ among a (Reg.cohereActData 0) 4 8 ∨
      a = Reg.scratchHostAddr ∨ a = Reg.scratchHostCmd ∨ a = Reg.scratchHostWdataLo ∨ a = Reg.scratchHostWdataHi ∨
      a = Reg.globalMsiRearm then 0
  else r.ctrl ||| r.lock ||| r.w1

/-- The covered registers of a row, each with its mask. -/
def RegRow.covered (r : RegRow) : List (Nat × Nat) :=
  ((List.range r.blocks).flatMap (fun b => (List.range r.count).map (fun i => r.addr + 0x1000 * b + r.step * i))).filterMap
    (fun a => if coveredMask a r = 0 then none else some (a, coveredMask a r))

/-- The covered registers in ascending normal address. -/
def coveredRegs : List (Nat × Nat) := sortBy (·.1) (regRows.flatMap RegRow.covered)

/-- The result of a pass over the values in force (R453), while nothing is written. -/
def State.configCrc (s : State) : Nat :=
  crc32c 0xFFFFFFFF (coveredRegs.flatMap (fun x =>
    (bytesLE 4 x.1 ++ bytesLE 4 (s.rd x.1 &&& w32 x.2).toNat).map (·.toNat)))

/-- What a register contributes to the pass that ends: its value in the cycle that reads it. Where that has changed since the pass started, a free
value says whether the change came before that cycle. -/
def State.passValue (s : State) (x : Nat × Nat) : Word × State :=
  let old := smGet (resetOf x.1) s.reg.crc.startVals x.1 &&& w32 x.2
  let now := s.rd x.1 &&& w32 x.2
  if old = now then (now, s) else let (b, s) := s.freeB; (if b then old else now, s)

/-- The result of the pass that ends (R453). -/
def State.passCrc (s : State) : Nat × State :=
  let r := coveredRegs.foldl (fun (a : List Nat × State) x =>
    let (v, s) := a.2.passValue x
    (a.1 ++ (bytesLE 4 x.1 ++ bytesLE 4 v.toNat).map (·.toNat), s)) ([], s)
  (crc32c 0xFFFFFFFF r.1, r.2)

/-- CFGCRC_PASS_START: the next multiple of 80,000 CCLK of the age clock.
DESIGN CHOICE: log entry 168. -/
def execCfgcrcPassStart (s : State) : Host.Outcome State Fault Refusal :=
  finish s (whileUp s fun s =>
    let c := s.reg.crc
    if c.running then s
    else
      let s := s.until (max (c.lastStart + 80000) (ceilDiv s.clk.age 80000 * 80000))
      let c := { c with running := true, lastStart := s.clk.age, passCommits := c.commitWait, startVals := s.reg.vals }
      { s with reg := { s.reg with crc := c } })

/-- The comparison at the end of a pass (R454). -/
def State.compareCrc (s : State) (v : Word) : State :=
  let c := s.reg.crc
  let ref := s.rd Reg.cfgcrcRef
  let bad := v != ref
  let s' : State := { s with reg := { s.reg with
    crc := { c with mismatch := bad, latched := c.latched || (bad && s.rb Reg.cfgcrcCtrl 1 && s.rb Reg.cfgcrcCtrl 2) } } }
  if bad ∧ ¬ c.mismatch then (s'.cnt Reg.cfgcrcMismatchCount 1).event 0x00 0x01 0 v ref else s'

/-- CFGCRC_PASS_END (R453): the result is recorded, and then loaded as the reference or compared with it (R454, R455). -/
def execCfgcrcPassEnd (s : State) : Host.Outcome State Fault Refusal :=
  finish s (whileUp s fun s =>
    if ¬ s.reg.crc.running then s
    else
      let (n, s) := s.passCrc
      let v := w32 n
      let c := { s.reg.crc with running := false, startVals := [] }
      let s : State := ({ s with reg := { s.reg with crc := c } } : State)
      let s := (s.wr Reg.cfgcrcLast v).cnt Reg.cfgcrcPassCount 1
      if c.passCommits then
        let s := s.wr Reg.cfgcrcRef v
        { s with reg := { s.reg with crc := { c with
            passCommits := false, commitWait := c.commitNext, commitNext := false, mismatch := false, latched := false } } }
      else if s.rb Reg.cfgcrcCtrl 0 ∧ ¬ c.commitWait then s.compareCrc v
      else s)

end Sys2Proof.Machine
end

