-- ==== Sys2Proof/Machine/Dispatch.lean ====
section
/-! DEFINITION. One arm for each command: its meaning, called directly. -/

namespace Sys2Proof.Machine

/-- The effect of a command on everything but the queue. -/
def exec (i : Instr) (s : State) : Host.Outcome State Fault Refusal :=
  match i with
  | .sqTailDoorbell pair v => Sys2Proof.Machine.execSqTailDoorbell pair v s
  | .cqHeadDoorbell pair v => Sys2Proof.Machine.execCqHeadDoorbell pair v s
  | .queuePairEnable pair v => Sys2Proof.Machine.execQueuePairEnable pair v s
  | .queuePairDisable pair v => Sys2Proof.Machine.execQueuePairDisable pair v s
  | .queuePairReset pair => Sys2Proof.Machine.execQueuePairReset pair s
  | .submissionFetch pair entry packet => Sys2Proof.Machine.execSubmissionFetch pair entry packet s
  | .commandStart id => Sys2Proof.Machine.execCommandStart id s
  | .completionPost pair => Sys2Proof.Machine.execCompletionPost pair s
  | .cmdWrite bytes => Sys2Proof.Machine.execCmdWrite bytes s
  | .replyRead n => Sys2Proof.Machine.execReplyRead n s
  | .statusRead => Sys2Proof.Machine.execStatusRead s
  | .regRead addr => Sys2Proof.Machine.execRegRead addr s
  | .regWrite addr v => Sys2Proof.Machine.execRegWrite addr v s
  | .inbandCommandFrame port f => Sys2Proof.Machine.execInbandCommandFrame port f s
  | .inbandStreamEnd port src vid => Sys2Proof.Machine.execInbandStreamEnd port src vid s
  | .forwardedCommand link auth c => Sys2Proof.Machine.execForwardedCommand link auth c s
  | .forwardedReply link r => Sys2Proof.Machine.execForwardedReply link r s
  | .fabricNoReply id => Sys2Proof.Machine.execFabricNoReply id s
  | .identify q => Sys2Proof.Machine.execIdentify q s
  | .echo q => Sys2Proof.Machine.execEcho q s
  | .eventPop q => Sys2Proof.Machine.execEventPop q s
  | .capacityReport q => Sys2Proof.Machine.execCapacityReport q s
  | .powerReport q => Sys2Proof.Machine.execPowerReport q s
  | .profileWrite q => Sys2Proof.Machine.execProfileWrite q s
  | .profileRead q => Sys2Proof.Machine.execProfileRead q s
  | .search q => Sys2Proof.Machine.execSearch q s
  | .governorSet q => Sys2Proof.Machine.execGovernorSet q s
  | .tableCreate q => Sys2Proof.Machine.execTableCreate q s
  | .tableResize q => Sys2Proof.Machine.execTableResize q s
  | .tableDestroy q => Sys2Proof.Machine.execTableDestroy q s
  | .entryWrite q => Sys2Proof.Machine.execEntryWrite q s
  | .entryRead q => Sys2Proof.Machine.execEntryRead q s
  | .searchNext q => Sys2Proof.Machine.execSearchNext q s
  | .glueOpen q => Sys2Proof.Machine.execGlueOpen q s
  | .glueClamp q => Sys2Proof.Machine.execGlueClamp q s
  | .glueAbort q => Sys2Proof.Machine.execGlueAbort q s
  | .glueStatus q => Sys2Proof.Machine.execGlueStatus q s
  | .epochConfig q => Sys2Proof.Machine.execEpochConfig q s
  | .exactTableCreate q => Sys2Proof.Machine.execExactTableCreate q s
  | .exactInsert q => Sys2Proof.Machine.execExactInsert q s
  | .exactDelete q => Sys2Proof.Machine.execExactDelete q s
  | .exactRead q => Sys2Proof.Machine.execExactRead q s
  | .learnPop q => Sys2Proof.Machine.execLearnPop q s
  | .flushByPort q => Sys2Proof.Machine.execFlushByPort q s
  | .mowerConfig q => Sys2Proof.Machine.execMowerConfig q s
  | .exactRehash q => Sys2Proof.Machine.execExactRehash q s
  | .fabricJoin q => Sys2Proof.Machine.execFabricJoin q s
  | .fabricLeave q => Sys2Proof.Machine.execFabricLeave q s
  | .fabricStatus q => Sys2Proof.Machine.execFabricStatus q s
  | .fabricSearch q => Sys2Proof.Machine.execFabricSearch q s
  | .twinConfig q => Sys2Proof.Machine.execTwinConfig q s
  | .twinResync q => Sys2Proof.Machine.execTwinResync q s
  | .twinStatus q => Sys2Proof.Machine.execTwinStatus q s
  | .portConfig q => Sys2Proof.Machine.execPortConfig q s
  | .queueConfig q => Sys2Proof.Machine.execQueueConfig q s
  | .policerWrite q => Sys2Proof.Machine.execPolicerWrite q s
  | .policerRead q => Sys2Proof.Machine.execPolicerRead q s
  | .mcastGroupWrite q => Sys2Proof.Machine.execMcastGroupWrite q s
  | .frameBudgetSet q => Sys2Proof.Machine.execFrameBudgetSet q s
  | .portStats q => Sys2Proof.Machine.execPortStats q s
  | .channelConfig q => Sys2Proof.Machine.execChannelConfig q s
  | .routeWrite q => Sys2Proof.Machine.execRouteWrite q s
  | .routeRead q => Sys2Proof.Machine.execRouteRead q s
  | .periodConfig q => Sys2Proof.Machine.execPeriodConfig q s
  | .slotWrite q => Sys2Proof.Machine.execSlotWrite q s
  | .slotSwap q => Sys2Proof.Machine.execSlotSwap q s
  | .timeConfig q => Sys2Proof.Machine.execTimeConfig q s
  | .timeRead q => Sys2Proof.Machine.execTimeRead q s
  | .wakePatternWrite q => Sys2Proof.Machine.execWakePatternWrite q s
  | .sessionCreate q => Sys2Proof.Machine.execSessionCreate q s
  | .sessionDelete q => Sys2Proof.Machine.execSessionDelete q s
  | .sessionStatus q => Sys2Proof.Machine.execSessionStatus q s
  | .tamperRead q => Sys2Proof.Machine.execTamperRead q s
  | .powerState q => Sys2Proof.Machine.execPowerState q s
  | .wakeConfig q => Sys2Proof.Machine.execWakeConfig q s
  | .updateChunk q => Sys2Proof.Machine.execUpdateChunk q s
  | .updateVerify q => Sys2Proof.Machine.execUpdateVerify q s
  | .updateActivate q => Sys2Proof.Machine.execUpdateActivate q s
  | .updateConfirm q => Sys2Proof.Machine.execUpdateConfirm q s
  | .updateStatus q => Sys2Proof.Machine.execUpdateStatus q s
  | .updateRelay q => Sys2Proof.Machine.execUpdateRelay q s
  | .settingsSave q => Sys2Proof.Machine.execSettingsSave q s
  | .lifecycleSet q => Sys2Proof.Machine.execLifecycleSet q s
  | .keyLoad q => Sys2Proof.Machine.execKeyLoad q s
  | .calRestoreFactory q => Sys2Proof.Machine.execCalRestoreFactory q s
  | .fabricKeySet q => Sys2Proof.Machine.execFabricKeySet q s
  | .forceFallback q => Sys2Proof.Machine.execForceFallback q s
  | .tamperClear q => Sys2Proof.Machine.execTamperClear q s
  | .epochBoundary => Sys2Proof.Machine.execEpochBoundary s
  | .glueSettled id => Sys2Proof.Machine.execGlueSettled id s
  | .glueTimeout id => Sys2Proof.Machine.execGlueTimeout id s
  | .claimRetry => Sys2Proof.Machine.execClaimRetry s
  | .glueRetryLimitExpiry id => Sys2Proof.Machine.execGlueRetryLimitExpiry id s
  | .makeRoomMove id => Sys2Proof.Machine.execMakeRoomMove id s
  | .segmentRelease table => Sys2Proof.Machine.execSegmentRelease table s
  | .tableDestroyDrained table => Sys2Proof.Machine.execTableDestroyDrained table s
  | .exactTableDestroyDrained table => Sys2Proof.Machine.execExactTableDestroyDrained table s
  | .arraySearchGrant => Sys2Proof.Machine.execArraySearchGrant s
  | .arraySearchResult frame role => Sys2Proof.Machine.execArraySearchResult frame role s
  | .exactSearchResult frame role => Sys2Proof.Machine.execExactSearchResult frame role s
  | .learnWindowExpiry table key => Sys2Proof.Machine.execLearnWindowExpiry table key s
  | .exactInsertSlotFreed id => Sys2Proof.Machine.execExactInsertSlotFreed id s
  | .rehashCopyDone => Sys2Proof.Machine.execRehashCopyDone s
  | .rehashOldRegionFreed => Sys2Proof.Machine.execRehashOldRegionFreed s
  | .flushWalkDone port => Sys2Proof.Machine.execFlushWalkDone port s
  | .mowerTick => Sys2Proof.Machine.execMowerTick s
  | .mowerRead => Sys2Proof.Machine.execMowerRead s
  | .mowerDelete => Sys2Proof.Machine.execMowerDelete s
  | .frameReceived port f => Sys2Proof.Machine.execFrameReceived port f s
  | .wave2Start frame => Sys2Proof.Machine.execWave2Start frame s
  | .frameDecided frame => Sys2Proof.Machine.execFrameDecided frame s
  | .resequencerRelease frame port => Sys2Proof.Machine.execResequencerRelease frame port s
  | .fixedLatencyHoldEnd frame port => Sys2Proof.Machine.execFixedLatencyHoldEnd frame port s
  | .transmissionStart port => Sys2Proof.Machine.execTransmissionStart port s
  | .transmissionEnd port => Sys2Proof.Machine.execTransmissionEnd port s
  | .frameDeadline frame => Sys2Proof.Machine.execFrameDeadline frame s
  | .pcsLinkLoss port => Sys2Proof.Machine.execPcsLinkLoss port s
  | .portDown port => Sys2Proof.Machine.execPortDown port s
  | .portUp port mbps => Sys2Proof.Machine.execPortUp port mbps s
  | .slowFrameReceived chan f => Sys2Proof.Machine.execSlowFrameReceived chan f s
  | .canBusOff chan => Sys2Proof.Machine.execCanBusOff chan s
  | .busOffRecovery chan => Sys2Proof.Machine.execBusOffRecovery chan s
  | .slowchRecover chan v => Sys2Proof.Machine.execSlowchRecover chan v s
  | .getS agent line => Sys2Proof.Machine.execGetS agent line s
  | .getM agent line glue => Sys2Proof.Machine.execGetM agent line glue s
  | .upgrade agent line glue => Sys2Proof.Machine.execUpgrade agent line glue s
  | .readNa agent line => Sys2Proof.Machine.execReadNa agent line s
  | .atomic agent line op => Sys2Proof.Machine.execAtomic agent line op s
  | .fwdS owner line requester => Sys2Proof.Machine.execFwdS owner line requester s
  | .fwdM owner line requester => Sys2Proof.Machine.execFwdM owner line requester s
  | .fwdNa owner line requester => Sys2Proof.Machine.execFwdNa owner line requester s
  | .inv agent line => Sys2Proof.Machine.execInv agent line s
  | .recall agent line => Sys2Proof.Machine.execRecall agent line s
  | .invAck agent line => Sys2Proof.Machine.execInvAck agent line s
  | .fwdDone agent line => Sys2Proof.Machine.execFwdDone agent line s
  | .fwdMiss agent line => Sys2Proof.Machine.execFwdMiss agent line s
  | .wb agent line words => Sys2Proof.Machine.execWb agent line words s
  | .nack agent line k => Sys2Proof.Machine.execNack agent line k s
  | .nackResend agent line => Sys2Proof.Machine.execNackResend agent line s
  | .err agent line => Sys2Proof.Machine.execErr agent line s
  | .data agent line state poison words => Sys2Proof.Machine.execData agent line state poison words s
  | .grant agent line poison => Sys2Proof.Machine.execGrant agent line poison s
  | .atomicRes agent line poison words colour => Sys2Proof.Machine.execAtomicRes agent line poison words colour s
  | .seniorReservationLapse line => Sys2Proof.Machine.execSeniorReservationLapse line s
  | .cohereTimeout line => Sys2Proof.Machine.execCohereTimeout line s
  | .coherePoisonClear v => Sys2Proof.Machine.execCoherePoisonClear v s
  | .readEntry v => Sys2Proof.Machine.execReadEntry v s
  | .writeEntry v => Sys2Proof.Machine.execWriteEntry v s
  | .readCounters v => Sys2Proof.Machine.execReadCounters v s
  | .clearCounters v => Sys2Proof.Machine.execClearCounters v s
  | .fabricTimeTransfer offsetNs => Sys2Proof.Machine.execFabricTimeTransfer offsetNs s
  | .fabricReport link r => Sys2Proof.Machine.execFabricReport link r s
  | .fabricDecisionReceived d => Sys2Proof.Machine.execFabricDecisionReceived d s
  | .fabricClampLimitExpiry => Sys2Proof.Machine.execFabricClampLimitExpiry s
  | .joinRequest link auth j => Sys2Proof.Machine.execJoinRequest link auth j s
  | .fabricSearchLaunch => Sys2Proof.Machine.execFabricSearchLaunch s
  | .fabricRequestAtRoot r => Sys2Proof.Machine.execFabricRequestAtRoot r s
  | .fabricSearchInstant r => Sys2Proof.Machine.execFabricSearchInstant r s
  | .fabricGrantDeadline ident => Sys2Proof.Machine.execFabricGrantDeadline ident s
  | .fabricReply link ident r => Sys2Proof.Machine.execFabricReply link ident r s
  | .fabricChildTimeout ident link => Sys2Proof.Machine.execFabricChildTimeout ident link s
  | .fabricResult ident => Sys2Proof.Machine.execFabricResult ident s
  | .heartbeatSend => Sys2Proof.Machine.execHeartbeatSend s
  | .heartbeatReceived h => Sys2Proof.Machine.execHeartbeatReceived h s
  | .heartbeatMissed => Sys2Proof.Machine.execHeartbeatMissed s
  | .mirroredOperation m => Sys2Proof.Machine.execMirroredOperation m s
  | .mirrorConfirm ref ok => Sys2Proof.Machine.execMirrorConfirm ref ok s
  | .prepare ids => Sys2Proof.Machine.execPrepare ids s
  | .ready ids => Sys2Proof.Machine.execReady ids s
  | .commit ids boundary => Sys2Proof.Machine.execCommit ids boundary s
  | .prepareRetarget => Sys2Proof.Machine.execPrepareRetarget s
  | .readyTimeout => Sys2Proof.Machine.execReadyTimeout s
  | .commitTimeout => Sys2Proof.Machine.execCommitTimeout s
  | .parting => Sys2Proof.Machine.execParting s
  | .resyncSwitchover epoch img => Sys2Proof.Machine.execResyncSwitchover epoch img s
  | .resyncAborted => Sys2Proof.Machine.execResyncAborted s
  | .ptpMessage m => Sys2Proof.Machine.execPtpMessage m s
  | .ppsInEdge => Sys2Proof.Machine.execPpsInEdge s
  | .ppsLost => Sys2Proof.Machine.execPpsLost s
  | .periodGeneratorTick gen => Sys2Proof.Machine.execPeriodGeneratorTick gen s
  | .transmitSlot pdu => Sys2Proof.Machine.execTransmitSlot pdu s
  | .pduWindowExpiry pdu => Sys2Proof.Machine.execPduWindowExpiry pdu s
  | .mapperPduOffer => Sys2Proof.Machine.execMapperPduOffer s
  | .slotCycleStart table => Sys2Proof.Machine.execSlotCycleStart table s
  | .slotEntryStart table => Sys2Proof.Machine.execSlotEntryStart table s
  | .slotSwapSwitch table => Sys2Proof.Machine.execSlotSwapSwitch table s
  | .slotCopyBackDone table => Sys2Proof.Machine.execSlotCopyBackDone table s
  | .deferredSlotWrite table => Sys2Proof.Machine.execDeferredSlotWrite table s
  | .wakeMatcherEdge chan => Sys2Proof.Machine.execWakeMatcherEdge chan s
  | .wakeMatch chan frame => Sys2Proof.Machine.execWakeMatch chan frame s
  | .presNFall => Sys2Proof.Machine.execPresNFall s
  | .presNRise cycles => Sys2Proof.Machine.execPresNRise cycles s
  | .presenceWindowExpiry => Sys2Proof.Machine.execPresenceWindowExpiry s
  | .sealClosed => Sys2Proof.Machine.execSealClosed s
  | .tamperDetected input => Sys2Proof.Machine.execTamperDetected input s
  | .keyStoreEraseDone => Sys2Proof.Machine.execKeyStoreEraseDone s
  | .scratchAccessGrant bank a b => Sys2Proof.Machine.execScratchAccessGrant bank a b s
  | .scratchHostRead v => Sys2Proof.Machine.execScratchHostRead v s
  | .scratchHostWrite v => Sys2Proof.Machine.execScratchHostWrite v s
  | .scratchHostAdd v => Sys2Proof.Machine.execScratchHostAdd v s
  | .scratchHostSwap v => Sys2Proof.Machine.execScratchHostSwap v s
  | .gleanerTernRead => Sys2Proof.Machine.execGleanerTernRead s
  | .gleanerExactRead => Sys2Proof.Machine.execGleanerExactRead s
  | .gleanerScrubRead => Sys2Proof.Machine.execGleanerScrubRead s
  | .gleanerFailureAction exact => Sys2Proof.Machine.execGleanerFailureAction exact s
  | .gleanerRepairRequest exact table key => Sys2Proof.Machine.execGleanerRepairRequest exact table key s
  | .gleanerRepairReply exact table key d => Sys2Proof.Machine.execGleanerRepairReply exact table key d s
  | .gleanerRepairTimeout exact table key => Sys2Proof.Machine.execGleanerRepairTimeout exact table key s
  | .gleanerWindowStart => Sys2Proof.Machine.execGleanerWindowStart s
  | .gleanerWindowEnd patternOk restoreOk => Sys2Proof.Machine.execGleanerWindowEnd patternOk restoreOk s
  | .urgentWindowAccess => Sys2Proof.Machine.execUrgentWindowAccess s
  | .gleanerFaultClear => Sys2Proof.Machine.execGleanerFaultClear s
  | .arbWindowRefill => Sys2Proof.Machine.execArbWindowRefill s
  | .arbLockBroken resource => Sys2Proof.Machine.execArbLockBroken resource s
  | .arbStarved master scratch => Sys2Proof.Machine.execArbStarved master scratch s
  | .starvedBitClear master scratch => Sys2Proof.Machine.execStarvedBitClear master scratch s
  | .registerWrite path addr v be => Sys2Proof.Machine.execRegisterWrite path addr v be s
  | .postedWriteLanded block => Sys2Proof.Machine.execPostedWriteLanded block s
  | .loRead path addr => Sys2Proof.Machine.execLoRead path addr s
  | .hiWrite path addr v => Sys2Proof.Machine.execHiWrite path addr v s
  | .loWrite path addr v => Sys2Proof.Machine.execLoWrite path addr v s
  | .lockViolAddrRead path => Sys2Proof.Machine.execLockViolAddrRead path s
  | .postedDropAddrRead path => Sys2Proof.Machine.execPostedDropAddrRead path s
  | .lockGroupSet path addr v => Sys2Proof.Machine.execLockGroupSet path addr v s
  | .applyStrobe v => Sys2Proof.Machine.execApplyStrobe v s
  | .applyDone => Sys2Proof.Machine.execApplyDone s
  | .applyDiscard v => Sys2Proof.Machine.execApplyDiscard v s
  | .cfgcrcCommit v => Sys2Proof.Machine.execCfgcrcCommit v s
  | .cfgcrcPassStart => Sys2Proof.Machine.execCfgcrcPassStart s
  | .cfgcrcPassEnd => Sys2Proof.Machine.execCfgcrcPassEnd s
  | .msiRearm v => Sys2Proof.Machine.execMsiRearm v s
  | .clearOrderRecord => Sys2Proof.Machine.execClearOrderRecord s
  | .clearClkRecord => Sys2Proof.Machine.execClearClkRecord s
  | .clearThermRecord => Sys2Proof.Machine.execClearThermRecord s
  | .clearVaonPorRecord => Sys2Proof.Machine.execClearVaonPorRecord s
  | .heathWakeReq => Sys2Proof.Machine.execHeathWakeReq s
  | .calRead v => Sys2Proof.Machine.execCalRead v s
  | .calWrite v => Sys2Proof.Machine.execCalWrite v s
  | .calStoreWritten ok => Sys2Proof.Machine.execCalStoreWritten ok s
  | .vaonPowerOn => Sys2Proof.Machine.execVaonPowerOn s
  | .vaonBrownout => Sys2Proof.Machine.execVaonBrownout s
  | .railChange rail level => Sys2Proof.Machine.execRailChange rail level s
  | .rstNLow ns => Sys2Proof.Machine.execRstNLow ns s
  | .rstNRise ns => Sys2Proof.Machine.execRstNRise ns s
  | .sysclkLoss => Sys2Proof.Machine.execSysclkLoss s
  | .sysclkRestored => Sys2Proof.Machine.execSysclkRestored s
  | .refclkLoss => Sys2Proof.Machine.execRefclkLoss s
  | .refclkRestored => Sys2Proof.Machine.execRefclkRestored s
  | .xtalFail => Sys2Proof.Machine.execXtalFail s
  | .tempReading t => Sys2Proof.Machine.execTempReading t s
  | .thermalTrip => Sys2Proof.Machine.execThermalTrip s
  | .thermalRestart => Sys2Proof.Machine.execThermalRestart s
  | .startSequence => Sys2Proof.Machine.execStartSequence s
  | .fwReady => Sys2Proof.Machine.execFwReady s
  | .powerEntryComplete => Sys2Proof.Machine.execPowerEntryComplete s
  | .dozeEntry => Sys2Proof.Machine.execDozeEntry s
  | .dozeExit => Sys2Proof.Machine.execDozeExit s
  | .wakeInEdge pin rising => Sys2Proof.Machine.execWakeInEdge pin rising s
  | .rtcAlarm => Sys2Proof.Machine.execRtcAlarm s
  | .laneGate lane => Sys2Proof.Machine.execLaneGate lane s
  | .laneUngateDone lane => Sys2Proof.Machine.execLaneUngateDone lane s
  | .updateRestart => Sys2Proof.Machine.execUpdateRestart s
  | .trialExpiry => Sys2Proof.Machine.execTrialExpiry s
  | .autoConfirm => Sys2Proof.Machine.execAutoConfirm s
  | .chunkWritten ok => Sys2Proof.Machine.execChunkWritten ok s
  | .updateVerifyDone => Sys2Proof.Machine.execUpdateVerifyDone s
  | .relayChunk link auth c => Sys2Proof.Machine.execRelayChunk link auth c s
  | .relayChunkDone link auth a => Sys2Proof.Machine.execRelayChunkDone link auth a s
  | .relayTargetTimeout link => Sys2Proof.Machine.execRelayTargetTimeout link s
  | .settingsApplyDone => Sys2Proof.Machine.execSettingsApplyDone s
  | .linkUp link delay => Sys2Proof.Machine.execLinkUp link delay s
  | .linkDown link => Sys2Proof.Machine.execLinkDown link s
  | .channelActive chan => Sys2Proof.Machine.execChannelActive chan s
  | .resizeClaimTimeout table => Sys2Proof.Machine.execResizeClaimTimeout table s
  | .fabricJoinTimeout => Sys2Proof.Machine.execFabricJoinTimeout s
  | .flushBucketRead port => Sys2Proof.Machine.execFlushBucketRead port s
  | .rehashEntryCopy => Sys2Proof.Machine.execRehashEntryCopy s
  | .sealOpened => Sys2Proof.Machine.execSealOpened s
  | .ppsOutEdge => Sys2Proof.Machine.execPpsOutEdge s
  | .timerOutFall => Sys2Proof.Machine.execTimerOutFall s
  | .wakeOutRelease => Sys2Proof.Machine.execWakeOutRelease s
  | .arbitrationLost chan => Sys2Proof.Machine.execArbitrationLost chan s
  | .settingsStoreWritten ok => Sys2Proof.Machine.execSettingsStoreWritten ok s
  | .lifecycleBurnDone => Sys2Proof.Machine.execLifecycleBurnDone s

end Sys2Proof.Machine
end

