-- ==== Sys2Proof/Machine/Tick.lean ====
section
/-! DEFINITION. What the device does of itself while no command waits: its clocks run, idle cores are gated, a remembered request of the action mailbox
starts, and the interrupt conditions are sampled. -/

namespace Sys2Proof.Machine

/-- One CCLK of 0.8 ns passes (R330, R331, R467). In reset or standby only the real-time counter runs.
DESIGN CHOICE: log entry 2. -/
def State.tick (s : State) : State :=
  if s.coreUp then ((if s.fwUp then s.gateCores else s).advance 1).mailboxNextRun.calNext.sampleMsi
  else
    { s with heath := { s.heath with
        rtc := (s.heath.rtc + (s.heath.rtcAcc + 32768) / secC) % 2 ^ 48
        rtcAcc := (s.heath.rtcAcc + 32768) % secC } }

/-- The idle cycle as the step answers it. -/
def idle (s : State) : Host.Outcome State Fault Refusal := finish s s.tick

end Sys2Proof.Machine
end

