-- ==== Sys2Proof/Machine/Pins.lean ====
section
/-! DEFINITION. The balls of the package: their names and places (R529 to R533), their banks and DC levels (R521, R522), what they show
outside Run (R523), and what JTAG shows (R1, R385). -/

namespace Sys2Proof.Machine

/-! ## JTAG (R1, R385) -/

/-- IDCODE: version 0x1, and the rest, which the spec does not give.
DESIGN CHOICE: log entries 195 and 214. -/
def jtagIdcode : BitVec 32 := 0x1#4 ++ Config.idcodeRest

/-- JTAG offers its private instructions, and not only the mandatory ones and IDCODE (R385). -/
def State.jtagPrivate (s : State) : Bool := s.debugOpen

/-! ## The package (R530 to R533) -/

/-- The letters of the first 19 rows. -/
def rowLetters : List String := ["A", "B", "C", "D", "E", "F", "G", "H", "J", "K", "L", "M", "N", "P", "T", "U", "V", "W", "Y"]

/-- The letters of row `r`, from 1. -/
def rowName (r : Nat) : String :=
  let i := r - 1
  (match i / 19 with | 0 => "" | 1 => "A" | _ => "B") ++ rowLetters.getD (i % 19) ""

/-- The name of the ball in row `r` and column `c` (R530). -/
def ballName (r c : Nat) : String := rowName r ++ toString c

/-- What a ball is for. `lane` is a SerDes ball: its group (0 Ethernet, 1 dovetail, 2 PCIe, 3 mitre, 4 a clock input), its lane, receive
or transmit, and N or P. `slow` is Sn_TX, Sn_RX or Sn_DE, by 0, 1 and 2. -/
inductive Ball where
  | lane (group n : Nat) (rx neg : Bool)
  | slow (n kind : Nat)
  | strap (bank : Nat)
  | named (name : String)
  | vddio2 (bank : Nat)
  | vddah
  | vdda
  | vddc
  | vss
deriving DecidableEq, Repr

/-- A pair of balls at positions 1 + 3k and 2 + 3k along a line: k, and whether it is the second. -/
def pairAt (x : Nat) : Option (Nat × Bool) :=
  if x % 3 = 1 then some (x / 3, false) else if x % 3 = 2 then some (x / 3, true) else none

/-- SerDes balls (Table 16.10): Ethernet in rows B, D, BM and BK, the rest in columns 50, 48, 2 and 4. -/
def serdesBall (r c : Nat) : Option Ball :=
  if (r = 2 ∨ r = 4 ∨ r = 50 ∨ r = 48) ∧ c < 48 then
    (pairAt c).map (fun x => .lane 0 (x.1 + (if 40 < r then 16 else 0)) (decide (r = 4 ∨ r = 48)) x.2)
  else if c = 50 ∨ c = 48 then
    (pairAt r).bind (fun x => if x.1 < 16 then some (.lane 1 x.1 (decide (c = 48)) x.2) else none)
  else if (c = 2 ∨ c = 4) ∧ 7 ≤ r then
    (pairAt r).bind (fun x =>
      let k := x.1 - 2
      if k < 8 then some (.lane 2 k (decide (c = 4)) x.2)
      else if k < 12 then some (.lane 3 (k - 8) (decide (c = 4)) x.2)
      else if k = 12 then some (.lane 4 0 (decide (c = 4)) x.2)
      else none)
  else none

/-- The host and always-on balls in columns 40 to 44 of rows H to T (R532). -/
def hostBalls : List (List String) := [
  ["RST_N", "PRES_N", "SEAL_N", "TAMP_N[0]", "TAMP_N[1]"],
  ["WAKE_IN[0]", "WAKE_IN[1]", "WAKE_IN[2]", "WAKE_IN[3]", "WAKE_OUT_N"],
  ["PWR_CORE_EN", "VDDC_RET", "PWR_IO_EN", "XTAL32K_IN", "XTAL32K_OUT"],
  ["VAON", "VAON", "VAON", "VAON", "THERM_DP"],
  ["THERM_DN", "FL_CLK", "FL_CS_N", "FL_IO[0]", "FL_IO[1]"],
  ["FL_IO[2]", "FL_IO[3]", "SPI_SCK", "SPI_CS_N", "SPI_MOSI"],
  ["SPI_MISO", "INT_N", "TCK", "TMS", "TDI"],
  ["TDO", "TRST_N", "PPS_IN", "PPS_OUT", "VDDIO1"],
  ["VDDIO1", "VDDIO1", "VDDIO1", "VDDIO1", "VDDIO1"],
  ["VDDIO1", "VDDIO1", "VDDIO1", "VDDIO1", "VDDIO1"]]

/-- The balls of R532: slow channels and straps in rows H to L and BB to BE, then the host and always-on balls and W40. -/
def signalBall (r c : Nat) : Option Ball :=
  let straps (first : Nat) : Option Ball :=
    if 8 ≤ c ∧ c < 40 then
      let k := first + (c - 8) / 8
      if c % 8 = 0 then some (.strap k) else if c % 2 = 1 then some (.vddio2 k) else none
    else none
  if 8 ≤ r ∧ r ≤ 10 ∧ 8 ≤ c ∧ c < 40 then some (.slow (c - 8) (r - 8))
  else if 41 ≤ r ∧ r ≤ 43 ∧ 8 ≤ c ∧ c < 40 then some (.slow (24 + c) (r - 41))
  else if r = 11 ∧ c < 40 then straps 0
  else if r = 40 then straps 4
  else if r = 18 ∧ c = 40 then some (.named "VDDIO1")
  else if 8 ≤ r ∧ 40 ≤ c ∧ c ≤ 44 then ((hostBalls[r - 8]?).bind (·[c - 40]?)).map .named
  else none

/-- The ball in row `r` and column `c`, each from 1 to 51 (R531 to R533). -/
def ballAt (r c : Nat) : Ball :=
  match (serdesBall r c).or (signalBall r c) with
  | some b => b
  | none =>
    let edge (x : Nat) : Nat := min (x - 1) (51 - x)
    let depth := min (edge r) (edge c)
    if depth < 5 ∨ (r + c) % 2 = 1 then .vss
    else if depth = 5 then .vddah
    else if depth = 6 then .vdda
    else .vddc

/-! ## Banks and levels (R521, R522) -/

/-- The rail that supplies a signal ball, by number: VAON, VDDIO1, or a bank of VDDIO2 (Table 16.4). -/
def Ball.supply : Ball → Option Nat
  | .slow n _ => some (5 + n / 8)
  | .strap _ => some 0
  | .named n =>
    if n = "PPS_IN" ∨ n = "PPS_OUT" then some 5
    else if (hostBalls.take 3).any (·.contains n) then some 0
    else if ((hostBalls.drop 4).flatten.filter (fun m => m != "THERM_DN" && m != "VDDIO1")).contains n then some 4
    else none
  | _ => none

/-- DC levels of Table 16.5 in mV; `volOpen` is the VOL of an open-drain output. -/
structure DcLevels where
  vih : Nat
  vil : Nat
  hysteresis : Nat
  voh : Nat
  vol : Nat
  volOpen : Nat
deriving DecidableEq, Repr

/-- The DC levels of a bank: the column that its strap has selected, at the supply that it has (R521, R522). -/
def State.dcLevels (s : State) (r : Nat) : DcLevels :=
  let mv := smGet 0 s.pwr.rails r
  if 5 ≤ r ∧ s.pwr.vio2Sel.getLsbD (r - 5) then ⟨2000, 800, 250, 2400, 400, 400⟩
  else ⟨mv * 65 / 100, mv * 35 / 100, mv / 10, mv - 450, 450, 300⟩

/-! ## What the output balls show (R54, R323, R324, R455, R523) -/

/-- What an output ball does. `follows` is a ball that its unit drives with what it sends. -/
inductive Drive where
  | unpowered
  | low
  | high
  | released
  | pulledUp
  | follows
deriving DecidableEq, Repr

/-- A level. -/
def Drive.of (b : Bool) : Drive := if b then .high else .low

/-- Sn_DE is active (R324): in the CAN modes while the channel is enabled and not in LISTEN, in the others while it sends. -/
def State.slowDe (s : State) (n : Nat) : Bool :=
  let c := s.chan n
  if c.mode = 1 ∨ c.mode = 2 then !bit c.w0 12 else s.sw.copies.any (fun x => x.port == 64 + n && x.sending)

/-- What an output ball shows; none for one that is no output. -/
def State.drive (s : State) (b : Ball) : Option Drive :=
  let idle := !s.coreUp
  let off := b.supply.any (fun r => s.rail r == .low)
  let show_ (d : Drive) : Option Drive := some (if off then .unpowered else d)
  match b with
  | .slow n 0 => show_ (if idle || (s.chan n).mode == 0 then .pulledUp else .follows)
  | .slow n 2 => show_ (if idle || (s.chan n).mode == 0 then .pulledUp else .of (s.slowDe n != bit (s.chan n).w0 14))
  | .named "PPS_OUT" => show_ (if idle then .low else .of (s.time.ppsOut || s.time.timerOut.isSome))
  | .named "TDO" => show_ (if idle then .low else .follows)
  | .named "FL_CLK" => show_ (if idle then .low else .follows)
  | .named "FL_CS_N" => show_ (if idle then .high else .follows)
  | .named "INT_N" => show_ (if idle then .released else if s.intN then .released else .low)
  | .named "SPI_MISO" => show_ .follows
  | .named "PWR_CORE_EN" => show_ (.of s.pwr.coreEn)
  | .named "VDDC_RET" => show_ (.of s.pwr.retEn)
  | .named "PWR_IO_EN" => show_ (.of s.pwr.ioEn)
  | .named "WAKE_OUT_N" => show_ (if s.heath.wakeOut.isSome then .low else .released)
  | _ => none

end Sys2Proof.Machine
end

