-- ==== Sys2Proof/Safety.lean ====
section
/-! DEFINITION. What the claims are said in: a safe step, a command that completes, a request that the device takes, and the invariant
of every step. The spec gives the device no way to stop, so a fault is never reached, and a refusal stands only for the debug
registers, whose effect the spec does not give. -/

namespace Sys2Proof.Machine

/-- A step that goes on. -/
def Safe (s : State) : Prop := ∃ t, step s = .next t

/-- The command completes in a next state of which `P` holds. -/
def Makes (i : Instr) (s : State) (P : State → Prop) : Prop := ∃ t, exec i s = .next t ∧ P t

/-- The device executes a request with this opcode now: it may run it, its length, FLAGS and TARGET are good, and no check at the target
device turns it away (R40, R61, R67, R385, R473, R508, R534). -/
def Taken (op : Nat) (q : Request) (s : State) : Prop :=
  s.mayRun q = true ∧ plenOk op q.words.length (maxWords q.stream) = true ∧ envelope (classOf op) q = 0 ∧
    s.targetChecks op q = 0

/-- No twin is formed with the partner, and no resync runs: changes are not mirrored, and none is refused as FOLLOW_SIDE. -/
def State.single (s : State) : Prop := s.twin.formed = false ∧ s.twin.resync = none

/-- The entries of a life-cycle log follow the transitions of Table 11.2 from the state `c`; an entry whose burn was cut counts for
nothing (R383, R384). SCRAPPED has a fuse of its own. -/
def lcLegal : Nat → List (Option Nat) → Bool
  | _, [] => true
  | c, none :: l => lcLegal c l
  | c, some t :: l => lcAllowed c t && t != 5 && lcLegal t l

/-- What every step keeps: the scratchpad's memory in canonical form, and a legal life-cycle log of at most 62 entries. -/
def State.Inv (s : State) : Prop :=
  Memory.wf s.scr.mem = true ∧ lcLegal 0 s.sec.log = true ∧ s.sec.log.length ≤ 62

/-- The commands that may reset the core domain, and the register accesses that may bring about one. -/
def mayReset : Instr → Bool
  | .regRead _ => true
  | .regWrite _ _ => true
  | .registerWrite _ _ _ _ => true
  | .postedWriteLanded _ => true
  | .loRead _ _ => true
  | .hiWrite _ _ _ => true
  | .loWrite _ _ _ => true
  | .lockGroupSet _ _ _ => true
  | .wakeMatch _ _ => true
  | .heathWakeReq => true
  | .vaonPowerOn => true
  | .vaonBrownout => true
  | .railChange _ _ => true
  | .rstNLow _ => true
  | .sysclkLoss => true
  | .thermalTrip => true
  | .wakeInEdge _ _ => true
  | .rtcAlarm => true
  | .presNFall => true
  | .updateRestart => true
  | _ => false

/-- The commands that may wipe (R368). -/
def mayWipe : Instr → Bool
  | .lifecycleSet _ => true
  | .tamperDetected _ => true
  | _ => false

/-- The commands that access the scratchpad: grants of its arbiters, the host access path, and the gleaner's window. -/
def accessesScratch : Instr → State → Bool
  | .scratchAccessGrant _ _ _, _ => true
  | .scratchHostRead _, _ => true
  | .scratchHostWrite _, _ => true
  | .scratchHostAdd _, _ => true
  | .scratchHostSwap _, _ => true
  | .gleanerWindowEnd _ _, _ => true
  | .urgentWindowAccess, _ => true
  | .regWrite a _, s => (s.place .spi a.toNat).any (fun x => x.1 == Reg.scratchHostCmd)
  | .registerWrite p a _ _, s => (s.place p a.toNat).any (fun x => x.1 == Reg.scratchHostCmd)
  | .hiWrite p a _, s => (s.place p a.toNat).any (fun x => x.1 == Reg.scratchHostCmd)
  | .loWrite p a _, s => (s.place p a.toNat).any (fun x => x.1 == Reg.scratchHostCmd)
  | .lockGroupSet p a _, s => (s.place p a.toNat).any (fun x => x.1 == Reg.scratchHostCmd)
  | _, _ => false

end Sys2Proof.Machine
end

