-- ==== Sys2Proof/Certificates/Slice0/Obligations.lean ====
section
/-! DEFINITION. The statements for the provers. -/

open Sys2Proof Sys2Proof.Machine

/-! ## The machine as a whole -/

/-- A step runs the command at the front of the queue. Model's choices: log entries 1, 2. -/
def Obligations.StepRunsFront : Prop :=
  (∀ (c : Instr) (rest : List Instr) (s : State), s.pending = c :: rest → step s = exec c { s with pending := rest }) ∧
  (∀ s : State, s.pending = [] → step s = .next (s.after s.tick) ∧ (s.after s.tick).pending = [])

/-- Every command completes, but for a write into an open DEBUG block. Model's choices: log entries 4, 7, 152. -/
def Obligations.EveryCommandCompletes : Prop :=
  ∀ (c : Instr) (s : State),
   (∃ t, exec c s = .next t ∧ t.pending = s.pending) ∨
   (exec c s = .refused .debugRegister ∧ s.debugOpen = true ∧
    ∃ path addr v be, (c = .regWrite addr v ∧ path = Path.spi ∨ c = .registerWrite path addr v be ∨ c = .hiWrite path addr v ∨
      c = .loWrite path addr v ∨ c = .lockGroupSet path addr v) ∧
     s.reaches path addr.toNat = true ∧ (s.place path addr.toNat).any (fun x => inDebug x.1) = true)

/-- Every step keeps the scratchpad canonical and the life-cycle log legal, and the log only grows. Model's choices: log entry 149. -/
def Obligations.StepKeepsInvariant : Prop :=
  ∀ s t : State, s.Inv → step s = .next t → t.Inv ∧ s.sec.log <+: t.sec.log

/-- The reset state meets the invariant. Model's choices: log entries 13, 17. -/
def Obligations.ResetInvariant : Prop :=
  State.reset.pending = [] ∧ State.reset.sec.log = [] ∧ State.reset.lifeCycle = 0 ∧ (∀ a, State.reset.scrByte a = 0#8) ∧
   State.reset.Inv

/-- Which commands change which bytes of the scratchpad. -/
def Obligations.ScratchpadFrame : Prop :=
  ∀ (c : Instr) (s t : State), accessesScratch c s = false → exec c s = .next t →
   (∀ a, t.scrByte a = s.scrByte a) ∨
   (mayReset c = true ∧ ∀ a, t.scrByte a = 0#8) ∨
   (mayWipe c = true ∧ ∀ a, t.scrByte a = if inSecure a then 0#8 else s.scrByte a)

/-- The life-cycle log changes only by a burn. Model's choices: log entry 149. -/
def Obligations.LifeCycleFrame : Prop :=
  ∀ (c : Instr) (s t : State), c ≠ .lifecycleBurnDone → c ≠ .startSequence → exec c s = .next t → t.sec.log = s.sec.log

/-! ## Command packets and their transports (chapter 2) -/

/-- Queue pairs: doorbells, enable, disable and reset. Model's choices: log entries 20, 21. -/
def Obligations.QueuePairsComplete : Prop :=
  ∀ (s : State) (n : Fin 16) (v : Word), s.coreUp → s.pwr.state = .run →
   ((s.pair n).run → v.toNat < 2 ^ (s.pair n).sqLog2 → Makes (.sqTailDoorbell n v) s fun t =>
    t.pair n = { s.pair n with sqTail := v.toNat } ∧ t.tern = s.tern ∧ t.glue = s.glue ∧ t.scr = s.scr) ∧
   ((s.pair n).run → 2 ^ (s.pair n).sqLog2 ≤ v.toNat → Makes (.sqTailDoorbell n v) s fun t =>
    t.pair n = { s.pair n with run := false, doorbellErr := true }) ∧
   ((s.pair n).run → v.toNat < 2 ^ (s.pair n).cqLog2 → Makes (.cqHeadDoorbell n v) s fun t =>
    t.pair n = { s.pair n with cqHead := v.toNat } ∧ t.tern = s.tern ∧ t.glue = s.glue ∧ t.scr = s.scr) ∧
   ((s.pair n).run → 2 ^ (s.pair n).cqLog2 ≤ v.toNat → Makes (.cqHeadDoorbell n v) s fun t =>
    t.pair n = { s.pair n with run := false, doorbellErr := true }) ∧
   (bit v 31 → s.rb (Reg.cmdqQCfg n) 31 = false → s.rb Reg.cmdqCtrl 0 →
    1 ≤ fld v 0 4 → fld v 0 4 ≤ 12 → 1 ≤ fld v 4 4 → fld v 4 4 ≤ 12 → Makes (.queuePairEnable n v) s fun t =>
     (t.pair n).run = true ∧ (t.pair n).doorbellErr = false ∧ (t.pair n).sqLog2 = fld v 0 4 ∧ (t.pair n).cqLog2 = fld v 4 4 ∧
     (t.pair n).sqBase = s.rd64 (Reg.cmdqQSqBaseLo n) ∧ (t.pair n).cqBase = s.rd64 (Reg.cmdqQCqBaseLo n) ∧ t.out = s.out ∧
     ((s.pair n).sqLog2 ≠ fld v 0 4 → (t.pair n).sqHead = 0 ∧ (t.pair n).sqTail = 0 ∧ (t.pair n).cqTail = 0)) ∧
   (bit v 31 = false → Makes (.queuePairDisable n v) s fun t =>
    (t.pair n).run = false ∧ (t.pair n).doorbellErr = false ∧ (t.pair n).held = (s.pair n).held ∧ t.out = s.out) ∧
   Makes (.queuePairReset n) s (fun t =>
    (t.pair n).run = false ∧ (t.pair n).stopped = true ∧ (t.pair n).sqHead = 0 ∧ (t.pair n).cqTail = 0 ∧ (t.pair n).held = [] ∧
    (t.pair n).phase = true ∧ (∀ c ∈ t.cmdq.cmds, c.q.stream = .pcie n → c.mute = true) ∧
    (∀ c ∈ s.cmdq.cmds, c.q.stream ≠ .pcie n → c ∈ t.cmdq.cmds) ∧ t.out = s.out)

/-- Submission, start and completion of a PCI Express command. Model's choices: log entry 28. -/
def Obligations.PcieCommandsComplete : Prop :=
  ∀ (s : State) (n : Fin 16), s.coreUp →
   (∀ (b p : List Byte) (e : SqEntry) (h : Header), e = SqEntry.ofBytes b → h = parsePacket (.pcie n) p → s.mayFetch n →
    16 ≤ e.reqLen.toNat → 16 ≤ p.length → packetChecks h e.reqLen.toNat = 0 → s.cmdOf h.q = none →
    Makes (.submissionFetch n b p) s fun t =>
     (t.pair n).sqHead = ((s.pair n).sqHead + 1) % 2 ^ (s.pair n).sqLog2 ∧
     t.cmdq.cmds = s.cmdq.cmds ++ [Cmd.fresh s.cmdq.nextId h.op h.q (some ⟨(s.pair n).sqHead, e.bufAddr, e.bufLen.toNat⟩) none] ∧
     t.out.fetches = s.out.fetches ++
      [((s.pair n).sqBase + 32 * (s.pair n).sqHead, 32), (e.reqAddr.toNat, e.reqLen.toNat)] ∧
     t.reg = s.reg ∧ t.evt = s.evt) ∧
   (∀ (b p : List Byte) (e : SqEntry), e = SqEntry.ofBytes b → s.mayFetch n → e.reqLen.toNat < 16 ∨ p.length < 16 →
    Makes (.submissionFetch n b p) s fun t =>
     t.cmdq.cmds = s.cmdq.cmds ∧
     t.rd Reg.cmdqMalformedCount = w32 (min 0xFFFFFFFF ((s.rd Reg.cmdqMalformedCount).toNat + 1)) ∧
     (t.pair n).held = (s.pair n).held ++ [⟨0, 0, 0x0104, some ⟨(s.pair n).sqHead, e.bufAddr, e.bufLen.toNat⟩, false, true, []⟩]) ∧
   (∀ (c : Cmd) (rest : List Cmd), s.cmdq.cmds = c :: rest → rest.all (fun d => d.id != c.id) → s.mayStart c →
    c.q.fwd = false → c.q.side = 0 → c.q.stream = .pcie n →
    (s.sealedRefused c.op = false → Makes (.commandStart c.id) s fun t =>
     t.cmdq.cmds = { c with phase := .running, side := false } :: rest ∧ t.reg = s.reg ∧ t.out = s.out) ∧
    (s.sealedRefused c.op → Makes (.commandStart c.id) s fun t =>
     t = s.after (s.reply c.op c.q 0x0401 []))) ∧
   (∀ (r : HeldReply) (rest : List HeldReply), (s.pair n).held = r :: rest → 2 ≤ (s.pair n).cqFree →
    Makes (.completionPost n) s fun t =>
     t.out.msi = s.out.msi ++ [s.rf (Reg.cmdqQCfg n) 8 6] ∧
     (t.pair n).held = rest ∧ (t.pair n).cqTail = ((s.pair n).cqTail + 1) % 2 ^ (s.pair n).cqLog2 ∧
     (r.final →
      t.rd (Reg.cmdqQDoneCount n) = w32 (min 0xFFFFFFFF ((s.rd (Reg.cmdqQDoneCount n)).toNat + 1))) ∧
     ∃ c : PostedCompletion, t.out.completions = s.out.completions ++ [c] ∧ c.tag = r.tag ∧ c.status = r.status ∧
      c.slot = (s.pair n).cqTail ∧ c.phase = (s.pair n).phase ∧ c.trunc = r.trunc ∧ c.packet = r.packet ∧
      c.addr = (s.pair n).cqBase + 16 * (s.pair n).cqTail ∧
      c.bytes = completionBytes c.tag c.status c.sqHead c.replyLen c.index c.phase c.trunc)

/-- The SPI slave and in-band streams. Model's choices: log entry 23. -/
def Obligations.SpiAndInbandComplete : Prop :=
  ∀ s : State,
   (∀ p : List Byte, s.coreUp → s.pwr.state = .run → s.cmdReady → 16 ≤ p.length →
    packetChecks (parsePacket .spi p) p.length = 0 → s.cmdOf (parsePacket .spi p).q = none → Makes (.cmdWrite p) s fun t =>
     t.cmdq.cmds = s.cmdq.cmds ++ [Cmd.fresh s.cmdq.nextId (parsePacket .spi p).op (parsePacket .spi p).q none none] ∧
     t.cmdq.spiReplies = s.cmdq.spiReplies) ∧
   (∀ p : List Byte, s.coreUp → s.pwr.state = .run → s.cmdReady = false → Makes (.cmdWrite p) s fun t =>
    t.cmdq.spiOverflow = true ∧ t.cmdq.cmds = s.cmdq.cmds ∧
    t.rd Reg.cmdqSpiOverflowCount = w32 (min 0xFFFFFFFF ((s.rd Reg.cmdqSpiOverflowCount).toNat + 1))) ∧
   (∀ p : List Byte, s.coreUp → s.pwr.state = .run → s.cmdReady → p.length < 16 → Makes (.cmdWrite p) s fun t =>
    t.cmdq = s.cmdq ∧ t.rd Reg.cmdqMalformedCount = w32 (min 0xFFFFFFFF ((s.rd Reg.cmdqMalformedCount).toNat + 1))) ∧
   (∀ (n : Nat) (r : List Byte) (rest : List (List Byte)), s.coreUp → s.cmdq.spiReplies = r :: rest →
    Makes (.replyRead n) s fun t =>
     t.out.spi = (bytesLE 2 r.length ++ r).take n ∧ t.cmdq.spiReplies = (if 2 + r.length ≤ n then rest else r :: rest) ∧
     t.reg = s.reg) ∧
   (s.spiUp → Makes .statusRead s fun t =>
    t.out.spi = [s.spiStatus] ∧ t.cmdq = { s.cmdq with spiOverflow := false } ∧ t.reg = s.reg) ∧
   (∀ (port : Fin 32) (src : BitVec 48) (vid : BitVec 12) (i : InbandStream), s.coreUp →
    s.inbandStream (.inband port src vid) = some i → s.clk.age < i.lastReq + 10 * 1250000000 → i.lastReq + 10 * 1250000000 < 2 ^ 64 →
    Makes (.inbandStreamEnd port src vid) s fun t =>
     t.inbandStream (.inband port src vid) = none ∧ t.clk.age = i.lastReq + 10 * 1250000000 ∧ t.cmdq.cmds = s.cmdq.cmds)

/-- Commands sent on to other devices. Model's choices: log entries 24, 29. -/
def Obligations.ForwardingCompletes : Prop :=
  ∀ s : State, s.coreUp →
   (∀ (l : LinkId) (c : FwdCommand), s.deafOn l →
    exec (.forwardedCommand l false c) s = .next (s.after s) ∧ exec (.forwardedCommand l true c) s = .next (s.after s)) ∧
   (∀ (l : LinkId) (c : FwdCommand), s.deafOn l = false → Makes (.forwardedCommand l false c) s fun t =>
    t.rd Reg.secFabricAuthFailCount = w32 (min 0xFFFFFFFF ((s.rd Reg.secFabricAuthFailCount).toNat + 1)) ∧ t.cmdq = s.cmdq) ∧
   (∀ (l : LinkId) (c : FwdCommand), s.deafOn l = false → s.fab.joined → c.dest = s.ownAddr → c.dest ≠ 1024 → c.src ≠ 1024 →
    s.pwr.fwReady → s.cmdq.cmds = [] → s.pwr.state = .run → s.sealedRefused c.op = false →
    c.target.toNat / 2 ^ 10 % 4 = 0 → Makes (.forwardedCommand l true c) s fun t =>
     t.cmdq.cmds = [{ Cmd.fresh s.cmdq.nextId c.op ⟨.entry c.src c.ref c.limit, c.tag, c.flags, c.target, c.words⟩ none none with
                      phase := .running }]) ∧
   (∀ (l : LinkId) (c : FwdCommand) (k : LinkId), s.deafOn l = false → s.fab.joined → c.dest ≠ s.ownAddr → c.dest ≠ 1024 → s.route c.dest = some k →
    Makes (.forwardedCommand l true c) s fun t => t.out.links = s.out.links ++ [(k, .command c)] ∧ t.cmdq = s.cmdq) ∧
   (∀ (l : LinkId) (r : FwdReply) (c : Cmd), s.deafOn l = false → s.fab.joined → r.dest = s.ownAddr → s.cmdq.cmds = [c] → c.id = r.ref →
    c.away = [false] → c.finals = 1 → c.q.stream = .spi → c.q.flags.getLsbD 0 = false → r.status = 0 →
    c.op ≠ 0 → Makes (.forwardedReply l r) s fun t =>
     t.cmdq.cmds = [] ∧
     t.cmdq.spiReplies = s.cmdq.spiReplies ++ [(replyPacket (classOf c.op) c.op c.q 0 r.side 1020 r.payload).1]) ∧
   (∀ c : Cmd, s.cmdq.cmds = [c] → c.away = [false] → c.finals = 1 → c.q.stream = .spi → c.q.flags.getLsbD 0 = false → c.op ≠ 0 →
    s.clk.age < 2 ^ 63 → c.sentAt < 2 ^ 62 → Makes (.fabricNoReply c.id) s fun t =>
     t.cmdq.cmds = [] ∧ t.cmdq.late = s.cmdq.late ++ [c.id] ∧
     t.clk.age = max s.clk.age (c.sentAt + max 1 (s.rf Reg.cmdqFwdTimeout 0 16) * 1250000) ∧
     t.cmdq.spiReplies = s.cmdq.spiReplies ++ [(replyPacket (classOf c.op) c.op c.q 0x0502 false 1020 []).1])

/-- NO_REPLY: no reply of either kind, and a failure is counted and entered as an event. R34. -/
def Obligations.NoReplyIsSilent : Prop :=
  ∀ (op : Nat) (q : Request) (s : State) (st : Nat) (ws : List Word), op ≠ 0 → op < 2 ^ 16 → st < 2 ^ 16 → q.flags.getLsbD 0 →
   s.twin.mirrors = [] →
   ((s.replyPending op q).cmdq.spiReplies = s.cmdq.spiReplies ∧ (s.replyPending op q).cmdq.pairs = s.cmdq.pairs ∧
    (s.replyPending op q).cmdq.inband = s.cmdq.inband ∧ (s.replyPending op q).sw = s.sw ∧ (s.replyPending op q).out = s.out) ∧
   ((s.reply op q st ws).cmdq.spiReplies = s.cmdq.spiReplies ∧ (∀ n, ((s.reply op q st ws).pair n).held = (s.pair n).held) ∧
    (s.reply op q st ws).cmdq.inband = s.cmdq.inband ∧ (s.reply op q st ws).sw = s.sw ∧ (s.reply op q st ws).out = s.out) ∧
   (st ≠ 0 → st ≠ 0x0401 → st ≠ 0x0402 → s.evt.q.length < 1024 →
    (s.reply op q st ws).rd Reg.cmdqNoreplyFailCount = w32 (min 0xFFFFFFFF ((s.rd Reg.cmdqNoreplyFailCount).toNat + 1)) ∧
    ∃ e, (s.reply op q st ws).evt.q = s.evt.q ++ [e] ∧ e.a = q.tag ∧ e.b = w32 (st + op * 2 ^ 16) ∧
     fld e.w0 8 8 = 0x02 ∧ fld e.w0 0 8 = 0x01)

/-- A final reply reaches its stream with the request's fields echoed. -/
def Obligations.RepliesReachTheirStream : Prop :=
  ∀ (op : Nat) (q : Request) (s : State) (st : Nat) (ws : List Word), op ≠ 0 → q.flags.getLsbD 0 = false → s.twin.mirrors = [] →
   (q.stream = .spi → (s.reply op q st ws).cmdq.spiReplies = s.cmdq.spiReplies ++
    [header 3 (classOf op) op q.tag (min 1020 ws.length)
     (q.flags.toNat % 8 + (if 1020 < ws.length then 2 ^ 13 else 0) + b2n (s.sideFlag q) * 2 ^ 14 + 2 ^ 15) q.target.toNat st ++ bytesOf (ws.take 1020)]) ∧
   (∀ n : Fin 16, q.stream = .pcie n → s.cmdOf q = none → ws.length ≤ 16380 → ((s.reply op q st ws).pair n).held = (s.pair n).held ++
    [⟨0, q.tag, st, none, false, true,
     header 3 (classOf op) op q.tag ws.length (q.flags.toNat % 8 + b2n (s.sideFlag q) * 2 ^ 14 + 2 ^ 15) q.target.toNat st ++ bytesOf ws⟩])

/-- ECHO returns its parameter words. R71. -/
def Obligations.EchoReturnsItsWords : Prop :=
  ∀ (q : Request) (s : State), s.mayRun q →
   (q.words.length ≤ maxWords q.stream → envelope 0 q = 0 →
    exec (.echo q) s = .next (s.after (s.reply Op.echo q 0 q.words))) ∧
   (q.words.length ≤ maxWords q.stream → envelope 0 q ≠ 0 →
    exec (.echo q) s = .next (s.after (s.reply Op.echo q (envelope 0 q) []))) ∧
   (maxWords q.stream < q.words.length → exec (.echo q) s = .next (s.after (s.reply Op.echo q 0x0104 [])))

/-- IDENTIFY, EVENT_POP and what the presence window opens. Model's choices: log entry 9. -/
def Obligations.GeneralCommandsComplete : Prop :=
  (∀ (q : Request) (s : State), Taken Op.identify q s →
   exec (.identify q) s = .next (s.after (s.reply Op.identify q 0 (s.identify q))) ∧ (s.identify q).length = 7 ∧
   (s.identify q).head? = some 0x00118432#32) ∧
  (∀ (q : Request) (s : State), Taken Op.eventPop q s → 1 ≤ q.f 0 0 6 → q.f 0 0 6 ≤ 32 → q.stray 0 0x3F = false →
   exec (.eventPop q) s = .next (s.after (({ s with evt := { s.evt with q := s.evt.q.drop (q.f 0 0 6) } } : State).reply Op.eventPop q 0
    (w32 (min (q.f 0 0 6) s.evt.q.length + (s.evt.q.length - q.f 0 0 6) * 2 ^ 16) ::
     (s.evt.q.take (q.f 0 0 6)).flatMap (fun (e : EvtEntry) => [e.w0, e.w1, e.a, e.b]))))) ∧
  (∀ (q : Request) (s : State), Taken Op.eventPop q s → (q.f 0 0 6 = 0 ∨ 32 < q.f 0 0 6 ∨ q.stray 0 0x3F = true) →
   exec (.eventPop q) s = .next (s.after (s.reply Op.eventPop q 0x01B0 [])))

/-- A sealed command needs the presence window. R67. -/
def Obligations.SealedNeedsPresence : Prop :=
  (∀ (q : Request) (s : State), s.mayRun q → s.cmdOf q = none → s.pwr.recovery = false → s.heath.windowEnd = none →
   s.twin.mirrors = [] → ∀ (c : Instr) (op : Nat),
    ((c = .lifecycleSet q ∧ op = Op.lifecycleSet) ∨ (c = .keyLoad q ∧ op = Op.keyLoad) ∨
     (c = .calRestoreFactory q ∧ op = Op.calRestoreFactory) ∨ (c = .fabricKeySet q ∧ op = Op.fabricKeySet) ∨
     (c = .forceFallback q ∧ op = Op.forceFallback) ∨ (c = .tamperClear q ∧ op = Op.tamperClear)) →
    plenOk op q.words.length (maxWords q.stream) → envelope 15 q = 0 →
    ∃ t, exec c s = .next t ∧
     t.rd Reg.cmdqSealedRefusedCount = (s.reply op q 0x0401 []).rd Reg.cmdqSealedRefusedCount ∧
     t.sec = s.sec ∧ t.upd = s.upd ∧ t.pwr = s.pwr ∧ t.heath = s.heath ∧ t.scr = s.scr ∧ t.cmdq = (s.reply op q 0x0401 []).cmdq) ∧
  (∀ (c : Cmd) (rest : List Cmd) (s : State), s.coreUp → s.cmdq.cmds = c :: rest → s.mayStart c → c.q.stream = .spi →
   c.q.fwd = false → c.q.side = 0 → classOf c.op = 15 → s.pwr.recovery = false → s.heath.windowEnd = none →
   exec (.commandStart c.id) s = .next (s.after (s.reply c.op c.q 0x0401 [])))

/-! ## Registers (chapter 13) -/

/-- The four views of a register. -/
def Obligations.AliasViewsWrite : Prop :=
  ∀ (s : State) (a m k : Nat) (d : Word), s.coreUp → k < 4 →
   (a, m) ∈ [(Reg.arrayCtrl, 1), (Reg.glueCtrl, 0x1FF), (Reg.exactCtrl, 0xF), (Reg.cohereCtrl, 1), (Reg.fabricCtrl, 1), (Reg.mitreCtrl, 1),
    (Reg.switchCtrl, 1), (Reg.mapperCtrl, 3), (Reg.timeCtrl, 1), (Reg.secCtrl, 1), (Reg.scratchCtrl, 1), (Reg.gleanerCtrl, 0x1F),
    (Reg.arbCtrl, 1), (Reg.updateCtrl, 0xFF01)] →
   ∀ c : Instr, (c = .regWrite (BitVec.ofNat 24 (a + 0x400 * k)) d ∨ c = .registerWrite .bar0 (BitVec.ofNat 24 (a + 0x400 * k)) d 15#4 ∨
     c = .registerWrite .firmware (BitVec.ofNat 24 (a + 0x400 * k)) d 15#4) →
    ∃ t, exec c s = .next t ∧
     t.rd a = (match k with
      | 0 => (s.rd a &&& ~~~(w32 m)) ||| (d &&& w32 m)
      | 1 => s.rd a ||| (d &&& w32 m)
      | 2 => s.rd a &&& ~~~(d &&& w32 m)
      | _ => s.rd a ^^^ (d &&& w32 m)) ∧
     (∀ b, b ≠ a → t.rd b = s.rd b) ∧ t = { s with reg := { s.reg with vals := t.reg.vals } }

/-- Register reads, partial writes and addresses outside the window. -/
def Obligations.RegisterAccesses : Prop :=
  ∀ s : State,
   (∀ (addr : BitVec 24) (a : Nat) (v : View), s.coreUp → s.place .spi addr.toNat = some (a, v) → inDebug a = false →
    slowBlock a = none → isNsec a = false → isNsec (a - 4) = false → isNsec (a - 8) = false → isLo a = false → isHi a = false →
    a ≠ Reg.lockViolAddr → a ≠ Reg.globalPostedDropAddr → a ≠ Reg.powerLanes →
    exec (.regRead addr) s = .next { s with out := { s.out with reads := s.out.reads ++ [(.spi, addr.toNat, s.regVal a)] } }) ∧
   (∀ addr : BitVec 24, s.spiUp → s.coreUp = false → ¬ (0x10000 ≤ addr.toNat ∧ addr.toNat < 0x11000) →
    exec (.regRead addr) s = .next { s with out := { s.out with reads := s.out.reads ++ [(.spi, addr.toNat, 0)] } }) ∧
   (∀ (addr : BitVec 24) (v : Word) (be : BitVec 4), s.coreUp → be ≠ 15#4 →
    (s.place .bar0 addr.toNat).any (fun x => x.1 == Reg.scratchHostCmd) = false →
    exec (.registerWrite .bar0 addr v be) s = .next (s.cnt Reg.globalBadAccessCount 1)) ∧
   (∀ (p : Path) (addr : BitVec 24) (v : Word) (be : BitVec 4), s.reaches p addr.toNat = false →
    exec (.registerWrite p addr v be) s = .next s) ∧
   (∀ (addr : BitVec 24) (v : Word), s.spiUp = false → exec (.regWrite addr v) s = .next s ∧ exec (.regRead addr) s = .next s)

/-- 64-bit values and posted writes. Model's choices: log entries 165, 169. -/
def Obligations.WideAndPostedWrites : Prop :=
  ∀ (s : State) (p : Path) (v : Word), s.coreUp → p ≠ .bar2 →
   (Makes (.loRead p (BitVec.ofNat 24 Reg.timeAgeLo)) s fun t =>
    t.out.reads = s.out.reads ++ [(p, Reg.timeAgeLo, w32 s.clk.age)] ∧ (t.pathSt p).lastLo = Reg.timeAgeLo ∧
    (t.pathSt p).shadow = (w32 (s.clk.age / 2 ^ 32)).setWidth 64 ∧ t.reg.vals = s.reg.vals ∧ t.clk = s.clk) ∧
   (Makes (.hiWrite p (BitVec.ofNat 24 Reg.scratchHostWdataHi) v) s fun t =>
    (t.pathSt p).held = v ∧ t.reg.vals = s.reg.vals ∧ t.scr = s.scr) ∧
   (Makes (.loWrite p (BitVec.ofNat 24 Reg.scratchHostWdataLo) v) s fun t =>
    t.rd Reg.scratchHostWdataLo = v ∧ t.rd Reg.scratchHostWdataHi = (s.pathSt p).held ∧ (t.pathSt p).held = 0 ∧ t.scr = s.scr ∧
    ∀ b, b ≠ Reg.scratchHostWdataLo → b ≠ Reg.scratchHostWdataHi → t.rd b = s.rd b) ∧
   (∀ k, k < 64 → smGet none s.reg.posted 0 = none → Makes (.regWrite (BitVec.ofNat 24 (Reg.heathRetain k)) v) s fun t =>
    smGet none t.reg.posted 0 = some ⟨Reg.heathRetain k, v, .spi⟩ ∧ t.reg.vals = s.reg.vals) ∧
   (∀ k, k < 64 → smGet none s.reg.posted 0 ≠ none → Makes (.regWrite (BitVec.ofNat 24 (Reg.heathRetain k)) v) s fun t =>
    t.reg.posted = s.reg.posted ∧ t.rd (Reg.heathRetain k) = s.rd (Reg.heathRetain k) ∧
    t.rd Reg.globalPostedDropCount = w32 (min 0xFFFFFFFF ((s.rd Reg.globalPostedDropCount).toNat + 1))) ∧
   (∀ k, k < 64 → smGet none s.reg.posted 0 = some ⟨Reg.heathRetain k, v, .spi⟩ → Makes (.postedWriteLanded 0) s fun t =>
    smGet none t.reg.posted 0 = none ∧ t.rd (Reg.heathRetain k) = v ∧ ∀ b, b ≠ Reg.heathRetain k → t.rd b = s.rd b)

/-- Locks: set once, never undone, and what a locked field does with a write. -/
def Obligations.LocksHold : Prop :=
  ∀ (s : State) (p : Path) (v : Word), s.coreUp → p ≠ .bar2 →
   (∀ g, g < 32 → smGet false s.reg.w1done (Reg.lockctlLock g) = false →
    Makes (.lockGroupSet p (BitVec.ofNat 24 (Reg.lockctlLock g)) v) s fun t =>
     t.groupLocked g = bit v 0 ∧ smGet false t.reg.w1done (Reg.lockctlLock g) = true ∧
     ∀ b, b ≠ Reg.lockctlLock g → t.rd b = s.rd b) ∧
   (∀ g, g < 32 → (smGet false s.reg.w1done (Reg.lockctlLock g) = true) →
    Makes (.lockGroupSet p (BitVec.ofNat 24 (Reg.lockctlLock g)) v) s fun t =>
     t.groupLocked g = s.groupLocked g ∧
     t.rd Reg.lockViolCount = w32 (min 0xFFFFFFFF ((s.rd Reg.lockViolCount).toNat + 1))) ∧
   (s.groupLocked 5 → Makes (.registerWrite p (BitVec.ofNat 24 Reg.mapperEtype) v 15#4) s fun t =>
    t.rd Reg.mapperEtype = s.rd Reg.mapperEtype ∧
    t.rd Reg.lockViolCount = w32 (min 0xFFFFFFFF ((s.rd Reg.lockViolCount).toNat + 1)) ∧
    ((bit (s.rd Reg.lockViolAddr) 31 = false ∨ s.reg.lockSeen = true) → t.rd Reg.lockViolAddr = w32 (2 ^ 31 + Reg.mapperEtype)) ∧
    ((bit (s.rd Reg.lockViolAddr) 31 = true ∧ s.reg.lockSeen = false) → t.rd Reg.lockViolAddr = s.rd Reg.lockViolAddr)) ∧
   (s.groupLocked 5 = false → Makes (.registerWrite p (BitVec.ofNat 24 Reg.mapperEtype) v 15#4) s fun t =>
    t.rd Reg.mapperEtype = (s.rd Reg.mapperEtype &&& 0xFFFF0000) ||| (v &&& 0x0000FFFF) ∧
    ∀ b, b ≠ Reg.mapperEtype → t.rd b = s.rd b) ∧
   (Makes (.lockViolAddrRead p) s fun t =>
    t.out.reads = s.out.reads ++ [(p, Reg.lockViolAddr, s.rd Reg.lockViolAddr)] ∧ t.reg.lockSeen = true ∧ t.reg.vals = s.reg.vals) ∧
   (Makes (.postedDropAddrRead p) s fun t =>
    t.out.reads = s.out.reads ++ [(p, Reg.globalPostedDropAddr, s.rd Reg.globalPostedDropAddr)] ∧ t.reg.dropSeen = true ∧
    t.reg.vals = s.reg.vals)

/-- Staged values and their apply groups. Model's choices: log entry 167. -/
def Obligations.ApplyGroups : Prop :=
  ∀ s : State, s.coreUp →
   (∀ g, g < 4 → s.reg.apply = [] → Makes (.applyStrobe (w32 (2 ^ g))) s fun t =>
    (∃ p, t.reg.apply = [p] ∧ p.groups = 2 ^ g ∧ p.values = s.reg.staged.filter (fun x => inGroups (2 ^ g) x.1) ∧
     (g ≠ 2 → p.conflict = 0)) ∧
    t.reg.staged = s.reg.staged.filter (fun x => !inGroups (2 ^ g) x.1) ∧ t.reg.vals = s.reg.vals) ∧
   (∀ v : Word, s.reg.apply = [⟨8, [(Reg.powerThermWarn, some v)], 0⟩] → s.reg.applyNext = 0 → Makes .applyDone s fun t =>
    t.rd Reg.powerThermWarn = (s.rd Reg.powerThermWarn &&& 0xFFFFFF00) ||| (v &&& 0xFF) ∧ t.reg.apply = [] ∧
    t.rd Reg.applyResult = 0x00080000 ∧
    t.rd Reg.applyCount = w32 (min 0xFFFFFFFF ((s.rd Reg.applyCount).toNat + 1)) ∧
    t.rd Reg.applyRejectCount = s.rd Reg.applyRejectCount) ∧
   (∀ (v : Word) (n : Nat), s.reg.apply = [⟨4, [(Reg.heathWakeCtrl, some v)], 0x20000 + n⟩] → n < 4 → s.reg.applyNext = 0 →
    smGet none s.reg.staged Reg.heathWakeCtrl = none → Makes .applyDone s fun t =>
     t.rd Reg.heathWakeCtrl = s.rd Reg.heathWakeCtrl ∧ smGet none t.reg.staged Reg.heathWakeCtrl = some v ∧
     t.rd Reg.applyConflictRes = w32 (0x20000 + n) ∧ t.rd Reg.applyResult = w32 (St.applyConflict + 0x40000) ∧
     t.rd Reg.applyRejectCount = w32 (min 0xFFFFFFFF ((s.rd Reg.applyRejectCount).toNat + 1)) ∧
     t.rd Reg.applyCount = s.rd Reg.applyCount) ∧
   (∀ v : Word, Makes (.applyDiscard v) s fun t =>
    t.reg.staged = s.reg.staged.filter (fun x => !inGroups (v.toNat % 2 ^ 16) x.1) ∧ t.reg.apply = s.reg.apply ∧
    t.reg.vals = s.reg.vals) ∧
   (∀ v : Word, Makes (.msiRearm v) s fun t =>
    t.out.msi = s.out.msi ++ (if bit v 31 = true ∧ nfld s.vectorsOn (fld v 0 6) 1 = 1 then [fld v 0 6] else []))

/-- The configuration CRC. Model's choices: log entry 168. -/
def Obligations.ConfigurationCrc : Prop :=
  ∀ s : State, s.coreUp →
   (∀ v : Word, bit v 0 → s.groupLocked 7 = false → Makes (.cfgcrcCommit v) s fun t =>
    t.reg.crc.commitWait = true ∧ t.reg.vals = s.reg.vals) ∧
   (∀ v : Word, bit v 0 → s.groupLocked 7 → Makes (.cfgcrcCommit v) s fun t =>
    t.reg.crc = s.reg.crc ∧ t.rd Reg.lockViolCount = w32 (min 0xFFFFFFFF ((s.rd Reg.lockViolCount).toNat + 1))) ∧
   (s.reg.crc.running = false → s.clk.age < 2 ^ 63 → s.reg.crc.lastStart + 80000 ≤ s.clk.age → Makes .cfgcrcPassStart s fun t =>
    t.reg.crc.running = true ∧ t.reg.crc.passCommits = s.reg.crc.commitWait ∧ t.clk.age % 80000 = 0 ∧ s.clk.age ≤ t.clk.age ∧
    t.clk.age < s.clk.age + 80000 ∧ t.reg.crc.lastStart = t.clk.age) ∧
   (s.reg.crc.running → s.reg.crc.startVals = s.reg.vals → s.reg.crc.passCommits → Makes .cfgcrcPassEnd s fun t =>
    t.rd Reg.cfgcrcLast = w32 s.configCrc ∧ t.rd Reg.cfgcrcRef = w32 s.configCrc ∧ t.reg.crc.running = false ∧
    t.reg.crc.mismatch = false ∧ t.reg.crc.latched = false ∧ t.evt = s.evt) ∧
   (s.reg.crc.running → s.reg.crc.startVals = s.reg.vals → s.reg.crc.passCommits = false → s.reg.crc.commitWait = false →
    bit (s.rd Reg.cfgcrcCtrl) 0 →
    Makes .cfgcrcPassEnd s fun t =>
     t.rd Reg.cfgcrcLast = w32 s.configCrc ∧ t.rd Reg.cfgcrcRef = s.rd Reg.cfgcrcRef ∧ t.reg.crc.running = false ∧
     t.reg.crc.mismatch = (w32 s.configCrc != s.rd Reg.cfgcrcRef) ∧
     t.rd Reg.cfgcrcMismatchCount = (if w32 s.configCrc = s.rd Reg.cfgcrcRef ∨ s.reg.crc.mismatch = true then s.rd Reg.cfgcrcMismatchCount
      else w32 (min 0xFFFFFFFF ((s.rd Reg.cfgcrcMismatchCount).toNat + 1))))

/-! ## Search array and ternary tables (chapters 3 and 4) -/

/-- A single-match search returns the visible matching entry of highest rank. Model's choices: log entry 32. -/
def Obligations.SearchFindsHighestRank : Prop :=
  ∀ (s : State) (d : TernDesc) (r key : Nat) (e : BitVec 3),
   let a := d.rowAt (d.partOf key) r
   let ns := (s.usedSlots d (d.partOf key) r).filter (fun n => s.entryMatches d (a n) key e)
   let rank := fun n => rankOf d.resolution (s.row (a n)).pri.toNat (s.word (a n)).index.toNat
   let tree := fun n => treeRank d.resolution (s.row (a n)).pri.toNat n
   let res := s.searchIn d r key e false 1
   (∀ n ∈ ns, s.entryOk d (a n) = true) → (∀ n ∈ ns, ∀ m ∈ ns, tree n ≤ tree m → rank n ≤ rank m) →
    (res.hits = [] ↔ ns = []) ∧ res.hits.length ≤ 1 ∧ res.degraded = false ∧ res.fallback = false ∧ res.failed = [] ∧
    ∀ h ∈ res.hits, ∃ n ∈ ns, h = d.hit (s.readBack d ⟨a n, n, 0⟩) ∧ ∀ m ∈ ns, rank n ≤ rank m

/-- SEARCH, SEARCH_NEXT, ENTRY_READ, profiles and the governor. Model's choices: log entries 30, 33. -/
def Obligations.SearchCommandsComplete : Prop :=
  (∀ (q : Request) (s : State) (d : TernDesc) (t : State) (r : SearchRes), Taken Op.search q s → q.stray 0 0xFD0F13FF = false →
   q.b 0 24 = false → (q.b 0 12 → 1 ≤ q.f 0 16 4 ∧ q.f 0 16 4 ≤ 8) → q.words.length = 1 + kwOf (q.f 0 8 2) →
   s.exNow (q.f 0 0 8) = none → s.ternNow (q.f 0 0 8) = some d → d.width = q.f 0 8 2 →
   s.lsSearch (q.f 0 0 8) d (ofWords ((q.words.drop 1).take (kwOf (q.f 0 8 2))) % 2 ^ d.bits) (q.b 0 12) (q.f 0 16 4) = some (t, r) →
   exec (.search q) s = .next (s.after (t.reply Op.search q 0
    (w32 (r.hits.length + b2n r.degraded * 16 + b2n r.fallback * 32 + t.glue.c.toNat * 2 ^ 8 + q.f 0 0 8 * 2 ^ 16) ::
     r.hits.flatMap Hit.words)))) ∧
  (∀ (q : Request) (s : State) (d : TernDesc), Taken Op.entryRead q s → s.ternCheck (q.f 0 0 8) = 0 → q.stray 0 0xFF = false →
   q.stray 1 0x1FFFFF = false → s.ternNow (q.f 0 0 8) = some d → committed (s.places d) (q.f 1 0 21) = none →
   ∃ w0, exec (.entryRead q) s = .next (s.after (s.reply Op.entryRead q 0 [w0])) ∧ bit w0 0 = false) ∧
  (∀ (q : Request) (s : State) (d : TernDesc) (x : Place), Taken Op.entryRead q s → s.ternCheck (q.f 0 0 8) = 0 → q.stray 0 0xFF = false →
   q.stray 1 0x1FFFFF = false → s.ternNow (q.f 0 0 8) = some d → committed (s.places d) (q.f 1 0 21) = some x →
   ∃ w0 e, exec (.entryRead q) s = .next (s.after (s.reply Op.entryRead q 0 ([w0, w32 (q.f 1 0 21), w32 (e.pri + e.rangeEn * 2 ^ 16),
    w32 e.action] ++ toWords (kwOf d.width) e.value ++ toWords (kwOf d.width) e.care))) ∧
    e = s.readEntry d (d.rowAt x.part (d.pickReplica (fun r => s.entryOk d (d.rowAt x.part r x.slot))) x.slot) ∧ bit w0 0 = true) ∧
  (∀ (q : Request) (s : State), Taken Op.profileWrite q s → s.single → q.stray 0 0x1FFF133F = false → q.f 0 16 8 ≠ 255 →
   q.f 0 24 5 ≤ 24 → q.words.length = 3 + q.f 0 24 5 → ((q.words.drop 3).take (q.f 0 24 5)).any (badInstr (q.f 0 8 2)) = false →
   (s.profileSt (q.f 0 0 6)).standby = none → (s.profileSt (q.f 0 0 6)).vers.length ≤ 1 →
   exec (.profileWrite q) s = .next (s.after (((s.setProfile (q.f 0 0 6) { s.profileSt (q.f 0 0 6) with
    standby := some ⟨q.f 0 8 2, q.f 0 16 8, q.f 0 12 1, BitVec.ofNat 64 ((q.w 1).toNat + 2 ^ 32 * (q.w 2).toNat),
     (q.words.drop 3).take (q.f 0 24 5)⟩ }).replyPending
    Op.profileWrite q).wait (.profile (q.f 0 0 6)) Op.profileWrite q 0 []))) ∧
  (∀ (q : Request) (s : State), Taken Op.profileRead q s → q.stray 0 0x3F = false →
   exec (.profileRead q) s = .next (s.after (s.reply Op.profileRead q 0
    ([w32 (q.f 0 0 6 + (s.profile (q.f 0 0 6) s.glue.c).width * 2 ^ 8 + (s.profile (q.f 0 0 6) s.glue.c).wave * 2 ^ 12 +
      (s.profile (q.f 0 0 6) s.glue.c).table * 2 ^ 16 + (s.profile (q.f 0 0 6) s.glue.c).instrs.length * 2 ^ 24)] ++
     toWords 2 (s.profile (q.f 0 0 6) s.glue.c).const.toNat ++ (s.profile (q.f 0 0 6) s.glue.c).instrs)))) ∧
  (∀ (q : Request) (s : State), Taken Op.governorSet q s → 32 ≤ q.f 0 0 16 → 256 ≤ q.f 1 0 18 → q.stray 0 0x8000FFFF = false →
   q.stray 1 0x3FFFF = false → s.groupLocked 2 = false → Makes (.governorSet q) s fun t =>
    t.rf Reg.arrayGovCtrl 0 16 = q.f 0 0 16 ∧ t.rb Reg.arrayGovCtrl 31 = q.b 0 31 ∧ t.rf Reg.arrayGovDepth 0 18 = q.f 1 0 18 ∧
    t.tern.govLevel = min s.tern.govLevel (q.f 1 0 18 * 1250)) ∧
  (∀ (q : Request) (s : State) (d : ExactDesc), Taken Op.searchNext q s → s.exNow (q.f 0 0 8) = some d → q.words.length = 3 →
   1 ≤ q.f 0 16 4 → q.f 0 16 4 ≤ 8 → q.f 0 8 2 < 3 → q.stray 0 0xFF0F17FF = false → q.stray 1 0x1FFFFF = false →
   (q.b 0 10 → portValid (q.f 0 24 8) = true) → q.b 0 12 → s.exm.slots = [] →
   exec (.searchNext q) s = .next (s.after (s.reply Op.searchNext q 0 [
    w32 (s.glue.c.toNat * 2 ^ 8 + q.f 0 0 8 * 2 ^ 16 + if d.log2 ≤ 10 then 64 else 0), (s.exTable (q.f 0 0 8)).gen,
    w32 (if d.log2 ≤ 10 then 0x102000 else 4 * d.base + 4096), (s.exTable (q.f 0 0 8)).descSeq])))

/-- Making, growing and destroying a ternary table. Model's choices: log entries 43, 48, 49. -/
def Obligations.TernaryTableLifeComplete : Prop :=
  (∀ (q : Request) (s : State), Taken Op.tableCreate q s → s.single → q.places = [] → 0 < q.f 0 0 8 → q.f 0 0 8 < 255 → 1 ≤ q.f 0 20 5 →
   q.f 0 20 5 ≤ 16 → q.f 0 13 2 = 0 → q.stray 0 0x01F373FF = false → q.stray 1 0x3FF = false → q.stray 2 0xFFFFF = false →
   s.tableTaken (q.f 0 0 8) = false → (q.f 0 16 2 + 1) * q.f 0 20 5 ≤ s.freeSegs.length → Makes (.tableCreate q) s fun t =>
    ∃ d : TernDesc, (t.ternTable (q.f 0 0 8)).vers = [⟨s.glue.c, some d⟩] ∧ d.width = q.f 0 8 2 ∧ d.resolution = q.f 0 12 1 ∧
     d.replicas = q.f 0 16 2 + 1 ∧ d.segs = q.f 0 20 5 ∧ d.actionBase = q.f 2 0 20 ∧
     d.sets.flatten = s.freeSegs.take ((q.f 0 16 2 + 1) * q.f 0 20 5) ∧
     (∀ n, n < 128 → (t.segment n).table = if d.sets.flatten.contains n then q.f 0 0 8 else (s.segment n).table) ∧
     (∀ n a, n ∈ d.sets.flatten → a / 16384 = n → t.row a = row0) ∧
     ∀ i, i ≠ q.f 0 0 8 → t.ternTable i = s.ternTable i) ∧
  (∀ (q : Request) (s : State) (d : TernDesc), Taken Op.tableResize q s → s.single → q.places = [] → s.ternCheck (q.f 0 0 8) = 0 →
   q.stray 0 0x1F00FF = false → q.f 0 16 5 ≤ 16 → (s.ternTable (q.f 0 0 8)).busy = .idle → s.ternNow (q.f 0 0 8) = some d →
   1 ≤ d.segs → d.segs ≤ q.f 0 16 5 → d.parts * d.replicas * q.f 0 16 5 ≤ 128 →
   d.parts * d.replicas * (q.f 0 16 5 - d.segs) ≤ s.freeSegs.length →
   Makes (.tableResize q) s fun t =>
    (∃ sets, (t.ternTable (q.f 0 0 8)).busy = .growing (q.f 0 16 5) sets) ∧
    (t.ternTable (q.f 0 0 8)).vers = (s.ternTable (q.f 0 0 8)).vers ∧ t.waits (.resize (q.f 0 0 8)) = true) ∧
  (∀ (q : Request) (s : State), Taken Op.tableDestroy q s → s.single → q.stray 0 0xFF = false → s.ternCheck (q.f 0 0 8) = 0 →
   s.tableInUse (q.f 0 0 8) = false → (∀ d, s.ternNow (q.f 0 0 8) = some d → ∀ x ∈ s.places d, s.holderOf (q.f 0 0 8) x = 0) →
   (∀ m ∈ s.glue.moves, m.table ≠ q.f 0 0 8) →
   (s.ternTable (q.f 0 0 8)).busy = .idle → Makes (.tableDestroy q) s fun t =>
    (t.ternTable (q.f 0 0 8)).busy = .destroying ∧ t.waits (.destroy (q.f 0 0 8)) = true ∧ t.tern.rows = s.tern.rows) ∧
  (∀ (n : Nat) (e : BitVec 3) (s : State), s.fwUp → (s.ternTable n).busy = .draining e → s.drainedTo e →
   Makes (.tableDestroyDrained n) s fun t =>
    t.ternTable n = ternTable0 ∧ (∀ k, (s.segment k).table = n → n ≠ 0 → (t.segment k).table = 0) ∧
    (∀ k, (∀ x ∈ s.tern.segments, x.1 = k → x.2.table ≠ n) → t.segment k = s.segment k) ∧ t.waits (.destroy n) = false) ∧
  (∀ (n : Nat) (d : TernDesc) (s : State), s.fwUp → n ≠ 0 → (s.ternTable n).busy = .releasing → s.ternNow n = some d →
   (∀ x ∈ s.tern.rows, x.2.state = .free) → Makes (.segmentRelease n) s fun t =>
    (t.ternTable n).busy = .idle ∧ (∀ k, s.segment k = ⟨n, true⟩ → t.segment k = segment0) ∧
    (∀ k, (∀ x ∈ s.tern.segments, x.1 = k → x.2.releasing = false) → t.segment k = s.segment k) ∧
    t.waits (.resize n) = false) ∧
  (∀ (n k : Nat) (sets : List (List Nat)) (t0 : Nat) (d : TernDesc) (s : State), s.fwUp →
   (s.ternTable n).busy = .shrinking k sets (some t0) → s.ternNow n = some d → t0 < 2 ^ 62 → s.clk.age < 2 ^ 63 →
   (s.places d).any (fun x => x.stands && decide (k * d.eps ≤ x.slot) && s.holderOf n x != 0 &&
    (s.glueUp (s.holderOf n x)).opener == .host) → Makes (.resizeClaimTimeout n) s fun t =>
     (t.ternTable n).busy = .idle ∧ t.clk.age = max s.clk.age (t0 + 1250000000) ∧ t.waits (.resize n) = false) ∧
  (∀ (q : Request) (s : State), Taken Op.capacityReport q s →
   (q.f 0 0 8 = 0 → exec (.capacityReport q) s = .next (s.after (s.reply Op.capacityReport q 0 s.capacityAll))) ∧
   (∀ d, q.f 0 0 8 ≠ 0 → s.ternNow (q.f 0 0 8) = some d →
    exec (.capacityReport q) s = .next (s.after (s.reply Op.capacityReport q 0 (s.capacityTern (q.f 0 0 8) d)))))


/-- ENTRY_WRITE in a named glue-up, and how an insert goes on. Model's choices: log entries 43, 45. -/
def Obligations.EntryWriteCompletes : Prop :=
  (∀ (q : Request) (s : State) (d : TernDesc) (n g p : Nat) (e : NewEntry), Taken Op.entryWrite q s → s.single → q.mirrored = false →
   s.entryPre q = 0 → q.b 0 16 = false → g = q.f 0 8 8 → g ≠ 0 → s.glueOpen? g = 0 → s.ternNow (q.f 0 0 8) = some d →
   e = entryOf d q → p = d.partOf e.value → s.indexHolder (q.f 0 0 8) e.index (s.places d) = 0 →
   committed (s.places d) e.index = none → pendingOf (s.places d) g e.index = none → s.jobFor g (q.f 0 0 8) e.index = none →
   s.isTouched g (q.f 0 0 8) e.index = false → s.placeEntry (q.f 0 0 8) d p g e [] [] = .at_ ⟨[], n⟩ →
   s.planHolder (q.f 0 0 8) p g (s.places d) ⟨[], n⟩ = none → s.slotFree (q.f 0 0 8) d p g [] n → (s.glueUp g).ops < 4096 →
   exec (.entryWrite q) s = .next (s.after ((((s.landSlot d p n (e.rows d .veneer g) (mkWord e.index e.action) false).touch g
    (q.f 0 0 8) e.index).addOps g 1).reply Op.entryWrite q 0 [1, 0]))) ∧
  (∀ (q : Request) (s : State) (d : TernDesc) (x : Place) (g : Nat), Taken Op.entryWrite q s → s.single → s.entryPre q = 0 →
   q.b 0 16 → g = q.f 0 8 8 → g ≠ 0 → s.glueOpen? g = 0 → s.ternNow (q.f 0 0 8) = some d →
   s.indexHolder (q.f 0 0 8) (q.f 1 0 21) (s.places d) = 0 → committed (s.places d) (q.f 1 0 21) = some x →
   pendingOf (s.places d) g (q.f 1 0 21) = none → s.jobFor g (q.f 0 0 8) (q.f 1 0 21) = none →
   s.isTouched g (q.f 0 0 8) (q.f 1 0 21) = false → (s.glueUp g).ops < 4096 →
   exec (.entryWrite q) s = .next (s.after ((((s.tagSlot d x.part x.slot g).touch g (q.f 0 0 8) (q.f 1 0 21)).addOps g 1).reply
    Op.entryWrite q 0 [1, 0]))) ∧
  (∀ (m : MakeRoom) (d : TernDesc) (s : State), s.fwUp → s.glue.moves.find? (fun x => x.id == m.id && !x.finished) = some m →
   s.ternNow m.table = some d → (s.glueUp m.id).st = .opened → m.moving = none → m.stuck = none → s.jobBeyond m d = false →
   m.moves = [] → s.slotFree m.table d m.part m.id m.claimed m.place → (s.glueUp m.id).ops + m.base ≤ 4096 → d.replicas = 1 →
   Makes (.makeRoomMove m.id) s fun t =>
    (∀ j, j < d.rowsPer → t.row (d.rowAt m.part 0 m.place + j) = m.entry.row j .veneer m.id) ∧
    t.word (d.rowAt m.part 0 m.place) = mkWord m.entry.index m.entry.action) ∧
  (∀ (r : RetryOp) (s : State), s.fwUp → s.glue.retryQ.find? (fun x => x.id == r.id && !x.q.mirrored) = some r →
   s.clk.age < 2 ^ 63 → r.since < 2 ^ 62 → Makes (.glueRetryLimitExpiry r.id) s fun t =>
    t.glue.retryQ = s.glue.retryQ.erase r ∧ t.clk.age = max s.clk.age (r.since + s.retryLimit) ∧
    t.rd Reg.glueRetryExpiredCount = w32 (min 0xFFFFFFFF ((s.rd Reg.glueRetryExpiredCount).toNat + 1)))

/-! ## Glue-ups and epochs (chapter 5) -/

/-- The commands on glue-ups. Model's choices: log entry 41. -/
def Obligations.GlueCommandsComplete : Prop :=
  (∀ (q : Request) (s : State), Taken Op.glueOpen q s → s.single → q.stray 0 0x00FF01FF = false → q.f 0 0 8 ≠ 0 →
   (s.glueUp (q.f 0 0 8)).st = .free → 2 ≤ s.freeIds.length → Makes (.glueOpen q) s fun t =>
    (t.glueUp (q.f 0 0 8)).st = .opened ∧ (t.glueUp (q.f 0 0 8)).age = s.glue.nextAge ∧ (t.glueUp (q.f 0 0 8)).retry = q.b 0 8 ∧
    (t.glueUp (q.f 0 0 8)).ops = 0 ∧ (t.glueUp (q.f 0 0 8)).opener = .host ∧
    (t.glueUp (q.f 0 0 8)).timeoutS = (if q.f 0 16 8 = 0 then s.defaultTimeout else q.f 0 16 8) ∧
    t.glue.nextAge = s.glue.nextAge + 1 ∧ t.glue.c = s.glue.c ∧ ∀ i, i ≠ q.f 0 0 8 → t.glueUp i = s.glueUp i) ∧
  (∀ (q : Request) (s : State) (i : Nat), Taken Op.glueClamp q s → s.single → q.words = [w32 i] → 0 < i → i < 256 → s.fabricId i = false →
   (s.glueUp i).st = .opened → (s.glueUp i).ops ≠ 0 → Makes (.glueClamp q) s fun t =>
    (t.glueUp i).st = .clamping ∧ (t.glueUp i).clampAt = s.clk.age ∧ (t.glueUp i).held = false ∧ t.waits (.clamp [i]) = true ∧
    t.glue.c = s.glue.c ∧ ∀ j, j ≠ i → t.glueUp j = s.glueUp j) ∧
  (∀ (q : Request) (s : State) (i : Nat), Taken Op.glueClamp q s → s.single → q.words = [w32 i] → 0 < i → i < 256 → s.fabricId i = false →
   (s.glueUp i).st = .opened → (s.glueUp i).ops = 0 →
   exec (.glueClamp q) s = .next (s.after ((s.freeGlue i).reply Op.glueClamp q 0 [w32 s.glue.c.toNat]))) ∧
  (∀ (q : Request) (s : State), Taken Op.glueAbort q s → s.single → q.stray 0 0xFF = false → q.f 0 0 8 ≠ 0 →
   (s.glueUp (q.f 0 0 8)).st = .opened → Makes (.glueAbort q) s fun t =>
    (t.glueUp (q.f 0 0 8)).st = .aborting ∧ (t.glueUp (q.f 0 0 8)).reason = 1 ∧ t.waits (.abort (q.f 0 0 8)) = true ∧
    t.rd Reg.glueAbortCount = w32 (min 0xFFFFFFFF ((s.rd Reg.glueAbortCount).toNat + 1)) ∧
    ∀ j, j ≠ q.f 0 0 8 → t.glueUp j = s.glueUp j) ∧
  (∀ (q : Request) (s : State), Taken Op.glueStatus q s → s.single → q.w 0 = 0 →
   exec (.glueStatus q) s = .next (s.after (s.reply Op.glueStatus q 0
    [w32 (s.glue.c.toNat + s.oldest.toNat * 2 ^ 4 + s.inflightMask * 2 ^ 8 + s.countGlue .opened * 2 ^ 16 +
     s.countGlue .clamping * 2 ^ 24), w32 s.quantum]))) ∧
  (∀ (q : Request) (s : State), Taken Op.epochConfig q s → s.single → q.stray 0 0x3FF = false → 1 ≤ q.f 0 0 10 → q.f 0 0 10 ≤ 1000 →
   s.groupLocked 3 = false → Makes (.epochConfig q) s fun t => t.quantum = q.f 0 0 10 ∧ t.glue = s.glue)

/-- Timeouts, settling and retries of glue-ups. Model's choices: log entries 56, 57. -/
def Obligations.GlueEventsComplete : Prop :=
  ∀ s : State, s.fwUp →
   (∀ i, (s.glueUp i).st = .opened → (s.glueUp i).opener = .host → s.single → s.clk.age < 2 ^ 63 → (s.glueUp i).openedAt < 2 ^ 62 →
    (s.glueUp i).timeoutS ≤ 255 → Makes (.glueTimeout i) s fun t =>
     (t.glueUp i).st = .aborting ∧ (t.glueUp i).reason = 3 ∧ (∀ j, j ≠ i → t.glueUp j = s.glueUp j) ∧
     t.clk.age = max s.clk.age ((s.glueUp i).openedAt + (s.glueUp i).timeoutS * 1250000000) ∧
     t.rd Reg.glueTimeoutCount = w32 (min 0xFFFFFFFF ((s.rd Reg.glueTimeoutCount).toNat + 1))) ∧
   (∀ i, (s.glueUp i).st = .settling → (∀ f ∈ s.sw.fills, f.id ≠ i) → s.twin.waitOps = [] → s.single → s.twin.prepared = [] →
    Makes (.glueSettled i) s fun t =>
     (t.glueUp i).st = .free ∧ (t.glueUp i).ops = 0 ∧ (∀ j, j ≠ i → t.glueUp j = s.glueUp j) ∧ t.sw.fills = s.sw.fills) ∧
   (s.glue.retryQ = [] → s.twin.waitOps = [] → s.single → s.twin.prepared = [] → Makes .claimRetry s fun t =>
    t.glue = s.glue ∧ t.tern = s.tern ∧ t.exm = s.exm ∧ t.cmdq = s.cmdq)

/-- An advance changes no row that a search in a flying epoch sees. Model's choices: log entry 37. -/
def Obligations.AdvanceKeepsSnapshots : Prop :=
  ∀ (s : State) (k : List Nat) (h : Hidden), s.inflightCount (s.glue.c + 1) = 0 →
   let y := s.cycleOf k true
   let h' := y.apply h
   let t : State := { s with glue := { s.glue with c := s.glue.c + 1 } }
   y.next = s.glue.c + 1 ∧
   (∀ e, s.inflight e → y.reclaims h = false →
    t.visible h'.st h'.birth h'.death e = s.visible h.st h.birth h.death e) ∧
   (y.reclaims h → h'.st = .free ∧ s.inflight h.death = false) ∧
   (t.visible h'.st h'.birth h'.death (s.glue.c + 1) =
    ((h.st == .live && (h.tag == 0 || !k.contains h.tag)) || (h.st == .veneer && h.tag != 0 && k.contains h.tag)))

/-- An epoch boundary: nothing, or an advance. Model's choices: log entry 39. -/
def Obligations.BoundaryCompletes : Prop :=
  ∀ s : State, s.coreUp → s.single → s.fab.joined = false → s.fab.join = none → s.fab.decision = none → s.pwr.entry = none →
   s.twin.preps = [] → s.twin.prepared = [] → s.glue.ups.all (fun x => x.2.st != .aborting) →
   (s.glue.ups.all (fun x => x.2.st != .clamping) →
    s.objectDue = false → s.anyVersWait = false → s.anyWaits (fun _ => true) = false → Makes .epochBoundary s fun t =>
     t.glue.c = s.glue.c ∧ t.glue.ups = s.glue.ups ∧ t.tern.rows = s.tern.rows ∧ t.exm.slots = s.exm.slots ∧
     t.glue.lastBoundary = s.nextBoundary) ∧
   (∀ i, (s.glueUp i).st = .clamping → (s.glueUp i).held = false → (s.glueUp i).clampAt + 250 ≤ (s.untilNs s.nextBoundary).clk.age →
    s.glue.moves = [] → s.exm.flushes = [] → s.sw.frames = [] →
    s.tern.tables.all (fun x => x.2.busy == .idle) → Makes .epochBoundary s fun t =>
     t.glue.c = s.glue.c + 1 ∧ (t.glueUp i).st = .settling ∧ (t.glueUp i).clampEpoch = s.glue.c + 1 ∧
     ∃ y : Cycle, y.next = s.glue.c + 1 ∧ y.c = s.glue.c ∧ i ∈ y.k ∧ ∀ a, t.row a = y.row (s.row a))


/-! ## Exact-match tables (chapter 6) -/

/-- Entries of exact-match tables: insert, delete, read, and an insert that waited. Model's choices: log entry 60. -/
def Obligations.ExactEntriesComplete : Prop :=
  (∀ (q : Request) (s : State) (d : ExactDesc) (p : Nat), Taken Op.exactInsert q s → s.single → s.insertPre q = 0 → q.f 0 8 8 ≠ 0 →
   s.glueOpen? (q.f 0 8 8) = 0 → s.exNow (q.f 0 0 8) = some d → s.liveAt d (keyFrom d q 2) = none →
   s.pendAt d (keyFrom d q 2) (q.f 0 8 8) = none → s.keyHolder (q.f 0 0 8) d (keyFrom d q 2) (q.f 0 8 8) = none →
   s.waitOf (q.f 0 0 8) (keyFrom d q 2) (q.f 0 8 8) = none → s.takeUnit d (keyFrom d q 2) = some p → s.exm.rehash = none → (s.glueUp (q.f 0 8 8)).ops + d.w ≤ 4096 →
   exec (.exactInsert q) s = .next (s.after (((s.writeUnit d p (keyFrom d q 2) (q.f 1 0 20) (q.b 0 16) s.exm.mower.clock .veneer
    (q.f 0 8 8)).addOps (q.f 0 8 8) d.w).reply Op.exactInsert q 0 (insertReply d.w false false p)))) ∧
  (∀ (q : Request) (s : State) (d : ExactDesc) (p : Nat), Taken Op.exactDelete q s → s.single → s.deletePre q = 0 → q.f 0 8 8 ≠ 0 →
   s.glueOpen? (q.f 0 8 8) = 0 → s.exNow (q.f 0 0 8) = some d → s.liveAt d (keyFrom d q 1) = some p → (s.slot p).tag = 0 →
   s.pendAt d (keyFrom d q 1) (q.f 0 8 8) = none → s.keyHolder (q.f 0 0 8) d (keyFrom d q 1) (q.f 0 8 8) = none →
   s.waitOf (q.f 0 0 8) (keyFrom d q 1) (q.f 0 8 8) = none → s.exm.rehash = none → (s.glueUp (q.f 0 8 8)).ops + d.w ≤ 4096 →
   exec (.exactDelete q) s = .next (s.after (((s.tagUnit d.w p (q.f 0 8 8)).addOps (q.f 0 8 8) d.w).reply Op.exactDelete q 0 []))) ∧
  (∀ (q : Request) (s : State) (d : ExactDesc), Taken Op.exactRead q s → s.exactCheck (q.f 0 0 8) = 0 → s.exNow (q.f 0 0 8) = some d →
   q.words.length = 1 + kwOf d.width → q.stray 0 0xFF = false → keyFrom d q 1 < 2 ^ (80 * d.w) →
   (s.exactSearch d (keyFrom d q 1) s.glue.c false).failing = [] →
   ((s.exactSearch d (keyFrom d q 1) s.glue.c false).hit = none →
    exec (.exactRead q) s = .next (s.after ((s.lsIssue.advance 40).reply Op.exactRead q 0 [0, 0, 0, 0]))) ∧
   (∀ p, (s.exactSearch d (keyFrom d q 1) s.glue.c false).hit = some p →
    ∃ w0, exec (.exactRead q) s = .next (s.after ((s.lsIssue.advance 40).reply Op.exactRead q 0
     [w0, w32 (s.slot p).action.toNat, w32 (s.ageTicks (s.slot p) + (s.slot p).ts.toNat * 2 ^ 16), w32 p])) ∧ bit w0 0 = true)) ∧
  (∀ (i : InsertWait) (d : ExactDesc) (p : Nat) (ps : List Nat) (s : State), s.fwUp →
   s.exm.inserts.find? (fun x => x.id == i.id && (s.insertStray x || x.slots.all (fun p => (s.slot p).state == .free))) = some i →
   s.insertStray i = false → i.slots = p :: ps →
   (s.glueUp i.id).st = .opened → (s.glueUp i.id).opener = .host → i.op = Op.exactInsert → s.exNow i.table = some d →
   s.exm.rehash = none → Makes (.exactInsertSlotFreed i.id) s fun t =>
    t.exm.inserts = s.exm.inserts.erase i ∧ (t.slot p).state = .veneer ∧ (t.slot p).tag = BitVec.ofNat 8 i.id ∧
    (t.slot p).key = BitVec.ofNat 80 i.key ∧ (t.slot p).action = BitVec.ofNat 20 i.action ∧ (t.slot p).ok = true)

/-- Making, rehashing and destroying an exact-match table. Model's choices: log entries 59, 70. -/
def Obligations.ExactTableLifeComplete : Prop :=
  (∀ (q : Request) (s : State) (b n : Nat), Taken Op.exactTableCreate q s → s.single → q.b 0 9 = false → q.words.length = 3 →
   0 < q.f 0 0 8 → q.f 0 0 8 < 255 → 10 ≤ q.f 0 16 5 → q.f 0 16 5 ≤ 18 → q.f 2 0 12 ≤ 4031 → q.stray 0 0x3F1F0FFF = false →
   q.stray 2 0x10FFF = false → s.tableTaken (q.f 0 0 8) = false → s.exm.tables.length < 64 → s.freeRegion (q.f 0 16 5) = some b →
   s.freeNs = some n →
   exec (.exactTableCreate q) s = .next (s.after ((s.setEx (q.f 0 0 8) ⟨[⟨s.glue.c, some ⟨q.f 0 8 1, q.f 0 16 5, b, q.w 1, n, q.b 0 11,
    q.f 0 24 6, q.b 0 10, q.f 2 0 12, q.b 2 16⟩⟩], 0, 0, .idle, none, none⟩).reply Op.exactTableCreate q 0 [w32 b, w32 n]))) ∧
  (∀ (q : Request) (s : State) (d : ExactDesc) (b n : Nat), Taken Op.exactRehash q s → s.single → s.exactCheck (q.f 0 0 8) = 0 →
   q.stray 0 0x1F01FF = false → (q.f 0 16 5 = 0 ∨ (10 ≤ q.f 0 16 5 ∧ q.f 0 16 5 ≤ 18)) → s.exm.rehash = none →
   s.flushing (q.f 0 0 8) = false → (s.exTable (q.f 0 0 8)).busy = .idle → s.exNow (q.f 0 0 8) = some d →
   s.freeRegion (if q.f 0 16 5 = 0 then d.log2 else q.f 0 16 5) = some b → s.freeNs = some n → s.freeIds ≠ [] →
   Makes (.exactRehash q) s fun t => ∃ seed, (q.b 0 8 → seed = q.w 1) ∧
    t.exm.rehash = some ⟨q.f 0 0 8, d, { d with log2 := if q.f 0 16 5 = 0 then d.log2 else q.f 0 16 5, base := b, seed := seed, ns := n },
     0, 0, .copying⟩ ∧ t.waits (.rehash (q.f 0 0 8)) = true ∧ t.exm.slots = s.exm.slots) ∧
  (∀ (r : Rehash) (p p' : Nat) (s : State), s.fwUp → s.exm.rehash = some r → r.phase = .copying →
   (s.exactEntries r.old).find? (fun p => decide (r.next ≤ p)) = some p →
   (s.slot p).state ≠ .free → (∀ x ∈ s.homes r.new (s.keyAt r.old.w p), (s.slot x).state = .free) →
   s.takeUnit r.new (s.keyAt r.old.w p) = some p' → r.new.width = r.old.width → r.old.width ≤ 1 →
   Makes .rehashEntryCopy s fun t =>
    t.exm.rehash = some { r with next := p + r.old.w, copied := r.copied + 1 } ∧ (t.slot p').key = (s.slot p).key ∧
    (t.slot p').action = (s.slot p).action ∧ (t.slot p').state = (s.slot p).state ∧ t.slot p = s.slot p) ∧
  (∀ (r : Rehash) (id : Nat) (s : State), s.fwUp → s.exm.rehash = some r → r.phase = .copying →
   (∀ p ∈ s.exactEntries r.old, p < r.next) → s.pickId 1 = some id → Makes .rehashCopyDone s fun t =>
    t.exm.rehash = some { r with phase := .swapping id } ∧ (t.glueUp id).st = .clamping ∧ (t.glueUp id).ops = 1) ∧
  (∀ (r : Rehash) (e : BitVec 3) (s : State), s.fwUp → s.exm.rehash = some r → r.phase = .draining e → s.drainedTo e →
   Makes .rehashOldRegionFreed s fun t =>
    t.exm.rehash = none ∧ t.waits (.rehash r.table) = false ∧ ∀ p, r.old.inRegion p → t.slot p = slot0) ∧
  (∀ (n : Nat) (e : BitVec 3) (s : State), s.fwUp → (s.exTable n).busy = .draining e → s.drainedTo e →
   Makes (.exactTableDestroyDrained n) s fun t =>
    t.exTable n = exactTable0 ∧ t.waits (.exactDestroy n) = false ∧
    ∀ d, (s.exTable n).gone = some d → ∀ p, d.inRegion p → t.slot p = slot0)

/-- Learning, flushing and the mower. Model's choices: log entries 64, 67, 68. -/
def Obligations.LearningAndMowingComplete : Prop :=
  (∀ (q : Request) (s : State), Taken Op.learnPop q s → 1 ≤ q.f 0 0 6 → q.f 0 0 6 ≤ 32 → q.stray 0 0x3F = false →
   exec (.learnPop q) s = .next (s.after (({ s with exm := { s.exm with learnQ := s.exm.learnQ.drop (q.f 0 0 6) } } : State).reply
    Op.learnPop q 0 (w32 (min (q.f 0 0 6) s.exm.learnQ.length + (s.exm.learnQ.length - q.f 0 0 6) * 2 ^ 16) ::
     (s.exm.learnQ.take (q.f 0 0 6)).flatMap LearnNote.words)))) ∧
  (∀ (r : FilterRec) (s : State), s.coreUp → s.exm.filter.find? (fun x => x.table == r.table && x.key == r.key) = some r →
   s.clk.age < 2 ^ 63 → r.at_ < 2 ^ 62 → Makes (.learnWindowExpiry r.table r.key) s fun t =>
    t.exm = { s.exm with filter := s.exm.filter.erase r } ∧
    t.clk.age = max s.clk.age (r.at_ + max 1 (s.rf Reg.exactLearnWindow 0 16) * 1250)) ∧
  (∀ (q : Request) (s : State) (d : ExactDesc), Taken Op.flushByPort q s → q.f 0 0 8 ≠ 0 → s.exactCheck (q.f 0 0 8) = 0 →
   s.exNow (q.f 0 0 8) = some d → q.stray 0 0x1FFFF = false → portValid (q.f 0 8 8) → s.flushing (q.f 0 0 8) = false →
   s.rehashing (q.f 0 0 8) = false → s.freeIds ≠ [] → Makes (.flushByPort q) s fun t =>
    t.exm.flushes = s.exm.flushes ++ [⟨q.f 0 8 8, q.b 0 16, [q.f 0 0 8], [], 0, [], [], [], 0, 0, false⟩] ∧
    t.waits (.flush (q.f 0 8 8)) = true ∧ t.exm.slots = s.exm.slots ∧ ∀ r ∈ t.exm.filter, r.port1 ≠ q.f 0 8 8) ∧
  (∀ (f : Flush) (n : Nat) (ns : List Nat) (d : ExactDesc) (s : State), s.fwUp →
   s.exm.flushes.find? (fun x => x.port == f.port && !x.ended) = some f → f.tables = n :: ns → s.exNow n = some d →
   f.next + 1 < 2 ^ d.log2 → (f.queued.map (fun e => (s.exNow e.1).elim 1 ExactDesc.w)).foldl (· + ·) 0 + 4 < 4095 →
   Makes (.flushBucketRead f.port) s fun t => ∃ f', t.exm.flushes = mapFirst (fun x => x == f) (fun _ => f') s.exm.flushes ∧
    f'.next = f.next + 1 ∧ f'.tables = f.tables ∧ t.exm.slots = s.exm.slots ∧
    ∀ e, e ∈ f'.queued ↔ e ∈ f.queued ∨ (e.1 = n ∧ e.2 ∈ bucketUnits d.w (d.base + f.next) ∧ (s.slot e.2).state = .live ∧
     (s.slot e.2).action.toNat % 256 = f.port ∧ ((s.slot e.2).learned = true ∨ f.static = true) ∧ (s.slot e.2).tag = 0)) ∧
  (∀ (f : Flush) (s : State), s.fwUp → s.exm.flushes = [f] → f.tables = [] → f.queued = [] → f.claimed = [] → f.ids = [] →
   Makes (.flushWalkDone f.port) s fun t => t.exm.flushes = [] ∧ t.exm.slots = s.exm.slots ∧ t.glue.ups = s.glue.ups) ∧
  (∀ (q : Request) (s : State), Taken Op.mowerConfig q s → s.single → q.stray 0 0x0FFF03FF = false → q.stray 1 0xFFFF = false →
   q.f 0 0 8 = 0 → q.b 0 8 → 16 ≤ q.f 1 0 16 →
   exec (.mowerConfig q) s = .next (s.after ((s.wr Reg.exactMowerTick (w32 (q.f 1 0 16))).reply Op.mowerConfig q 0
    [w32 (q.f 1 0 16), 0]))) ∧
  (∀ s : State, s.coreUp → s.rb Reg.exactCtrl 3 → Makes .mowerTick s fun t =>
   t.exm.mower.clock = s.exm.mower.clock + 1 ∧ t.exm.mower.sweep = some 0 ∧ t.exm.mower.queue = [] ∧ t.exm.slots = s.exm.slots ∧
   t.exm.mower.nextTick = s.exm.mower.nextTick + s.tickMs * 10 ^ 6) ∧
  (∀ (s : State) (k n : Nat) (d : ExactDesc), s.coreUp → s.exm.mower.sweep = some (262144 + k) → k + 1 < 8192 → d.width = 0 →
   s.ownerAt (ovfBase + k) = some (n, d) → s.exNow n = some d → (s.slot (ovfBase + k)).learned →
   (s.slot (ovfBase + k)).state = .live → (s.slot (ovfBase + k)).tag = 0 → d.ageLimit ≠ 0 →
   d.ageLimit ≤ s.ageTicks (s.slot (ovfBase + k)) → Makes .mowerRead s fun t =>
    t.exm.mower.queue = s.exm.mower.queue ++ [(n, ovfBase + k)] ∧ t.exm.mower.sweep = some (262144 + k + 1) ∧
    t.exm.slots = s.exm.slots) ∧
  (∀ (s : State) (n p id : Nat) (d : ExactDesc), s.fwUp → s.exm.mower.queue = [(n, p)] → s.exm.mower.sweep = none →
   s.exNow n = some d → d.width = 0 → s.exm.rehash = none → s.pickId 1 = some id → (s.slot p).state = .live → (s.slot p).tag = 0 →
   s.liveAt d (s.keyAt d.w p) = some p → s.keyHolder n d (s.keyAt d.w p) 0 = none → Makes .mowerDelete s fun t =>
    (t.slot p).tag = BitVec.ofNat 8 id ∧ (t.slot p).state = .live ∧ (t.glueUp id).st = .clamping ∧ t.exm.mower.queue = [] ∧
    t.exm.mower.ids = s.exm.mower.ids ++ [(id, [(n, p)])])


/-! ## Frame forwarding (chapters 3, 6, 9 and 12) -/

/-- Reception of a frame: accepted and stamped, dropped, or taken as a command. Model's choices: log entries 108, 109. -/
def Obligations.ReceptionCompletes : Prop :=
  ∀ (s u : State) (port : Fin 32) (f : EthFrame), s.coreUp → (s.ethPort port).mode ≠ 0 → (s.ethPort port).linkUp →
   (s.ethPort port).downAt ≠ some s.clk.age → s.twin.ingressHeld = false → s.pwr.entry = none → s.lifeCycle ≠ 5 →
   s.pwr.state = .run → (s.secCfg port).en = false → u = s.countFec port f →
   ((60 ≤ f.bytes.length → f.bytes.length + 4 ≤ (s.ethPort port).maxFrame → f.fcsOk → etherType f.bytes ≠ 0x8808 →
    (s.isCommandFrame port f.bytes = false → (∀ at_, u.mapperTake port f.bytes at_ = none) →
     (∃ v, u.chargeFrom (ingHolder port) (cellsOf (f.bytes.length + 4))
      (s.clk.age - (140 + rxCclk (f.bytes.length + 4) (s.ethPort port).rate)) = some v) →
     Makes (.frameReceived port f) s fun t => ∃ g ∈ t.sw.frames, g.num = s.freshFrame ∧ g.ingress = port ∧ g.epoch = s.glue.c ∧
      g.deadline = s.clk.age + s.budget ∧ g.relAt = s.clk.age + 660 ∧ g.bytes = f.bytes ∧ g.length = f.bytes.length + 4 ∧
      g.stage = .wave1 ∧ t.sw.frames.length = s.sw.frames.length + 1 ∧ t.tern.rows = s.tern.rows ∧ t.exm = s.exm) ∧
    (∀ p tag st, s.isCommandFrame port f.bytes → behindEtype 0x88B5 f.bytes = some p → half f.bytes 12 = 0x8100 →
     tag = half f.bytes 14 → 16 ≤ p.length →
     st = StreamId.inband port (BitVec.ofNat 48 (ofBytesBE ((f.bytes.drop 6).take 6))) (BitVec.ofNat 12 tag) →
     (8 ≤ s.unstarted st ∨ s.pwr.fwReady = false ∨ s.pwr.recovery → Makes (.inbandCommandFrame port f) s fun t =>
      t.rd Reg.cmdqInbandDropCount = w32 (min 0xFFFFFFFF ((s.rd Reg.cmdqInbandDropCount).toNat + 1)) ∧ t.cmdq = s.cmdq) ∧
     (s.unstarted st < 8 → s.pwr.fwReady → s.pwr.recovery = false →
      ∀ r pk, r = p.take (16 + 4 * ofBytesLE ((p.drop 8).take 2)) → pk = parsePacket st r →
      packetChecks pk r.length = 0 → s.transportCheck pk = 0 → s.streamCheck st = 0 →
      s.keptReply pk.q = none → s.cmdOf pk.q = none → Makes (.inbandCommandFrame port f) s fun t =>
       t.cmdq.cmds = s.cmdq.cmds ++ [Cmd.fresh s.cmdq.nextId pk.op pk.q none (some tag)] ∧ t.sw.frames = s.sw.frames))) ∧
   (∀ r, (f.bytes.length < 60 ∨ (s.ethPort port).maxFrame < f.bytes.length + 4 ∨ f.fcsOk = false ∨ etherType f.bytes = 0x8808) →
    r = (if f.bytes.length < 60 then 2 else if (s.ethPort port).maxFrame < f.bytes.length + 4 then 3
     else if f.fcsOk = false then 1 else 4) →
    exec (.frameReceived port f) s = .next (s.after (u.drop port r))))

/-- Searches of frames: grant, result, wave 2 and the decision. Model's choices: log entries 35, 154. -/
def Obligations.LanesComplete : Prop :=
  ∀ s : State, s.coreUp →
   (∀ (x : Search) (b : Bid), s.tern.searches = [x] → x.lane < 8 → x.exact = false → x.phase = .waiting → s.govOn = false →
    s.bid x = some b → b.free ≤ s.clk.age → s.tern.rewriteAt ≠ some s.clk.age → x.issued ≤ s.clk.age →
    s.blockLocked b.blocks b.letter = false → s.wanted x → s.clk.age < 2 ^ 63 →
    Makes .arraySearchGrant s fun t => ∃ y, t.tern.searches = [y] ∧ y.phase = .granted ∧ y.at_ = s.clk.age ∧ y.frame = x.frame ∧
     y.role = x.role ∧ y.picks = s.picksIn b.desc b.replica x.key.toNat x.epoch false ∧ y.res = none ∧ t.tern.rows = s.tern.rows) ∧
   (∀ (x : Search) (f : Frame) (r : SearchRes), s.tern.searches = [x] → x.lane < 8 → x.exact = false → x.phase = .granted → x.role < 5 →
    s.frame x.frame = some f → f.results.length = 5 → r = x.res.getD (s.resultOf x) → r.failed = [] → r.flags = [] →
    s.clk.age < 2 ^ 63 → x.at_ < 2 ^ 62 →
    Makes (.arraySearchResult x.frame x.role) s fun t => t.tern.searches = [] ∧ t.clk.age = max s.clk.age (x.at_ + 40) ∧
     ∃ g, t.frame x.frame = some g ∧ g.results[x.role]? = some ⟨false, !r.hits.isEmpty, (r.hits.head?).elim 0 (·.action)⟩ ∧
      g.stage = f.stage ∧ g.epoch = f.epoch) ∧
   (∀ (x : Search) (f : Frame) (d : ExactDesc), s.tern.searches = [x] → x.lane < 8 → x.exact → x.role < 5 →
    s.frame x.frame = some f → f.results.length = 5 → s.exDesc x.table x.epoch = some d → d.learnEn = false →
    (s.exactSearch d x.key.toNat x.epoch true).failing = [] → s.clk.age < 2 ^ 63 → x.at_ < 2 ^ 62 →
    Makes (.exactSearchResult x.frame x.role) s fun t => t.tern.searches = [] ∧ t.exm = s.exm ∧
     ∃ g, t.frame x.frame = some g ∧ g.results[x.role]? = some ⟨false, (s.exactSearch d x.key.toNat x.epoch true).hit.isSome,
      (s.exactSearch d x.key.toNat x.epoch true).action⟩) ∧
   (∀ (n : Nat) (f : Frame), s.frame n = some f → f.stage = .wave1 → s.overdue f = false → f.settled → (∀ r, r < 3 → f.actionOf r = none) →
    (∀ r, r = 3 ∨ r = 4 → f.roles.profile r = none) → Makes (.wave2Start n) s fun t =>
     ∃ g, t.frame n = some g ∧ g.stage = .wave2 ∧ g.results = f.results ∧ t.tern = s.tern ∧ t.coh = s.coh) ∧
   (∀ (n : Nat) (f : Frame), s.frame n = some f → f.stage = .wave2 → s.overdue f = false → f.settled → (∀ r, f.actionOf r = none) →
    (∀ e ∈ f.entries, e = none) → f.actionErr = false → f.kind = 0 → Makes (.frameDecided n) s fun t =>
     t.frame n = none ∧ t.sw.copies = s.sw.copies ∧
     t.rd (portBase f.ingress + 0x140 + 4 * 9) = w32 (min 0xFFFFFFFF ((s.rd (portBase f.ingress + 0x140 + 4 * 9)).toNat + 1))) ∧
   (∀ (n : Nat) (f : Frame), s.frame n = some f → s.overdue f →
    (f.stage = .wave1 → exec (.wave2Start n) s = .next (s.after (s.lateFrame f))) ∧
    (f.stage = .wave2 → exec (.frameDecided n) s = .next (s.after (s.lateFrame f))))

/-- Copies in the egress queues: release, hold, start, end and lateness. Model's choices: log entry 111. -/
def Obligations.EgressCompletes : Prop :=
  ∀ (s : State) (c : Copy), s.coreUp →
   (s.copyAt c.frame c.port = some c → c.released = false → s.pastHorizon c →
    exec (.resequencerRelease c.frame c.port) s = .next (s.after ((s.releases c).foldl State.releaseCopy s)) ∧
    (s.releases c = [c] → c.port < 64 → (s.ethPort c.port).lat → Makes (.resequencerRelease c.frame c.port) s fun t =>
     t.sw.copies = s.sw.copies.erase c ++ [{ c with released := true, eligible := true }] ∧ t.sw.frames = s.sw.frames)) ∧
   (s.copyAt c.frame c.port = some c → c.released → c.eligible = false → s.clk.age < 2 ^ 63 → c.relAt < 2 ^ 62 →
    Makes (.fixedLatencyHoldEnd c.frame c.port) s fun t =>
     t.clk.age = max s.clk.age c.relAt ∧ t.copyAt c.frame c.port = some { c with eligible := true }) ∧
   (s.sw.copies = [c] → c.port < 64 → c.queue < 8 → c.released → c.eligible → c.sending = false → c.session = 0 →
    s.mayTransmit c.port → c.deadline.any (· ≤ s.clk.age) = false → s.gateOpen c.port c.queue (s.copyNs c) → (s.secCfg c.port).en = false →
    Makes (.transmissionStart c.port) s fun t =>
     t.sw.copies = [{ c with sending := true, wire := c.bytes }] ∧ t.sw.frames = s.sw.frames) ∧
   (s.sw.copies.find? (fun x => x.port == c.port && x.sending) = some c → s.inHold c.port = false → c.pdu = none → c.frame = 0 → s.frame 0 = none →
    Makes (.transmissionEnd c.port) s fun t =>
     t.sw.copies = s.sw.copies.erase c ∧ t.out.frames = s.out.frames ++ [(c.port, c.wire)] ∧
     (t.sw.holders = (s.uncharge (queueHolder c.port c.queue) c.cells).sw.holders)) ∧
   (∀ f, s.frame f.num = some f → f.stage ≠ .decided → s.clk.age < 2 ^ 63 → f.deadline < 2 ^ 62 → Makes (.frameDeadline f.num) s fun t =>
    t.frame f.num = none ∧ t.sw.copies = s.sw.copies ∧ t.clk.age = max s.clk.age f.deadline ∧
    t.rd Reg.switchLateDropCount = w32 (min 0xFFFFFFFF ((s.rd Reg.switchLateDropCount).toNat + 1))) ∧
   (∀ n, s.sw.copies.find? (fun x => x.pdu == some n && !x.sending) = some c → s.frame c.frame = none → s.clk.age < 2 ^ 63 →
    (∀ d, c.deadline = some d → d < 2 ^ 62) → Makes (.pduWindowExpiry n) s fun t =>
     t.sw.copies = s.sw.copies.erase c ∧ t.clk.age = max s.clk.age (c.deadline.getD 0)) ∧
   (∀ n, s.sw.copies.find? (fun x => x.port == 64 + n && x.sending) = some c → ((s.chan n).mode = 1 ∨ (s.chan n).mode = 2) →
    Makes (.arbitrationLost n) s fun t =>
     t.sw.copies = mapFirst (· == c) (fun _ => { c with sending := false, wire := [] }) s.sw.copies ∧
     t.rd (Reg.slowchArbLostCount n) = w32 (min 0xFFFFFFFF ((s.rd (Reg.slowchArbLostCount n)).toNat + 1)))

/-- Ports down and up, and the arbiter's windows, locks and starvation. Model's choices: log entries 3, 153, 156. -/
def Obligations.PortsAndArbitersComplete : Prop :=
  ∀ s : State, s.coreUp →
   (∀ p : Fin 32, (s.ethPort p).linkUp → (s.ethPort p).lossSince = none → Makes (.pcsLinkLoss p) s fun t =>
    (t.ethPort p).lossSince = some s.clk.age ∧ (t.ethPort p).linkUp = true ∧ t.sw.copies = s.sw.copies) ∧
   (∀ (p : Fin 32) (a : Nat), (s.ethPort p).lossSince = some a → s.sw.copies.all (fun c => c.port != p) → s.clk.age < 2 ^ 63 →
    a < 2 ^ 62 → Makes (.portDown p) s fun t =>
     (t.ethPort p).linkUp = false ∧ (t.ethPort p).lossSince = none ∧ t.clk.age = max s.clk.age (a + s.linkHold p) ∧
     t.sw.copies = s.sw.copies) ∧
   (∀ (p : Fin 32) (m : Nat), (s.ethPort p).mode ≠ 0 → s.pwr.refclkLost = false → s.lifeCycle ≠ 5 → Makes (.portUp p m) s fun t =>
    (t.ethPort p).linkUp = true ∧ (t.ethPort p).lossSince = none ∧ (t.ethPort p).mode = (s.ethPort p).mode ∧
    t.sw.frames = s.sw.frames) ∧
   (s.clk.age < 2 ^ 62 → s.arb.arrayRefill ≤ s.clk.age → s.arb.scratchRefill ≤ s.clk.age → Makes .arbWindowRefill s fun t =>
    (s.arb.arrayRefill + windowOf (s.rd Reg.arbArrayWindow) ≤ s.arb.scratchRefill + ceilDiv (windowOf (s.rd Reg.arbScratchWindow) * 25) 16 →
     ∀ n, n < 9 → t.credit 0 n = weightOf (s.rd (Reg.arbArrayReq n))) ∧ s.clk.age ≤ t.clk.age ∧ t.tern.searches = s.tern.searches) ∧
   (∀ k, s.arb.locks = [k] → 4096 ≤ k.resource → s.lockTimeout 8 < k.left + k.held → s.clk.age < 2 ^ 63 →
    Makes (.arbLockBroken k.resource) s fun t => t.arb.locks = [] ∧
     t.clk.age = s.clk.age + ceilDiv ((s.lockTimeout 8 - k.held) * 25) 16 ∧ t.rd Reg.arbLockBreakCount = w32 (min 0xFFFFFFFF ((s.rd Reg.arbLockBreakCount).toNat + 1))) ∧
   (∀ x : Search, s.tern.searches = [x] → x.exact = false → x.phase ≠ .granted → x.starved = false → s.clk.age < 2 ^ 62 →
    x.issued ≤ s.clk.age → Makes (.arbStarved x.lane false) s fun t =>
     t.tern.searches = [{ x with starved := true }] ∧
     t.rd Reg.arbStarveCount = w32 (min 0xFFFFFFFF ((s.rd Reg.arbStarveCount).toNat + 1))) ∧
   (∀ n, s.tern.searches = [] → smGet 0 s.arb.starvedAt n ≠ 0 → smGet 0 s.arb.starvedAt n ≤ 2 ^ 62 → s.clk.age < 2 ^ 63 →
    Makes (.starvedBitClear n false) s fun t => smGet 0 t.arb.starvedAt n = 0 ∧
     t.clk.age = max s.clk.age (smGet 0 s.arb.starvedAt n - 1 + 1250000))

/-- The commands of the switch. Model's choices: log entries 118, 119. -/
def Obligations.SwitchCommandsComplete : Prop :=
  (∀ (q : Request) (s : State), Taken Op.portConfig q s → q.stray 0 0x000F171F = false → q.f 0 8 3 ≤ 6 → q.stray 1 0x3FFF = false →
   64 ≤ q.f 1 0 14 → q.f 1 0 14 ≤ 9216 → q.roleSet.stray = false → s.roleWave q.roleSet = false →
   q.f 0 8 3 = (s.ethPort (q.f 0 0 5)).mode →
   exec (.portConfig q) s = .next (s.after ((s.setEth (q.f 0 0 5) { s.ethPort (q.f 0 0 5) with
    mode := q.f 0 8 3, lat := q.b 0 12, defTc := q.f 0 16 3, trustPcp := q.b 0 19, maxFrame := q.f 1 0 14, portUser := q.w 2
    roles := q.roleSet }).reply Op.portConfig q 0 []))) ∧
  (∀ (q : Request) (s : State) (h : HolderSet), Taken Op.queueConfig q s → q.holderSets = [h] → h.bad = false →
   (s.setLimits h).sumMin ≤ 98304 → Makes (.queueConfig q) s fun t =>
    (t.holder h.holder).min = h.min ∧ (t.holder h.holder).quota = h.quota ∧
    (q.stream = .spi → (t.holder h.holder).used = (s.holder h.holder).used ∧ ∀ k, k ≠ h.holder → t.holder k = s.holder k)) ∧
  (∀ (q : Request) (s : State), Taken Op.policerWrite q s → s.single → s.policerPre q = 0 → q.f 0 8 8 ≠ 0 →
   s.glueOpen? (q.f 0 8 8) = 0 → (s.policer (q.f 1 0 16)).pend = none → (s.glueUp (q.f 0 8 8)).ops < 4096 →
   exec (.policerWrite q) s = .next (s.after (((s.setPolicer (q.f 1 0 16) { s.policer (q.f 1 0 16) with
    pend := some (q.f 0 8 8, q.policer, q.b 0 18) }).addOps (q.f 0 8 8) 1).reply Op.policerWrite q 0 []))) ∧
  (∀ (q : Request) (s : State), Taken Op.mcastGroupWrite q s → s.single → q.stray 0 0x3FF00 = false → q.stray 1 0xFFF = false →
   q.f 0 8 8 ≠ 0 → s.glueOpen? (q.f 0 8 8) = 0 → (s.groupVers (q.f 1 0 12)).pend = none → (s.glueUp (q.f 0 8 8)).ops < 4096 →
   exec (.mcastGroupWrite q) s = .next (s.after (((s.setGroup (q.f 1 0 12) { s.groupVers (q.f 1 0 12) with
    pend := some (q.f 0 8 8, ⟨q.w 2, q.w 3, q.w 4, q.b 0 16, q.b 0 17⟩, false) }).addOps (q.f 0 8 8) 1).reply
    Op.mcastGroupWrite q 0 []))) ∧
  (∀ (q : Request) (s u : State) (ws : List DWord) (c : Nat), Taken Op.policerRead q s → q.stray 0 0x1FFFF = false →
   q.f 0 0 16 < s.coh.ctrLines → q.b 0 16 = false → s.atomicBy 8 (s.coh.ctrBase + q.f 0 0 16) .readLine = (u, some (ws, c)) →
   exec (.policerRead q) s = .next (s.after (u.reply Op.policerRead q 0
    ((u.policerAt (q.f 0 0 16) u.glue.c).words (q.f 0 0 16) ++ ws.flatMap (fun d => toWords 2 d.toNat))))) ∧
  (∀ (q : Request) (s : State), Taken Op.frameBudgetSet q s → q.stray 0 0x3FF = false → 2 ≤ q.f 0 0 10 → q.f 0 0 10 ≤ 1000 →
   Makes (.frameBudgetSet q) s fun t => t.budget = q.f 0 0 10 * 1250) ∧
  (∀ (q : Request) (s : State), Taken Op.portStats q s → q.stray 0 0x1FF = false → portValid (q.f 0 0 8) →
   exec (.portStats q) s = .next (s.after ((if q.b 0 8 then s.clearStats (q.f 0 0 8) else s).reply Op.portStats q 0
    (s.portWords (q.f 0 0 8)))))


/-! ## Slow channels, signals, device time and slot tables (chapter 10) -/

/-- Slow channels: configuration, bus state, reception and the wake patterns. Model's choices: log entries 134, 135. -/
def Obligations.SlowChannelsComplete : Prop :=
  (∀ (q : Request) (s : State), Taken Op.channelConfig q s → q.stray 0 0x0F0F773F = false → q.f 0 8 3 ≤ 4 →
   (q.f 0 8 3 = 4 → 2 ≤ q.f 0 24 4) → q.roleSet.stray = false → q.stray 11 0x03FF03FF = false → q.stray 12 0xFFFF = false →
   q.stray 14 0xFFFF = false → q.ratesOk → s.roleWave q.roleSet = false →
   (s.designated (q.f 0 0 6) → q.f 0 8 3 = 1 ∨ q.f 0 8 3 = 2) →
   (q.f 0 8 3 = (s.chan (q.f 0 0 6)).mode → (q.w 1).toNat = (s.chan (q.f 0 0 6)).nomRate → (q.w 2).toNat = (s.chan (q.f 0 0 6)).dataRate →
    bit (q.w 0) 12 = bit (s.chan (q.f 0 0 6)).w0 12 →
    exec (.channelConfig q) s = .next (s.after ((s.setChan (q.f 0 0 6) (q.channel (s.chan (q.f 0 0 6)))).reply
     Op.channelConfig q 0 []))) ∧
   (q.f 0 8 3 ≠ (s.chan (q.f 0 0 6)).mode → s.mapper.pdus = [] →
    ∃ u : State, exec (.channelConfig q) s = .next (s.after (u.reply Op.channelConfig q 0 [])) ∧
     u.chan (q.f 0 0 6) = { q.channel (s.chan (q.f 0 0 6)) with
      active := false, busOff := false, recessive := false, recover := false, tec := 0, rec_ := 0 } ∧
     u.sw.copies.all (fun c => c.port != 64 + q.f 0 0 6) = true)) ∧
  (∀ (q : Request) (s : State), Taken Op.wakePatternWrite q s → q.stray 0 0x7F7F7F7F = false →
   (q.desigs.filter (· != 0x7F)).all (fun d => decide (d < 64) && [125000, 250000, 500000].contains (s.chan d).nomRate &&
    ((s.chan d).mode == 1 || (s.chan d).mode == 2)) →
   (q.desigs.filter (· != 0x7F)).eraseDups.length = (q.desigs.filter (· != 0x7F)).length →
   (q.patterns.map (fun p => fld (wd p 0) 0 4)).eraseDups.length = q.patterns.length → q.patterns.any patternStray = false →
   ∃ u : State, exec (.wakePatternWrite q) s = .next (s.after (u.reply Op.wakePatternWrite q 0 [])) ∧ u.heath.desig = q.desigs ∧
    ∀ p, q.patterns = [p] → smGet [] u.heath.patterns (fld (wd p 0) 0 4) = p ∧
     ∀ i, i ≠ fld (wd p 0) 0 4 → smGet [] u.heath.patterns i = smGet [] s.heath.patterns i) ∧
  (∀ (n : Nat) (s : State), s.coreUp → n < 64 →
   ((s.chan n).mode ≠ 0 → (s.chan n).active = false → (s.chan n).busOff = false → s.lifeCycle ≠ 5 → Makes (.channelActive n) s fun t =>
    t.chan n = { s.chan n with active := true, recessive := false, recover := false } ∧ t.sw = s.sw) ∧
   ((s.chan n).active → ((s.chan n).mode = 1 ∨ (s.chan n).mode = 2) → Makes (.canBusOff n) s fun t =>
    (t.chan n).busOff = true ∧ (t.chan n).active = false ∧ 256 ≤ (t.chan n).tec ∧ (t.chan n).w0 = (s.chan n).w0 ∧
    t.sw.copies.all (fun c => c.port != 64 + n) = true ∧ (s.sw.copies = [] →
     t.rd (Reg.slowchBusoffCount n) = w32 (min 0xFFFFFFFF ((s.rd (Reg.slowchBusoffCount n)).toNat + 1)))) ∧
   ((s.chan n).busOff → Makes (.busOffRecovery n) s fun t =>
    if bit (s.chan n).w0 13 = true ∧ (s.chan n).recover = false then t.chan n = { s.chan n with recessive := true }
    else t.chan n = { s.chan n with active := true, busOff := false, recessive := false, recover := false, tec := 0, rec_ := 0 }) ∧
   (∀ (k : Fin 64) (v : Word), k.val = n → bit v 0 → (s.chan n).busOff → Makes (.slowchRecover k v) s fun t =>
    if (s.chan n).recessive = true
    then t.chan n = { s.chan n with active := true, busOff := false, recessive := false, recover := false, tec := 0, rec_ := 0 }
    else t.chan n = { s.chan n with recover := true }) ∧
   (∀ f : SlowFrame, (s.chan n).active → kindFits (s.chan n).mode (frameKind f.chanId.toNat) →
    s.twin.ingressHeld = false → s.pwr.entry = none → s.lifeCycle ≠ 5 → s.pwr.state = .run →
    (frameKind f.chanId.toNat = 0 → f.remote → f.good → Makes (.slowFrameReceived n f) s fun t => t.sw = s.sw ∧
     t.rd (Reg.slowchRemoteCount n) = w32 (min 0xFFFFFFFF ((s.rd (Reg.slowchRemoteCount n)).toNat + 1))) ∧
    ((frameKind f.chanId.toNat = 3 → f.runt = false) → (frameKind f.chanId.toNat = 4 → f.data ≠ []) →
    f.data.length ≤ kindMax (s.chan n).mode (frameKind f.chanId.toNat) →
    (f.good = false → Makes (.slowFrameReceived n f) s fun t => t.sw = s.sw ∧
     t.rd (Reg.slowchRxErrCount n) = w32 (min 0xFFFFFFFF ((s.rd (Reg.slowchRxErrCount n)).toNat + 1)) ∧
     t.rd (portBase (64 + n) + 0x140) = w32 (min 0xFFFFFFFF ((s.rd (portBase (64 + n) + 0x140)).toNat + 1))) ∧
    ((frameKind f.chanId.toNat = 0 → f.remote = false) → f.good → (s.secCfg (64 + n)).en = false →
     (s.chargeFrom (ingHolder (64 + n)) (cellsOf (16 + f.data.length)) (s.clk.age - ceilDiv ((s.chan n).wireNs (slowImage
      f.chanId.toNat f.data f.flags (if frameKind f.chanId.toNat = 2 then f.af.toNat else 0) 0) * 5) 4)).isSome → Makes (.slowFrameReceived n f) s fun t =>
      t.sw.frames.length = s.sw.frames.length + 1 ∧ ∃ g ∈ t.sw.frames, g.num = s.freshFrame ∧ g.ingress = 64 + n ∧
       g.kind = kindOf (frameKind f.chanId.toNat) ∧ g.length = 16 + f.data.length ∧ g.epoch = s.glue.c ∧ g.stage = .wave1 ∧
       imageId g.bytes = f.chanId.toNat ∧ imageData g.bytes = f.data ∧ g.deadline = s.clk.age + s.budget))))

/-- The signal mapper: routes, values and transmit slots. Model's choices: log entries 123, 124, 126. -/
def Obligations.MapperComplete : Prop :=
  (∀ (q : Request) (s : State) (t : State), Taken Op.routeWrite q s → s.single → t = q.records.foldl State.applyRec s →
   q.records.any recBad = false → ((enabledPdus q.records).map t.pdu).any t.pduBad = false →
   t.mapper.routes.any (fun x => x.2.en && t.routeBad x.2) = false →
   ((enabledPdus q.records).map t.pdu).all (fun p => t.genHas p.gen 0) → sourceLists t.mapper.routes ≤ 8192 →
   twiceEnabled q.records = none →
   exec (.routeWrite q) s = .next (s.after (t.reply Op.routeWrite q 0
    [w32 (t.mapper.routes.filter (·.2.en)).length, w32 (sourceLists t.mapper.routes)])) ∧
   (∀ r, q.records = [r] → fld (wd r 0) 0 2 = 0 → bit (wd r 0) 2 → (s.route? (fld (wd r 1) 0 16)).en = false →
    t.route? (fld (wd r 1) 0 16) = ⟨r, none, none⟩ ∧ t.mapper.pdus = s.mapper.pdus ∧
    ∀ n, n ≠ fld (wd r 1) 0 16 → t.route? n = s.route? n)) ∧
  (∀ (q : Request) (s : State), Taken Op.routeRead q s → q.stray 0 0x1FFFF = false →
   (q.b 0 16 → q.f 0 0 16 < 256 → exec (.routeRead q) s = .next (s.after (s.reply Op.routeRead q 0
    (recWords (s.pdu (q.f 0 0 16)).rec_ ++ [w32 (s.pdu (q.f 0 0 16)).seq, w32 (s.pdu (q.f 0 0 16)).sent,
     w32 (s.pdu (q.f 0 0 16)).lost])))) ∧
   (q.b 0 16 = false → (s.route? (q.f 0 0 16)).value = none → (s.route? (q.f 0 0 16)).last ≠ some true →
    exec (.routeRead q) s = .next (s.after (s.reply Op.routeRead q 0
     (recWords (s.route? (q.f 0 0 16)).rec_ ++ [0, 0, 0xFFFFFFFF, 0]))))) ∧
  (∀ (s : State) (h : List Byte) (at_ n v : Nat) (rest : List (List Byte × Nat)), s.fwUp → s.mapper.offers = (h, at_) :: rest →
   s.sourceList 1 (half h 2) = [n] → bit ((s.route? n).w 0) 8 = false →
   readVal (bit ((s.route? n).w 0) 4) (fld ((s.route? n).w 2) 0 14) (s.route? n).len ((h.drop 8).take (half h 6)) = some v →
   ((s.route? n).value.all (fun x => decide (x.2 < (at_ : Int))) → Makes .mapperPduOffer s fun t => t.mapper.offers = rest ∧
    t.route? n = { s.route? n with value := some (v, (at_ : Int)) } ∧ t.mapper.pdus = s.mapper.pdus ∧
    t.rd Reg.mapperValueCount = w32 (min 0xFFFFFFFF ((s.rd Reg.mapperValueCount).toNat + 1))) ∧
   ((s.route? n).value.any (fun x => decide ((at_ : Int) ≤ x.2)) → Makes .mapperPduOffer s fun t => t.mapper.offers = rest ∧
    t.mapper.routes = s.mapper.routes ∧
    t.rd Reg.mapperOlderDiscardCount = w32 (min 0xFFFFFFFF ((s.rd Reg.mapperOlderDiscardCount).toNat + 1)))) ∧
  (∀ (s : State) (p : Nat), s.fwUp → (s.pdu p).en → s.genHas (s.pdu p).gen 0 →
   (s.routesOf p = [] → Makes (.transmitSlot p) s fun t => t.sw = s.sw ∧ t.mapper.routes = s.mapper.routes ∧
    t.pdu p = { s.pdu p with slot := t.clk.age, slotNs := s.nextSlot (s.pdu p) } ∧
    t.rd Reg.mapperPduEmptyCount = w32 (min 0xFFFFFFFF ((s.rd Reg.mapperPduEmptyCount).toNat + 1))) ∧
   (∀ h : Nat, (s.routesOf p).any (fun r => !r.2.silent) → s.egressUp (s.pdu p).port →
    h = queueHolder (s.pdu p).port (if (s.pdu p).slow then 0 else fld ((s.pdu p).w 0) 8 3) → s.sw.limitsWas = none →
    (s.holder h).overQ = false → (s.holder h).used + 20 ≤ (s.holder h).quota → s.sharedUsed + 20 ≤ s.sharedSize →
    Makes (.transmitSlot p) s fun t => t.sw.frames = s.sw.frames ∧ ∃ c, t.sw.copies = s.sw.copies ++ [c] ∧ c.pdu = some p ∧
     c.port = (s.pdu p).port ∧ c.eligible = true ∧ c.sending = false ∧ c.relAt = t.clk.age ∧ c.image = (s.pdu p).slow ∧
     c.deadline = some (t.clk.age + (s.pdu p).window * usC)))

/-- Device time and the period generators: the commands. Model's choices: log entry 127. -/
def Obligations.TimeCommandsComplete : Prop :=
  (∀ (q : Request) (s : State), Taken Op.periodConfig q s → q.stray 0 0x773F = false → q.f 0 0 6 ≠ 0 →
   ((s.gen (q.f 0 0 6)).owners = 0 → q.f 0 8 3 ≠ 0 → q.f 0 12 3 = 0 → 125 ≤ (q.w 1).toNat → (q.w 1).toNat ≤ 1250000000 →
    (q.w 2).toNat < (q.w 1).toNat → (q.f 0 8 3 % 2 = 1 → 12500 ≤ (q.w 1).toNat) →
    exec (.periodConfig q) s = .next (s.after ((s.setGen (q.f 0 0 6) ⟨(q.w 1).toNat, (q.w 2).toNat, q.f 0 8 3,
     (s.dtNs : Int) - 8 * (q.w 1).toNat⟩).reply Op.periodConfig q 0 [w32 (q.f 0 8 3), q.w 1, q.w 2]))) ∧
   ((s.gen (q.f 0 0 6)).owners &&& (7 - q.f 0 12 3) = 0 → q.f 0 8 3 = 0 → (List.range 3).all (fun k => !s.genUsed (q.f 0 0 6) k) →
    exec (.periodConfig q) s = .next (s.after ((s.setGen (q.f 0 0 6) gen0).reply Op.periodConfig q 0 [0, 0, 0])))) ∧
  (∀ (q : Request) (s : State), Taken Op.timeConfig q s → s.badTime q = false → s.fabricTimed = false →
   (q.f 0 16 6 = 0 ∨ s.genHas (q.f 0 16 6) 2 = true) → s.timeConflict q = none →
   ∃ u : State, exec (.timeConfig q) s = .next (s.after (u.reply Op.timeConfig q 0 [])) ∧ u.time.ppsOutEn = q.b 0 8 ∧
    u.time.ppsInMode = q.f 0 9 2 ∧ u.time.timerGen = q.f 0 16 6 ∧ u.time.capture = q.f 0 24 4 ∧ u.time.ptp = q.w 5 ∧
    u.clk.age = s.clk.age ∧ (q.b 0 2 → u.clk.rate = signed 32 (q.w 4).toNat) ∧ (q.b 0 2 = false → u.clk.rate = s.clk.rate) ∧
    (q.f 0 0 2 = 0 → u.clk.dt = s.clk.dt) ∧
    (q.f 0 0 2 = 2 → (u.clk.dt : Int) = s.clk.dt + signed 64 ((q.w 1).toNat + 2 ^ 32 * (q.w 2).toNat) * dtUnit) ∧
    (q.f 0 0 2 = 1 → u.secNow = (q.w 2).toNat + 2 ^ 32 * q.f 3 0 16 ∧ u.nsecNow = (q.w 1).toNat)) ∧
  (∀ (q : Request) (s : State), Taken Op.timeRead q s → exec (.timeRead q) s = .next (s.after (s.reply Op.timeRead q 0
   (w32 s.nsecNow :: toWords 2 s.secNow ++ toWords 2 s.clk.age ++ [intWord s.time.offset, intWord s.clk.rate,
    w32 (s.time.ptpState + b2n s.time.ppsSeen * 2 ^ 8 + b2n s.time.holdover * 2 ^ 9)]))))

/-- Device time and the period generators: ticks, PTP and the pulse pins. Model's choices: log entries 96, 129, 130. -/
def Obligations.TimeEventsComplete : Prop :=
  ∀ s : State, s.coreUp →
   (∀ g : Fin 64, (s.gen g).owners ≠ 0 → Makes (.periodGeneratorTick g) s fun t =>
    (g.val ≠ 0 → (t.gen g).lastTick = (s.gen g).next ∧ (t.gen g).p = (s.gen g).p ∧
     (s.time.timerGen = g.val → t.time.timerOut.isSome = true)) ∧ (g.val = 0 → t.time = s.time) ∧ s.clk.rate = t.clk.rate) ∧
   (∀ m : PtpMsg, s.fwUp → bit s.time.ptp 0 → Makes (.ptpMessage m) s fun t =>
    (t.time = s.time ∧ t.rd Reg.timeTsLostCount = w32 (min 0xFFFFFFFF ((s.rd Reg.timeTsLostCount).toNat + 1))) ∨
    ((∀ p, m = .delayReq p → t.time = s.time ∧ t.clk = s.clk ∧ (t.sw.copies = s.sw.copies ∨
      (s.time.ptpState = 4 ∧ s.answersOn p = true ∧ s.egressUp p = true ∧ ∃ c, t.sw.copies = s.sw.copies ++ [c] ∧ c.port = p))) ∧
     (∀ r, m = .announce r → t.time.ptpState = (if r && s.mayReceive then (if s.time.ptpState = 3 then 3 else 2) else 4)) ∧
     (∀ ns, m = .offset ns → (s.time.ptpState = 2 ∨ s.time.ptpState = 3) → s.mayReceive →
      t.time.offset = ns ∧ (t.time.ptpState = 2 ∨ t.time.ptpState = 3)))) ∧
   (s.time.ppsInMode = 1 → Makes .ppsInEdge s fun t => t.time.ppsIn = captureOf s.ppsNs.toNat ∧ t.time.ppsSeen = true ∧
    t.time.holdover = false ∧ t.time.ppsLast = some s.clk.age ∧ t.time.ppsWait = s.clk.age ∧ t.clk = s.clk) ∧
   (s.time.ppsInMode = 2 → s.fwUp → s.fabricTimed = false → Makes .ppsInEdge s fun t => t.time.ppsSeen = true ∧ t.time.offset = s.secOffset ∧
    (s.time.ppsLast ≠ none → -1000 ≤ s.secOffset → s.secOffset ≤ 1000 → t.clk.dt = s.clk.dt) ∧
    (s.time.ppsLast = none → s.secOffset * dtUnit ≤ s.clk.dt → (s.clk.dt : Int) - s.secOffset * dtUnit < dtWrap →
     t.ppsNs % 10 ^ 9 = 0 ∧ t.clk.rate = s.clk.rate)) ∧
   (s.fwUp → s.time.ppsInMode = 2 → s.clk.age < 2 ^ 63 → s.time.ppsWait < 2 ^ 62 → Makes .ppsLost s fun t =>
    t.time.ppsSeen = false ∧ t.time.holdover = true ∧ t.clk.age = max s.clk.age (s.time.ppsWait + 1375000000) ∧
    t.rd Reg.timePpsMissCount = w32 (min 0xFFFFFFFF ((s.rd Reg.timePpsMissCount).toNat + 1))) ∧
   (s.time.ppsOutEn → Makes .ppsOutEdge s fun t => t.time.ppsOut = !s.time.ppsOut ∧ t.sw = s.sw) ∧
   (∀ a, s.time.timerOut = some a → s.clk.age < 2 ^ 63 → a < 2 ^ 62 → Makes .timerOutFall s fun t =>
    t.time.timerOut = none ∧ t.clk.age = max s.clk.age a)

/-- Slot tables: writes, swaps and cycles. Model's choices: log entry 131. -/
def Obligations.SlotsComplete : Prop :=
  (∀ (q : Request) (s : State), Taken Op.slotWrite q s → s.single → s.slotPre q = 0 →
   (q.b 0 16 = false → q.f 0 8 8 ≠ 0 → s.glueOpen? (q.f 0 8 8) = 0 → (s.slotTable (q.f 0 0 8)).pend = none →
    (s.glueUp (q.f 0 8 8)).ops + q.f 1 8 7 + b2n (q.b 0 17) ≤ 4096 →
    ∃ (u : State) (c : SlotCopy), exec (.slotWrite q) s = .next (s.after (u.reply Op.slotWrite q 0 [w32 (q.f 1 8 7 + b2n (q.b 0 17)), 0])) ∧
     (u.slotTable (q.f 0 0 8)).pend = some ⟨q.f 0 8 8, some c, false⟩ ∧
     (q.b 0 17 → c.length = q.f 1 16 9 ∧ c.gen = q.f 1 26 6) ∧
     (∀ i, i < q.f 1 8 7 → c.entry (q.f 1 0 8 + i) = q.w (2 + i)) ∧
     (u.slotTable (q.f 0 0 8)).copyA = (s.slotTable (q.f 0 0 8)).copyA ∧ (u.slotTable (q.f 0 0 8)).copyB = (s.slotTable (q.f 0 0 8)).copyB ∧
     (u.glueUp (q.f 0 8 8)).ops = (s.glueUp (q.f 0 8 8)).ops + q.f 1 8 7 + b2n (q.b 0 17)) ∧
   (q.b 0 16 → s.slotWriteBusy q = false →
    ∃ u : State, exec (.slotWrite q) s = .next (s.after (u.reply Op.slotWrite q 0 [0, w32 s.glue.c.toNat])) ∧
     (∀ i, i < q.f 1 8 7 → (u.slotTable (q.f 0 0 8)).active.entry (q.f 1 0 8 + i) = q.w (2 + i)) ∧
     (u.slotTable (q.f 0 0 8)).standby = (s.slotTable (q.f 0 0 8)).standby)) ∧
  (∀ (q : Request) (s : State) (n : Nat), Taken Op.slotSwap q s → s.single → s.swapPre q = 0 → q.f 0 8 8 ≠ 0 →
   s.glueOpen? (q.f 0 8 8) = 0 → q.swapTables = [n] → (s.slotTable n).pend = none → (s.glueUp (q.f 0 8 8)).ops < 4096 →
   exec (.slotSwap q) s = .next (s.after (((s.setSlotTable n { s.slotTable n with pend := some ⟨q.f 0 8 8, none, true⟩ }).addOps
    (q.f 0 8 8) 1).reply Op.slotSwap q 0 [1, 0]))) ∧
  (∀ (s : State) (n : Nat), s.coreUp →
   (s.cycling (s.slotTable n) → Makes (.slotCycleStart n) s fun t => (t.slotTable n).entry = 0 ∧
    (t.slotTable n).cycleNs = s.nextCycle (s.slotTable n) ∧
    (if (s.slotTable n).swapPend = true ∧ (s.slotTable n).swapFrom ≤ s.nextCycle (s.slotTable n)
     then (t.slotTable n).active = (s.slotTable n).standby ∧ (t.slotTable n).copyBack = true ∧ (t.slotTable n).swapPend = false
     else (t.slotTable n).active = (s.slotTable n).active ∧ (t.slotTable n).swapPend = (s.slotTable n).swapPend)) ∧
   (s.cycling (s.slotTable n) → (s.slotTable n).entry + 1 < (s.slotTable n).active.length →
    (s.slotTable n).cycleNs + (s.slotTable n).active.startOf ((s.slotTable n).entry + 1) < s.nextCycle (s.slotTable n) →
    Makes (.slotEntryStart n) s fun t => t.slotTable n = { s.slotTable n with entry := (s.slotTable n).entry + 1 }) ∧
   ((s.slotTable n).swapPend → (s.slotTable n).active.gen = 0 ∨ s.cycling (s.slotTable n) → Makes (.slotSwapSwitch n) s fun t => (t.slotTable n).active = (s.slotTable n).standby ∧
    (t.slotTable n).standby = (s.slotTable n).active ∧ (t.slotTable n).entry = 0 ∧ (t.slotTable n).swapPend = false ∧
    (t.slotTable n).copyBack = true ∧ (t.slotTable n).cycleNs = s.swapInstant (s.slotTable n)) ∧
   ((s.slotTable n).copyBack → Makes (.slotCopyBackDone n) s fun t => (t.slotTable n).standby = (s.slotTable n).active ∧
    (t.slotTable n).active = (s.slotTable n).active ∧ (t.slotTable n).copyBack = false) ∧
   (∀ b i w, s.fwUp → (s.slotTable n).deferred = [(b, i, w)] → s.slotBusy (s.slotAt n) b = false →
    Makes (.deferredSlotWrite n) s fun t => (t.slotTable n).active.entry i = w ∧ (t.slotTable n).deferred = [] ∧
     (t.slotTable n).standby = (s.slotTable n).standby))


/-! ## Action memory and coherence (chapter 7) -/

/-- Requests at a home: served from memory, forwarded, granted, refused. Model's choices: log entries 75, 76. -/
def Obligations.RequestsComplete : Prop :=
  ∀ (s : State) (a l g : Nat), s.coreUp → l < 2 ^ 19 → a < 12 → s.coh.reqs = [] → s.agentFailed a = false →
   s.clk.age < 2 ^ 63 → (∀ n ∈ s.coh.net, n.msg.dest = 16 + homeOf l → s.clk.age < n.due) → s.coh.lastWb ≠ some (l, s.clk.age) →
   (s.ctrLine l = false → s.lineBusy l = false → s.coh.seniors = [] → s.dirOf l = none → (s.freeWay l).isSome →
    (Makes (.getS a l) s fun t => t.coh.net = s.coh.net ++ [⟨16 + homeOf l, s.clk.age + 11, .data a l (some (if a < 8 then .s else .e))
      (s.poisoned l) (s.memLine l)⟩] ∧ t.coh.mem = s.coh.mem ∧ t.coh.trans = s.coh.trans ∧ (t.reqOf a l).isSome = true) ∧
    (8 ≤ a → Makes (.getM a l g) s fun t => t.coh.net = s.coh.net ++ [⟨16 + homeOf l, s.clk.age + 11, .data a l (some .m) (s.poisoned l)
      (s.memLine l)⟩] ∧ t.coh.mem = s.coh.mem ∧ t.coh.trans = s.coh.trans) ∧
    (8 ≤ a → Makes (.upgrade a l g) s fun t => t.coh.net = s.coh.net ++ [⟨16 + homeOf l, s.clk.age + 11, .data a l (some .m) (s.poisoned l)
      (s.memLine l)⟩] ∧ t.coh.mem = s.coh.mem ∧ t.coh.trans = s.coh.trans) ∧
    (Makes (.readNa a l) s fun t => t.coh.net = s.coh.net ++ [⟨16 + homeOf l, s.clk.age + 11, .data a l none (s.poisoned l) (s.memLine l)⟩] ∧
     t.coh.dir = s.coh.dir ∧ t.rd Reg.cohereNaReadCount = w32 (min 0xFFFFFFFF ((s.rd Reg.cohereNaReadCount).toNat + 1)))) ∧
   (∀ k e, s.ctrLine l = false → s.lineBusy l = false → s.coh.seniors = [] → s.dirOf l = some (k, e) → e.owned → e.owner.toNat ≠ a →
    s.agentFailed e.owner.toNat = false → e.pin = 0 →
    (Makes (.getS a l) s fun t => t.coh.net = s.coh.net ++ [⟨16 + homeOf l, s.clk.age + 7, .fwdS e.owner.toNat l a⟩] ∧
     t.coh.trans = s.coh.trans ++ [⟨l, some ⟨a, l, .getS, 0, 0, none⟩, [], some e.owner.toNat, none, false, false, none, s.clk.age⟩]) ∧
    (8 ≤ a → e.sharers = 0 → Makes (.getM a l g) s fun t => t.coh.net = s.coh.net ++
      [⟨16 + homeOf l, s.clk.age + 7, .fwdM e.owner.toNat l a⟩] ∧ t.coh.trans = s.coh.trans ++
      [⟨l, some ⟨a, l, .getM, g % 256, 0, none⟩, [], some e.owner.toNat, none, false, false, none, s.clk.age⟩]) ∧
    (Makes (.readNa a l) s fun t => t.coh.net = s.coh.net ++ [⟨16 + homeOf l, s.clk.age + 7, .fwdNa e.owner.toNat l a⟩] ∧
     t.coh.trans = s.coh.trans ++ [⟨l, some ⟨a, l, .readNa, 0, 0, none⟩, [], some e.owner.toNat, none, false, false, none, s.clk.age⟩])) ∧
   (∀ k e, s.ctrLine l = false → s.lineBusy l = false → s.coh.seniors = [] → s.dirOf l = some (k, e) → e.dstate = .shared → e.pin = 0 → 8 ≤ a →
    (e.sharers = sharer a → Makes (.upgrade a l g) s fun t => t.coh.net = s.coh.net ++
      [⟨16 + homeOf l, s.clk.age + 7, .grant a l (s.poisoned l)⟩] ∧
     t.coh.trans = s.coh.trans ∧ ∃ d, smGet dir0 t.coh.dir k = d ∧ d.dstate = .excl ∧ d.owner.toNat = a ∧ d.sharers = 0) ∧
    (∀ bs, bs = (sharersOf e.sharers).filter (· != a) → bs ≠ [] → (∀ b ∈ bs, s.agentFailed b = false) → Makes (.getM a l g) s fun t =>
     t.coh.net = s.coh.net ++ bs.map (fun b => (⟨16 + homeOf l, s.clk.age + 7, .inv b l⟩ : NetMsg)) ∧
     t.coh.trans = s.coh.trans ++ [⟨l, some ⟨a, l, .getM, g % 256, 0, none⟩, bs, none, none, false, false, none, s.clk.age⟩])) ∧
   (s.ctrLine l = false → (s.transOf l).isSome → ∀ i ∈ [Instr.getS a l, .readNa a l] ++
     (if 8 ≤ a then [Instr.getM a l g, .upgrade a l g] else []), Makes i s fun t =>
    t.coh.net = s.coh.net ++ [⟨16 + homeOf l, s.clk.age + 7, .nack a l 1 false⟩] ∧ t.coh.dir = s.coh.dir ∧ t.coh.trans = s.coh.trans ∧
    t.rd Reg.cohereNackCount = w32 (min 0xFFFFFFFF ((s.rd Reg.cohereNackCount).toNat + 1))) ∧
   (s.ctrLine l → ∀ i ∈ [Instr.getS a l] ++ (if 8 ≤ a then [Instr.getM a l g, .upgrade a l g] else []), Makes i s fun t =>
    t.coh.net = s.coh.net ++ [⟨16 + homeOf l, s.clk.age + 7, .err a l⟩] ∧ t.coh.dir = s.coh.dir ∧ t.coh.mem = s.coh.mem ∧
    t.rd Reg.cohereCtrAccessErrCount = w32 (min 0xFFFFFFFF ((s.rd Reg.cohereCtrAccessErrCount).toNat + 1)))

/-- Messages between caches and homes. Model's choices: log entries 76, 77. -/
def Obligations.CoherenceMessagesComplete : Prop :=
  (∀ (s : State) (a l : Nat) (n : NetMsg), s.coreUp → a < 12 → l < 2 ^ 19 → s.turn n.msg = some n → s.clk.age < 2 ^ 63 →
   n.due < 2 ^ 62 →
   (∀ r, s.agentFailed a = false → s.dataDue a l = false → s.agentGated a = false → (s.cached a l).state.supplies →
    (n.msg = .fwdS a l r → Makes (.fwdS a l r) s fun t => t.clk.age = max s.clk.age n.due ∧
     t.coh.net = s.coh.net.erase n ++ [⟨a, t.clk.age + 7, .data r l (some .s) (s.poisoned l) (s.cached a l).words⟩,
      ⟨a, t.clk.age + 7, .fwdDone a l⟩] ∧
     t.cached a l = { s.cached a l with state := if (s.cached a l).state = .e then .s else .o }) ∧
    (n.msg = .fwdM a l r → Makes (.fwdM a l r) s fun t => t.cached a l = line0 ∧
     t.coh.net = s.coh.net.erase n ++ [⟨a, t.clk.age + 7, .data r l (some .m) (s.poisoned l) (s.cached a l).words⟩,
      ⟨a, t.clk.age + 7, .fwdDone a l⟩]) ∧
    (n.msg = .fwdNa a l r → Makes (.fwdNa a l r) s fun t => t.coh.caches = s.coh.caches ∧
     t.coh.net = s.coh.net.erase n ++ [⟨a, t.clk.age + 7, .data r l none (s.poisoned l) (s.cached a l).words⟩,
      ⟨a, t.clk.age + 7, .fwdDone a l⟩]) ∧
    (n.msg = .recall a l → (∀ x ∈ s.coh.net, ∀ k ws, x.msg ≠ .wb a k ws) → Makes (.recall a l) s fun t => t.cached a l = line0 ∧
     t.coh.net = s.coh.net.erase n ++ [⟨a, t.clk.age + 7, .wb a l (s.cached a l).words⟩])) ∧
   (n.msg = .inv a l → s.agentFailed a = false → s.dataDue a l = false → Makes (.inv a l) s fun t =>
    t.coh.net = s.coh.net.erase n ++ [⟨a, t.clk.age + s.answerIn a + 6, .invAck a l⟩] ∧ t.cached a l = line0 ∧ t.coh.mem = s.coh.mem) ∧
   (∀ (x : CohTrans) (r : CohReq), s.coh.trans = [x] → x.line = l → x.req = some r → r.line = l → (s.dirOf l).isSome →
    x.wbFrom = none → x.sent = false → s.agentFailed r.agent = false →
    (x.acks = [a] → x.fwdFrom = none → x.grant → n.msg = .invAck a l → Makes (.invAck a l) s fun t =>
     t.coh.trans = [] ∧ t.coh.net = s.coh.net.erase n ++ [⟨16 + homeOf l, t.clk.age + 7, .grant r.agent l (s.poisoned l)⟩]) ∧
    (x.acks = [] → x.fwdFrom = some a → n.msg = .fwdDone a l → Makes (.fwdDone a l) s fun t =>
     t.coh.trans = [] ∧ t.coh.net = s.coh.net.erase n) ∧
    (x.acks = [] → x.fwdFrom = some a → x.grant = false → n.msg = .fwdMiss a l → s.wbOf a l = none →
     Makes (.fwdMiss a l) s fun t => t.coh.trans = [] ∧
      t.coh.net = s.coh.net.erase n ++ [⟨16 + homeOf l, t.clk.age + 11, .data r.agent l (r.granted true) (s.poisoned l) (s.memLine l)⟩] ∧
      t.rd Reg.cohereWbCrossCount = w32 (min 0xFFFFFFFF ((s.rd Reg.cohereWbCrossCount).toNat + 1)))) ∧
   (∀ ws : List Word, n.msg = .wb a l ws → s.transOf l = none → s.coh.waiting = [] → Makes (.wb a l ws) s fun t =>
    t.memLine l = (List.range 16).map (wd ws) ∧ t.poisoned l = false ∧ t.coh.net = s.coh.net.erase n ∧
    ∀ m, m ≠ l → t.memLine m = s.memLine m) ∧
   (∀ (k : Nat) (r : CohReq), s.coh.reqs = [r] → r.agent = a → r.line = l →
    (n.msg = .nack a l k false → 8 ≤ a → s.coh.net.any (fun x => x.msg == .nack a l k true) = false → Makes (.nack a l k) s fun t =>
     t.coh.net = s.coh.net.erase n ∧ t.coh.reqs = [{ r with resendAt := some (t.clk.age + 16 * 2 ^ (k - 1)) }]) ∧
    (n.msg = .nack a l k true → a < 8 → Makes (.nack a l k) s fun t => t.coh.reqs = [{ r with kind := .readNa }] ∧
     t.coh.net = s.coh.net.erase n ++ [⟨a, t.clk.age + 6, .request a l .readNa⟩])) ∧
   (n.msg = .err a l → Makes (.err a l) s fun t => t.coh.net = s.coh.net.erase n ∧ t.reqOf a l = none ∧ t.coh.caches = s.coh.caches) ∧
   (∀ (ws : List Word) (st : Moesi), n.msg = .data a l (some st) false ws → s.coh.held = [] → s.coh.caches.length < 8 →
    Makes (.data a l (some st) false ws) s fun t => (t.cached a l).state = st ∧ (t.cached a l).words = (List.range 16).map (wd ws)) ∧
   (∀ ws : List Word, n.msg = .data a l none false ws → s.coh.held = [] → Makes (.data a l none false ws) s fun t =>
    t.coh.net = s.coh.net.erase n ∧ t.reqOf a l = none ∧ t.coh.caches = s.coh.caches) ∧
   (n.msg = .grant a l false → s.coh.held = [] → (s.cached a l).state ≠ .i → Makes (.grant a l false) s fun t =>
    t.coh.net = s.coh.net.erase n ∧ t.reqOf a l = none ∧ t.cached a l = { s.cached a l with state := .m }) ∧
   (∀ (ws : List DWord) (c : Nat), n.msg = .atomicRes a l false ws c → Makes (.atomicRes a l false ws c) s fun t =>
    t.coh.net = s.coh.net.erase n ∧ t.coh.mem = s.coh.mem)) ∧
  (∀ (s : State) (a l d : Nat) (r : CohReq), s.coreUp → s.coh.reqs = [r] → r.agent = a → r.line = l → r.resendAt = some d →
   s.clk.age < 2 ^ 63 → d < 2 ^ 62 → Makes (.nackResend a l) s fun t => t.coh.net = s.coh.net ++ [⟨a, t.clk.age + 6, .request a l r.kind⟩] ∧
    t.coh.reqs = [{ r with resendAt := none }] ∧ t.clk.age = max s.clk.age d)

/-- Atomic operations, the time limits of a home, and the action mailbox. Model's choices: log entries 82, 83. -/
def Obligations.AtomicsAndMailboxComplete : Prop :=
  ∀ (s : State) (l : Nat), s.coreUp →
   (∀ (a : Nat) (op : AtomicOp), a < 12 → l < 2 ^ 19 → s.agentFailed a = false → s.ctrLine l → s.poisoned l = false →
    s.clk.age < 2 ^ 63 → s.clk.dt < dtWrap → smGet 0 s.coh.atomicAt (homeOf l) ≤ s.clk.age →
    (∀ n ∈ s.coh.net, n.msg.dest = 16 + homeOf l → s.clk.age < n.due) →
    (Makes (.atomic a l op) s fun t => t.coh.mem = (s.atomicDo l op).1.coh.mem ∧
     t.coh.net = s.coh.net ++ [⟨16 + homeOf l, s.clk.age + 11, .atomicRes a l false (s.atomicDo l op).2.1 (s.atomicDo l op).2.2⟩] ∧
     t.rd Reg.cohereAtomicCount = w32 (min 0xFFFFFFFF ((s.rd Reg.cohereAtomicCount).toNat + 1))) ∧
    (∀ (w : Fin 8) (x : DWord), op = .add w x → Makes (.atomic a l op) s fun t =>
     t.ctrWord l w = BitVec.ofNat 64 (min (2 ^ 64 - 1) ((s.ctrWord l w).toNat + x.toNat)) ∧
     t.coh.net = s.coh.net ++ [⟨16 + homeOf l, s.clk.age + 11, .atomicRes a l false [s.ctrWord l w] 0⟩] ∧ ∀ m v, v < 8 → (m, v) ≠ (l, w.val) → t.ctrWord m v = s.ctrWord m v)) ∧
   (∀ x, s.coh.seniors = [x] → x.line = l → s.clk.age < 2 ^ 63 → x.at_ < 2 ^ 62 → Makes (.seniorReservationLapse l) s fun t =>
    t.coh.seniors = [] ∧ t.clk.age = max s.clk.age (x.at_ + 1250)) ∧
   (∀ (x : CohTrans) (r : CohReq) (a : Nat), s.coh.trans = [x] → x.line = l → x.req = some r → x.acks = [] → x.fwdFrom = some a →
    x.wbFrom = none → a < 12 → s.clk.age < 2 ^ 63 → x.since < 2 ^ 62 → Makes (.cohereTimeout l) s fun t =>
     t.coh.trans = [] ∧ t.poisoned l = true ∧ t.agentFailed a = true ∧ t.clk.age = max s.clk.age (x.since + 5000) ∧
     t.rd Reg.cohereTimeoutCount = w32 (min 0xFFFFFFFF ((s.rd Reg.cohereTimeoutCount).toNat + 1))) ∧
   (∀ v : Word, bit v 31 → Makes (.coherePoisonClear v) s fun t => t.poisoned (fld v 0 19) = false ∧ t.coh.mem = s.coh.mem ∧
    ∀ m, m ≠ fld v 0 19 → t.poisoned m = s.poisoned m) ∧
   (∀ (v : Word) (i : Nat), s.fwUp → s.coh.mailbox = none → v &&& 0x7FFFFFF8#32 = 0 → i = s.rf Reg.cohereActIndex 0 20 →
    s.coh.mailboxNext = false → s.coh.failed = 0 → s.coh.trans = [] → s.coh.waiting = [] → s.coh.seniors = [] → s.coh.closing = [] →
    s.coh.caches = [] → s.coh.net = [] → s.coh.dir = [] →
    (s.ctrLine (i / 2) = false → s.inPool i = false → s.poisoned (i / 2) = false →
     (Makes (.readEntry v) s fun t => t.coh.mailbox = none ∧ t.coh.mem = s.coh.mem ∧
      t.rd Reg.cohereActResult = w32 (b2n (s.coh.cow.any (fun x => x.2.used && x.2.glue != 0 && x.2.orig == i)) * 2 ^ 18) ∧
      ∀ n, n < 8 → t.rd (Reg.cohereActRdata n) = smGet 0 s.coh.mem (8 * i + n)) ∧
     (s.single → s.twin.mirrors = [] → s.named i = false → Makes (.writeEntry v) s fun t => t.coh.mailbox = none ∧
      t.rd Reg.cohereActResult = w32 (2 ^ 16) ∧ t.rd Reg.cohereActRindex = w32 i ∧
      t.entryWords i = (List.range 8).map (fun n => s.rd (Reg.cohereActData n)) ∧ ∀ j, j ≠ i → t.entryWords j = s.entryWords j)) ∧
    (s.ctrLine i → s.poisoned i = false →
     (Makes (.readCounters v) s fun t => t.rd Reg.cohereActResult = 0 ∧ t.coh.mem = s.coh.mem ∧
      ∀ n, n < 16 → t.rd (Reg.cohereActRdata n) = smGet 0 s.coh.mem (16 * i + n)) ∧
     (Makes (.clearCounters v) s fun t => t.rd Reg.cohereActResult = 0 ∧ (∀ w, w < 8 → t.ctrWord i w = 0) ∧
      (∀ n, n < 16 → t.rd (Reg.cohereActRdata n) = smGet 0 s.coh.mem (16 * i + n)) ∧ ∀ m, m ≠ i → t.memLine m = s.memLine m)))


/-! ## Dovetail fabric and twins (chapter 8) -/

/-- Fabric membership: joining, leaving, status, links and time. Model's choices: log entries 92, 93, 96. -/
def Obligations.FabricMembershipCompletes : Prop :=
  (∀ (q : Request) (s : State), Taken Op.fabricJoin q s → q.stray 0 0x1701FF = false → q.stray 1 0xFF = false → q.f 0 16 3 ≠ 0 →
   (q.f 1 0 8 = 0 ∨ 128 ≤ q.f 1 0 8 ∧ q.f 1 0 8 ≤ 254) → s.fab.joined = false → s.fab.join = none → 4 ≤ s.quantum → q.b 0 20 = false →
   (q.f 0 0 9 = 0 → exec (.fabricJoin q) s = .next (s.after (((({ s with fab := { s.fab with
     join := some ⟨⟨0, 0, 0, 0, q.f 0 16 3, false, q.f 1 0 8, s.quantum⟩, s.clk.age, false⟩, decision := none } } : State).replyPending
     Op.fabricJoin q).wait .join Op.fabricJoin q 0 [])))) ∧
   (q.f 0 0 9 ≠ 0 → s.linkIsUp .d0 → ∃ u : State,
    exec (.fabricJoin q) s = .next (s.after ((u.replyPending Op.fabricJoin q).wait .join Op.fabricJoin q 0 [])) ∧
    u.out.links = s.out.links ++ [(.d0, .join ⟨q.f 0 0 9, 0, 0, q.f 0 0 9, q.f 0 16 3, false, q.f 1 0 8, s.quantum⟩)] ∧
    u.fab.join = some ⟨⟨q.f 0 0 9, 0, 0, q.f 0 0 9, q.f 0 16 3, false, q.f 1 0 8, s.quantum⟩, s.clk.age, true⟩)) ∧
  (∀ (q : Request) (s : State), Taken Op.fabricLeave q s → q.stray 0 0x101FF = false → s.fab.joined →
   (q.b 0 16 = false → s.hasChildren = false → s.fab.leaves = [] → exec (.fabricLeave q) s = .next (s.after
    ((({ s with fab := { s.fab with leaves := [(s.ownAddr, 1)] } } : State).replyPending Op.fabricLeave q).wait .leave Op.fabricLeave q 0
     []))) ∧
   (q.b 0 16 → s.coordinator → s.fab.members.any (fun m => m.addr / 2 == q.f 0 0 9) → s.fab.leaves = [] →
    exec (.fabricLeave q) s = .next (s.after ((({ s with fab := { s.fab with leaves := [(q.f 0 0 9, 2)] } } : State).replyPending
     Op.fabricLeave q).wait (.evict (q.f 0 0 9)) Op.fabricLeave q 0 [])))) ∧
  (∀ (q : Request) (s : State), Taken Op.fabricStatus q s →
   (s.fab.joined = false → exec (.fabricStatus q) s = .next (s.after (s.reply Op.fabricStatus q 0 [0, 0, 0, 0, 0]))) ∧
   (s.fab.joined → exec (.fabricStatus q) s = .next (s.after (s.reply Op.fabricStatus q 0 [s.fabricWord,
    w32 (140 + 330 * (s.fab.depth - 1)), s.fab.fe, w32 (if s.coordinator then s.fab.members.length else 0), s.offsetWord])))) ∧
  (∀ s : State, s.coreUp →
   (∀ (l : LinkId) (j : JoinReq), Makes (.joinRequest l false j) s fun t => t.fab = s.fab ∧
    t.rd Reg.secFabricAuthFailCount = w32 (min 0xFFFFFFFF ((s.rd Reg.secFabricAuthFailCount).toNat + 1))) ∧
   (∀ (l : LinkId) (j : JoinReq), s.fab.joined → l ≠ .d0 → l ≠ .mitre → s.fab.pendJoins = [] → Makes (.joinRequest l true j) s fun t =>
    t.fab.pendJoins = [({ j with level := s.fab.level + 1, parent := s.fab.node }, l)] ∧ t.fab.members = s.fab.members) ∧
   (∀ p : PendingJoin, s.fwUp → s.fab.join = some p → s.waits .join = false → s.clk.age < 2 ^ 63 → p.since < 2 ^ 62 →
    Makes .fabricJoinTimeout s fun t => t.fab.join = none ∧ t.clk.age = max s.clk.age (p.since + 125000000) ∧
     t.fab.joined = s.fab.joined) ∧
   (∀ (l : LinkId) (d : Nat), d ≤ 8 → s.pwr.refclkLost = false → Makes (.linkUp l d) s fun t => t.linkIsUp l = true ∧
    ∀ k, k ≠ l → t.linkIsUp k = s.linkIsUp k) ∧
   (∀ l : LinkId, Makes (.linkDown l) s fun t => t.linkIsUp l = false ∧ ∀ k, k ≠ l → t.linkIsUp k = s.linkIsUp k) ∧
   (∀ n : Int, s.fabricTimed → Makes (.fabricTimeTransfer n) s fun t => t.fab.offset = n ∧ t.clk.age = s.clk.age ∧
    t.fab.members = s.fab.members))

/-- Boundary reports, the decision of the coordinator, and its absence. Model's choices: log entry 89. -/
def Obligations.FabricDecisionsComplete : Prop :=
  ∀ s : State, s.coreUp → s.fab.joined →
   (∀ (l : LinkId) (r : FabReport), l ≠ .d0 → s.coordinator = false → s.fab.level ≠ 0 → s.cutOff = false →
    Makes (.fabricReport l r) s fun t => t.out.links = s.out.links ++ [(.d0, .report r)] ∧ t.fab.decision = s.fab.decision) ∧
   (∀ (l : LinkId) (r own m : FabReport), l ≠ .d0 → s.coordinator → s.fab.report = some own → own.boundary = r.boundary →
    m = mergeReports own r → Makes (.fabricReport l r) s fun t => t.fab.report = some m ∧ ∃ d, t.fab.decision = some d ∧
     d.at_ = r.boundary + s.quantum ∧ (∀ i ∈ d.commits, m.members = s.fab.members.length ∧ i ∈ m.held ∧ i ∉ m.notReady) ∧
     (m.members = s.fab.members.length → ∀ i ∈ m.held, i ∉ m.notReady → i ∈ d.commits ∧ i ∉ d.aborts) ∧
     (d.fe = s.fab.fe ∨ d.fe = s.fab.fe + 1)) ∧
   (∀ (l : LinkId) (ip : Bool) (d : FabDecision), s.deafOn l = false → s.fab.decision ≠ some d →
    Makes (.fabricDecisionReceived ⟨l, ip, d⟩) s fun t => t.fab.decision = some d ∧
    t.fab.lastDecision = s.clk.age ∧ t.fab.decidedAt = d.at_ ∧ t.fab.members = s.fab.members ∧ t.out.links = s.out.links ++
     s.downLinks.map (fun k => (k, .decision d ((l == .d0 && ip) || s.fab.level == 0))) ++
     (if s.fab.twinned ∧ s.twin.linkUp then [(.mitre, .decision d false)] else [])) ∧
   (∀ (ip : Bool) (d : FabDecision), s.fab.level = 0 → Makes (.fabricDecisionReceived ⟨.d0, ip, d⟩) s fun t => t.fab = s.fab ∧
    t.out.links = s.out.links) ∧
   (∀ i : Nat, s.fabricIds [.opened, .clamping] = [i] → (s.glueUp i).st = .opened → s.pwr.entry = none → s.clk.age < 2 ^ 63 →
    s.fab.lastDecision < 2 ^ 61 → Makes .fabricClampLimitExpiry s fun t => (t.glueUp i).st = .aborting ∧ (t.glueUp i).reason = 6 ∧
     t.clk.age = max s.clk.age (s.fab.lastDecision + s.clampLimit) ∧ (∀ j, j ≠ i → t.glueUp j = s.glueUp j) ∧
     t.rd Reg.fabricAbortCount = w32 (min 0xFFFFFFFF ((s.rd Reg.fabricAbortCount).toNat + 1)))

/-- Fabric searches: launch, root, members, merge and result. Model's choices: log entries 105, 106, 107. -/
def Obligations.FabricSearchesComplete : Prop :=
  (∀ (q : Request) (s : State), Taken Op.fabricSearch q s → s.fabCheck q = 0 →
   exec (.fabricSearch q) s = .next (s.after { s with fab := { s.fab with launches := s.fab.launches ++ [q] } })) ∧
  (∀ s : State, s.coreUp → s.fab.joined →
   (∀ (q : Request) (rest : List Request) (n st : Nat), s.fwUp → s.fab.launches = q :: rest → s.fabCheck q = 0 →
    s.nextOwned = some (n, st) → s.fab.level ≠ 0 → Makes .fabricSearchLaunch s fun t => t.fab.launches = rest ∧
     t.fab.lastLaunch = some st ∧ t.fab.nextIdent = s.fab.nextIdent + 1 ∧
     t.rd Reg.fabricSearchCount = w32 (min 0xFFFFFFFF ((s.rd Reg.fabricSearchCount).toNat + 1)) ∧
     t.out.links = s.out.links ++ [(.d0, .request (q.fabRequest s.ownAddr (s.ownAddr + 1024 * s.fab.nextIdent) n st))] ∧
     ∃ j, t.fabJob (s.ownAddr + 1024 * s.fab.nextIdent) = some j ∧ j.own = some q ∧ j.open_ = true ∧ j.result = none) ∧
   (∀ r : FabRequest,
    (s.fab.level ≠ 0 → Makes (.fabricRequestAtRoot r) s fun t => t.out.links = s.out.links ++ [(.d0, .request r)] ∧ t.fab = s.fab) ∧
    (s.fab.level = 0 → s.clk.dt ≤ (r.launched + 8 + 64 * (s.fab.depth - 1)) * dtUnit →
     slotOf (smGet 0#32 s.fab.slots r.slot) (r.initiator / 2) → Makes (.fabricRequestAtRoot r) s fun t =>
      ∃ j, t.fabJob r.ident = some j ∧ j.req = { r with fe := s.fab.fe } ∧ j.open_ = true ∧
       j.await = s.memberLinks { r with fe := s.fab.fe }) ∧
    (s.fab.level = 0 → (r.launched + 8 + 64 * (s.fab.depth - 1)) * dtUnit < s.clk.dt → r.ident % 1024 = s.ownAddr →
     s.fabJob r.ident = none → Makes (.fabricRequestAtRoot r) s fun t => t.fab = s.fab ∧
      t.rd Reg.fabricSlotLateCount = w32 (min 0xFFFFFFFF ((s.rd Reg.fabricSlotLateCount).toNat + 1))) ∧
    (s.fab.level ≠ 0 → s.fab.fe + 1 ≠ r.fe → r.fe + 1 ≠ s.fab.fe → s.memberLinks r = [] → s.fabJob r.ident = none →
     (r.exact = false → s.ternDesc r.table s.glue.c = none → Makes (.fabricSearchInstant r) s fun t => t.fabJob r.ident = none ∧
      t.out.links = s.out.links ++ [(.d0, .fabReply r.ident { fabReply0 with noTable := 1 })]) ∧
     (∀ d, r.exact = false → s.ternDesc r.table s.glue.c = some d → d.width = r.width → Makes (.fabricSearchInstant r) s fun t =>
      ∃ x, t.tern.searches = s.tern.searches ++ [x] ∧ x.lane = 8 ∧ x.role = r.ident ∧ x.urgent = true ∧ x.phase = .waiting ∧
       x.epoch = s.glue.c ∧ x.key = r.key ∧ x.table = r.table))) ∧
   (∀ (n : Nat) (j : FabJob), s.fabJob n = some j →
    (∀ x, s.tern.searches.find? (fun x => x.lane == 8 && x.frame == 0 && x.role == n && x.phase != .granted) = some x → j.await ≠ [] →
     Makes (.fabricGrantDeadline n) s fun t => t.tern.searches = s.tern.searches.erase x ∧
      t.rd Reg.fabricLocalLateCount = w32 (min 0xFFFFFFFF ((s.rd Reg.fabricLocalLateCount).toNat + 1)) ∧
      ∃ k, t.fabJob n = some k ∧ k.merged.incomplete = true ∧ k.open_ = false ∧ k.await = j.await) ∧
    (∀ (l : LinkId) (r : FabReply), l ≠ .d0 → j.await.contains l → j.open_ → Makes (.fabricReply l n r) s fun t =>
     t.fabJob n = some { j with await := j.await.filter (· != l), merged := mergeFab j.req.multi j.merged r } ∧
     t.out.links = s.out.links) ∧
    (∀ l : LinkId, j.await.contains l → j.open_ → Makes (.fabricChildTimeout n l) s fun t =>
     ∃ k, t.fabJob n = some k ∧ k.await = j.await.filter (· != l) ∧ k.merged.incomplete = true ∧
      k.merged.absent = j.merged.absent + (s.nodesUnder j.req l).length) ∧
    (∀ (q : Request) (r : FabReply), j.own = some q → j.result = some r → r.refused = false → r.incomplete = false →
     ∃ u : State, exec (.fabricResult n) s = .next (s.after (u.reply Op.fabricSearch q 0 (s.fabReplyWords j r))) ∧
      u.fabJob n = none ∧ u.tern.searches = s.tern.searches)))

/-- Twins: configuration, heartbeats, mirrored operations and resync. Model's choices: log entries 97, 98, 99. -/
def Obligations.TwinsComplete : Prop :=
  (∀ (q : Request) (s : State), Taken Op.twinConfig q s → q.stray 0 0x13 = false → s.fab.joined = false → s.twin.mirrors = [] →
   s.waits .resync = false →
   (q.f 0 0 2 = 0 → ∃ u : State, exec (.twinConfig q) s = .next (s.after (u.reply Op.twinConfig q 0 [])) ∧ u.twin.config = none ∧
    u.twin.formed = false ∧ u.twin.diverged = false ∧ u.twin.linkUp = s.twin.linkUp) ∧
   (q.f 0 0 2 = 1 → s.twin.config ≠ some (q.b 0 4) → ∃ u : State, exec (.twinConfig q) s = .next (s.after (u.reply Op.twinConfig q 0 [])) ∧
    u.twin.config = some (q.b 0 4) ∧ u.twin.formed = false ∧ u.twin.lastSent = s.timeNs)) ∧
  (∀ (q : Request) (s : State), Taken Op.twinStatus q s → s.twin.resync = none → exec (.twinStatus q) s = .next (s.after (s.reply
   Op.twinStatus q 0 [w32 (s.twinRole + b2n s.twin.actingLead * 4 + b2n s.twin.diverged * 8 + b2n s.twin.linkUp * 16 +
    b2n s.twin.partnerSeen * 32 + b2n s.twin.roleClash * 128 + s.preparedCount % 256 * 2 ^ 8), s.rd Reg.mitreHbMissed,
    w32 (s.twin.lostAt.elim 0 (fun a => min 0xFFFFFFFF ((s.clk.age - a) / usC))), 0]))) ∧
  (∀ (q : Request) (s : State), Taken Op.twinResync q s → q.stray 0 0x3 = false → (s.twin.diverged = true ∨ q.b 0 1 = true) →
   s.twin.resync = none → s.partnerPresent → ∃ u : State,
    exec (.twinResync q) s = .next (s.after ((u.replyPending Op.twinResync q).wait .resync Op.twinResync q 0 [])) ∧
    u.twin.resync = some ⟨!q.b 0 0, false, false, false⟩ ∧ u.twin.ingressHeld = (s.twin.ingressHeld || q.b 0 0) ∧
    u.out.links = s.out.links ++ [(.mitre, .mirror ⟨s.twin.nextRef, Op.twinResync, [], [w32 (b2n (!q.b 0 0))]⟩)]) ∧
  (∀ (s : State) (f : Bool), s.coreUp → s.twin.config = some f →
   (s.twin.linkUp → Makes .heartbeatSend s fun t => t.out.links = s.out.links ++ [(.mitre, .heartbeat ⟨f, s.twin.diverged,
    s.twin.actingLead, (s.twin.prepared.filter (·.ready)).flatMap (·.ids), if s.fab.joined then some s.ownAddr else none⟩)] ∧ s.twin.lastSent + 10000 ≤ t.twin.lastSent) ∧
   (∀ h : Heartbeat, (h.follow ≠ f → Makes (.heartbeatReceived h) s fun t => t.twin.formed = true ∧ t.twin.misses = 0 ∧ t.twin.lost = false ∧
     t.twin.partnerSeen = true ∧ t.twin.diverged = (s.twin.diverged || !s.twin.formed) ∧ t.twin.lastBeat = s.timeNs) ∧
    (h.follow = f → Makes (.heartbeatReceived h) s fun t => t.twin.roleClash = true ∧ t.twin.formed = false)) ∧
   (s.twin.partnerSeen → s.twin.misses + 1 ≠ 3 → Makes .heartbeatMissed s fun t => t.twin.misses = s.twin.misses + 1 ∧
    t.twin.lost = s.twin.lost ∧ t.rd Reg.mitreHbMissed = w32 (min 0xFFFFFFFF ((s.rd Reg.mitreHbMissed).toNat + 1))) ∧
   (s.twin.partnerSeen → s.twin.misses = 2 → s.twin.formed → s.twin.lost = false → s.twin.mirrors = [] →
    Makes .heartbeatMissed s fun t => t.twin.lost = true ∧ t.twin.diverged = true ∧ t.twin.actingLead = f ∧ t.twin.partnerSeen = false ∧
     t.rd Reg.mitrePartnerLostCount = w32 (min 0xFFFFFFFF ((s.rd Reg.mitrePartnerLostCount).toNat + 1))) ∧
   (∀ m : MirrorOp, s.fwUp → s.followRefuses → s.twin.resync = none → m.op = Op.glueOpen → s.twin.waitOps = [] →
    s.twin.prepared = [] → m.glue ≠ 0 → (s.glueUp m.glue).st = .free → Makes (.mirroredOperation m) s fun t =>
     (t.glueUp m.glue).st = .opened ∧ (t.glueUp m.glue).opener = .host ∧ t.out.links = s.out.links ++ [(.mitre, .confirm m.ref true)] ∧
     ∀ i, i ≠ m.glue → t.glueUp i = s.glueUp i) ∧
   (∀ m : MirrorWait, s.twin.mirrors = [m] → Makes (.mirrorConfirm m.ref true) s fun t => m.final = none → t.twin.mirrors = [] ∧
    t.cmdq = s.cmdq ∧ t.rd Reg.mitreMirrorOpsCount = w32 (min 0xFFFFFFFF ((s.rd Reg.mitreMirrorOpsCount).toNat + 1))) ∧
   (∀ (m : MirrorWait) (st : Nat) (ws : List Word), s.twin.mirrors = [m] → m.final = some (st, ws) → ∃ u : State,
    exec (.mirrorConfirm m.ref true) s = .next (s.after (u.replyFrom m.op m.q st (s.sideFlag m.q) ws)) ∧ u.twin.mirrors = [] ∧
    u.glue = s.glue) ∧
   (∀ (u : State) (r : Resync) (e : BitVec 3) (img : ResyncImage), s.twin.resync.isSome → u = (if s.fab.joined then s else s.boundary) →
    u.twin.resync = some r → u.waits .resync = false →
    ((s.fab.joined → r.due = true) → (r.source = true ∨ r.dropped = true) → Makes (.resyncSwitchover e img) s fun t =>
     t.twin.resync = none ∧ t.twin.diverged = false ∧ t.twin.ingressHeld = false ∧
     (r.source = false → t.glue.c = e ∧ t.out.images = u.out.images) ∧
     (r.source → t.glue = u.glue ∧ t.tern = u.tern ∧ t.exm = u.exm ∧
      t.out.images = u.out.images ++ [(u.glue.c, u.resyncImage img.bytes)])) ∧
    (s.fab.joined → r.due = false → Makes (.resyncSwitchover e img) s fun t => t.twin = s.twin ∧ t.glue = s.glue ∧
     t.out = s.out)) ∧
   (∀ r : Resync, s.twin.resync = some r → s.waits .resync = false → Makes .resyncAborted s fun t => t.twin.resync = none ∧
    t.twin.linkUp = false ∧ t.twin.ingressHeld = s.twin.ingressHeld))

/-- The two-phase clamp of a twin, its time limits, and the parting. Model's choices: log entry 102. -/
def Obligations.TwinClampsComplete : Prop :=
  ∀ s : State, s.coreUp →
   (∀ i : Nat, s.followRefuses → s.twin.prepared = [] → s.holdsAll i → Makes (.prepare [i]) s fun t =>
    (t.glueUp i).st = .clamping ∧ (t.glueUp i).held = true ∧ (t.glueUp i).clampAt = s.clk.age ∧
    t.twin.prepared = [⟨[i], true, s.clk.age, none, false⟩] ∧ t.out.links = s.out.links ++ [(.mitre, .ready [i])] ∧
    ∀ j, j ≠ i → t.glueUp j = s.glueUp j) ∧
   (∀ p : PrepJob, s.twin.preps = [p] → p.committed = false → p.alone = false →
    (Makes (.ready p.ids) s fun t => ∃ b, p.target ≤ b ∧ t.twin.preps = [{ p with target := b, committed := true }] ∧
     t.out.links = s.out.links ++ [(.mitre, .commit p.ids b)] ∧ (s.boundaryAfter 400 ≤ p.target → b = p.target)) ∧
    (Makes .prepareRetarget s fun t => t.twin.preps = [{ p with target := p.target + s.quantum * 1000 }] ∧ t.glue = s.glue) ∧
    (s.twin.mirrors = [] → s.clk.age < 2 ^ 63 → p.since < 2 ^ 62 → Makes .readyTimeout s fun t => t.twin.diverged = true ∧
     t.clk.age = max s.clk.age (p.since + 125000) ∧ t.twin.lostAt = some t.clk.age ∧
     t.rd Reg.mitrePartnerLostCount = w32 (min 0xFFFFFFFF ((s.rd Reg.mitrePartnerLostCount).toNat + 1)))) ∧
   (∀ p : FollowPrep, s.twin.prepared = [p] → p.ready → p.commitAt = none →
    (∀ b : Nat, s.clk.dt + 250 * s.tickUnits ≤ b * dtUnit → Makes (.commit p.ids b) s fun t =>
     t.twin.prepared = [{ p with commitAt := some b }] ∧ t.rd Reg.mitreLateCommitCount = s.rd Reg.mitreLateCommitCount) ∧
    (∀ b : Nat, b * dtUnit < s.clk.dt + 250 * s.tickUnits → Makes (.commit p.ids b) s fun t =>
     ∃ c, b < c ∧ t.twin.prepared = [{ p with commitAt := some c }] ∧
     t.rd Reg.mitreLateCommitCount = w32 (min 0xFFFFFFFF ((s.rd Reg.mitreLateCommitCount).toNat + 1))) ∧
    (s.twin.mirrors = [] → s.clk.age < 2 ^ 63 → p.since < 2 ^ 62 → Makes .commitTimeout s fun t => t.twin.diverged = true ∧
     t.twin.actingLead = s.isFollow ∧ t.clk.age = max s.clk.age (p.since + 125000))) ∧
   (s.twin.formed → s.twin.diverged = false →
    (s.noPhase = false → Makes .parting s fun t => t.twin = { s.twin with parting := true } ∧ t.glue = s.glue) ∧
    (s.noPhase → s.pwr.entry = none → s.twin.mirrors = [] → Makes .parting s fun t => t.twin.diverged = true ∧
     t.twin.parting = false ∧ t.twin.lost = true))


/-! ## Security, presence and the life cycle (chapter 11) -/

/-- Sessions, keys, the life cycle and the tamper record: the commands. Model's choices: log entries 139, 144, 145, 146, 149. -/
def Obligations.SecurityCommandsComplete : Prop :=
  (∀ (q : Request) (s : State), Taken Op.sessionCreate q s → s.lcKeys →
   (∀ kek key n, q.f 0 0 2 = 0 → s.badSession q = false → s.heath.tampPresent = false → smGet none s.sec.keys.keks (q.f 0 4 4) = some kek →
    keyUnwrap (nats kek) (nats ((bytesOf (q.words.drop 10)).take (if q.b 0 8 then 40 else 24))) = some key → s.sessionPick q = some n →
    s.session n = none → s.findSession (sameBinding (q.session (bytes key))) = none →
    exec (.sessionCreate q) s = .next (s.after ((s.setSession n (some (q.session (bytes key)))).reply Op.sessionCreate q 0 [w32 n]))) ∧
   (q.f 0 0 2 = 1 → q.badSecCfg = false → ∃ u : State, exec (.sessionCreate q) s = .next (s.after (u.reply Op.sessionCreate q 0 [])) ∧
    u.secCfg (q.f 0 8 8) = ⟨q.w 0, q.w 1, BitVec.ofNat 64 ((q.w 2).toNat + 2 ^ 32 * (q.w 3).toNat)⟩ ∧
    ∀ i, i ≠ q.f 0 8 8 → u.secCfg i = s.secCfg i)) ∧
  (∀ (q : Request) (s : State), Taken Op.sessionDelete q s → q.stray 0 0xFFF = false → (s.session (q.f 0 0 12)).isSome →
   exec (.sessionDelete q) s = .next (s.after ((s.setSession (q.f 0 0 12) none).reply Op.sessionDelete q 0 []))) ∧
  (∀ (q : Request) (s : State) (x : Session), Taken Op.sessionStatus q s → q.stray 0 0xFFF = false → s.session (q.f 0 0 12) = some x →
   exec (.sessionStatus q) s = .next (s.after (s.reply Op.sessionStatus q 0
    (w32 (x.kind + b2n x.exhausted * 4 + b2n x.threshold * 8 + x.an * 16 + x.port * 256) ::
     toWords 2 (if x.kind = 1 then x.pn - 1 else x.pn) ++ [w32 x.good, w32 x.failures, w32 x.replays])))) ∧
  (∀ (q : Request) (s : State) (key : List Byte), s.keyRefused = 0 → q.key = some key →
   (Taken Op.keyLoad q s → q.badKey 16 = false → ∃ u : State, exec (.keyLoad q) s = .next (s.after (u.reply Op.keyLoad q 0 [keyCheck key])) ∧
    smGet none u.sec.keys.keks (q.f 0 0 4) = some key ∧ smGet none u.sec.flashKeys.keks (q.f 0 0 4) = some key ∧
    u.sec.keys.fabric = s.sec.keys.fabric ∧ ∀ i, i ≠ q.f 0 0 4 → smGet none u.sec.keys.keks i = smGet none s.sec.keys.keks i) ∧
   (Taken Op.fabricKeySet q s → q.badKey 1 = false → q.b 0 9 → ∃ u : State,
    exec (.fabricKeySet q) s = .next (s.after (u.reply Op.fabricKeySet q 0 [keyCheck key])) ∧ u.sec.keys.fabric = some key ∧
    u.sec.flashKeys.fabric = some key ∧ u.sec.keys.keks = s.sec.keys.keks)) ∧
  (∀ (q : Request) (s : State), Taken Op.lifecycleSet q s → q.stray 0 0xFFFF000F = false → q.f 0 16 16 = 0x4C43 →
   lcAllowed s.lifeCycle (q.f 0 0 4) → (q.f 0 0 4 = 5 ∨ s.sec.log.length < 62) → Makes (.lifecycleSet q) s fun t =>
    t.sec.burning = some (q.f 0 0 4, q) ∧ t.sec.sessions = [] ∧ t.sec.keys = keys0 ∧ t.sec.flashKeys = keys0 ∧ t.heath.pendingWipe = true ∧
    t.scr.mem = s.scr.mem.filter (fun c => !inSecure c.1) ∧ t.lifeCycle = s.lifeCycle) ∧
  (∀ (q : Request) (s : State), Taken Op.tamperRead q s → exec (.tamperRead q) s = .next (s.after (s.reply Op.tamperRead q 0
   [s.tamperStatus, s.heath.tampFirst, s.heath.tampLast, s.rd Reg.heathPresCount]))) ∧
  (∀ (q : Request) (s : State), Taken Op.tamperClear q s → exec (.tamperClear q) s = .next (s.after (({ s with heath := { s.heath with
   tampPresent := false, tampCause := 0, tampCount := 0, tampFirst := 0, tampLast := 0 } } : State).reply Op.tamperClear q 0 [])))

/-- Presses, the presence window, seals, tamper, and the end of an erase or a burn. Model's choices: log entries 147, 150, 151. -/
def Obligations.SecurityEventsComplete : Prop :=
  ∀ s : State, s.coreUp →
   (s.heath.presLow = false → s.pwr.entry = none → Makes .presNFall s fun t => t.heath.presLow = true ∧ t.heath.pressAt = s.heath.rtc ∧
    t.heath.sealOk = s.heath.sealOpen ∧ t.heath.windowEnd = s.heath.windowEnd) ∧
   (∀ n : Nat, s.heath.presLow →
    (65536 ≤ n → n ≤ 327680 → s.heath.sealOk → s.heath.sealOpen → s.pwr.state = .run → Makes (.presNRise n) s fun t =>
     t.heath.presLow = false ∧ t.heath.windowEnd = some (t.heath.rtc + 3932160) ∧ t.presence = true) ∧
    ((n < 65536 ∨ 327680 < n ∨ s.heath.sealOk = false ∨ s.heath.sealOpen = false) → Makes (.presNRise n) s fun t =>
     t.heath.presLow = false ∧ t.heath.windowEnd = s.heath.windowEnd ∧
     t.rd Reg.heathPresRejectCount = w32 (min 0xFFFFFFFF ((s.rd Reg.heathPresRejectCount).toNat + 1)))) ∧
   (s.heath.windowEnd ≠ none → Makes .presenceWindowExpiry s fun t => t.presence = false ∧ t.heath.presLow = s.heath.presLow) ∧
   (Makes .sealClosed s fun t => t.presence = false ∧ t.heath.sealOpen = false ∧ t.heath.sealOk = false ∧ t.reg = s.reg) ∧
   (Makes .sealOpened s fun t => t.heath.sealOpen = true ∧ t.heath.windowEnd = s.heath.windowEnd ∧ t.reg = s.reg) ∧
   (∀ i : Fin 2, s.rb Reg.heathTampCtrl i → Makes (.tamperDetected i) s fun t => t.heath.tampPresent = true ∧
    t.heath.tampCount = min 255 (s.heath.tampCount + 1) ∧ t.heath.tampCause = s.heath.tampCause ||| 2 ^ i.val ∧ t.sec.sessions = [] ∧
    t.sec.keys = keys0 ∧ t.sec.flashKeys = keys0 ∧ t.heath.pendingWipe = true ∧ t.presence = false ∧
    t.scr.mem = s.scr.mem.filter (fun c => !inSecure c.1)) ∧
   (s.fwUp → Makes .keyStoreEraseDone s fun t => t.heath = { s.heath with pendingWipe := false } ∧ t.sec = s.sec) ∧
   (∀ (n : Nat) (q : Request), s.fwUp → s.sec.burning = some (n, q) →
    (n ≠ 5 → lcAllowed s.lifeCycle n → s.sec.log.length < 62 → Makes .lifecycleBurnDone s fun t =>
     t.sec.log = s.sec.log ++ [some n] ∧ t.sec.burning = none ∧ t.sec.scrapped = s.sec.scrapped) ∧
    (n = 5 → Makes .lifecycleBurnDone s fun t => t.lifeCycle = 5 ∧ t.sec.burning = none ∧ t.sec.log = s.sec.log))


/-! ## Power, clocks, resets and start-up (chapter 14) -/

/-- Power, wake and calibration commands, record clears and the temperature. Model's choices: log entries 179, 184. -/
def Obligations.PowerCommandsComplete : Prop :=
  (∀ (q : Request) (s : State), Taken Op.powerReport q s → exec (.powerReport q) s = .next (s.after
   (s.reply Op.powerReport q 0 ([w32 (s.pwr.state.code + s.pwr.lanes * 2 ^ 8 + s.coresOn * 2 ^ 16 + b2n s.pwr.recovery * 2 ^ 24)] ++
    toWords 4 s.poweredSegs ++ [w32 s.poweredPorts, w32 s.poweredGroups, s.rd Reg.arrayGovCtrl,
    w32 (s.tern.govLevel / 1250), w32 (s.pwr.temp % 2 ^ 12).toNat])))) ∧
  (∀ (q : Request) (s : State), Taken Op.powerState q s → q.stray 0 0x7 = false →
   (q.f 0 0 3 = 0 → ∃ u : State, exec (.powerState q) s = .next (s.after (u.reply Op.powerState q 0 [])) ∧ u.pwr.dozeOn = false ∧
    u.pwr.state ≠ .doze ∧ u.reg = s.reg) ∧
   (q.f 0 0 3 = 1 → exec (.powerState q) s = .next (s.after (({ s with pwr := { s.pwr with dozeOn := true } } : State).reply Op.powerState q 0
    []))) ∧
   (q.f 0 0 3 = 2 ∨ q.f 0 0 3 = 3 ∨ q.f 0 0 3 = 4 ∧ s.rb Reg.heathFallowCtrl 0 → s.anyWake (powerOf (q.f 0 0 3)) →
    ∃ u : State, exec (.powerState q) s = .next (s.after ((u.replyPending Op.powerState q).wait .powerEntry Op.powerState q 0 [])) ∧
    u.pwr.entry = some ⟨powerOf (q.f 0 0 3), false, s.clk.age, none, false⟩)) ∧
  (∀ (q : Request) (s : State), Taken Op.wakeConfig q s → q.stray 0 0xFFFF7FF1 = false → q.f 0 24 8 ≠ 0 →
   firstBelow 4 (fun n => q.b 0 (4 + n) && nfld s.time.capture n 1 == 1) = none →
   exec (.wakeConfig q) s = .next (s.after (((s.wr Reg.heathWakeCtrl (q.w 0)).wr Reg.heathRtcAlarm (q.w 1)).reply Op.wakeConfig q 0 []))) ∧
  (∀ (q : Request) (s : State), Taken Op.calRestoreFactory q s → s.lifeCycle ≠ 2 → exec (.calRestoreFactory q) s = .next (s.after
   (({ s with pwr := { s.pwr with user := [] } } : State).wait .calErase Op.calRestoreFactory q 0 [w32 s.pwr.user.length]))) ∧
  (∀ s : State,
   (Makes .clearOrderRecord s fun t => t.heath = { s.heath with orderRec := false, orderPending := false } ∧ t.rd Reg.heathPowerOrder = 0) ∧
   (Makes .clearClkRecord s fun t => t.heath = { s.heath with clkRec := false } ∧ t.reg = s.reg) ∧
   (Makes .clearThermRecord s fun t => t.heath = { s.heath with thermRec := false, thermPending := false } ∧ t.reg = s.reg) ∧
   (Makes .clearVaonPorRecord s fun t => t.heath = { s.heath with vaonPor := false } ∧ t.reg = s.reg)) ∧
  (∀ (s : State) (v : Word) (k i : Nat), s.fwUp → bit v 31 → k = s.rf Reg.powerCalSel 0 4 → i = s.rf Reg.powerCalSel 8 6 →
   calExists k i → s.pwr.calReqs = 0 →
   (fld v 0 2 = 0 → Makes (.calRead v) s fun t => t.pwr = s.pwr ∧
    t.rd Reg.powerCalResult = w32 (((s.calValue k i).1 % 2 ^ 16).toNat + b2n (s.calValue k i).2 * 2 ^ 16)) ∧
   (fld v 0 2 = 1 → k ≤ 5 → Makes (.calWrite v) s fun t => t.calValue k i = (signed 16 (s.rf Reg.powerCalValue 0 16), true) ∧
    t.pwr.calWrites = s.pwr.calWrites + 1 ∧ t.pwr.calFlash = s.pwr.calFlash ∧ ∀ l j, j < 64 → i < 64 → (l, j) ≠ (k, i) →
    t.calValue l j = s.calValue l j)) ∧
  (∀ (s : State) (v : Word), s.coreUp → s.fwUp = false → bit v 31 → ∀ i ∈ [Instr.calRead v, .calWrite v], Makes i s fun t =>
   t.pwr = { s.pwr with calReqs := min 2 (s.pwr.calReqs + 1) } ∧ t.rd Reg.powerCalResult = s.rd Reg.powerCalResult) ∧
  (∀ s : State, s.fwUp → s.pwr.calWrites ≠ 0 → Makes (.calStoreWritten true) s fun t => t.pwr.calFlash = s.pwr.user ∧
   t.pwr.user = s.pwr.user ∧ t.pwr.calWrites = 0) ∧
  (∀ (s : State) (n : Int), s.coreUp → Makes (.tempReading n) s fun t => t.pwr.temp = n + (s.calValue 3 0).1 ∧
   (4 * (s.rf Reg.powerThermWarn 0 8 : Int) ≤ t.pwr.temp → t.pwr.thermWarn = true) ∧
   (t.pwr.temp ≤ 4 * (s.rf Reg.powerThermWarn 0 8 : Int) - 20 → t.pwr.thermWarn = false))

/-- Rails, resets and clocks. Model's choices: log entries 176, 177. -/
def Obligations.ResetsComplete : Prop :=
  ∀ s : State,
   ((∀ r, 1 ≤ r → r < 13 → smGet 0 s.pwr.rails r ≤ 75) → Makes .vaonPowerOn s fun t => t.pwr.vio2Sel = s.pwr.vio2Strap ∧ t.pwr.holdVaon = false ∧ t.pwr.holdOrder = false ∧
    t.pwr.state = .run ∧ t.rail 0 = .high ∧ t.heath.rtc = 0 ∧ t.heath.vaonPor = true ∧ t.sec.sessions = [] ∧ t.tern = ternReset ∧
    t.sec.log = s.sec.log ∧ t.scr.mem = []) ∧
   (Makes .vaonBrownout s fun t => t.coreUp = false ∧ t.pwr.holdVaon = true ∧ t.heath.windowEnd = none ∧ t.sec.sessions = [] ∧
    t.scr.mem = [] ∧ t.sec.log = s.sec.log) ∧
   (∀ (r : Rail) (mv : Nat) (v : BitVec 8) (u : State), s.pwr.holdVaon = false → s.pwr.ioFirst = false → s.orderFault = none →
    u = { s with pwr := { s.pwr with rails := smSet 0 s.pwr.rails r.num mv, vio2Strap := v } } →
    (u.orderFault = none → r ≠ .vddc → Makes (.railChange r ⟨mv, v⟩) s fun t => t.pwr = u.pwr ∧ t.reg = s.reg ∧ t.heath = s.heath ∧
     (10 * mv ≤ s.nominal r.num → t.rail r.num = .low) ∧ (9 * s.nominal r.num ≤ 10 * mv → t.rail r.num = .high) ∧
     ∀ k, k ≠ r.num → t.rail k = s.rail k) ∧
    (∀ a p, u.orderFault = some (a, p) → Makes (.railChange r ⟨mv, v⟩) s fun t => t.pwr.holdOrder = true ∧ t.heath.orderRec = true ∧
     t.coreUp = false ∧ (s.coreOn → t.sec.sessions = [] ∧ t.sw.frames = []))) ∧
   (∀ n : Nat, 1000 ≤ n → s.pwr.holdVaon = false → Makes (.rstNLow n) s fun t => t.presence = false ∧ t.coreUp = false ∧
    t.pwr.state = .run ∧ t.pwr.holdRst = true ∧ t.scr.mem = [] ∧ t.sw.frames = [] ∧ t.tern = ternReset ∧ t.sec.log = s.sec.log) ∧
   (∀ n : Nat, s.pwr.holdRst → Makes (.rstNRise n) s fun t => t.pwr.holdRst = false ∧ t.pwr.holdTherm = false ∧ t.reg = s.reg ∧
    (n < 10000 → t.pwr.holdOrder = s.pwr.holdOrder)) ∧
   (s.coreOn → Makes .sysclkLoss s fun t => t.pwr.holdSysclk = true ∧ t.heath.clkRec = true ∧ t.coreUp = false ∧ t.scr.mem = []) ∧
   (s.pwr.holdSysclk → Makes .sysclkRestored s fun t => t.pwr.holdSysclk = false ∧ t.heath.clkRec = s.heath.clkRec ∧
    t.rd Reg.heathWakeCount = w32 (min 0xFFFFFFFF ((s.rd Reg.heathWakeCount).toNat + 1))) ∧
   (s.coreUp → Makes .refclkLoss s fun t => t.pwr.refclkLost = true ∧ (∀ n : Fin 32, (t.ethPort n).linkUp = false) ∧
    ∀ l, t.linkIsUp l = false) ∧
   (s.coreUp → Makes .refclkRestored s fun t => t.pwr.refclkLost = false ∧ t.sw = s.sw ∧ t.fab = s.fab) ∧
   (Makes .xtalFail s fun t => t.heath = { s.heath with xtalFail := true } ∧ t.pwr = s.pwr) ∧
   (s.coreOn → s.pwr.holdTherm = false → Makes .thermalTrip s fun t => t.pwr.holdTherm = true ∧ t.heath.thermRec = true ∧
    t.coreUp = false ∧ t.rd Reg.heathThermTripCount = w32 (min 0xFFFFFFFF ((s.rd Reg.heathThermTripCount).toNat + 1))) ∧
   (s.pwr.holdTherm → s.rb Reg.heathThermCtrl 0 → Makes .thermalRestart s fun t => t.pwr.holdTherm = false ∧
    t.heath.thermRec = s.heath.thermRec)

/-- Standby, wakes, gating within Run, and the start. Model's choices: log entries 11, 87, 158, 181, 182, 183. -/
def Obligations.StandbyAndStartComplete : Prop :=
  ∀ s : State,
   (∀ e : Entry, s.coreUp → s.pwr.entry = some e → s.entryReady e → s.waits .powerEntry = false → s.repliesOut →
    e.target = .watch → e.latched = none → Makes .powerEntryComplete s fun t => t.pwr.state = .watch ∧ t.pwr.entry = none ∧
     t.pwr.coreEn = false ∧ t.pwr.ioEn = true ∧ t.coreUp = false ∧
     t.rd Reg.powerWatchCount = w32 (min 0xFFFFFFFF ((s.rd Reg.powerWatchCount).toNat + 1))) ∧
   (s.coreUp → s.pwr.dozeOn → s.pwr.state = .run → s.pwr.entry = none → s.sw.frames = [] → s.sw.copies = [] →
    s.cmdq.cmds = [] → s.boundaryWork = false → Makes .dozeEntry s fun t => t.pwr = { s.pwr with state := .doze } ∧
     t.rd Reg.powerDozeCount = w32 (min 0xFFFFFFFF ((s.rd Reg.powerDozeCount).toNat + 1))) ∧
   (s.coreUp → Makes .dozeExit s fun t => t.pwr.state = .run ∧ t.reg = s.reg) ∧
   (∀ n : Fin 4, s.pwr.entry = none →
    (s.pwr.state = .run → Makes (.wakeInEdge n true) s fun t => t.pwr = s.pwr ∧
     (s.coreUp → nfld s.time.capture n 1 = 1 → smGet capture0 t.time.caps n = ⟨s.nsecNow, s.secNow⟩)) ∧
    (∀ b, s.pwr.state = .watch → s.rb Reg.heathWakeCtrl (8 + n.val) = b → s.wakeEnabled 1 n → Makes (.wakeInEdge n b) s fun t =>
     t.pwr.state = .run ∧ t.pwr.starting = true ∧ fld (t.rd Reg.heathWakeCause) 0 8 = 1 ∧ fld (t.rd Reg.heathWakeCause) 8 8 = n.val)) ∧
   (s.pwr.entry = none → (s.rd Reg.heathRtcAlarm).toNat * 32768 ≤ s.heath.rtc → s.heath.rtc < (s.rd Reg.heathRtcAlarm).toNat * 32768 + 32768 →
    (s.pwr.state = .run → s.pwr.starting = false → Makes .rtcAlarm s fun t => t.pwr = s.pwr ∧ t.heath = s.heath) ∧
    (s.pwr.state = .watch → s.rb Reg.heathWakeCtrl 13 → Makes .rtcAlarm s fun t => t.pwr.state = .run ∧ t.heath.rtc = s.heath.rtc ∧
     fld (t.rd Reg.heathWakeCause) 0 8 = 4)) ∧
   (s.pwr.entry = none → s.spiUp →
    (s.pwr.state = .run → s.pwr.starting = false → Makes .heathWakeReq s fun t => t.pwr = s.pwr ∧ t.reg = s.reg) ∧
    (s.pwr.state = .watch → s.rb Reg.heathWakeCtrl 14 → Makes .heathWakeReq s fun t => t.pwr.state = .run ∧
     fld (t.rd Reg.heathWakeCause) 0 8 = 5)) ∧
   (s.heath.wakeOut ≠ none → Makes .wakeOutRelease s fun t => t.heath.wakeOut = none ∧ t.pwr = s.pwr) ∧
   (∀ n, s.matcherOn → (s.desigOf n).isSome → Makes (.wakeMatcherEdge n) s fun t => t.heath = { s.heath with wakeRc := true }) ∧
   (∀ n d i f, s.matcherOn → s.heath.wakeRc → s.desigOf n = some d → f.good → f.remote = false → f.runt = false → n < 64 → i < 16 →
    firstBelow 16 (fun i => patternMatches (smGet [] s.heath.patterns i) d f) = some i → Makes (.wakeMatch n f) s fun t =>
     t.pwr.state = .run ∧ t.pwr.starting = true ∧ fld (t.rd Reg.heathWakeCause) 0 8 = 3 ∧ fld (t.rd Reg.heathWakeCause) 8 8 = i) ∧
   (∀ l, s.coreUp → l < 8 → s.laneOn l → s.minLanes < ((List.range 8).filter s.laneOn).length → s.laneLoad l = 0 →
    s.agentReads l = false → (∀ k, l < k → k < 8 → s.laneOn k = false) → Makes (.laneGate l) s fun t =>
     t.pwr.lanes = s.pwr.lanes - 2 ^ l ∧ t.agentGated l = true) ∧
   (∀ l, s.coreUp → l < 8 → s.pwr.ungating = [l] → s.laneOn l = false → Makes (.laneUngateDone l) s fun t =>
    t.pwr.lanes = s.pwr.lanes + 2 ^ l ∧ t.pwr.ungating = [] ∧ t.agentGated l = false) ∧
   (s.coreUp → s.pwr.starting → s.pwr.booted = false → Makes .startSequence s fun t => t.pwr.booted = true) ∧
   (s.coreUp → s.pwr.starting → s.pwr.booted → s.clk.age < 2 ^ 63 → s.scr.clearEnd < 2 ^ 62 → Makes .fwReady s fun t => t.pwr.fwReady = true ∧ t.pwr.starting = false ∧
    t.clk.age = max s.clk.age s.scr.clearEnd ∧ t.upd.readyAt = t.clk.age ∧ t.heath.orderPending = false ∧ t.heath.thermPending = false ∧ t.upd.bootEvents = [])


/-! ## Scratchpad and gleaner (chapter 12) -/

/-- Scratchpad accesses and the host access path: what they return and what they leave. Model's choices: log entries 157, 158. -/
def Obligations.ScratchAccessesComplete : Prop :=
  ∀ s : State, s.coreUp → s.scr.waits = [] → s.arb.locks = [] → s.glean.window = none → s.scr.hostNext = false →
   s.clearing = false →
   (∀ (b : Fin 16) (q : ScratchReq) (x y : List ScratchReq), q.bank = b.val → q.master ≠ 4 → q.lock = 0 →
    (q.letter = 0 ∧ x = [q] ∧ y = [] ∨ q.letter = 1 ∧ x = [] ∧ y = [q]) →
    (q.barred → Makes (.scratchAccessGrant b x y) s fun t => t.scr.mem = s.scr.mem ∧ ∃ d, t.scr.done = s.scr.done ++ [d] ∧
     d.secure = true ∧ d.data = 0 ∧ d.req = q) ∧
    (q.barred = false → s.badBytes q.word = 0 → Makes (.scratchAccessGrant b x y) s fun t =>
     (∀ o, o < q.word ∨ q.word + 8 ≤ o → t.scrByte o = s.scrByte o) ∧
     t.scr.done = s.scr.done ++ [⟨q, if q.op = .write then 0 else s.scrWord q.word, false, false, 0, false⟩] ∧
     (match q.op with
      | .read => t.scrWord q.word = s.scrWord q.word
      | .write => ∀ i, i < 8 → t.scrByte (q.word + i) =
        if nfld q.be.toNat i 1 = 1 then BitVec.ofNat 8 (q.data.toNat / 256 ^ i) else s.scrByte (q.word + i)
      | .add => t.scrWord q.word = s.scrWord q.word + q.data
      | .swap => t.scrWord q.word = q.data))) ∧
   (∀ (v : Word) (o : Nat), o = s.rf Reg.scratchHostAddr 3 19 * 8 → o < 0x380000 → s.badBytes o = 0 →
    (Makes (.scratchHostRead v) s fun t => t.rd64 Reg.scratchHostRdataLo = (s.scrWord o).toNat ∧ t.scr.mem = s.scr.mem ∧
     fld (t.rd Reg.scratchHostResult) 0 2 = 0) ∧
    (Makes (.scratchHostWrite v) s fun t => (∀ i, i < 8 → t.scrByte (o + i) =
      if bit v (8 + i) = true then BitVec.ofNat 8 (s.rd64 Reg.scratchHostWdataLo / 256 ^ i) else s.scrByte (o + i)) ∧
     ∀ p, p < o ∨ o + 8 ≤ p → t.scrByte p = s.scrByte p) ∧
    (Makes (.scratchHostAdd v) s fun t => t.rd64 Reg.scratchHostRdataLo = (s.scrWord o).toNat ∧
     t.scrWord o = s.scrWord o + BitVec.ofNat 64 (s.rd64 Reg.scratchHostWdataLo) ∧ ∀ p, p < o ∨ o + 8 ≤ p → t.scrByte p = s.scrByte p) ∧
    (Makes (.scratchHostSwap v) s fun t => t.rd64 Reg.scratchHostRdataLo = (s.scrWord o).toNat ∧
     t.scrWord o = BitVec.ofNat 64 (s.rd64 Reg.scratchHostWdataLo) ∧ ∀ p, p < o ∨ o + 8 ≤ p → t.scrByte p = s.scrByte p))

/-- The gleaner: walks, failures, repairs between partners, and borrowed windows. Model's choices: log entries 160, 161, 162. -/
def Obligations.GleanerCompletes : Prop :=
  ∀ s : State, s.coreUp →
   (∀ a b, s.rb Reg.gleanerCtrl 0 → s.nextAssigned s.glean.ternNext = some a → (s.row a).ok → (s.word a).ok →
    (if a + 1 < 2097152 then s.nextAssigned (a + 1) else none) = some b → Makes .gleanerTernRead s fun t => t.tern.rows = s.tern.rows ∧
     t.tern.words = s.tern.words ∧ t.tern.gleanQ = s.tern.gleanQ ∧ t.glean.ternNext = b ∧ t.glean.exactNext = s.glean.exactNext) ∧
   (s.rb Reg.gleanerCtrl 1 → (s.slot s.glean.exactNext).ok → Makes .gleanerExactRead s fun t => t.exm = s.exm ∧
    t.glean.exactNext = if s.glean.exactNext + 1 < 1056768 then s.glean.exactNext + 1 else 0) ∧
   (s.rb Reg.gleanerCtrl 2 → s.glean.window.all (fun w => w.bank != s.glean.scrubNext % 16) → Makes .gleanerScrubRead s fun t => t.scr.mem = s.scr.mem ∧
    t.glean.scrubNext = (if s.glean.scrubNext + 1 < 524288 then s.glean.scrubNext + 1 else 0) ∧
    (s.badBytes (8 * s.glean.scrubNext) ≠ 0 → t.rd Reg.gleanerScrubErrCount =
     w32 (min 0xFFFFFFFF ((s.rd Reg.gleanerScrubErrCount).toNat + 1)))) ∧
   (∀ f rest, s.exm.gleanQ = f :: rest →
    ((s.slot f.row).ok → Makes (.gleanerFailureAction true) s fun t => t.exm = { s.exm with gleanQ := rest }) ∧
    (∀ tb d, (s.slot f.row).ok = false → (s.slot f.row).tag = 0 → s.exm.inserts = [] → s.ownerAt f.row = some (tb, d) → d.w = 1 →
     (s.slot f.row).state = .live → s.canAsk = false → Makes (.gleanerFailureAction true) s fun t => t.exm.gleanQ = rest ∧
      (t.slot f.row).state = .veneer ∧ (t.slot f.row).tag = 0 ∧ (t.slot f.row).death = s.glue.c ∧
      t.rd Reg.gleanerInvalidateCount = w32 (min 0xFFFFFFFF ((s.rd Reg.gleanerInvalidateCount).toNat + 1)))) ∧
   (∀ f rest, s.tern.gleanQ = f :: rest → s.findSlot f.table f.row = none → Makes (.gleanerFailureAction false) s fun t =>
    t.tern = { s.tern with gleanQ := rest }) ∧
   (∀ tb k, s.canAsk →
    (Makes (.gleanerRepairRequest true tb k) s fun t => t.out.links = s.out.links ++ [(.mitre, .repairReply true tb k (s.bucketCopy tb k))]) ∧
    (Makes (.gleanerRepairRequest false tb k) s fun t => t.out.links = s.out.links ++ [(.mitre, .repairReply false tb k (s.ternCopy tb k))])) ∧
   (∀ r, s.glean.repairs = [r] →
    (r.exact → Makes (.gleanerRepairReply true r.table r.key .failed) s fun t => t.glean.repairs = [] ∧ t.exm = s.exm) ∧
    (∀ d p c n rows tag birth dying index action, r.exact = false → s.findSlot r.table r.key = some (d, p, c, n) →
     s.slotClaimed r.table p n (s.placeAt d p n).tag = false →
     Makes (.gleanerRepairReply false r.table r.key (.ternary rows tag birth dying index action)) s fun t => t.glean.repairs = [] ∧
      t.rd Reg.gleanerRepairCount = w32 (min 0xFFFFFFFF ((s.rd Reg.gleanerRepairCount).toNat + 1))) ∧
    (r.exact → s.clk.age < 2 ^ 63 → r.since < 2 ^ 62 → Makes (.gleanerRepairTimeout true r.table r.key) s fun t =>
     t.glean.repairs = [] ∧ t.exm = s.exm ∧ t.clk.age = max s.clk.age (r.since + 25000))) ∧
   (s.rb Reg.gleanerCtrl 3 → s.glean.window = none → s.arb.locks = [] → s.clk.age < 2 ^ 62 → s.glean.lastWindow ≤ s.clk.age →
    Makes .gleanerWindowStart s fun t => t.glean.window = some ⟨s.glean.nextWindow % 16, s.glean.nextWindow / 16, t.clk.age⟩ ∧
     t.glean.lastWindow = t.clk.age ∧ t.clk.age = max s.clk.age (s.glean.lastWindow + s.winInterval)) ∧
   (∀ w, s.glean.window = some w →
    (Makes (.gleanerWindowEnd true true) s fun t => t.glean.window = none ∧ t.scr.mem = s.scr.mem ∧ t.glean.fault = s.glean.fault ∧
     t.glean.nextWindow = (s.glean.nextWindow + 1) % 1792 ∧
     t.rd Reg.gleanerWinCount = w32 (min 0xFFFFFFFF ((s.rd Reg.gleanerWinCount).toNat + 1))) ∧
    (Makes (.gleanerWindowEnd false true) s fun t => t.glean.window = none ∧ t.scr.mem = s.scr.mem ∧ t.glean.fault = true ∧
     t.rd Reg.gleanerWinFaultCount = w32 (min 0xFFFFFFFF ((s.rd Reg.gleanerWinFaultCount).toNat + 1))) ∧
    (∀ x, s.scr.waits = [x] → s.inWindow x.req → s.isUrgent x.req → Makes .urgentWindowAccess s fun t =>
     t.glean.window = none ∧ t.glean.nextWindow = s.glean.nextWindow ∧
     t.rd Reg.gleanerWinAbortCount = w32 (min 0xFFFFFFFF ((s.rd Reg.gleanerWinAbortCount).toNat + 1)))) ∧
   (Makes .gleanerFaultClear s fun t => t.glean.fault = false ∧ t.rd Reg.gleanerFaultLast = 0 ∧ t.glean.window = s.glean.window)


/-! ## Firmware and settings update (chapter 15) -/

/-- The update and settings commands. Model's choices: log entries 187, 191, 192, 193. -/
def Obligations.UpdateCommandsComplete : Prop :=
  (∀ (q : Request) (s : State) (c : ChunkWrite), Taken Op.updateChunk q s → s.rb Reg.updateLock 0 → q.stray 0 0x1FFF7F1F = false →
   c = ⟨q.f 0 0 5, q.f 0 8 5, q.w 1, q.w 2, (bytesOf (q.words.drop 3)).take (q.f 0 16 13), some q, none, false⟩ → c.shapeOk →
   c.data.length = q.f 0 16 13 → q.words.length = 3 + ceilDiv (q.f 0 16 13) 4 → s.upd.onTrial = false → s.bankHeld = false →
   s.download = none → flashCrc c.data = c.check.toNat → q.b 0 14 = false → s.pwr.recovery = false → s.upd.chunks = [] →
   Makes (.updateChunk q) s fun t => t.upd.chunks = [c] ∧ t.upd.verified = false ∧ t.upd.headerFirst = false ∧
    (t.store t.inactive).valid = false ∧ t.upd.delivered ≠ some t.inactive ∧ t.inactive = s.inactive) ∧
  (∀ (q : Request) (s : State), Taken Op.updateVerify q s → s.updBusy = false → s.downloaded →
   exec (.updateVerify q) s = .next (s.after (({ s with upd := { s.upd with verifying := some (some q) } } : State).replyPending
    Op.updateVerify q))) ∧
  (∀ (q : Request) (s : State), Taken Op.updateActivate q s → s.rb Reg.updateLock 1 → s.upd.onTrial = false → s.upd.verified →
   s.belowFloor s.inactive = false → s.pwr.recovery = false → ∃ u : State,
   exec (.updateActivate q) s = .next (s.after (u.reply Op.updateActivate q 0 [w32 (b2n s.inactive)])) ∧ u.upd.restart = q.b 0 1 ∧
   u.upd.bank = s.upd.bank ∧ u.upd.running = s.upd.running) ∧
  (∀ (q : Request) (s : State), Taken Op.updateConfirm q s → s.upd.onTrial →
   (q.b 0 0 = false → s.healthOk → ∃ u : State, exec (.updateConfirm q) s = .next (s.after (u.reply Op.updateConfirm q 0
    [w32 u.upd.floor])) ∧ u.upd.onTrial = false ∧ s.upd.floor ≤ u.upd.floor ∧ u.upd.bank = s.upd.bank) ∧
   (q.b 0 0 → ∃ u : State, exec (.updateConfirm q) s = .next (s.after (u.reply Op.updateConfirm q 0 [])) ∧ u.upd.restart = true ∧
    u.upd.onTrial = false ∧ u.upd.bootEvents = s.upd.bootEvents ++ [(2, 4, s.upd.running.version)])) ∧
  (∀ (q : Request) (s : State), Taken Op.forceFallback q s → s.rb Reg.updateLock 1 →
   (s.upd.onTrial = true ∨ s.ptr.prevOk = true ∧ s.belowFloor (!s.upd.bank) = false) → ∃ u : State,
   exec (.forceFallback q) s = .next (s.after (u.reply Op.forceFallback q 0 [])) ∧ u.upd.restart = true ∧
   u.upd.bootEvents = s.upd.bootEvents ++ [(2, 5, s.upd.running.version)]) ∧
  (∀ (q : Request) (s : State), Taken Op.updateStatus q s → ∃ v, exec (.updateStatus q) s = .next (s.after (s.reply Op.updateStatus q 0
   [s.updateWord, w32 (s.download.elim 0 (·.bitmap)), s.download.elim 0 (·.tag), w32 s.trialLeft, if s.pwr.recovery then 0 else s.upd.running.version, v,
    w32 (s.store s.upd.bank).gen, w32 s.ptr.lastFallback])) ∧ (v = 0 ∨ v = (s.infoOf (!s.upd.bank)).version)) ∧
  (∀ (q : Request) (s : State), Taken Op.updateRelay q s → q.stray 0 0x11F = false → q.w 1 = 0 → s.updBusy = false → q.b 0 0 = false →
   s.upd.verified → allLinks.filter (fun l => q.b 0 l.num) = [.d1] → s.linkIsUp .d1 → Makes (.updateRelay q) s fun t =>
    t.upd.relay = some ⟨s.inactive, s.download.elim 0 (·.tag), [⟨.d1, 0, none, s.clk.age⟩], q.b 0 8, some q⟩ ∧
    t.upd.verified = true) ∧
  (∀ (q : Request) (s : State), Taken Op.settingsSave q s → q.stray 0 0x03FF0003 = false → s.upd.apply = none →
   (q.f 0 0 2 = 0 → 5 ≤ q.words.length → q.words.length = 5 + q.packet.plen → recordOk q.packet →
    s.ownStore.size + 16 + 4 * q.packet.plen ≤ 262144 → exec (.settingsSave q) s = .next (s.after { s with upd := { s.upd with
     settings := s.upd.settings ++ [⟨q.f 0 16 10, (bytesOf (q.words.drop 1)).take (16 + 4 * q.packet.plen), q⟩] } })) ∧
   (q.f 0 0 2 = 1 → q.words.length = 1 → smGet [] s.ownStore.records (q.f 0 16 10) = [] →
    exec (.settingsSave q) s = .next (s.after (s.reply Op.settingsSave q 0 [w32 s.ownStore.gen]))) ∧
   (∀ p, q.f 0 0 2 = 2 → q.words.length = 1 → p = smGet [] s.ownStore.records (q.f 0 16 10) →
    exec (.settingsSave q) s = .next (s.after (s.reply Op.settingsSave q 0 (w32 (b2n (!p.isEmpty)) :: wordsOf (p.length / 4) p)))))

/-- What ends flash writes, checks, trials and relays. Model's choices: log entries 189, 192, 194. -/
def Obligations.UpdateEventsComplete : Prop :=
  ∀ s : State, s.coreUp →
   (∀ c, s.pwr.fwReady → s.upd.chunks = [c] →
    (c.link = none → Makes (.chunkWritten true) s fun t => t.upd.chunks = [] ∧ t.upd.verified = false ∧
     t.rd Reg.updateChunkCount = w32 (min 0xFFFFFFFF ((s.rd Reg.updateChunkCount).toNat + 1))) ∧
    (c.retried = false → Makes (.chunkWritten false) s fun t => t.upd = { s.upd with chunks := [{ c with retried := true }] } ∧
     t.rd Reg.updateFlashErrCount = w32 (min 0xFFFFFFFF ((s.rd Reg.updateFlashErrCount).toNat + 1)))) ∧
   (∀ q, s.pwr.fwReady → s.upd.verifying = some (some q) → ∃ u : State,
    exec .updateVerifyDone s = .next (s.after (u.reply Op.updateVerify q (s.imageStatus s.inactive)
     (if s.imageStatus s.inactive = 0 then s.verifyWords s.inactive else []))) ∧ u.upd.verifying = none ∧
    u.upd.verified = (s.imageStatus s.inactive == 0)) ∧
   (s.upd.restart → Makes .updateRestart s fun t => t.pwr.state = .run ∧ t.pwr.starting = true ∧ t.pwr.fwReady = false ∧
    t.upd.restart = false ∧ t.scr.mem = [] ∧ t.tern = ternReset ∧ t.upd.flash = s.upd.flash) ∧
   (s.fwUp → s.upd.onTrial → s.upd.restart = false → Makes .trialExpiry s fun t => t.upd.restart = true ∧
    t.upd.bootEvents = s.upd.bootEvents ++ [(2, 2, s.upd.running.version)]) ∧
   (s.fwUp → s.upd.onTrial → s.ptr.auto → s.upd.unreadable = false → s.sec.internalFault = false → s.clk.age < 2 ^ 63 →
    s.upd.readyAt < 2 ^ 61 → Makes .autoConfirm s fun t => t.upd.onTrial = false ∧ t.clk.age = max s.clk.age s.holdEnd ∧
     t.upd.bank = s.upd.bank) ∧
   (∀ l c, s.pwr.fwReady →
    (Makes (.relayChunk l false c) s fun t => t.upd = s.upd ∧
     t.rd Reg.secFabricAuthFailCount = w32 (min 0xFFFFFFFF ((s.rd Reg.secFabricAuthFailCount).toNat + 1))) ∧
    (∀ (d : Download) (w : ChunkWrite), w = ⟨c.index, c.total, c.tag, c.check, c.data, none, some l, false⟩ → s.rb Reg.updateLock 2 →
     s.upd.chunks = [] → c.index ≠ 0 → w.shapeOk → s.upd.onTrial = false → s.upd.verifying = none → s.upd.relay = none →
     s.download = some d → d.tag = c.tag → d.total = c.total → flashCrc c.data = c.check.toNat → s.badLast w = false →
     (d.check 0).isSome → d.check c.index = none → Makes (.relayChunk l true c) s fun t => t.upd.chunks = [w] ∧
      t.upd.relayFrom = some l ∧ t.out.links = s.out.links)) ∧
   (∀ r x, s.pwr.fwReady → s.upd.relay = some r → r.targets = [x] → x.result = none →
    (∀ n, r.who = none → Makes (.relayChunkDone x.link true (.ended n)) s fun t => t.upd.relay = none) ∧
    (x.next + 1 < (s.relayChunk r 0).total → Makes (.relayChunkDone x.link true (.done x.next)) s fun t =>
     t.upd.relay = some { r with targets := [{ x with next := x.next + 1, since := s.clk.age }] } ∧
     t.out.links = s.out.links ++ [(x.link, .relayChunk (s.relayChunk r (x.next + 1)))] ∧
     t.rd Reg.updateRelayChunkCount = w32 (min 0xFFFFFFFF ((s.rd Reg.updateRelayChunkCount).toNat + 1))) ∧
    (r.who = none → s.clk.age < 2 ^ 63 → x.since < 2 ^ 62 → Makes (.relayTargetTimeout x.link) s fun t => t.upd.relay = none ∧
     t.clk.age = max s.clk.age (x.since + 1250000000))) ∧
   (∀ w, s.fwUp → s.upd.settings = [w] → ∃ u : State,
    exec (.settingsStoreWritten true) s = .next (s.after (u.reply Op.settingsSave w.who 0 [w32 (s.ownStore.gen + 1)])) ∧
    u.upd.settings = [] ∧ smGet [] u.ownStore.records w.record = w.packet ∧ u.ownStore.gen = s.ownStore.gen + 1) ∧
   (∀ a, s.fwUp → s.upd.apply = some a → s.cmdq.cmds.all (fun c => c.q.stream != .internal) → ∃ u : State,
    exec .settingsApplyDone s = .next (s.after (u.reply Op.settingsSave a.who 0
     [w32 a.ok, w32 a.failed, a.first.elim 0 (fun f => w32 (f.1 + f.2 * 2 ^ 16))])) ∧ u.upd.apply = none ∧ u.cmdq = s.cmdq)


/-! ## Balls and banks (chapter 16) -/

/-- What the balls show while the core domain does not run, and the levels of a bank. Model's choices: log entry 195. -/
def Obligations.BallsAndBanks : Prop :=
  ∀ s : State,
   (s.coreUp = false → (∀ r, r < 13 → s.rail r ≠ .low) →
    (∀ n, n < 64 → s.drive (.slow n 0) = some .pulledUp ∧ s.drive (.slow n 2) = some .pulledUp) ∧
    s.drive (.named "PPS_OUT") = some .low ∧ s.drive (.named "FL_CLK") = some .low ∧ s.drive (.named "TDO") = some .low ∧
    s.drive (.named "FL_CS_N") = some .high ∧ s.drive (.named "INT_N") = some .released) ∧
   (∀ n, n < 64 → s.coreUp → s.rail (5 + n / 8) ≠ .low → (s.chan n).mode ≠ 0 → s.drive (.slow n 0) = some .follows ∧
    (((s.chan n).mode = 1 ∨ (s.chan n).mode = 2) →
     s.drive (.slow n 2) = some (if bit (s.chan n).w0 12 = bit (s.chan n).w0 14 then .high else .low))) ∧
   (∀ k, k < 8 →
    (s.pwr.vio2Sel.getLsbD k → s.nominal (5 + k) = 3300 ∧ s.dcLevels (5 + k) = ⟨2000, 800, 250, 2400, 400, 400⟩) ∧
    (s.pwr.vio2Sel.getLsbD k = false → s.nominal (5 + k) = 1800 ∧ ∀ mv, mv = smGet 0 s.pwr.rails (5 + k) →
     s.dcLevels (5 + k) = ⟨mv * 65 / 100, mv * 35 / 100, mv / 10, mv - 450, 450, 300⟩))
end

