-- ==== Sys2Proof/Laws/SMap.lean ====
section
/-! SUPPORT. The laws of sparse maps: reading after writing, for any list whatever, and the canonical form that every operation keeps. -/

namespace Sys2Proof.Machine

section
variable {α : Type}

@[simp] theorem smGet_nil (d : α) (k : Nat) : smGet d [] k = d := rfl

theorem smGet_smDel_same (d : α) (m : SMap α) (k : Nat) : smGet d (smDel m k) k = d := by
  induction m with
  | nil => rfl
  | cons x m ih =>
    obtain ⟨a, v⟩ := x
    by_cases h : a = k
    · subst h; simpa [smDel] using ih
    · have : k ≠ a := fun e => h e.symm
      simpa [smDel, smGet, h, this] using ih

theorem smGet_smDel_ne (d : α) (m : SMap α) {j k : Nat} (h : j ≠ k) : smGet d (smDel m k) j = smGet d m j := by
  induction m with
  | nil => rfl
  | cons x m ih =>
    obtain ⟨a, v⟩ := x
    simp only [smDel] at ih
    by_cases e : a = k
    · subst e; simpa [smDel, smGet, h] using ih
    · simp [smDel, smGet, e, ih]

variable [DecidableEq α]

/-- What was written is read. -/
@[simp] theorem smGet_smSet_same (d : α) (m : SMap α) (k : Nat) (v : α) : smGet d (smSet d m k v) k = v := by
  induction m with
  | nil => by_cases h : v = d <;> simp [smSet, smGet, h]
  | cons x m ih =>
    obtain ⟨a, w⟩ := x
    simp only [smSet]
    split
    · split
      · have : k ≠ a := by omega
        simp_all [smGet, smGet_smDel_same]
      · simp [smGet]
    · split
      · split <;> simp_all [smGet, smGet_smDel_same]
      · simp_all [smGet]

/-- A write leaves every other key alone. -/
theorem smGet_smSet_ne (d e : α) (m : SMap α) {j k : Nat} (v : α) (h : j ≠ k) : smGet d (smSet e m k v) j = smGet d m j := by
  induction m with
  | nil => by_cases e : v = e <;> simp [smSet, smGet, e, h]
  | cons x m ih =>
    obtain ⟨a, w⟩ := x
    simp only [smSet]
    split
    · split
      · simp [smGet, smGet_smDel_ne d m h]
      · simp [smGet, h]
    · split
      · next e => subst e; split <;> simp [smGet, smGet_smDel_ne d m h, h]
      · simp [smGet, ih]

/-- Every key of a canonical map above `lo` lies above it. -/
theorem smWfFrom_lo (d : Nat → α) {lo : Option Nat} {m : SMap α} (h : smWfFrom d lo m = true) : smWfFrom d none m = true := by
  cases m with
  | nil => rfl
  | cons x m => obtain ⟨a, v⟩ := x; simp_all [smWfFrom, smAbove]

theorem smWfFrom_mono (d : Nat → α) {a b : Nat} {m : SMap α} (h : smWfFrom d (some b) m = true) (le : a ≤ b) :
    smWfFrom d (some a) m = true := by
  cases m with
  | nil => rfl
  | cons x m => obtain ⟨c, v⟩ := x; simp_all [smWfFrom, smAbove]; omega

theorem smDel_eq (d : Nat → α) {m : SMap α} {k : Nat} (h : smWfFrom d (some k) m = true) : smDel m k = m := by
  induction m with
  | nil => rfl
  | cons x m ih =>
    obtain ⟨a, v⟩ := x
    simp only [smWfFrom, smAbove, Bool.and_eq_true, decide_eq_true_eq] at h
    have h2 := ih (smWfFrom_mono d h.2 (Nat.le_of_lt h.1.1))
    have : a ≠ k := by omega
    simp only [smDel] at h2 ⊢
    simp [this, h2]

theorem smWfFrom_weaken (d : Nat → α) {lo : Option Nat} {a : Nat} {m : SMap α} (h : smWfFrom d (some a) m = true)
    (le : smAbove lo a = true) : smWfFrom d lo m = true := by
  cases lo with
  | none => exact smWfFrom_lo d h
  | some l => exact smWfFrom_mono d h (Nat.le_of_lt (by simpa [smAbove] using le))

/-- A filter of a canonical map is canonical. -/
theorem smWfFrom_filter (d : Nat → α) (p : Nat × α → Bool) {lo : Option Nat} {m : SMap α} (h : smWfFrom d lo m = true) :
    smWfFrom d lo (m.filter p) = true := by
  induction m generalizing lo with
  | nil => rfl
  | cons x m ih =>
    obtain ⟨a, v⟩ := x
    simp only [smWfFrom, Bool.and_eq_true, decide_eq_true_eq] at h
    by_cases e : p (a, v) = true
    · simp [e, smWfFrom, ih h.2, h.1.2, h.1.1]
    · rw [List.filter_cons_of_neg e]
      exact smWfFrom_weaken d (ih h.2) h.1.1

theorem smWf_filter (d : Nat → α) (p : Nat × α → Bool) {m : SMap α} (h : smWf d m = true) : smWf d (m.filter p) = true :=
  smWfFrom_filter d p h

/-- A write keeps the canonical form. -/
theorem smWfFrom_smSet (d : α) {lo : Option Nat} {m : SMap α} (k : Nat) (v : α) (hl : smAbove lo k = true)
    (h : smWfFrom (fun _ => d) lo m = true) : smWfFrom (fun _ => d) lo (smSet d m k v) = true := by
  induction m generalizing lo with
  | nil => by_cases e : v = d <;> simp [smSet, smWfFrom, e, hl]
  | cons x m ih =>
    obtain ⟨a, w⟩ := x
    have hc := h
    simp only [smWfFrom, Bool.and_eq_true, decide_eq_true_eq] at h
    simp only [smSet]
    split
    · next lt =>
      split
      · rw [smDel_eq (fun _ => d) (smWfFrom_mono _ h.2 (Nat.le_of_lt lt))]; exact hc
      · simp_all [smWfFrom, smAbove]
    · split
      · next e =>
        subst e
        split
        · rw [smDel_eq (fun _ => d) h.2]
          exact smWfFrom_weaken _ h.2 h.1.1
        · simp_all [smWfFrom]
      · have gt : a < k := by omega
        simp only [smWfFrom, Bool.and_eq_true, decide_eq_true_eq]
        exact ⟨h.1, ih (by simpa [smAbove] using gt) h.2⟩

theorem smWf_smSet (d : α) {m : SMap α} (k : Nat) (v : α) (h : smWf (fun _ => d) m = true) :
    smWf (fun _ => d) (smSet d m k v) = true :=
  smWfFrom_smSet d k v rfl h

end

/-- Reading a mapped map: `f` of what the map held, where `f` leaves the default alone. -/
theorem smGet_smMap [DecidableEq α] (d : α) (f : Nat → α → α) (h : ∀ k, f k d = d) (m : SMap α) (k : Nat) :
    smGet d (smMap d f m) k = f k (smGet d m k) := by
  induction m with
  | nil => simp [smMap, h]
  | cons x m ih =>
    obtain ⟨a, v⟩ := x
    by_cases hk : k = a
    · subst hk; simp [smMap, smGet]
    · simp [smMap, smGet, hk, smGet_smSet_ne d d _ _ hk, ih]

end Sys2Proof.Machine
end

