-- ==== Sys2Proof/Laws/State.lean ====
section
/-! SUPPORT. What each named update of State leaves alone, one conjunct per field, and what it changes, so that no later proof unfolds a
record update. -/

namespace Sys2Proof.Machine

@[simp] theorem State.wr_frame (s : State) (a : Nat) (v : Word) :
    (s.wr a v).pending = s.pending ∧ (s.wr a v).free = s.free ∧ (s.wr a v).clk = s.clk ∧ (s.wr a v).evt = s.evt ∧
    (s.wr a v).cmdq = s.cmdq ∧ (s.wr a v).tern = s.tern ∧ (s.wr a v).glue = s.glue ∧ (s.wr a v).exm = s.exm ∧
    (s.wr a v).coh = s.coh ∧ (s.wr a v).fab = s.fab ∧ (s.wr a v).twin = s.twin ∧ (s.wr a v).sw = s.sw ∧ (s.wr a v).chans = s.chans ∧
    (s.wr a v).mapper = s.mapper ∧ (s.wr a v).time = s.time ∧ (s.wr a v).sec = s.sec ∧ (s.wr a v).scr = s.scr ∧
    (s.wr a v).glean = s.glean ∧ (s.wr a v).arb = s.arb ∧ (s.wr a v).pwr = s.pwr ∧ (s.wr a v).heath = s.heath ∧
    (s.wr a v).upd = s.upd ∧ (s.wr a v).out = s.out :=
  ⟨rfl, rfl, rfl, rfl, rfl, rfl, rfl, rfl, rfl, rfl, rfl, rfl, rfl, rfl, rfl, rfl, rfl, rfl, rfl, rfl, rfl, rfl, rfl⟩

@[simp] theorem State.cnt_frame (s : State) (a n : Nat) :
    (s.cnt a n).pending = s.pending ∧ (s.cnt a n).free = s.free ∧ (s.cnt a n).clk = s.clk ∧ (s.cnt a n).evt = s.evt ∧
    (s.cnt a n).cmdq = s.cmdq ∧ (s.cnt a n).tern = s.tern ∧ (s.cnt a n).glue = s.glue ∧ (s.cnt a n).exm = s.exm ∧
    (s.cnt a n).coh = s.coh ∧ (s.cnt a n).fab = s.fab ∧ (s.cnt a n).twin = s.twin ∧ (s.cnt a n).sw = s.sw ∧
    (s.cnt a n).chans = s.chans ∧ (s.cnt a n).mapper = s.mapper ∧ (s.cnt a n).time = s.time ∧ (s.cnt a n).sec = s.sec ∧
    (s.cnt a n).scr = s.scr ∧ (s.cnt a n).glean = s.glean ∧ (s.cnt a n).arb = s.arb ∧ (s.cnt a n).pwr = s.pwr ∧
    (s.cnt a n).heath = s.heath ∧ (s.cnt a n).upd = s.upd ∧ (s.cnt a n).out = s.out :=
  ⟨rfl, rfl, rfl, rfl, rfl, rfl, rfl, rfl, rfl, rfl, rfl, rfl, rfl, rfl, rfl, rfl, rfl, rfl, rfl, rfl, rfl, rfl, rfl⟩

@[simp] theorem State.wr64_frame (s : State) (a n : Nat) :
    (s.wr64 a n).pending = s.pending ∧ (s.wr64 a n).free = s.free ∧ (s.wr64 a n).clk = s.clk ∧ (s.wr64 a n).evt = s.evt ∧
    (s.wr64 a n).cmdq = s.cmdq ∧ (s.wr64 a n).tern = s.tern ∧ (s.wr64 a n).glue = s.glue ∧ (s.wr64 a n).exm = s.exm ∧
    (s.wr64 a n).coh = s.coh ∧ (s.wr64 a n).fab = s.fab ∧ (s.wr64 a n).twin = s.twin ∧ (s.wr64 a n).sw = s.sw ∧
    (s.wr64 a n).chans = s.chans ∧ (s.wr64 a n).mapper = s.mapper ∧ (s.wr64 a n).time = s.time ∧ (s.wr64 a n).sec = s.sec ∧
    (s.wr64 a n).scr = s.scr ∧ (s.wr64 a n).glean = s.glean ∧ (s.wr64 a n).arb = s.arb ∧ (s.wr64 a n).pwr = s.pwr ∧
    (s.wr64 a n).heath = s.heath ∧ (s.wr64 a n).upd = s.upd ∧ (s.wr64 a n).out = s.out :=
  ⟨rfl, rfl, rfl, rfl, rfl, rfl, rfl, rfl, rfl, rfl, rfl, rfl, rfl, rfl, rfl, rfl, rfl, rfl, rfl, rfl, rfl, rfl, rfl⟩

@[simp] theorem State.cnt64_frame (s : State) (a n : Nat) :
    (s.cnt64 a n).pending = s.pending ∧ (s.cnt64 a n).free = s.free ∧ (s.cnt64 a n).clk = s.clk ∧ (s.cnt64 a n).evt = s.evt ∧
    (s.cnt64 a n).cmdq = s.cmdq ∧ (s.cnt64 a n).tern = s.tern ∧ (s.cnt64 a n).glue = s.glue ∧ (s.cnt64 a n).exm = s.exm ∧
    (s.cnt64 a n).coh = s.coh ∧ (s.cnt64 a n).fab = s.fab ∧ (s.cnt64 a n).twin = s.twin ∧ (s.cnt64 a n).sw = s.sw ∧
    (s.cnt64 a n).chans = s.chans ∧ (s.cnt64 a n).mapper = s.mapper ∧ (s.cnt64 a n).time = s.time ∧ (s.cnt64 a n).sec = s.sec ∧
    (s.cnt64 a n).scr = s.scr ∧ (s.cnt64 a n).glean = s.glean ∧ (s.cnt64 a n).arb = s.arb ∧ (s.cnt64 a n).pwr = s.pwr ∧
    (s.cnt64 a n).heath = s.heath ∧ (s.cnt64 a n).upd = s.upd ∧ (s.cnt64 a n).out = s.out :=
  ⟨rfl, rfl, rfl, rfl, rfl, rfl, rfl, rfl, rfl, rfl, rfl, rfl, rfl, rfl, rfl, rfl, rfl, rfl, rfl, rfl, rfl, rfl, rfl⟩

@[simp] theorem State.violate_frame (s : State) (a : Nat) :
    (s.violate a).pending = s.pending ∧ (s.violate a).free = s.free ∧ (s.violate a).clk = s.clk ∧ (s.violate a).evt = s.evt ∧
    (s.violate a).cmdq = s.cmdq ∧ (s.violate a).tern = s.tern ∧ (s.violate a).glue = s.glue ∧ (s.violate a).exm = s.exm ∧
    (s.violate a).coh = s.coh ∧ (s.violate a).fab = s.fab ∧ (s.violate a).twin = s.twin ∧ (s.violate a).sw = s.sw ∧
    (s.violate a).chans = s.chans ∧ (s.violate a).mapper = s.mapper ∧ (s.violate a).time = s.time ∧ (s.violate a).sec = s.sec ∧
    (s.violate a).scr = s.scr ∧ (s.violate a).glean = s.glean ∧ (s.violate a).arb = s.arb ∧ (s.violate a).pwr = s.pwr ∧
    (s.violate a).heath = s.heath ∧ (s.violate a).upd = s.upd ∧ (s.violate a).out = s.out := by
  simp only [State.violate]; split <;> exact ⟨rfl, rfl, rfl, rfl, rfl, rfl, rfl, rfl, rfl, rfl, rfl, rfl, rfl, rfl, rfl, rfl, rfl, rfl, rfl, rfl, rfl, rfl, rfl⟩

@[simp] theorem State.wrLock_frame (s : State) (a : Nat) (v : Word) (m : Nat) :
    (s.wrLock a v m).pending = s.pending ∧ (s.wrLock a v m).free = s.free ∧ (s.wrLock a v m).clk = s.clk ∧
    (s.wrLock a v m).evt = s.evt ∧ (s.wrLock a v m).cmdq = s.cmdq ∧ (s.wrLock a v m).tern = s.tern ∧ (s.wrLock a v m).glue = s.glue ∧
    (s.wrLock a v m).exm = s.exm ∧ (s.wrLock a v m).coh = s.coh ∧ (s.wrLock a v m).fab = s.fab ∧ (s.wrLock a v m).twin = s.twin ∧
    (s.wrLock a v m).sw = s.sw ∧ (s.wrLock a v m).chans = s.chans ∧ (s.wrLock a v m).mapper = s.mapper ∧
    (s.wrLock a v m).time = s.time ∧ (s.wrLock a v m).sec = s.sec ∧ (s.wrLock a v m).scr = s.scr ∧ (s.wrLock a v m).glean = s.glean ∧
    (s.wrLock a v m).arb = s.arb ∧ (s.wrLock a v m).pwr = s.pwr ∧ (s.wrLock a v m).heath = s.heath ∧ (s.wrLock a v m).upd = s.upd ∧
    (s.wrLock a v m).out = s.out := by
  simp only [State.wrLock]; split
  · simp
  · simp

@[simp] theorem State.freeW_frame (s : State) :
    (s.freeW.2).pending = s.pending ∧ (s.freeW.2).clk = s.clk ∧ (s.freeW.2).reg = s.reg ∧ (s.freeW.2).evt = s.evt ∧
    (s.freeW.2).cmdq = s.cmdq ∧ (s.freeW.2).tern = s.tern ∧ (s.freeW.2).glue = s.glue ∧ (s.freeW.2).exm = s.exm ∧
    (s.freeW.2).coh = s.coh ∧ (s.freeW.2).fab = s.fab ∧ (s.freeW.2).twin = s.twin ∧ (s.freeW.2).sw = s.sw ∧
    (s.freeW.2).chans = s.chans ∧ (s.freeW.2).mapper = s.mapper ∧ (s.freeW.2).time = s.time ∧ (s.freeW.2).sec = s.sec ∧
    (s.freeW.2).scr = s.scr ∧ (s.freeW.2).glean = s.glean ∧ (s.freeW.2).arb = s.arb ∧ (s.freeW.2).pwr = s.pwr ∧
    (s.freeW.2).heath = s.heath ∧ (s.freeW.2).upd = s.upd ∧ (s.freeW.2).out = s.out :=
  ⟨rfl, rfl, rfl, rfl, rfl, rfl, rfl, rfl, rfl, rfl, rfl, rfl, rfl, rfl, rfl, rfl, rfl, rfl, rfl, rfl, rfl, rfl, rfl⟩

@[simp] theorem State.freeN_frame (s : State) (n : Nat) :
    ((s.freeN n).2).pending = s.pending ∧ ((s.freeN n).2).clk = s.clk ∧ ((s.freeN n).2).reg = s.reg ∧ ((s.freeN n).2).evt = s.evt ∧
    ((s.freeN n).2).cmdq = s.cmdq ∧ ((s.freeN n).2).tern = s.tern ∧ ((s.freeN n).2).glue = s.glue ∧ ((s.freeN n).2).exm = s.exm ∧
    ((s.freeN n).2).coh = s.coh ∧ ((s.freeN n).2).fab = s.fab ∧ ((s.freeN n).2).twin = s.twin ∧ ((s.freeN n).2).sw = s.sw ∧
    ((s.freeN n).2).chans = s.chans ∧ ((s.freeN n).2).mapper = s.mapper ∧ ((s.freeN n).2).time = s.time ∧
    ((s.freeN n).2).sec = s.sec ∧ ((s.freeN n).2).scr = s.scr ∧ ((s.freeN n).2).glean = s.glean ∧ ((s.freeN n).2).arb = s.arb ∧
    ((s.freeN n).2).pwr = s.pwr ∧ ((s.freeN n).2).heath = s.heath ∧ ((s.freeN n).2).upd = s.upd ∧ ((s.freeN n).2).out = s.out :=
  ⟨rfl, rfl, rfl, rfl, rfl, rfl, rfl, rfl, rfl, rfl, rfl, rfl, rfl, rfl, rfl, rfl, rfl, rfl, rfl, rfl, rfl, rfl, rfl⟩

@[simp] theorem State.freeB_frame (s : State) :
    (s.freeB.2).pending = s.pending ∧ (s.freeB.2).clk = s.clk ∧ (s.freeB.2).reg = s.reg ∧ (s.freeB.2).evt = s.evt ∧
    (s.freeB.2).cmdq = s.cmdq ∧ (s.freeB.2).tern = s.tern ∧ (s.freeB.2).glue = s.glue ∧ (s.freeB.2).exm = s.exm ∧
    (s.freeB.2).coh = s.coh ∧ (s.freeB.2).fab = s.fab ∧ (s.freeB.2).twin = s.twin ∧ (s.freeB.2).sw = s.sw ∧
    (s.freeB.2).chans = s.chans ∧ (s.freeB.2).mapper = s.mapper ∧ (s.freeB.2).time = s.time ∧ (s.freeB.2).sec = s.sec ∧
    (s.freeB.2).scr = s.scr ∧ (s.freeB.2).glean = s.glean ∧ (s.freeB.2).arb = s.arb ∧ (s.freeB.2).pwr = s.pwr ∧
    (s.freeB.2).heath = s.heath ∧ (s.freeB.2).upd = s.upd ∧ (s.freeB.2).out = s.out :=
  ⟨rfl, rfl, rfl, rfl, rfl, rfl, rfl, rfl, rfl, rfl, rfl, rfl, rfl, rfl, rfl, rfl, rfl, rfl, rfl, rfl, rfl, rfl, rfl⟩

@[simp] theorem State.send_frame (s : State) (l : LinkId) (m : LinkMsg) :
    (s.send l m).pending = s.pending ∧ (s.send l m).free = s.free ∧ (s.send l m).clk = s.clk ∧ (s.send l m).reg = s.reg ∧
    (s.send l m).evt = s.evt ∧ (s.send l m).cmdq = s.cmdq ∧ (s.send l m).tern = s.tern ∧ (s.send l m).glue = s.glue ∧
    (s.send l m).exm = s.exm ∧ (s.send l m).coh = s.coh ∧ (s.send l m).fab = s.fab ∧ (s.send l m).twin = s.twin ∧
    (s.send l m).sw = s.sw ∧ (s.send l m).chans = s.chans ∧ (s.send l m).mapper = s.mapper ∧ (s.send l m).time = s.time ∧
    (s.send l m).sec = s.sec ∧ (s.send l m).scr = s.scr ∧ (s.send l m).glean = s.glean ∧ (s.send l m).arb = s.arb ∧
    (s.send l m).pwr = s.pwr ∧ (s.send l m).heath = s.heath ∧ (s.send l m).upd = s.upd :=
  ⟨rfl, rfl, rfl, rfl, rfl, rfl, rfl, rfl, rfl, rfl, rfl, rfl, rfl, rfl, rfl, rfl, rfl, rfl, rfl, rfl, rfl, rfl, rfl⟩

@[simp] theorem State.cohPut_frame (s : State) (a d : Nat) (m : CohMsg) :
    (s.cohPut a d m).pending = s.pending ∧ (s.cohPut a d m).free = s.free ∧ (s.cohPut a d m).clk = s.clk ∧
    (s.cohPut a d m).reg = s.reg ∧ (s.cohPut a d m).evt = s.evt ∧ (s.cohPut a d m).cmdq = s.cmdq ∧ (s.cohPut a d m).tern = s.tern ∧
    (s.cohPut a d m).glue = s.glue ∧ (s.cohPut a d m).exm = s.exm ∧ (s.cohPut a d m).fab = s.fab ∧ (s.cohPut a d m).twin = s.twin ∧
    (s.cohPut a d m).sw = s.sw ∧ (s.cohPut a d m).chans = s.chans ∧ (s.cohPut a d m).mapper = s.mapper ∧
    (s.cohPut a d m).time = s.time ∧ (s.cohPut a d m).sec = s.sec ∧ (s.cohPut a d m).scr = s.scr ∧ (s.cohPut a d m).glean = s.glean ∧
    (s.cohPut a d m).arb = s.arb ∧ (s.cohPut a d m).pwr = s.pwr ∧ (s.cohPut a d m).heath = s.heath ∧ (s.cohPut a d m).upd = s.upd ∧
    (s.cohPut a d m).out = s.out :=
  ⟨rfl, rfl, rfl, rfl, rfl, rfl, rfl, rfl, rfl, rfl, rfl, rfl, rfl, rfl, rfl, rfl, rfl, rfl, rfl, rfl, rfl, rfl, rfl⟩

@[simp] theorem State.putEvent_frame (s : State) (b c i : Nat) (x y : Word) :
    (s.putEvent b c i x y).pending = s.pending ∧ (s.putEvent b c i x y).free = s.free ∧ (s.putEvent b c i x y).clk = s.clk ∧
    (s.putEvent b c i x y).cmdq = s.cmdq ∧ (s.putEvent b c i x y).tern = s.tern ∧ (s.putEvent b c i x y).glue = s.glue ∧
    (s.putEvent b c i x y).exm = s.exm ∧ (s.putEvent b c i x y).coh = s.coh ∧ (s.putEvent b c i x y).fab = s.fab ∧
    (s.putEvent b c i x y).twin = s.twin ∧ (s.putEvent b c i x y).sw = s.sw ∧ (s.putEvent b c i x y).chans = s.chans ∧
    (s.putEvent b c i x y).mapper = s.mapper ∧ (s.putEvent b c i x y).time = s.time ∧ (s.putEvent b c i x y).sec = s.sec ∧
    (s.putEvent b c i x y).scr = s.scr ∧ (s.putEvent b c i x y).glean = s.glean ∧ (s.putEvent b c i x y).arb = s.arb ∧
    (s.putEvent b c i x y).pwr = s.pwr ∧ (s.putEvent b c i x y).heath = s.heath ∧ (s.putEvent b c i x y).upd = s.upd ∧
    (s.putEvent b c i x y).out = s.out := by
  simp only [State.putEvent]; split <;> exact ⟨rfl, rfl, rfl, rfl, rfl, rfl, rfl, rfl, rfl, rfl, rfl, rfl, rfl, rfl, rfl, rfl, rfl, rfl, rfl, rfl, rfl, rfl⟩

@[simp] theorem State.event_frame (s : State) (b c i : Nat) (x y : Word) :
    (s.event b c i x y).pending = s.pending ∧ (s.event b c i x y).free = s.free ∧ (s.event b c i x y).clk = s.clk ∧
    (s.event b c i x y).cmdq = s.cmdq ∧ (s.event b c i x y).tern = s.tern ∧ (s.event b c i x y).glue = s.glue ∧
    (s.event b c i x y).exm = s.exm ∧ (s.event b c i x y).coh = s.coh ∧ (s.event b c i x y).fab = s.fab ∧
    (s.event b c i x y).twin = s.twin ∧ (s.event b c i x y).sw = s.sw ∧ (s.event b c i x y).chans = s.chans ∧
    (s.event b c i x y).mapper = s.mapper ∧ (s.event b c i x y).time = s.time ∧ (s.event b c i x y).sec = s.sec ∧
    (s.event b c i x y).scr = s.scr ∧ (s.event b c i x y).glean = s.glean ∧ (s.event b c i x y).arb = s.arb ∧
    (s.event b c i x y).pwr = s.pwr ∧ (s.event b c i x y).heath = s.heath ∧ (s.event b c i x y).upd = s.upd ∧
    (s.event b c i x y).out = s.out := by
  simp only [State.event]; split <;> simp

@[simp] theorem State.eventSup_frame (s : State) (b c i : Nat) (x y : Word) (k : List Nat) (p : Nat) :
    (s.eventSup b c i x y k p).pending = s.pending ∧ (s.eventSup b c i x y k p).free = s.free ∧
    (s.eventSup b c i x y k p).clk = s.clk ∧ (s.eventSup b c i x y k p).cmdq = s.cmdq ∧ (s.eventSup b c i x y k p).tern = s.tern ∧
    (s.eventSup b c i x y k p).glue = s.glue ∧ (s.eventSup b c i x y k p).exm = s.exm ∧ (s.eventSup b c i x y k p).coh = s.coh ∧
    (s.eventSup b c i x y k p).fab = s.fab ∧ (s.eventSup b c i x y k p).twin = s.twin ∧ (s.eventSup b c i x y k p).sw = s.sw ∧
    (s.eventSup b c i x y k p).chans = s.chans ∧ (s.eventSup b c i x y k p).mapper = s.mapper ∧
    (s.eventSup b c i x y k p).time = s.time ∧ (s.eventSup b c i x y k p).sec = s.sec ∧ (s.eventSup b c i x y k p).scr = s.scr ∧
    (s.eventSup b c i x y k p).glean = s.glean ∧ (s.eventSup b c i x y k p).arb = s.arb ∧ (s.eventSup b c i x y k p).pwr = s.pwr ∧
    (s.eventSup b c i x y k p).heath = s.heath ∧ (s.eventSup b c i x y k p).upd = s.upd ∧ (s.eventSup b c i x y k p).out = s.out := by
  simp only [State.eventSup]; split
  · simp
  · split
    · simp
    · split <;> simp

@[simp] theorem State.leaveDoze_frame (s : State) :
    (s.leaveDoze).pending = s.pending ∧ (s.leaveDoze).free = s.free ∧ (s.leaveDoze).clk = s.clk ∧ (s.leaveDoze).reg = s.reg ∧
    (s.leaveDoze).evt = s.evt ∧ (s.leaveDoze).cmdq = s.cmdq ∧ (s.leaveDoze).tern = s.tern ∧ (s.leaveDoze).glue = s.glue ∧
    (s.leaveDoze).exm = s.exm ∧ (s.leaveDoze).coh = s.coh ∧ (s.leaveDoze).fab = s.fab ∧ (s.leaveDoze).twin = s.twin ∧
    (s.leaveDoze).sw = s.sw ∧ (s.leaveDoze).chans = s.chans ∧ (s.leaveDoze).mapper = s.mapper ∧ (s.leaveDoze).time = s.time ∧
    (s.leaveDoze).sec = s.sec ∧ (s.leaveDoze).scr = s.scr ∧ (s.leaveDoze).glean = s.glean ∧ (s.leaveDoze).arb = s.arb ∧
    (s.leaveDoze).heath = s.heath ∧ (s.leaveDoze).upd = s.upd ∧ (s.leaveDoze).out = s.out := by
  simp only [State.leaveDoze]; split <;> exact ⟨rfl, rfl, rfl, rfl, rfl, rfl, rfl, rfl, rfl, rfl, rfl, rfl, rfl, rfl, rfl, rfl, rfl, rfl, rfl, rfl, rfl, rfl, rfl⟩

@[simp] theorem State.wakeNote_frame (s : State) (p c d n : Nat) :
    (s.wakeNote p c d n).pending = s.pending ∧ (s.wakeNote p c d n).free = s.free ∧ (s.wakeNote p c d n).clk = s.clk ∧
    (s.wakeNote p c d n).evt = s.evt ∧ (s.wakeNote p c d n).cmdq = s.cmdq ∧ (s.wakeNote p c d n).tern = s.tern ∧
    (s.wakeNote p c d n).glue = s.glue ∧ (s.wakeNote p c d n).exm = s.exm ∧ (s.wakeNote p c d n).coh = s.coh ∧
    (s.wakeNote p c d n).fab = s.fab ∧ (s.wakeNote p c d n).twin = s.twin ∧ (s.wakeNote p c d n).sw = s.sw ∧
    (s.wakeNote p c d n).chans = s.chans ∧ (s.wakeNote p c d n).mapper = s.mapper ∧ (s.wakeNote p c d n).time = s.time ∧
    (s.wakeNote p c d n).sec = s.sec ∧ (s.wakeNote p c d n).scr = s.scr ∧ (s.wakeNote p c d n).glean = s.glean ∧
    (s.wakeNote p c d n).arb = s.arb ∧ (s.wakeNote p c d n).pwr = s.pwr ∧ (s.wakeNote p c d n).upd = s.upd ∧
    (s.wakeNote p c d n).out = s.out := by
  simp only [State.wakeNote]; split <;> exact ⟨rfl, rfl, rfl, rfl, rfl, rfl, rfl, rfl, rfl, rfl, rfl, rfl, rfl, rfl, rfl, rfl, rfl, rfl, rfl, rfl, rfl, rfl⟩

@[simp] theorem State.wakeRecord_frame (s : State) (c d n : Nat) :
    (s.wakeRecord c d n).pending = s.pending ∧ (s.wakeRecord c d n).free = s.free ∧ (s.wakeRecord c d n).clk = s.clk ∧
    (s.wakeRecord c d n).evt = s.evt ∧ (s.wakeRecord c d n).cmdq = s.cmdq ∧ (s.wakeRecord c d n).tern = s.tern ∧
    (s.wakeRecord c d n).glue = s.glue ∧ (s.wakeRecord c d n).exm = s.exm ∧ (s.wakeRecord c d n).coh = s.coh ∧
    (s.wakeRecord c d n).fab = s.fab ∧ (s.wakeRecord c d n).twin = s.twin ∧ (s.wakeRecord c d n).sw = s.sw ∧
    (s.wakeRecord c d n).chans = s.chans ∧ (s.wakeRecord c d n).mapper = s.mapper ∧ (s.wakeRecord c d n).time = s.time ∧
    (s.wakeRecord c d n).sec = s.sec ∧ (s.wakeRecord c d n).scr = s.scr ∧ (s.wakeRecord c d n).glean = s.glean ∧
    (s.wakeRecord c d n).arb = s.arb ∧ (s.wakeRecord c d n).pwr = s.pwr ∧ (s.wakeRecord c d n).upd = s.upd ∧
    (s.wakeRecord c d n).out = s.out := by
  simp [State.wakeRecord, State.wakeFrom]

@[simp] theorem State.setPair_frame (s : State) (n : Nat) (p : QPair) :
    (s.setPair n p).pending = s.pending ∧ (s.setPair n p).free = s.free ∧ (s.setPair n p).clk = s.clk ∧ (s.setPair n p).reg = s.reg ∧
    (s.setPair n p).evt = s.evt ∧ (s.setPair n p).tern = s.tern ∧ (s.setPair n p).glue = s.glue ∧ (s.setPair n p).exm = s.exm ∧
    (s.setPair n p).coh = s.coh ∧ (s.setPair n p).fab = s.fab ∧ (s.setPair n p).twin = s.twin ∧ (s.setPair n p).sw = s.sw ∧
    (s.setPair n p).chans = s.chans ∧ (s.setPair n p).mapper = s.mapper ∧ (s.setPair n p).time = s.time ∧
    (s.setPair n p).sec = s.sec ∧ (s.setPair n p).scr = s.scr ∧ (s.setPair n p).glean = s.glean ∧ (s.setPair n p).arb = s.arb ∧
    (s.setPair n p).pwr = s.pwr ∧ (s.setPair n p).heath = s.heath ∧ (s.setPair n p).upd = s.upd ∧ (s.setPair n p).out = s.out :=
  ⟨rfl, rfl, rfl, rfl, rfl, rfl, rfl, rfl, rfl, rfl, rfl, rfl, rfl, rfl, rfl, rfl, rfl, rfl, rfl, rfl, rfl, rfl, rfl⟩

@[simp] theorem State.updCmd_frame (s : State) (i : Nat) (f : Cmd → Cmd) :
    (s.updCmd i f).pending = s.pending ∧ (s.updCmd i f).free = s.free ∧ (s.updCmd i f).clk = s.clk ∧ (s.updCmd i f).reg = s.reg ∧
    (s.updCmd i f).evt = s.evt ∧ (s.updCmd i f).tern = s.tern ∧ (s.updCmd i f).glue = s.glue ∧ (s.updCmd i f).exm = s.exm ∧
    (s.updCmd i f).coh = s.coh ∧ (s.updCmd i f).fab = s.fab ∧ (s.updCmd i f).twin = s.twin ∧ (s.updCmd i f).sw = s.sw ∧
    (s.updCmd i f).chans = s.chans ∧ (s.updCmd i f).mapper = s.mapper ∧ (s.updCmd i f).time = s.time ∧ (s.updCmd i f).sec = s.sec ∧
    (s.updCmd i f).scr = s.scr ∧ (s.updCmd i f).glean = s.glean ∧ (s.updCmd i f).arb = s.arb ∧ (s.updCmd i f).pwr = s.pwr ∧
    (s.updCmd i f).heath = s.heath ∧ (s.updCmd i f).upd = s.upd ∧ (s.updCmd i f).out = s.out :=
  ⟨rfl, rfl, rfl, rfl, rfl, rfl, rfl, rfl, rfl, rfl, rfl, rfl, rfl, rfl, rfl, rfl, rfl, rfl, rfl, rfl, rfl, rfl, rfl⟩

@[simp] theorem State.wait_frame (s : State) (w : WaitOn) (op : Nat) (q : Request) (st : Nat) (p : List Word) :
    (s.wait w op q st p).pending = s.pending ∧ (s.wait w op q st p).free = s.free ∧ (s.wait w op q st p).clk = s.clk ∧
    (s.wait w op q st p).reg = s.reg ∧ (s.wait w op q st p).evt = s.evt ∧ (s.wait w op q st p).tern = s.tern ∧
    (s.wait w op q st p).glue = s.glue ∧ (s.wait w op q st p).exm = s.exm ∧ (s.wait w op q st p).coh = s.coh ∧
    (s.wait w op q st p).fab = s.fab ∧ (s.wait w op q st p).twin = s.twin ∧ (s.wait w op q st p).sw = s.sw ∧
    (s.wait w op q st p).chans = s.chans ∧ (s.wait w op q st p).mapper = s.mapper ∧ (s.wait w op q st p).time = s.time ∧
    (s.wait w op q st p).sec = s.sec ∧ (s.wait w op q st p).scr = s.scr ∧ (s.wait w op q st p).glean = s.glean ∧
    (s.wait w op q st p).arb = s.arb ∧ (s.wait w op q st p).pwr = s.pwr ∧ (s.wait w op q st p).heath = s.heath ∧
    (s.wait w op q st p).upd = s.upd ∧ (s.wait w op q st p).out = s.out :=
  ⟨rfl, rfl, rfl, rfl, rfl, rfl, rfl, rfl, rfl, rfl, rfl, rfl, rfl, rfl, rfl, rfl, rfl, rfl, rfl, rfl, rfl, rfl, rfl⟩

@[simp] theorem State.setCoh_frame (s : State) (c : CohSt) :
    (s.setCoh c).pending = s.pending ∧ (s.setCoh c).free = s.free ∧ (s.setCoh c).clk = s.clk ∧ (s.setCoh c).reg = s.reg ∧
    (s.setCoh c).evt = s.evt ∧ (s.setCoh c).cmdq = s.cmdq ∧ (s.setCoh c).tern = s.tern ∧ (s.setCoh c).glue = s.glue ∧
    (s.setCoh c).exm = s.exm ∧ (s.setCoh c).fab = s.fab ∧ (s.setCoh c).twin = s.twin ∧ (s.setCoh c).sw = s.sw ∧
    (s.setCoh c).chans = s.chans ∧ (s.setCoh c).mapper = s.mapper ∧ (s.setCoh c).time = s.time ∧ (s.setCoh c).sec = s.sec ∧
    (s.setCoh c).scr = s.scr ∧ (s.setCoh c).glean = s.glean ∧ (s.setCoh c).arb = s.arb ∧ (s.setCoh c).pwr = s.pwr ∧
    (s.setCoh c).heath = s.heath ∧ (s.setCoh c).upd = s.upd ∧ (s.setCoh c).out = s.out :=
  ⟨rfl, rfl, rfl, rfl, rfl, rfl, rfl, rfl, rfl, rfl, rfl, rfl, rfl, rfl, rfl, rfl, rfl, rfl, rfl, rfl, rfl, rfl, rfl⟩

@[simp] theorem State.setDir_frame (s : State) (k : Nat) (e : DirEntry) :
    (s.setDir k e).pending = s.pending ∧ (s.setDir k e).free = s.free ∧ (s.setDir k e).clk = s.clk ∧ (s.setDir k e).reg = s.reg ∧
    (s.setDir k e).evt = s.evt ∧ (s.setDir k e).cmdq = s.cmdq ∧ (s.setDir k e).tern = s.tern ∧ (s.setDir k e).glue = s.glue ∧
    (s.setDir k e).exm = s.exm ∧ (s.setDir k e).fab = s.fab ∧ (s.setDir k e).twin = s.twin ∧ (s.setDir k e).sw = s.sw ∧
    (s.setDir k e).chans = s.chans ∧ (s.setDir k e).mapper = s.mapper ∧ (s.setDir k e).time = s.time ∧ (s.setDir k e).sec = s.sec ∧
    (s.setDir k e).scr = s.scr ∧ (s.setDir k e).glean = s.glean ∧ (s.setDir k e).arb = s.arb ∧ (s.setDir k e).pwr = s.pwr ∧
    (s.setDir k e).heath = s.heath ∧ (s.setDir k e).upd = s.upd ∧ (s.setDir k e).out = s.out :=
  ⟨rfl, rfl, rfl, rfl, rfl, rfl, rfl, rfl, rfl, rfl, rfl, rfl, rfl, rfl, rfl, rfl, rfl, rfl, rfl, rfl, rfl, rfl, rfl⟩

@[simp] theorem State.setCached_frame (s : State) (a l : Nat) (c : CacheLine) :
    (s.setCached a l c).pending = s.pending ∧ (s.setCached a l c).free = s.free ∧ (s.setCached a l c).clk = s.clk ∧
    (s.setCached a l c).reg = s.reg ∧ (s.setCached a l c).evt = s.evt ∧ (s.setCached a l c).cmdq = s.cmdq ∧
    (s.setCached a l c).tern = s.tern ∧ (s.setCached a l c).glue = s.glue ∧ (s.setCached a l c).exm = s.exm ∧
    (s.setCached a l c).fab = s.fab ∧ (s.setCached a l c).twin = s.twin ∧ (s.setCached a l c).sw = s.sw ∧
    (s.setCached a l c).chans = s.chans ∧ (s.setCached a l c).mapper = s.mapper ∧ (s.setCached a l c).time = s.time ∧
    (s.setCached a l c).sec = s.sec ∧ (s.setCached a l c).scr = s.scr ∧ (s.setCached a l c).glean = s.glean ∧
    (s.setCached a l c).arb = s.arb ∧ (s.setCached a l c).pwr = s.pwr ∧ (s.setCached a l c).heath = s.heath ∧
    (s.setCached a l c).upd = s.upd ∧ (s.setCached a l c).out = s.out :=
  ⟨rfl, rfl, rfl, rfl, rfl, rfl, rfl, rfl, rfl, rfl, rfl, rfl, rfl, rfl, rfl, rfl, rfl, rfl, rfl, rfl, rfl, rfl, rfl⟩

@[simp] theorem State.setPoison_frame (s : State) (l : Nat) (b : Bool) :
    (s.setPoison l b).pending = s.pending ∧ (s.setPoison l b).free = s.free ∧ (s.setPoison l b).clk = s.clk ∧
    (s.setPoison l b).reg = s.reg ∧ (s.setPoison l b).evt = s.evt ∧ (s.setPoison l b).cmdq = s.cmdq ∧
    (s.setPoison l b).tern = s.tern ∧ (s.setPoison l b).glue = s.glue ∧ (s.setPoison l b).exm = s.exm ∧
    (s.setPoison l b).fab = s.fab ∧ (s.setPoison l b).twin = s.twin ∧ (s.setPoison l b).sw = s.sw ∧
    (s.setPoison l b).chans = s.chans ∧ (s.setPoison l b).mapper = s.mapper ∧ (s.setPoison l b).time = s.time ∧
    (s.setPoison l b).sec = s.sec ∧ (s.setPoison l b).scr = s.scr ∧ (s.setPoison l b).glean = s.glean ∧
    (s.setPoison l b).arb = s.arb ∧ (s.setPoison l b).pwr = s.pwr ∧ (s.setPoison l b).heath = s.heath ∧
    (s.setPoison l b).upd = s.upd ∧ (s.setPoison l b).out = s.out :=
  ⟨rfl, rfl, rfl, rfl, rfl, rfl, rfl, rfl, rfl, rfl, rfl, rfl, rfl, rfl, rfl, rfl, rfl, rfl, rfl, rfl, rfl, rfl, rfl⟩

@[simp] theorem State.setMemLine_frame (s : State) (l : Nat) (w : List Word) :
    (s.setMemLine l w).pending = s.pending ∧ (s.setMemLine l w).free = s.free ∧ (s.setMemLine l w).clk = s.clk ∧
    (s.setMemLine l w).reg = s.reg ∧ (s.setMemLine l w).evt = s.evt ∧ (s.setMemLine l w).cmdq = s.cmdq ∧
    (s.setMemLine l w).tern = s.tern ∧ (s.setMemLine l w).glue = s.glue ∧ (s.setMemLine l w).exm = s.exm ∧
    (s.setMemLine l w).fab = s.fab ∧ (s.setMemLine l w).twin = s.twin ∧ (s.setMemLine l w).sw = s.sw ∧
    (s.setMemLine l w).chans = s.chans ∧ (s.setMemLine l w).mapper = s.mapper ∧ (s.setMemLine l w).time = s.time ∧
    (s.setMemLine l w).sec = s.sec ∧ (s.setMemLine l w).scr = s.scr ∧ (s.setMemLine l w).glean = s.glean ∧
    (s.setMemLine l w).arb = s.arb ∧ (s.setMemLine l w).pwr = s.pwr ∧ (s.setMemLine l w).heath = s.heath ∧
    (s.setMemLine l w).upd = s.upd ∧ (s.setMemLine l w).out = s.out := by
  simp [State.setMemLine]

@[simp] theorem State.setTern_frame (s : State) (t : Nat) (x : TernTable) :
    (s.setTern t x).pending = s.pending ∧ (s.setTern t x).free = s.free ∧ (s.setTern t x).clk = s.clk ∧ (s.setTern t x).reg = s.reg ∧
    (s.setTern t x).evt = s.evt ∧ (s.setTern t x).cmdq = s.cmdq ∧ (s.setTern t x).glue = s.glue ∧ (s.setTern t x).exm = s.exm ∧
    (s.setTern t x).coh = s.coh ∧ (s.setTern t x).fab = s.fab ∧ (s.setTern t x).twin = s.twin ∧ (s.setTern t x).sw = s.sw ∧
    (s.setTern t x).chans = s.chans ∧ (s.setTern t x).mapper = s.mapper ∧ (s.setTern t x).time = s.time ∧
    (s.setTern t x).sec = s.sec ∧ (s.setTern t x).scr = s.scr ∧ (s.setTern t x).glean = s.glean ∧ (s.setTern t x).arb = s.arb ∧
    (s.setTern t x).pwr = s.pwr ∧ (s.setTern t x).heath = s.heath ∧ (s.setTern t x).upd = s.upd ∧ (s.setTern t x).out = s.out :=
  ⟨rfl, rfl, rfl, rfl, rfl, rfl, rfl, rfl, rfl, rfl, rfl, rfl, rfl, rfl, rfl, rfl, rfl, rfl, rfl, rfl, rfl, rfl, rfl⟩

@[simp] theorem State.setWord_frame (s : State) (a : Nat) (w : ResultWord) :
    (s.setWord a w).pending = s.pending ∧ (s.setWord a w).free = s.free ∧ (s.setWord a w).clk = s.clk ∧ (s.setWord a w).reg = s.reg ∧
    (s.setWord a w).evt = s.evt ∧ (s.setWord a w).cmdq = s.cmdq ∧ (s.setWord a w).glue = s.glue ∧ (s.setWord a w).exm = s.exm ∧
    (s.setWord a w).coh = s.coh ∧ (s.setWord a w).fab = s.fab ∧ (s.setWord a w).twin = s.twin ∧ (s.setWord a w).sw = s.sw ∧
    (s.setWord a w).chans = s.chans ∧ (s.setWord a w).mapper = s.mapper ∧ (s.setWord a w).time = s.time ∧
    (s.setWord a w).sec = s.sec ∧ (s.setWord a w).scr = s.scr ∧ (s.setWord a w).glean = s.glean ∧ (s.setWord a w).arb = s.arb ∧
    (s.setWord a w).pwr = s.pwr ∧ (s.setWord a w).heath = s.heath ∧ (s.setWord a w).upd = s.upd ∧ (s.setWord a w).out = s.out :=
  ⟨rfl, rfl, rfl, rfl, rfl, rfl, rfl, rfl, rfl, rfl, rfl, rfl, rfl, rfl, rfl, rfl, rfl, rfl, rfl, rfl, rfl, rfl, rfl⟩

@[simp] theorem State.setProfile_frame (s : State) (n : Nat) (x : ProfileSt) :
    (s.setProfile n x).pending = s.pending ∧ (s.setProfile n x).free = s.free ∧ (s.setProfile n x).clk = s.clk ∧
    (s.setProfile n x).reg = s.reg ∧ (s.setProfile n x).evt = s.evt ∧ (s.setProfile n x).cmdq = s.cmdq ∧
    (s.setProfile n x).glue = s.glue ∧ (s.setProfile n x).exm = s.exm ∧ (s.setProfile n x).coh = s.coh ∧
    (s.setProfile n x).fab = s.fab ∧ (s.setProfile n x).twin = s.twin ∧ (s.setProfile n x).sw = s.sw ∧
    (s.setProfile n x).chans = s.chans ∧ (s.setProfile n x).mapper = s.mapper ∧ (s.setProfile n x).time = s.time ∧
    (s.setProfile n x).sec = s.sec ∧ (s.setProfile n x).scr = s.scr ∧ (s.setProfile n x).glean = s.glean ∧
    (s.setProfile n x).arb = s.arb ∧ (s.setProfile n x).pwr = s.pwr ∧ (s.setProfile n x).heath = s.heath ∧
    (s.setProfile n x).upd = s.upd ∧ (s.setProfile n x).out = s.out :=
  ⟨rfl, rfl, rfl, rfl, rfl, rfl, rfl, rfl, rfl, rfl, rfl, rfl, rfl, rfl, rfl, rfl, rfl, rfl, rfl, rfl, rfl, rfl, rfl⟩

@[simp] theorem State.setEx_frame (s : State) (t : Nat) (x : ExactTable) :
    (s.setEx t x).pending = s.pending ∧ (s.setEx t x).free = s.free ∧ (s.setEx t x).clk = s.clk ∧ (s.setEx t x).reg = s.reg ∧
    (s.setEx t x).evt = s.evt ∧ (s.setEx t x).cmdq = s.cmdq ∧ (s.setEx t x).tern = s.tern ∧ (s.setEx t x).glue = s.glue ∧
    (s.setEx t x).coh = s.coh ∧ (s.setEx t x).fab = s.fab ∧ (s.setEx t x).twin = s.twin ∧ (s.setEx t x).sw = s.sw ∧
    (s.setEx t x).chans = s.chans ∧ (s.setEx t x).mapper = s.mapper ∧ (s.setEx t x).time = s.time ∧ (s.setEx t x).sec = s.sec ∧
    (s.setEx t x).scr = s.scr ∧ (s.setEx t x).glean = s.glean ∧ (s.setEx t x).arb = s.arb ∧ (s.setEx t x).pwr = s.pwr ∧
    (s.setEx t x).heath = s.heath ∧ (s.setEx t x).upd = s.upd ∧ (s.setEx t x).out = s.out :=
  ⟨rfl, rfl, rfl, rfl, rfl, rfl, rfl, rfl, rfl, rfl, rfl, rfl, rfl, rfl, rfl, rfl, rfl, rfl, rfl, rfl, rfl, rfl, rfl⟩

@[simp] theorem State.setSlot_frame (s : State) (p : Nat) (x : Slot) :
    (s.setSlot p x).pending = s.pending ∧ (s.setSlot p x).free = s.free ∧ (s.setSlot p x).clk = s.clk ∧ (s.setSlot p x).reg = s.reg ∧
    (s.setSlot p x).evt = s.evt ∧ (s.setSlot p x).cmdq = s.cmdq ∧ (s.setSlot p x).tern = s.tern ∧ (s.setSlot p x).glue = s.glue ∧
    (s.setSlot p x).coh = s.coh ∧ (s.setSlot p x).fab = s.fab ∧ (s.setSlot p x).twin = s.twin ∧ (s.setSlot p x).sw = s.sw ∧
    (s.setSlot p x).chans = s.chans ∧ (s.setSlot p x).mapper = s.mapper ∧ (s.setSlot p x).time = s.time ∧
    (s.setSlot p x).sec = s.sec ∧ (s.setSlot p x).scr = s.scr ∧ (s.setSlot p x).glean = s.glean ∧ (s.setSlot p x).arb = s.arb ∧
    (s.setSlot p x).pwr = s.pwr ∧ (s.setSlot p x).heath = s.heath ∧ (s.setSlot p x).upd = s.upd ∧ (s.setSlot p x).out = s.out :=
  ⟨rfl, rfl, rfl, rfl, rfl, rfl, rfl, rfl, rfl, rfl, rfl, rfl, rfl, rfl, rfl, rfl, rfl, rfl, rfl, rfl, rfl, rfl, rfl⟩

@[simp] theorem State.setGlue_frame (s : State) (i : Nat) (g : GlueUp) :
    (s.setGlue i g).pending = s.pending ∧ (s.setGlue i g).free = s.free ∧ (s.setGlue i g).clk = s.clk ∧ (s.setGlue i g).reg = s.reg ∧
    (s.setGlue i g).evt = s.evt ∧ (s.setGlue i g).cmdq = s.cmdq ∧ (s.setGlue i g).tern = s.tern ∧ (s.setGlue i g).exm = s.exm ∧
    (s.setGlue i g).coh = s.coh ∧ (s.setGlue i g).fab = s.fab ∧ (s.setGlue i g).twin = s.twin ∧ (s.setGlue i g).sw = s.sw ∧
    (s.setGlue i g).chans = s.chans ∧ (s.setGlue i g).mapper = s.mapper ∧ (s.setGlue i g).time = s.time ∧
    (s.setGlue i g).sec = s.sec ∧ (s.setGlue i g).scr = s.scr ∧ (s.setGlue i g).glean = s.glean ∧ (s.setGlue i g).arb = s.arb ∧
    (s.setGlue i g).pwr = s.pwr ∧ (s.setGlue i g).heath = s.heath ∧ (s.setGlue i g).upd = s.upd ∧ (s.setGlue i g).out = s.out :=
  ⟨rfl, rfl, rfl, rfl, rfl, rfl, rfl, rfl, rfl, rfl, rfl, rfl, rfl, rfl, rfl, rfl, rfl, rfl, rfl, rfl, rfl, rfl, rfl⟩

@[simp] theorem State.setTwin_frame (s : State) (t : TwinSt) :
    (s.setTwin t).pending = s.pending ∧ (s.setTwin t).free = s.free ∧ (s.setTwin t).clk = s.clk ∧ (s.setTwin t).reg = s.reg ∧
    (s.setTwin t).evt = s.evt ∧ (s.setTwin t).cmdq = s.cmdq ∧ (s.setTwin t).tern = s.tern ∧ (s.setTwin t).glue = s.glue ∧
    (s.setTwin t).exm = s.exm ∧ (s.setTwin t).coh = s.coh ∧ (s.setTwin t).fab = s.fab ∧ (s.setTwin t).sw = s.sw ∧
    (s.setTwin t).chans = s.chans ∧ (s.setTwin t).mapper = s.mapper ∧ (s.setTwin t).time = s.time ∧ (s.setTwin t).sec = s.sec ∧
    (s.setTwin t).scr = s.scr ∧ (s.setTwin t).glean = s.glean ∧ (s.setTwin t).arb = s.arb ∧ (s.setTwin t).pwr = s.pwr ∧
    (s.setTwin t).heath = s.heath ∧ (s.setTwin t).upd = s.upd ∧ (s.setTwin t).out = s.out :=
  ⟨rfl, rfl, rfl, rfl, rfl, rfl, rfl, rfl, rfl, rfl, rfl, rfl, rfl, rfl, rfl, rfl, rfl, rfl, rfl, rfl, rfl, rfl, rfl⟩

@[simp] theorem State.setGlean_frame (s : State) (g : GleanSt) :
    (s.setGlean g).pending = s.pending ∧ (s.setGlean g).free = s.free ∧ (s.setGlean g).clk = s.clk ∧ (s.setGlean g).reg = s.reg ∧
    (s.setGlean g).evt = s.evt ∧ (s.setGlean g).cmdq = s.cmdq ∧ (s.setGlean g).tern = s.tern ∧ (s.setGlean g).glue = s.glue ∧
    (s.setGlean g).exm = s.exm ∧ (s.setGlean g).coh = s.coh ∧ (s.setGlean g).fab = s.fab ∧ (s.setGlean g).twin = s.twin ∧
    (s.setGlean g).sw = s.sw ∧ (s.setGlean g).chans = s.chans ∧ (s.setGlean g).mapper = s.mapper ∧ (s.setGlean g).time = s.time ∧
    (s.setGlean g).sec = s.sec ∧ (s.setGlean g).scr = s.scr ∧ (s.setGlean g).arb = s.arb ∧ (s.setGlean g).pwr = s.pwr ∧
    (s.setGlean g).heath = s.heath ∧ (s.setGlean g).upd = s.upd ∧ (s.setGlean g).out = s.out :=
  ⟨rfl, rfl, rfl, rfl, rfl, rfl, rfl, rfl, rfl, rfl, rfl, rfl, rfl, rfl, rfl, rfl, rfl, rfl, rfl, rfl, rfl, rfl, rfl⟩

@[simp] theorem State.setHolder_frame (s : State) (h : Nat) (x : Holder) :
    (s.setHolder h x).pending = s.pending ∧ (s.setHolder h x).free = s.free ∧ (s.setHolder h x).clk = s.clk ∧
    (s.setHolder h x).reg = s.reg ∧ (s.setHolder h x).evt = s.evt ∧ (s.setHolder h x).cmdq = s.cmdq ∧
    (s.setHolder h x).tern = s.tern ∧ (s.setHolder h x).glue = s.glue ∧ (s.setHolder h x).exm = s.exm ∧
    (s.setHolder h x).coh = s.coh ∧ (s.setHolder h x).fab = s.fab ∧ (s.setHolder h x).twin = s.twin ∧
    (s.setHolder h x).chans = s.chans ∧ (s.setHolder h x).mapper = s.mapper ∧ (s.setHolder h x).time = s.time ∧
    (s.setHolder h x).sec = s.sec ∧ (s.setHolder h x).scr = s.scr ∧ (s.setHolder h x).glean = s.glean ∧
    (s.setHolder h x).arb = s.arb ∧ (s.setHolder h x).pwr = s.pwr ∧ (s.setHolder h x).heath = s.heath ∧
    (s.setHolder h x).upd = s.upd ∧ (s.setHolder h x).out = s.out :=
  ⟨rfl, rfl, rfl, rfl, rfl, rfl, rfl, rfl, rfl, rfl, rfl, rfl, rfl, rfl, rfl, rfl, rfl, rfl, rfl, rfl, rfl, rfl, rfl⟩

@[simp] theorem State.setEth_frame (s : State) (n : Nat) (p : EthPort) :
    (s.setEth n p).pending = s.pending ∧ (s.setEth n p).free = s.free ∧ (s.setEth n p).clk = s.clk ∧ (s.setEth n p).reg = s.reg ∧
    (s.setEth n p).evt = s.evt ∧ (s.setEth n p).cmdq = s.cmdq ∧ (s.setEth n p).tern = s.tern ∧ (s.setEth n p).glue = s.glue ∧
    (s.setEth n p).exm = s.exm ∧ (s.setEth n p).coh = s.coh ∧ (s.setEth n p).fab = s.fab ∧ (s.setEth n p).twin = s.twin ∧
    (s.setEth n p).chans = s.chans ∧ (s.setEth n p).mapper = s.mapper ∧ (s.setEth n p).time = s.time ∧ (s.setEth n p).sec = s.sec ∧
    (s.setEth n p).scr = s.scr ∧ (s.setEth n p).glean = s.glean ∧ (s.setEth n p).arb = s.arb ∧ (s.setEth n p).pwr = s.pwr ∧
    (s.setEth n p).heath = s.heath ∧ (s.setEth n p).upd = s.upd ∧ (s.setEth n p).out = s.out :=
  ⟨rfl, rfl, rfl, rfl, rfl, rfl, rfl, rfl, rfl, rfl, rfl, rfl, rfl, rfl, rfl, rfl, rfl, rfl, rfl, rfl, rfl, rfl, rfl⟩

@[simp] theorem State.setFrame_frame (s : State) (f : Frame) :
    (s.setFrame f).pending = s.pending ∧ (s.setFrame f).free = s.free ∧ (s.setFrame f).clk = s.clk ∧ (s.setFrame f).reg = s.reg ∧
    (s.setFrame f).evt = s.evt ∧ (s.setFrame f).cmdq = s.cmdq ∧ (s.setFrame f).tern = s.tern ∧ (s.setFrame f).glue = s.glue ∧
    (s.setFrame f).exm = s.exm ∧ (s.setFrame f).coh = s.coh ∧ (s.setFrame f).fab = s.fab ∧ (s.setFrame f).twin = s.twin ∧
    (s.setFrame f).chans = s.chans ∧ (s.setFrame f).mapper = s.mapper ∧ (s.setFrame f).time = s.time ∧ (s.setFrame f).sec = s.sec ∧
    (s.setFrame f).scr = s.scr ∧ (s.setFrame f).glean = s.glean ∧ (s.setFrame f).arb = s.arb ∧ (s.setFrame f).pwr = s.pwr ∧
    (s.setFrame f).heath = s.heath ∧ (s.setFrame f).upd = s.upd ∧ (s.setFrame f).out = s.out :=
  ⟨rfl, rfl, rfl, rfl, rfl, rfl, rfl, rfl, rfl, rfl, rfl, rfl, rfl, rfl, rfl, rfl, rfl, rfl, rfl, rfl, rfl, rfl, rfl⟩

@[simp] theorem State.setCopies_frame (s : State) (c : List Copy) :
    (s.setCopies c).pending = s.pending ∧ (s.setCopies c).free = s.free ∧ (s.setCopies c).clk = s.clk ∧ (s.setCopies c).reg = s.reg ∧
    (s.setCopies c).evt = s.evt ∧ (s.setCopies c).cmdq = s.cmdq ∧ (s.setCopies c).tern = s.tern ∧ (s.setCopies c).glue = s.glue ∧
    (s.setCopies c).exm = s.exm ∧ (s.setCopies c).coh = s.coh ∧ (s.setCopies c).fab = s.fab ∧ (s.setCopies c).twin = s.twin ∧
    (s.setCopies c).chans = s.chans ∧ (s.setCopies c).mapper = s.mapper ∧ (s.setCopies c).time = s.time ∧
    (s.setCopies c).sec = s.sec ∧ (s.setCopies c).scr = s.scr ∧ (s.setCopies c).glean = s.glean ∧ (s.setCopies c).arb = s.arb ∧
    (s.setCopies c).pwr = s.pwr ∧ (s.setCopies c).heath = s.heath ∧ (s.setCopies c).upd = s.upd ∧ (s.setCopies c).out = s.out :=
  ⟨rfl, rfl, rfl, rfl, rfl, rfl, rfl, rfl, rfl, rfl, rfl, rfl, rfl, rfl, rfl, rfl, rfl, rfl, rfl, rfl, rfl, rfl, rfl⟩

@[simp] theorem State.setChan_frame (s : State) (n : Nat) (c : SlowCh) :
    (s.setChan n c).pending = s.pending ∧ (s.setChan n c).free = s.free ∧ (s.setChan n c).clk = s.clk ∧ (s.setChan n c).reg = s.reg ∧
    (s.setChan n c).evt = s.evt ∧ (s.setChan n c).cmdq = s.cmdq ∧ (s.setChan n c).tern = s.tern ∧ (s.setChan n c).glue = s.glue ∧
    (s.setChan n c).exm = s.exm ∧ (s.setChan n c).coh = s.coh ∧ (s.setChan n c).fab = s.fab ∧ (s.setChan n c).twin = s.twin ∧
    (s.setChan n c).sw = s.sw ∧ (s.setChan n c).mapper = s.mapper ∧ (s.setChan n c).time = s.time ∧ (s.setChan n c).sec = s.sec ∧
    (s.setChan n c).scr = s.scr ∧ (s.setChan n c).glean = s.glean ∧ (s.setChan n c).arb = s.arb ∧ (s.setChan n c).pwr = s.pwr ∧
    (s.setChan n c).heath = s.heath ∧ (s.setChan n c).upd = s.upd ∧ (s.setChan n c).out = s.out :=
  ⟨rfl, rfl, rfl, rfl, rfl, rfl, rfl, rfl, rfl, rfl, rfl, rfl, rfl, rfl, rfl, rfl, rfl, rfl, rfl, rfl, rfl, rfl, rfl⟩

@[simp] theorem State.setRoute_frame (s : State) (r : Nat) (x : Route) :
    (s.setRoute r x).pending = s.pending ∧ (s.setRoute r x).free = s.free ∧ (s.setRoute r x).clk = s.clk ∧
    (s.setRoute r x).reg = s.reg ∧ (s.setRoute r x).evt = s.evt ∧ (s.setRoute r x).cmdq = s.cmdq ∧ (s.setRoute r x).tern = s.tern ∧
    (s.setRoute r x).glue = s.glue ∧ (s.setRoute r x).exm = s.exm ∧ (s.setRoute r x).coh = s.coh ∧ (s.setRoute r x).fab = s.fab ∧
    (s.setRoute r x).twin = s.twin ∧ (s.setRoute r x).sw = s.sw ∧ (s.setRoute r x).chans = s.chans ∧ (s.setRoute r x).time = s.time ∧
    (s.setRoute r x).sec = s.sec ∧ (s.setRoute r x).scr = s.scr ∧ (s.setRoute r x).glean = s.glean ∧ (s.setRoute r x).arb = s.arb ∧
    (s.setRoute r x).pwr = s.pwr ∧ (s.setRoute r x).heath = s.heath ∧ (s.setRoute r x).upd = s.upd ∧ (s.setRoute r x).out = s.out :=
  ⟨rfl, rfl, rfl, rfl, rfl, rfl, rfl, rfl, rfl, rfl, rfl, rfl, rfl, rfl, rfl, rfl, rfl, rfl, rfl, rfl, rfl, rfl, rfl⟩

@[simp] theorem State.setPdu_frame (s : State) (p : Nat) (x : Pdu) :
    (s.setPdu p x).pending = s.pending ∧ (s.setPdu p x).free = s.free ∧ (s.setPdu p x).clk = s.clk ∧ (s.setPdu p x).reg = s.reg ∧
    (s.setPdu p x).evt = s.evt ∧ (s.setPdu p x).cmdq = s.cmdq ∧ (s.setPdu p x).tern = s.tern ∧ (s.setPdu p x).glue = s.glue ∧
    (s.setPdu p x).exm = s.exm ∧ (s.setPdu p x).coh = s.coh ∧ (s.setPdu p x).fab = s.fab ∧ (s.setPdu p x).twin = s.twin ∧
    (s.setPdu p x).sw = s.sw ∧ (s.setPdu p x).chans = s.chans ∧ (s.setPdu p x).time = s.time ∧ (s.setPdu p x).sec = s.sec ∧
    (s.setPdu p x).scr = s.scr ∧ (s.setPdu p x).glean = s.glean ∧ (s.setPdu p x).arb = s.arb ∧ (s.setPdu p x).pwr = s.pwr ∧
    (s.setPdu p x).heath = s.heath ∧ (s.setPdu p x).upd = s.upd ∧ (s.setPdu p x).out = s.out :=
  ⟨rfl, rfl, rfl, rfl, rfl, rfl, rfl, rfl, rfl, rfl, rfl, rfl, rfl, rfl, rfl, rfl, rfl, rfl, rfl, rfl, rfl, rfl, rfl⟩

@[simp] theorem State.setGen_frame (s : State) (g : Nat) (x : Gen) :
    (s.setGen g x).pending = s.pending ∧ (s.setGen g x).free = s.free ∧ (s.setGen g x).clk = s.clk ∧ (s.setGen g x).reg = s.reg ∧
    (s.setGen g x).evt = s.evt ∧ (s.setGen g x).cmdq = s.cmdq ∧ (s.setGen g x).tern = s.tern ∧ (s.setGen g x).glue = s.glue ∧
    (s.setGen g x).exm = s.exm ∧ (s.setGen g x).coh = s.coh ∧ (s.setGen g x).fab = s.fab ∧ (s.setGen g x).twin = s.twin ∧
    (s.setGen g x).sw = s.sw ∧ (s.setGen g x).chans = s.chans ∧ (s.setGen g x).mapper = s.mapper ∧ (s.setGen g x).sec = s.sec ∧
    (s.setGen g x).scr = s.scr ∧ (s.setGen g x).glean = s.glean ∧ (s.setGen g x).arb = s.arb ∧ (s.setGen g x).pwr = s.pwr ∧
    (s.setGen g x).heath = s.heath ∧ (s.setGen g x).upd = s.upd ∧ (s.setGen g x).out = s.out :=
  ⟨rfl, rfl, rfl, rfl, rfl, rfl, rfl, rfl, rfl, rfl, rfl, rfl, rfl, rfl, rfl, rfl, rfl, rfl, rfl, rfl, rfl, rfl, rfl⟩

@[simp] theorem State.setSlotTable_frame (s : State) (i : Nat) (t : SlotTable) :
    (s.setSlotTable i t).pending = s.pending ∧ (s.setSlotTable i t).free = s.free ∧ (s.setSlotTable i t).clk = s.clk ∧
    (s.setSlotTable i t).reg = s.reg ∧ (s.setSlotTable i t).evt = s.evt ∧ (s.setSlotTable i t).cmdq = s.cmdq ∧
    (s.setSlotTable i t).tern = s.tern ∧ (s.setSlotTable i t).glue = s.glue ∧ (s.setSlotTable i t).exm = s.exm ∧
    (s.setSlotTable i t).coh = s.coh ∧ (s.setSlotTable i t).fab = s.fab ∧ (s.setSlotTable i t).twin = s.twin ∧
    (s.setSlotTable i t).sw = s.sw ∧ (s.setSlotTable i t).chans = s.chans ∧ (s.setSlotTable i t).mapper = s.mapper ∧
    (s.setSlotTable i t).sec = s.sec ∧ (s.setSlotTable i t).scr = s.scr ∧ (s.setSlotTable i t).glean = s.glean ∧
    (s.setSlotTable i t).arb = s.arb ∧ (s.setSlotTable i t).pwr = s.pwr ∧ (s.setSlotTable i t).heath = s.heath ∧
    (s.setSlotTable i t).upd = s.upd ∧ (s.setSlotTable i t).out = s.out :=
  ⟨rfl, rfl, rfl, rfl, rfl, rfl, rfl, rfl, rfl, rfl, rfl, rfl, rfl, rfl, rfl, rfl, rfl, rfl, rfl, rfl, rfl, rfl, rfl⟩

@[simp] theorem State.setSession_frame (s : State) (n : Nat) (x : Option Session) :
    (s.setSession n x).pending = s.pending ∧ (s.setSession n x).free = s.free ∧ (s.setSession n x).clk = s.clk ∧
    (s.setSession n x).reg = s.reg ∧ (s.setSession n x).evt = s.evt ∧ (s.setSession n x).cmdq = s.cmdq ∧
    (s.setSession n x).tern = s.tern ∧ (s.setSession n x).glue = s.glue ∧ (s.setSession n x).exm = s.exm ∧
    (s.setSession n x).coh = s.coh ∧ (s.setSession n x).fab = s.fab ∧ (s.setSession n x).twin = s.twin ∧
    (s.setSession n x).sw = s.sw ∧ (s.setSession n x).chans = s.chans ∧ (s.setSession n x).mapper = s.mapper ∧
    (s.setSession n x).time = s.time ∧ (s.setSession n x).scr = s.scr ∧ (s.setSession n x).glean = s.glean ∧
    (s.setSession n x).arb = s.arb ∧ (s.setSession n x).pwr = s.pwr ∧ (s.setSession n x).heath = s.heath ∧
    (s.setSession n x).upd = s.upd ∧ (s.setSession n x).out = s.out :=
  ⟨rfl, rfl, rfl, rfl, rfl, rfl, rfl, rfl, rfl, rfl, rfl, rfl, rfl, rfl, rfl, rfl, rfl, rfl, rfl, rfl, rfl, rfl, rfl⟩

@[simp] theorem State.setPower_frame (s : State) (p : PowerState) :
    (s.setPower p).pending = s.pending ∧ (s.setPower p).free = s.free ∧ (s.setPower p).clk = s.clk ∧ (s.setPower p).reg = s.reg ∧
    (s.setPower p).evt = s.evt ∧ (s.setPower p).cmdq = s.cmdq ∧ (s.setPower p).tern = s.tern ∧ (s.setPower p).glue = s.glue ∧
    (s.setPower p).exm = s.exm ∧ (s.setPower p).coh = s.coh ∧ (s.setPower p).fab = s.fab ∧ (s.setPower p).twin = s.twin ∧
    (s.setPower p).sw = s.sw ∧ (s.setPower p).chans = s.chans ∧ (s.setPower p).mapper = s.mapper ∧ (s.setPower p).time = s.time ∧
    (s.setPower p).sec = s.sec ∧ (s.setPower p).scr = s.scr ∧ (s.setPower p).glean = s.glean ∧ (s.setPower p).arb = s.arb ∧
    (s.setPower p).heath = s.heath ∧ (s.setPower p).upd = s.upd ∧ (s.setPower p).out = s.out := by
  simp only [State.setPower, State.sampleStraps]; split <;> exact ⟨rfl, rfl, rfl, rfl, rfl, rfl, rfl, rfl, rfl, rfl, rfl, rfl, rfl, rfl, rfl, rfl, rfl, rfl, rfl, rfl, rfl, rfl, rfl⟩

@[simp] theorem State.putByte_frame (s : State) (o : Nat) (v : Byte) :
    (s.putByte o v).pending = s.pending ∧ (s.putByte o v).free = s.free ∧ (s.putByte o v).clk = s.clk ∧ (s.putByte o v).reg = s.reg ∧
    (s.putByte o v).evt = s.evt ∧ (s.putByte o v).cmdq = s.cmdq ∧ (s.putByte o v).tern = s.tern ∧ (s.putByte o v).glue = s.glue ∧
    (s.putByte o v).exm = s.exm ∧ (s.putByte o v).coh = s.coh ∧ (s.putByte o v).fab = s.fab ∧ (s.putByte o v).twin = s.twin ∧
    (s.putByte o v).sw = s.sw ∧ (s.putByte o v).chans = s.chans ∧ (s.putByte o v).mapper = s.mapper ∧ (s.putByte o v).time = s.time ∧
    (s.putByte o v).sec = s.sec ∧ (s.putByte o v).glean = s.glean ∧ (s.putByte o v).arb = s.arb ∧ (s.putByte o v).pwr = s.pwr ∧
    (s.putByte o v).heath = s.heath ∧ (s.putByte o v).upd = s.upd ∧ (s.putByte o v).out = s.out :=
  ⟨rfl, rfl, rfl, rfl, rfl, rfl, rfl, rfl, rfl, rfl, rfl, rfl, rfl, rfl, rfl, rfl, rfl, rfl, rfl, rfl, rfl, rfl, rfl⟩

/-- Counting the waits of some lanes changes registers alone. -/
theorem State.waitCounts_frame (ns : List (Nat × Nat)) (f : Nat × Nat → Nat) (s : State) :
    ns.foldl (fun t n => t.cnt (Reg.arbArrayWait n.1) (f n)) s =
      { s with reg := (ns.foldl (fun t n => t.cnt (Reg.arbArrayWait n.1) (f n)) s).reg } := by
  induction ns generalizing s with
  | nil => rfl
  | cons n ns ih => simp only [List.foldl_cons]; rw [ih]; simp

@[simp] theorem State.advance_frame (s : State) (k : Nat) :
    (s.advance k).pending = s.pending ∧ (s.advance k).free = s.free ∧ (s.advance k).evt = s.evt ∧ (s.advance k).cmdq = s.cmdq ∧
    (s.advance k).glue = s.glue ∧ (s.advance k).exm = s.exm ∧ (s.advance k).coh = s.coh ∧ (s.advance k).fab = s.fab ∧
    (s.advance k).twin = s.twin ∧ (s.advance k).sw = s.sw ∧ (s.advance k).chans = s.chans ∧ (s.advance k).mapper = s.mapper ∧
    (s.advance k).time = s.time ∧ (s.advance k).sec = s.sec ∧ (s.advance k).scr = s.scr ∧ (s.advance k).glean = s.glean ∧
    (s.advance k).arb = s.arb ∧ (s.advance k).pwr = s.pwr ∧ (s.advance k).upd = s.upd ∧ (s.advance k).out = s.out := by
  simp only [State.advance]; split <;> rw [State.waitCounts_frame _ (fun n => k - (n.2 - s.clk.age))] <;> simp

@[simp] theorem State.until_frame (s : State) (t : Nat) :
    (s.until t).pending = s.pending ∧ (s.until t).free = s.free ∧ (s.until t).evt = s.evt ∧ (s.until t).cmdq = s.cmdq ∧
    (s.until t).glue = s.glue ∧ (s.until t).exm = s.exm ∧ (s.until t).coh = s.coh ∧ (s.until t).fab = s.fab ∧
    (s.until t).twin = s.twin ∧ (s.until t).sw = s.sw ∧ (s.until t).chans = s.chans ∧ (s.until t).mapper = s.mapper ∧
    (s.until t).time = s.time ∧ (s.until t).sec = s.sec ∧ (s.until t).scr = s.scr ∧ (s.until t).glean = s.glean ∧
    (s.until t).arb = s.arb ∧ (s.until t).pwr = s.pwr ∧ (s.until t).upd = s.upd ∧ (s.until t).out = s.out := by
  simp [State.until]

@[simp] theorem State.untilNs_frame (s : State) (t : Nat) :
    (s.untilNs t).pending = s.pending ∧ (s.untilNs t).free = s.free ∧ (s.untilNs t).evt = s.evt ∧ (s.untilNs t).cmdq = s.cmdq ∧
    (s.untilNs t).glue = s.glue ∧ (s.untilNs t).exm = s.exm ∧ (s.untilNs t).coh = s.coh ∧ (s.untilNs t).fab = s.fab ∧
    (s.untilNs t).twin = s.twin ∧ (s.untilNs t).sw = s.sw ∧ (s.untilNs t).chans = s.chans ∧ (s.untilNs t).mapper = s.mapper ∧
    (s.untilNs t).time = s.time ∧ (s.untilNs t).sec = s.sec ∧ (s.untilNs t).scr = s.scr ∧ (s.untilNs t).glean = s.glean ∧
    (s.untilNs t).arb = s.arb ∧ (s.untilNs t).pwr = s.pwr ∧ (s.untilNs t).upd = s.upd ∧ (s.untilNs t).out = s.out := by
  simp only [State.untilNs]; split <;> simp

/-- What `after` brings back, and what it takes from the new state. -/
@[simp] theorem State.after_fields (s t : State) :
    (s.after t).pending = s.pending ∧ (s.after t).scr = { t.scr with mem := s.scr.mem } ∧
    (s.after t).sec = { t.sec with log := s.sec.log } ∧ (s.after t).free = t.free ∧ (s.after t).clk = t.clk ∧
    (s.after t).reg = t.reg ∧ (s.after t).evt = t.evt ∧ (s.after t).cmdq = t.cmdq ∧ (s.after t).tern = t.tern ∧ (s.after t).glue = t.glue ∧
    (s.after t).exm = t.exm ∧ (s.after t).coh = t.coh ∧ (s.after t).fab = t.fab ∧ (s.after t).twin = t.twin ∧ (s.after t).sw = t.sw ∧
    (s.after t).chans = t.chans ∧ (s.after t).mapper = t.mapper ∧ (s.after t).time = t.time ∧ (s.after t).glean = t.glean ∧ (s.after t).arb = t.arb ∧
    (s.after t).pwr = t.pwr ∧ (s.after t).heath = t.heath ∧ (s.after t).upd = t.upd ∧ (s.after t).out = t.out :=
  ⟨rfl, rfl, rfl, rfl, rfl, rfl, rfl, rfl, rfl, rfl, rfl, rfl, rfl, rfl, rfl, rfl, rfl, rfl, rfl, rfl, rfl, rfl, rfl, rfl⟩

/-! ## Registers -/

@[simp] theorem State.rd_wr_same (s : State) (a : Nat) (v : Word) : (s.wr a v).rd a = v := by simp [State.rd, State.wr]

theorem State.rd_wr_ne (s : State) {a b : Nat} (v : Word) (h : b ≠ a) : (s.wr a v).rd b = s.rd b := by
  simp [State.rd, State.wr, smGet_smSet_ne _ _ _ _ h]

/-- A counter after it has counted (R5). -/
@[simp] theorem State.rd_cnt_same (s : State) (a n : Nat) : (s.cnt a n).rd a = w32 (sat32 ((s.rd a).toNat + n)) := by
  simp [State.cnt]

theorem State.rd_cnt_ne (s : State) {a b : Nat} (n : Nat) (h : b ≠ a) : (s.cnt a n).rd b = s.rd b := by
  simp [State.cnt, State.rd_wr_ne s _ h]

/-- Reading a register looks at the register file alone. -/
theorem State.rd_of_reg {s t : State} (h : t.reg = s.reg) (a : Nat) : t.rd a = s.rd a := by simp [State.rd, h]

/-! ## Outcomes and guards -/

@[simp] theorem finish_eq (s t : State) : finish s t = .next (s.after t) := rfl

@[simp] theorem whileUp_up {s : State} (f : State → State) (h : s.coreUp = true) : whileUp s f = f s := by simp [whileUp, h]

@[simp] theorem whileUp_down {s : State} (f : State → State) (h : s.coreUp = false) : whileUp s f = s := by simp [whileUp, h]

@[simp] theorem whileFw_up {s : State} (f : State → State) (h : s.fwUp = true) : whileFw s f = f s := by simp [whileFw, h]

@[simp] theorem whileReady_up {s : State} (f : State → State) (h : s.coreUp = true) (r : s.pwr.fwReady = true) :
    whileReady s f = f s := by simp [whileReady, h, r]

@[simp] theorem whileFw_down {s : State} (f : State → State) (h : s.fwUp = false) : whileFw s f = s := by simp [whileFw, h]

end Sys2Proof.Machine
end

