-- ==== Sys2Proof/Laws/Cmd.lean ====
section
/-! SUPPORT. How commands end: the five ways in which the run of a command goes on, and the frame of a reply. -/

namespace Sys2Proof.Machine

/-! ## The run of a command (R40, R67, R534) -/

theorem runCmd_not_running {op : Nat} {q : Request} {s : State} (body : State → Request → State × CmdEnd) (h : s.mayRun q = false) :
    runCmd op q body s = s := by simp [runCmd, h]

theorem runCmd_taken {op : Nat} {q : Request} {s : State} (body : State → Request → State × CmdEnd) (h : Taken op q s) :
    runCmd op q body s = endCmd op q (body s q) := by
  obtain ⟨h1, h2, h3, h4⟩ := h
  simp [runCmd, h1, h2, h3, h4]

theorem runCmd_bad_length {op : Nat} {q : Request} {s : State} (body : State → Request → State × CmdEnd) (h : s.mayRun q = true)
    (hl : plenOk op q.words.length (maxWords q.stream) = false) : runCmd op q body s = s.reply op q St.badLength [] := by
  simp [runCmd, h, hl]

theorem runCmd_envelope {op : Nat} {q : Request} {s : State} (body : State → Request → State × CmdEnd) (h : s.mayRun q = true)
    (hl : plenOk op q.words.length (maxWords q.stream) = true) (he : envelope (classOf op) q ≠ 0) :
    runCmd op q body s = s.reply op q (envelope (classOf op) q) [] := by
  simp [runCmd, h, hl, he]

theorem runCmd_target {op : Nat} {q : Request} {s : State} (body : State → Request → State × CmdEnd) (h : s.mayRun q = true)
    (hl : plenOk op q.words.length (maxWords q.stream) = true) (he : envelope (classOf op) q = 0) (ht : s.targetChecks op q ≠ 0) :
    runCmd op q body s = s.reply op q (s.targetChecks op q) [] := by
  simp [runCmd, h, hl, he, ht]

/-- Everything that the run of a command can do. -/
theorem runCmd_cases (op : Nat) (q : Request) (body : State → Request → State × CmdEnd) (s : State) :
    runCmd op q body s = s ∨ (∃ st, st ≠ 0 ∧ runCmd op q body s = s.reply op q st []) ∨
      (Taken op q s ∧ runCmd op q body s = endCmd op q (body s q)) := by
  by_cases h1 : s.mayRun q = true
  · by_cases h2 : plenOk op q.words.length (maxWords q.stream) = true
    · by_cases h3 : envelope (classOf op) q = 0
      · by_cases h4 : s.targetChecks op q = 0
        · exact .inr (.inr ⟨⟨h1, h2, h3, h4⟩, runCmd_taken body ⟨h1, h2, h3, h4⟩⟩)
        · exact .inr (.inl ⟨_, h4, runCmd_target body h1 h2 h3 h4⟩)
      · exact .inr (.inl ⟨_, h3, runCmd_envelope body h1 h2 h3⟩)
    · exact .inr (.inl ⟨St.badLength, by decide, runCmd_bad_length body h1 (by simpa using h2)⟩)
  · exact .inl (runCmd_not_running body (by simpa using h1))

@[simp] theorem endCmd_final (op : Nat) (q : Request) (t : State) (st : Nat) (w : List Word) :
    endCmd op q (t, .final st w) = t.reply op q st w := rfl

@[simp] theorem endCmd_fin (op : Nat) (q : Request) (t : State) (st : Nat) : endCmd op q (t, fin st) = t.reply op q st [] := rfl

@[simp] theorem endCmd_pend (op : Nat) (q : Request) (t : State) (on : WaitOn) (w : List Word) :
    endCmd op q (t, .pend on w) = (t.replyPending op q).wait on op q St.ok w := rfl

@[simp] theorem endCmd_pendElse (op : Nat) (q : Request) (t : State) : endCmd op q (t, .pendElse) = t.replyPending op q := rfl

@[simp] theorem endCmd_quiet (op : Nat) (q : Request) (t : State) : endCmd op q (t, .quiet) = t := rfl

/-! ## The frame of a reply -/

/-- What no reply touches: everything but the registers, the events, the command path, the glue-ups, action memory's mailbox, the twin's
mirrors, the switch core, the internal-fault mark, the update and what has been sent. -/
def State.SameCore (s t : State) : Prop :=
  t.pending = s.pending ∧ t.free = s.free ∧ t.clk = s.clk ∧ t.tern = s.tern ∧ t.exm = s.exm ∧ t.fab = s.fab ∧ t.chans = s.chans ∧
    t.mapper = s.mapper ∧ t.time = s.time ∧ t.scr = s.scr ∧ t.glean = s.glean ∧ t.arb = s.arb ∧ t.pwr = s.pwr ∧ t.heath = s.heath

theorem State.SameCore.refl (s : State) : s.SameCore s :=
  ⟨rfl, rfl, rfl, rfl, rfl, rfl, rfl, rfl, rfl, rfl, rfl, rfl, rfl, rfl⟩

theorem State.SameCore.trans {s t u : State} (h : s.SameCore t) (k : t.SameCore u) : s.SameCore u := by
  unfold State.SameCore at *
  refine ⟨?_, ?_, ?_, ?_, ?_, ?_, ?_, ?_, ?_, ?_, ?_, ?_, ?_, ?_⟩ <;> simp [h, k]

theorem State.drop_same (s : State) (p r : Nat) : s.SameCore (s.drop p r) := by
  simp [State.drop, State.SameCore]

theorem State.charge_same {s t : State} {h n : Nat} (e : s.charge h n = some t) : s.SameCore t := by
  unfold State.charge State.chargeFrom at e
  dsimp only at e
  split at e
  · cases e
  · split at e
    · cases e
    · split at e
      · cases e
      · cases e
        simp [State.SameCore]

theorem State.queueOwn_same (s : State) (p q : Nat) (b : List Byte) : s.SameCore (s.queueOwn p q b) := by
  unfold State.queueOwn
  dsimp only
  split
  · exact s.drop_same p 13
  · split
    · exact s.drop_same p 12
    · next t e => exact (State.charge_same e).trans (by simp [State.SameCore])

theorem State.sendTo_same (s : State) (a : Nat) (m : LinkMsg) : s.SameCore (s.sendTo a m) := by
  unfold State.sendTo
  cases s.route a <;> simp [State.SameCore]

theorem State.markMissed_same (s : State) (op : Nat) (q : Request) (st : Nat) : s.SameCore (s.markMissed op q st) := by
  unfold State.markMissed
  dsimp only
  split <;> simp [State.SameCore]

theorem State.keepReply_same (s : State) (p : Fin 32) (m : BitVec 48) (v : BitVec 12) (tag : Word) (b : List Byte) :
    s.SameCore (s.keepReply p m v tag b) := by
  simp [State.keepReply, State.SameCore]

theorem State.toStream_same (s : State) (id cls op : Nat) (q : Request) (buf : Option SqBuf) (vtag : Option Nat) (mute : Bool)
    (st : Nat) (side final : Bool) (w : List Word) : s.SameCore (s.toStream id cls op q buf vtag mute st side final w) := by
  unfold State.toStream
  split
  · split
    · exact .refl s
    · simp [State.SameCore]
  · simp [State.SameCore]
  · refine State.SameCore.trans (t := if final then s.keepReply _ _ _ _ _ else s) ?_ (State.queueOwn_same _ _ _ _)
    split
    · exact s.keepReply_same _ _ _ _ _
    · exact .refl s
  · exact s.sendTo_same _ _
  · split
    · exact (s.markMissed_same op q st).trans (by simp [State.SameCore])
    · exact .refl s
  · split <;> simp [State.SameCore]
  · exact .refl s

theorem State.noReplyFail_same (s : State) (op : Nat) (q : Request) (st : Nat) : s.SameCore (s.noReplyFail op q st) := by
  unfold State.noReplyFail
  split <;> simp [State.SameCore]

theorem State.sealedCount_same (s : State) (st : Nat) : s.SameCore (s.sealedCount st) := by
  unfold State.sealedCount
  split <;> simp [State.SameCore]

theorem State.noteFault_same (s : State) (st : Nat) : s.SameCore (s.noteFault st) := by
  unfold State.noteFault
  split <;> simp [State.SameCore]

theorem State.mailboxResult_same (s : State) (st : Nat) (w : List Word) : s.SameCore (s.mailboxResult st w) := by
  refine (s.noteFault_same st).trans ?_
  unfold State.mailboxResult
  dsimp only
  split <;> simp [State.SameCore]

theorem State.pairSettle_same (s : State) (n : Nat) : s.SameCore (s.pairSettle n) := by
  unfold State.pairSettle
  dsimp only
  split <;> simp [State.SameCore]

theorem State.closeCmd_same (s : State) (q : Request) : s.SameCore (s.closeCmd q) := by
  unfold State.closeCmd
  split
  · exact .refl s
  · split
    · simp [State.SameCore]
    · split
      · simp [State.SameCore]
      · dsimp only
        split
        · exact State.SameCore.trans (by simp [State.SameCore]) (State.pairSettle_same _ _)
        · simp [State.SameCore]

theorem State.replyFrom_same (s : State) (op : Nat) (q : Request) (st : Nat) (side : Bool) (w : List Word) :
    s.SameCore (s.replyFrom op q st side w) := by
  unfold State.replyFrom
  split
  · exact s.mailboxResult_same st w
  · dsimp only
    refine State.SameCore.trans ?_ (State.closeCmd_same _ q)
    have h : s.SameCore ((s.sealedCount st).noteFault st) := (s.sealedCount_same st).trans (State.noteFault_same _ _)
    split
    · exact h.trans (State.noReplyFail_same _ _ _ _)
    · exact h.trans (State.toStream_same _ _ _ _ _ _ _ _ _ _ _ _)

/-- A final reply changes nothing of the core of the device, whatever its stream. -/
theorem State.reply_same (s : State) (op : Nat) (q : Request) (st : Nat) (w : List Word) : s.SameCore (s.reply op q st w) := by
  unfold State.reply
  dsimp only
  split
  · simp [State.SameCore]
  · exact s.replyFrom_same op q st _ w

/-- Nor does a PENDING reply. -/
theorem State.replyPending_same (s : State) (op : Nat) (q : Request) : s.SameCore (s.replyPending op q) := by
  unfold State.replyPending
  split
  · exact s.mailboxResult_same _ _
  · dsimp only
    have h : s.SameCore ((s.cmdOf q).elim s (fun c => s.updCmd c.id (fun c => { c with phase := .pending }))) := by
      cases s.cmdOf q <;> simp [State.SameCore]
    split
    · exact h
    · exact h.trans (State.toStream_same _ _ _ _ _ _ _ _ _ _ _ _)

/-- The replies of the commands that wait for an event change nothing of the core of the device. -/
theorem State.wakeWith_same (s : State) (on : WaitOn) (f : Waiter → Nat × List Word) : s.SameCore (s.wakeWith on f) := by
  unfold State.wakeWith
  dsimp only
  have h (ws : List Waiter) (t : State) : t.SameCore (ws.foldl (fun s w => s.reply w.op w.q (f w).1 (f w).2) t) := by
    induction ws generalizing t with
    | nil => exact .refl t
    | cons w ws ih => exact (t.reply_same w.op w.q (f w).1 (f w).2).trans (ih _)
  exact State.SameCore.trans (by simp [State.SameCore]) (h _ _)

/-- However a command's body ends, its end changes nothing of the core of the device that the body has left. -/
theorem endCmd_same (op : Nat) (q : Request) (t : State) (e : CmdEnd) : t.SameCore (endCmd op q (t, e)) := by
  cases e with
  | final st w => exact t.reply_same op q st w
  | pend on w => exact (t.replyPending_same op q).trans (by simp [State.SameCore])
  | pendElse => exact t.replyPending_same op q
  | quiet => exact .refl t

end Sys2Proof.Machine
end

