-- ==== Sys2Proof/Laws/Glue.lean ====
section
/-! SUPPORT. What the operations on glue-ups do to the glue-up they name, to the others, and to the tables. -/

namespace Sys2Proof.Machine

@[simp] theorem State.glueUp_setGlue_same (s : State) (id : Nat) (g : GlueUp) : (s.setGlue id g).glueUp id = g := by
  simp [State.glueUp, State.setGlue]

theorem State.glueUp_setGlue_ne (s : State) {id j : Nat} (g : GlueUp) (h : j ≠ id) : (s.setGlue id g).glueUp j = s.glueUp j := by
  simp [State.glueUp, State.setGlue, smGet_smSet_ne _ _ _ _ h]

/-- A counter does not touch the glue-ups. -/
@[simp] theorem State.glueUp_cnt (s : State) (a n id : Nat) : (s.cnt a n).glueUp id = s.glueUp id := by simp [State.glueUp]

/-! ## The glue-up itself -/

theorem State.openGlue_self (s : State) (id : Nat) (retry : Bool) (timeout : Nat) (opener : GlueBy) :
    (s.openGlue id retry timeout opener).glueUp id = { s.glueUp id with
      st := .opened, retry := retry, opener := opener, age := s.glue.nextAge, ops := 0, openedAt := s.clk.age, reason := 0
      timeoutS := (if timeout = 0 then s.defaultTimeout else timeout), held := false } := by
  simp [State.openGlue, State.glueUp, State.setGlue]

theorem State.openGlue_other (s : State) {id j : Nat} (retry : Bool) (timeout : Nat) (opener : GlueBy) (h : j ≠ id) :
    (s.openGlue id retry timeout opener).glueUp j = s.glueUp j := by
  simp [State.openGlue, State.glueUp, State.setGlue, smGet_smSet_ne _ _ _ _ h]

theorem State.freeGlue_self (s : State) (id : Nat) : ((s.freeGlue id).glueUp id).st = .free := by
  simp [State.freeGlue, State.glueUp, State.setGlue]

theorem State.freeGlue_other (s : State) {id j : Nat} (h : j ≠ id) : (s.freeGlue id).glueUp j = s.glueUp j := by
  simp [State.freeGlue, State.glueUp, State.setGlue, smGet_smSet_ne _ _ _ _ h]

@[simp] theorem State.addOps_self (s : State) (id n : Nat) :
    (s.addOps id n).glueUp id = { s.glueUp id with ops := (s.glueUp id).ops + n } := by simp [State.addOps]

theorem State.addOps_other (s : State) {id j : Nat} (n : Nat) (h : j ≠ id) : (s.addOps id n).glueUp j = s.glueUp j :=
  s.glueUp_setGlue_ne _ h

/-- An abort makes an OPEN glue-up ABORTING with its reason, and leaves any other as it is. -/
theorem State.abortGlue_self (s : State) (id reason wounder : Nat) :
    (s.abortGlue id reason wounder).glueUp id =
      if (s.glueUp id).st = .opened then
        { s.glueUp id with
          st := .aborting, reason := reason, lastAbort := reason, wounder := if reason = 2 then wounder else (s.glueUp id).wounder }
      else s.glueUp id := by
  by_cases h : (s.glueUp id).st = .opened
  · simp only [State.abortGlue, h]
    by_cases h2 : reason = 2
    · subst h2; simp
    · by_cases h3 : reason = 3
      · subst h3; simp
      · simp [h2, h3]
  · simp [State.abortGlue, h]

theorem State.abortGlue_other (s : State) {id j : Nat} (reason wounder : Nat) (h : j ≠ id) :
    (s.abortGlue id reason wounder).glueUp j = s.glueUp j := by
  unfold State.abortGlue
  dsimp only
  split
  · rfl
  · split <;> split <;> simp [State.glueUp_setGlue_ne _ _ h]

/-! ## The tables -/

theorem State.openGlue_same (s : State) (id : Nat) (retry : Bool) (timeout : Nat) (opener : GlueBy) :
    s.SameCore (s.openGlue id retry timeout opener) := by simp [State.openGlue, State.SameCore]

theorem State.freeGlue_same (s : State) (id : Nat) : s.SameCore (s.freeGlue id) := by simp [State.freeGlue, State.SameCore]

theorem State.addOps_same (s : State) (id n : Nat) : s.SameCore (s.addOps id n) := by simp [State.addOps, State.SameCore]

theorem State.abortGlue_same (s : State) (id reason wounder : Nat) : s.SameCore (s.abortGlue id reason wounder) := by
  unfold State.abortGlue
  dsimp only
  split
  · exact .refl s
  · split <;> split <;> simp [State.SameCore]

theorem State.tellAbort_same (s : State) (id reason : Nat) : s.SameCore (s.tellAbort id reason) := by
  unfold State.tellAbort
  dsimp only
  split <;> simp [State.SameCore]

/-- A failed claim changes no table: it counts, and may abort the holder. -/
theorem State.claimFail_same (s : State) (id holder : Nat) : s.SameCore (s.claimFail id holder) := by
  unfold State.claimFail
  dsimp only
  have h : s.SameCore (s.cnt Reg.glueClaimFailCount 1) := by simp [State.SameCore]
  split
  · exact h.trans ((State.abortGlue_same _ _ _ _).trans (State.tellAbort_same _ _ _))
  · exact h

theorem State.SameCore.foldl {α : Type} {f : State → α → State} (hf : ∀ (t : State) (i : α), t.SameCore (f t i)) (l : List α) (t : State) :
    t.SameCore (l.foldl f t) := by
  induction l generalizing t with
  | nil => exact .refl t
  | cons i l ih => exact (hf t i).trans (ih _)

theorem State.toClamping_same (s : State) (ids : List Nat) : s.SameCore (s.toClamping ids) := by
  unfold State.toClamping State.toClampingIf
  dsimp only
  generalize hx : List.foldl _ s ids = x
  have h : s.SameCore x := hx ▸ State.SameCore.foldl (fun t i => by simp [State.SameCore]) ids s
  split
  · exact h
  · exact h.trans (by simp [State.SameCore])

end Sys2Proof.Machine
end

