-- ==== Sys2Proof/Laws/Scratch.lean ====
section
/-! SUPPORT. The scratchpad's memory: every operation on it keeps its canonical form, and a byte reads as it was last written. -/

namespace Sys2Proof.Machine

/-- The canonical form of a state's scratchpad. -/
abbrev State.ScrWf (s : State) : Prop := Memory.wf s.scr.mem = true

theorem State.ScrWf.of_eq {s t : State} (h : s.ScrWf) (e : t.scr = s.scr) : t.ScrWf := by simpa [State.ScrWf, e] using h

theorem State.ScrWf.of_mem {s t : State} (h : s.ScrWf) (e : t.scr.mem = s.scr.mem) : t.ScrWf := by simpa [State.ScrWf, e] using h

theorem State.ScrWf.foldl {α : Type} (f : State → α → State) (hf : ∀ s a, s.ScrWf → (f s a).ScrWf) (l : List α) {s : State}
    (h : s.ScrWf) : (l.foldl f s).ScrWf := by
  induction l generalizing s with
  | nil => exact h
  | cons a l ih => exact ih (hf s a h)

/-- A byte that was written is read. -/
@[simp] theorem State.scrByte_putByte_same (s : State) (o : Nat) (v : Byte) : (s.putByte o v).scrByte o = v := by
  simp [State.scrByte, State.putByte]

/-- A write of a byte leaves every other byte alone. -/
theorem State.scrByte_putByte_ne (s : State) {o p : Nat} (v : Byte) (h : p ≠ o) : (s.putByte o v).scrByte p = s.scrByte p := by
  simp [State.scrByte, State.putByte, smGet_smSet_ne _ _ _ _ h]

theorem State.putByte_wf {s : State} (h : s.ScrWf) (o : Nat) (v : Byte) : (s.putByte o v).ScrWf :=
  smWf_smSet 0#8 o v h

theorem State.putWord_wf {s : State} (h : s.ScrWf) (o : Nat) (v : DWord) (be : Nat) : (s.putWord o v be).ScrWf := by
  refine State.ScrWf.foldl _ (fun s i hs => ?_) _ h
  split
  · exact State.putByte_wf hs _ _
  · exact hs

theorem State.noteParity_wf {s : State} (h : s.ScrWf) (q : ScratchReq) : (s.noteParity q).ScrWf := by
  simp only [State.noteParity]; split
  · exact h
  · exact h.of_eq (by simp)

theorem State.scrRead_wf {s : State} (h : s.ScrWf) (q : ScratchReq) : (s.scrRead q).1.ScrWf := by
  simp only [State.scrRead]; split
  · exact h
  · exact State.noteParity_wf h q

/-- An access keeps the canonical form. -/
theorem State.scrAccess_wf {s : State} (h : s.ScrWf) (q : ScratchReq) : (s.scrAccess q).1.ScrWf := by
  have h' : (if q.atomic then s.cnt Reg.scratchAtomicCount 1 else s).ScrWf := by
    split
    · exact h.of_eq (by simp)
    · exact h
  simp only [State.scrAccess]
  split
  · exact State.scrRead_wf h' q
  · split
    · exact h'
    · exact State.putWord_wf h' _ _ _
  · dsimp only; split
    · exact State.scrRead_wf h' q
    · exact State.putWord_wf (State.scrRead_wf h' q) _ _ _
  · dsimp only; split
    · exact State.scrRead_wf h' q
    · exact State.putWord_wf (State.scrRead_wf h' q) _ _ _

@[simp] theorem State.scrDone_mem (s : State) (q : ScratchReq) (r : ScratchRes) (a b : Bool) :
    (s.scrDone q r a b).scr.mem = s.scr.mem := by
  simp only [State.scrDone]; split
  · rfl
  · split <;> simp

theorem State.scrDone_wf {s : State} (h : s.ScrWf) (q : ScratchReq) (r : ScratchRes) (a b : Bool) : (s.scrDone q r a b).ScrWf :=
  h.of_mem (by simp)

theorem State.scrLand_wf {s : State} (h : s.ScrWf) (q : ScratchReq) : (s.scrLand q).ScrWf := by
  simp only [State.scrLand]; exact State.scrDone_wf (State.scrAccess_wf h q) _ _ _ _

theorem State.scrRead_mem (s : State) (q : ScratchReq) : (s.scrRead q).1.scr.mem = s.scr.mem := by
  simp only [State.scrRead]; split
  · rfl
  · simp only [State.noteParity]; split <;> simp

theorem State.scrLose_wf {s : State} (h : s.ScrWf) (w : ScratchWait) : (s.scrLose w).ScrWf := by
  refine h.of_mem ?_
  simp only [State.scrLose]
  split <;> split <;> simp [State.conflict, State.scrRead_mem]

theorem State.scrPair_wf {s : State} (h : s.ScrWf) (a b : ScratchWait) : (s.scrPair a b).ScrWf := by
  simp only [State.scrPair]
  split
  · exact State.scrLand_wf (State.scrLand_wf h _) _
  · split
    · exact State.scrLose_wf (State.scrLand_wf h _) _
    · split <;> exact State.scrLand_wf (State.scrLand_wf h _) _

theorem State.chargeReq_scr (s : State) (a r c : Nat) : (s.chargeReq a r c).scr = s.scr := by
  rfl

@[simp] theorem State.grantAccess_mem (s : State) (w : ScratchWait) : (s.grantAccess w).scr.mem = s.scr.mem := by
  simp only [State.grantAccess]
  split <;> (try split) <;> (try split) <;> simp [State.chargeReq_scr]

@[simp] theorem State.grantAny_mem (s : State) (x : Option ScratchWait) : (x.elim s s.grantAccess).scr.mem = s.scr.mem := by
  cases x <;> simp

@[simp] theorem State.breakLock_scr (s : State) (k : ArbLock) : (s.breakLock k).scr = s.scr := by simp [State.breakLock]

@[simp] theorem State.breakLocks_scr (ks : List ArbLock) (s : State) : (ks.foldl State.breakLock s).scr = s.scr := by
  induction ks generalizing s with
  | nil => rfl
  | cons k ks ih => simp [ih]

@[simp] theorem State.ageLocks_mem (s : State) (b : Nat) : (s.ageLocks b).scr.mem = s.scr.mem := by simp [State.ageLocks]

/-- What a read that fails parity does to its reader leaves the scratchpad alone. -/
@[simp] theorem State.readerFaults_scr (s : State) (n : Nat) : (s.readerFaults n).scr = s.scr := rfl

@[simp] theorem State.waitMore_mem (s : State) (w : ScratchWait) : (s.waitMore w).scr.mem = s.scr.mem := by
  simp only [State.waitMore]; split <;> split <;> simp [State.conflict]

@[simp] theorem State.waitMoreAll_mem (ws : List ScratchWait) (s : State) : (ws.foldl State.waitMore s).scr.mem = s.scr.mem := by
  induction ws generalizing s with
  | nil => rfl
  | cons w ws ih => simp [ih]

@[simp] theorem State.hostHint_mem (s : State) (b : Nat) : (s.hostHint b).scr.mem = s.scr.mem := by
  simp only [State.hostHint]; split <;> simp

theorem State.refuseAll_mem (ws : List ScratchWait) (s : State) :
    (ws.foldl (fun s w => s.scrDone w.req ⟨0, 0, false⟩ false true) s).scr.mem = s.scr.mem := by
  induction ws generalizing s with
  | nil => rfl
  | cons w ws ih => simp only [List.foldl_cons]; rw [ih]; simp

@[simp] theorem State.refuseBroken_mem (s : State) (b : Nat) : (s.refuseBroken b).scr.mem = s.scr.mem := by
  simp only [State.refuseBroken, State.refuseAll_mem]

/-- A cycle of a bank's arbiters keeps the canonical form. -/
theorem State.bankCycle_wf {s : State} (h : s.ScrWf) (b : Nat) : (s.bankCycle b).ScrWf := by
  simp only [State.bankCycle]
  generalize (s.refuseBroken b).pickAccess b 0 = x
  generalize (s.refuseBroken b).pickAccess b 1 = y
  cases x <;> cases y <;> dsimp only
  · exact h.of_mem (by simp)
  · exact State.scrLand_wf (h.of_mem (by simp)) _
  · exact State.scrLand_wf (h.of_mem (by simp)) _
  · exact State.scrPair_wf (h.of_mem (by simp)) _ _

theorem State.hostStart_wf {s : State} (h : s.ScrWf) : s.hostStart.ScrWf := by
  simp only [State.hostStart]; split
  · exact h
  · refine State.ScrWf.of_eq (State.bankCycle_wf ?_ _) (State.readerFaults_scr _ _)
    exact h.of_mem rfl

theorem State.hostGo_wf {s : State} (h : s.ScrWf) (v : Word) : (s.hostGo v).ScrWf := by
  simp only [State.hostGo]; split
  · exact State.hostStart_wf (h.of_mem (by simp))
  · exact h.of_mem (by simp)

/-- A command that may reset leaves the scratchpad as it was, or cleared. -/
theorem State.afterReset_mem (s t : State) : (s.afterReset t).scr.mem = s.scr.mem ∨ (s.afterReset t).scr.mem = [] := by
  simp only [State.afterReset]; split <;> simp

/-- A command that may wipe leaves it as it was, or with the secure region zeroed. -/
theorem State.afterWipe_mem (s t : State) : (s.afterWipe t).scr.mem = s.scr.mem ∨
    (s.afterWipe t).scr.mem = s.scr.mem.filter (fun c => !inSecure c.1) := by
  simp only [State.afterWipe]; split <;> simp

/-- A map without the keys of which `p` holds. -/
theorem smGet_filter_not {α : Type} (d : α) (m : SMap α) (p : Nat → Bool) (a : Nat) :
    smGet d (m.filter (fun c => !p c.1)) a = if p a then d else smGet d m a := by
  induction m with
  | nil => simp
  | cons x m ih =>
    obtain ⟨k, v⟩ := x
    by_cases e : a = k
    · subst e
      by_cases hk : p a = true
      · simpa [hk] using ih
      · simp [hk, smGet]
    · by_cases hk : p k = true <;> simp [hk, smGet, e, ih]

/-- The scratchpad after reset is canonical. -/
theorem State.reset_wf : State.reset.ScrWf := rfl

end Sys2Proof.Machine
end

