-- ==== Sys2Proof/WellFormed.lean ====
section
/-! DEFINITION. The commands that the device's interfaces can carry: the bounds of the operands that their types do not say. A command out of
these bounds is one that no interface of the device can send; `exec` is total on it all the same. -/

namespace Sys2Proof

open Machine

/-- Up to 16,380 parameter words, the largest request of any transport (Table 2.8). -/
def Machine.Request.wellFormed (q : Request) : Bool := decide (q.words.length ≤ 16380)

/-- An Ethernet frame on the wire: at least the two addresses and an Ethertype, at most what LENGTH can count (R284). -/
def Machine.EthFrame.wellFormed (f : EthFrame) : Bool := decide (14 ≤ f.bytes.length ∧ f.bytes.length ≤ 65535)

/-- A frame or message of a slow channel: at most the 2,048 data bytes of a CAN XL frame (R327). -/
def Machine.SlowFrame.wellFormed (f : SlowFrame) : Bool := decide (f.data.length ≤ 2048)

/-- A command sent on: parameter words as in a request, an opcode of 16 bits, and fabric addresses of 10 bits or the mitre partner. -/
def Machine.FwdCommand.wellFormed (c : FwdCommand) : Bool :=
  decide (c.words.length ≤ 16380) && decide (c.op < 2 ^ 16) && decide (c.src ≤ 1024) && decide (c.dest ≤ 1024)

/-- A request to the scratchpad: a lock of at most 64 cycles (R420). -/
def Machine.ScratchReq.wellFormed (q : ScratchReq) : Bool := decide (q.lock ≤ 66)

/-- The ID of a glue-up: 1 to 255 (R148). -/
def idOk (n : Nat) : Bool := decide (1 ≤ n ∧ n ≤ 255)

/-- A port or channel in INGRESS encoding (Table 3.6): 0 to 31 for E0 to E31, 64 to 127 for S0 to S63. -/
def inOk (n : Nat) : Bool := decide (n < 32 ∨ (64 ≤ n ∧ n < 128))

/-- A command that the interfaces of the device can carry. -/
def Instr.wellFormed (i : Instr) : Bool :=
  match i with
  | .sqTailDoorbell _ _ => true
  | .cqHeadDoorbell _ _ => true
  | .queuePairEnable _ _ => true
  | .queuePairDisable _ _ => true
  | .queuePairReset _ => true
  | .submissionFetch _ _ _ => true
  | .commandStart _ => true
  | .completionPost _ => true
  | .cmdWrite _ => true
  | .replyRead _ => true
  | .statusRead => true
  | .regRead _ => true
  | .regWrite _ _ => true
  | .inbandCommandFrame _ f => f.wellFormed
  | .inbandStreamEnd _ _ _ => true
  | .forwardedCommand _ _ c => c.wellFormed
  | .forwardedReply _ _ => true
  | .fabricNoReply _ => true
  | .identify q => q.wellFormed
  | .echo q => q.wellFormed
  | .eventPop q => q.wellFormed
  | .capacityReport q => q.wellFormed
  | .powerReport q => q.wellFormed
  | .profileWrite q => q.wellFormed
  | .profileRead q => q.wellFormed
  | .search q => q.wellFormed
  | .governorSet q => q.wellFormed
  | .tableCreate q => q.wellFormed
  | .tableResize q => q.wellFormed
  | .tableDestroy q => q.wellFormed
  | .entryWrite q => q.wellFormed
  | .entryRead q => q.wellFormed
  | .searchNext q => q.wellFormed
  | .glueOpen q => q.wellFormed
  | .glueClamp q => q.wellFormed
  | .glueAbort q => q.wellFormed
  | .glueStatus q => q.wellFormed
  | .epochConfig q => q.wellFormed
  | .exactTableCreate q => q.wellFormed
  | .exactInsert q => q.wellFormed
  | .exactDelete q => q.wellFormed
  | .exactRead q => q.wellFormed
  | .learnPop q => q.wellFormed
  | .flushByPort q => q.wellFormed
  | .mowerConfig q => q.wellFormed
  | .exactRehash q => q.wellFormed
  | .fabricJoin q => q.wellFormed
  | .fabricLeave q => q.wellFormed
  | .fabricStatus q => q.wellFormed
  | .fabricSearch q => q.wellFormed
  | .twinConfig q => q.wellFormed
  | .twinResync q => q.wellFormed
  | .twinStatus q => q.wellFormed
  | .portConfig q => q.wellFormed
  | .queueConfig q => q.wellFormed
  | .policerWrite q => q.wellFormed
  | .policerRead q => q.wellFormed
  | .mcastGroupWrite q => q.wellFormed
  | .frameBudgetSet q => q.wellFormed
  | .portStats q => q.wellFormed
  | .channelConfig q => q.wellFormed
  | .routeWrite q => q.wellFormed
  | .routeRead q => q.wellFormed
  | .periodConfig q => q.wellFormed
  | .slotWrite q => q.wellFormed
  | .slotSwap q => q.wellFormed
  | .timeConfig q => q.wellFormed
  | .timeRead q => q.wellFormed
  | .wakePatternWrite q => q.wellFormed
  | .sessionCreate q => q.wellFormed
  | .sessionDelete q => q.wellFormed
  | .sessionStatus q => q.wellFormed
  | .tamperRead q => q.wellFormed
  | .powerState q => q.wellFormed
  | .wakeConfig q => q.wellFormed
  | .updateChunk q => q.wellFormed
  | .updateVerify q => q.wellFormed
  | .updateActivate q => q.wellFormed
  | .updateConfirm q => q.wellFormed
  | .updateStatus q => q.wellFormed
  | .updateRelay q => q.wellFormed
  | .settingsSave q => q.wellFormed
  | .lifecycleSet q => q.wellFormed
  | .keyLoad q => q.wellFormed
  | .calRestoreFactory q => q.wellFormed
  | .fabricKeySet q => q.wellFormed
  | .forceFallback q => q.wellFormed
  | .tamperClear q => q.wellFormed
  | .epochBoundary => true
  | .glueSettled id => idOk id
  | .glueTimeout id => idOk id
  | .claimRetry => true
  | .glueRetryLimitExpiry id => idOk id
  | .makeRoomMove id => idOk id
  | .segmentRelease table => decide (1 ≤ table ∧ table ≤ 254)
  | .tableDestroyDrained table => decide (1 ≤ table ∧ table ≤ 254)
  | .exactTableDestroyDrained table => decide (1 ≤ table ∧ table ≤ 254)
  | .arraySearchGrant => true
  | .arraySearchResult _ _ => true
  | .exactSearchResult _ _ => true
  | .learnWindowExpiry table _ => decide (1 ≤ table ∧ table ≤ 254)
  | .exactInsertSlotFreed id => idOk id
  | .rehashCopyDone => true
  | .rehashOldRegionFreed => true
  | .flushWalkDone port => inOk port
  | .mowerTick => true
  | .mowerRead => true
  | .mowerDelete => true
  | .frameReceived _ f => f.wellFormed
  | .wave2Start _ => true
  | .frameDecided _ => true
  | .resequencerRelease _ port => inOk port
  | .fixedLatencyHoldEnd _ port => inOk port
  | .transmissionStart port => inOk port
  | .transmissionEnd port => inOk port
  | .frameDeadline _ => true
  | .pcsLinkLoss _ => true
  | .portDown _ => true
  | .portUp _ mbps => decide (0 < mbps)
  | .slowFrameReceived chan f => decide (chan < 64) && f.wellFormed
  | .canBusOff chan => decide (chan < 64)
  | .busOffRecovery chan => decide (chan < 64)
  | .slowchRecover _ _ => true
  | .getS agent line => decide (agent < 12) && decide (line < 2 ^ 19)
  | .getM agent line glue => decide (agent < 12) && decide (line < 2 ^ 19) && decide (glue < 256)
  | .upgrade agent line glue => decide (agent < 12) && decide (line < 2 ^ 19) && decide (glue < 256)
  | .readNa agent line => decide (agent < 12) && decide (line < 2 ^ 19)
  | .atomic agent line _ => decide (agent < 12) && decide (line < 2 ^ 19)
  | .fwdS owner line requester => decide (owner < 12) && decide (line < 2 ^ 19) && decide (requester < 12)
  | .fwdM owner line requester => decide (owner < 12) && decide (line < 2 ^ 19) && decide (requester < 12)
  | .fwdNa owner line requester => decide (owner < 12) && decide (line < 2 ^ 19) && decide (requester < 12)
  | .inv agent line => decide (agent < 12) && decide (line < 2 ^ 19)
  | .recall agent line => decide (agent < 12) && decide (line < 2 ^ 19)
  | .invAck agent line => decide (agent < 12) && decide (line < 2 ^ 19)
  | .fwdDone agent line => decide (agent < 12) && decide (line < 2 ^ 19)
  | .fwdMiss agent line => decide (agent < 12) && decide (line < 2 ^ 19)
  | .wb agent line words => decide (agent < 12) && decide (line < 2 ^ 19) && decide (words.length = 16)
  | .nack agent line k => decide (agent < 12) && decide (line < 2 ^ 19) && decide (1 ≤ k)
  | .nackResend agent line => decide (agent < 12) && decide (line < 2 ^ 19)
  | .err agent line => decide (agent < 12) && decide (line < 2 ^ 19)
  | .data agent line _ _ words => decide (agent < 12) && decide (line < 2 ^ 19) && decide (words.length = 16)
  | .grant agent line _ => decide (agent < 12) && decide (line < 2 ^ 19)
  | .atomicRes agent line _ words colour => decide (agent < 12) && decide (line < 2 ^ 19) && decide (words.length ≤ 8) && decide (colour < 3)
  | .seniorReservationLapse line => decide (line < 2 ^ 19)
  | .cohereTimeout line => decide (line < 2 ^ 19)
  | .coherePoisonClear _ => true
  | .readEntry _ => true
  | .writeEntry _ => true
  | .readCounters _ => true
  | .clearCounters _ => true
  | .fabricTimeTransfer _ => true
  | .fabricReport _ _ => true
  | .fabricDecisionReceived _ => true
  | .fabricClampLimitExpiry => true
  | .joinRequest _ _ _ => true
  | .fabricSearchLaunch => true
  | .fabricRequestAtRoot _ => true
  | .fabricSearchInstant _ => true
  | .fabricGrantDeadline _ => true
  | .fabricReply _ _ _ => true
  | .fabricChildTimeout _ _ => true
  | .fabricResult _ => true
  | .heartbeatSend => true
  | .heartbeatReceived _ => true
  | .heartbeatMissed => true
  | .mirroredOperation _ => true
  | .mirrorConfirm _ _ => true
  | .prepare ids => ids.all idOk
  | .ready ids => ids.all idOk
  | .commit ids _ => ids.all idOk
  | .prepareRetarget => true
  | .readyTimeout => true
  | .commitTimeout => true
  | .parting => true
  | .resyncSwitchover _ _ => true
  | .resyncAborted => true
  | .ptpMessage _ => true
  | .ppsInEdge => true
  | .ppsLost => true
  | .periodGeneratorTick _ => true
  | .transmitSlot pdu => decide (pdu < 256)
  | .pduWindowExpiry pdu => decide (pdu < 256)
  | .mapperPduOffer => true
  | .slotCycleStart table => inOk table
  | .slotEntryStart table => inOk table
  | .slotSwapSwitch table => inOk table
  | .slotCopyBackDone table => inOk table
  | .deferredSlotWrite table => inOk table
  | .wakeMatcherEdge chan => decide (chan < 64)
  | .wakeMatch chan frame => decide (chan < 64) && frame.wellFormed
  | .presNFall => true
  | .presNRise _ => true
  | .presenceWindowExpiry => true
  | .sealClosed => true
  | .tamperDetected _ => true
  | .keyStoreEraseDone => true
  | .scratchAccessGrant _ a b => a.all ScratchReq.wellFormed && b.all ScratchReq.wellFormed
  | .scratchHostRead _ => true
  | .scratchHostWrite _ => true
  | .scratchHostAdd _ => true
  | .scratchHostSwap _ => true
  | .gleanerTernRead => true
  | .gleanerExactRead => true
  | .gleanerScrubRead => true
  | .gleanerFailureAction _ => true
  | .gleanerRepairRequest _ table _ => decide (1 ≤ table ∧ table ≤ 254)
  | .gleanerRepairReply _ table _ _ => decide (1 ≤ table ∧ table ≤ 254)
  | .gleanerRepairTimeout _ table _ => decide (1 ≤ table ∧ table ≤ 254)
  | .gleanerWindowStart => true
  | .gleanerWindowEnd _ _ => true
  | .urgentWindowAccess => true
  | .gleanerFaultClear => true
  | .arbWindowRefill => true
  | .arbLockBroken _ => true
  | .arbStarved master _ => decide (master < 9)
  | .starvedBitClear master _ => decide (master < 9)
  | .registerWrite _ _ _ _ => true
  | .postedWriteLanded _ => true
  | .loRead _ _ => true
  | .hiWrite _ _ _ => true
  | .loWrite _ _ _ => true
  | .lockViolAddrRead _ => true
  | .postedDropAddrRead _ => true
  | .lockGroupSet _ _ _ => true
  | .applyStrobe _ => true
  | .applyDone => true
  | .applyDiscard _ => true
  | .cfgcrcCommit _ => true
  | .cfgcrcPassStart => true
  | .cfgcrcPassEnd => true
  | .msiRearm _ => true
  | .clearOrderRecord => true
  | .clearClkRecord => true
  | .clearThermRecord => true
  | .clearVaonPorRecord => true
  | .heathWakeReq => true
  | .calRead _ => true
  | .calWrite _ => true
  | .calStoreWritten _ => true
  | .vaonPowerOn => true
  | .vaonBrownout => true
  | .railChange _ _ => true
  | .rstNLow _ => true
  | .rstNRise _ => true
  | .sysclkLoss => true
  | .sysclkRestored => true
  | .refclkLoss => true
  | .refclkRestored => true
  | .xtalFail => true
  | .tempReading _ => true
  | .thermalTrip => true
  | .thermalRestart => true
  | .startSequence => true
  | .fwReady => true
  | .powerEntryComplete => true
  | .dozeEntry => true
  | .dozeExit => true
  | .wakeInEdge _ _ => true
  | .rtcAlarm => true
  | .laneGate lane => decide (lane < 8)
  | .laneUngateDone lane => decide (lane < 8)
  | .updateRestart => true
  | .trialExpiry => true
  | .autoConfirm => true
  | .chunkWritten _ => true
  | .updateVerifyDone => true
  | .relayChunk _ _ _ => true
  | .relayChunkDone _ _ _ => true
  | .relayTargetTimeout _ => true
  | .settingsApplyDone => true
  | .linkUp _ _ => true
  | .linkDown _ => true
  | .channelActive chan => decide (chan < 64)
  | .resizeClaimTimeout table => decide (1 ≤ table ∧ table ≤ 254)
  | .fabricJoinTimeout => true
  | .flushBucketRead port => inOk port
  | .rehashEntryCopy => true
  | .sealOpened => true
  | .ppsOutEdge => true
  | .timerOutFall => true
  | .wakeOutRelease => true
  | .arbitrationLost chan => decide (chan < 64)
  | .settingsStoreWritten _ => true
  | .lifecycleBurnDone => true

end Sys2Proof
end

