-- ==== Sys2Proof/Tests/Slice0.lean ====
section
/-! SUPPORT. Tests. First the refusals of ill-formed commands and single steps whose results the spec's own examples and tables give; then,
for every statement of Obligations with hypotheses, states and operands that meet the hypotheses of each of its clauses together
(`test_meets_…`), at a boundary value where a clause has a range. -/

open Sys2Proof Sys2Proof.Machine

namespace Sys2Proof.Tests

set_option Elab.async false

/-- The device after its start: the firmware runs. -/
def up : State := { State.reset with pwr := { powerReset with starting := false, fwReady := true } }

/-- A request on the SPI stream with tag 7. -/
def rq (ws : List Word) : Request := ⟨.spi, 7, 0, 0, ws⟩

/-- The same with NO_REPLY. -/
def rqN (ws : List Word) : Request := ⟨.spi, 7, 1, 0, ws⟩

/-- `up` with one register written. -/
def upReg (a : Nat) (v : Word) : State := up.wr a v

/-! ## Ill-formed commands -/

theorem test_ill_request_too_long (q : Request) (h : 16380 < q.words.length) : (Instr.echo q).wellFormed = false := by
  exact decide_eq_false (by omega : ¬ q.words.length ≤ 16380)
theorem test_ill_runt_frame : (Instr.frameReceived 0 ⟨List.replicate 13 0, true, 0, 0⟩).wellFormed = false := by decide
theorem test_ill_giant_frame (f : EthFrame) (h : 65535 < f.bytes.length) : (Instr.frameReceived 0 f).wellFormed = false := by
  exact decide_eq_false (by omega : ¬ (14 ≤ f.bytes.length ∧ f.bytes.length ≤ 65535))
theorem test_ill_slow_frame (f : SlowFrame) (h : 2048 < f.data.length) : (Instr.slowFrameReceived 0 f).wellFormed = false := by
  exact decide_eq_false (by omega : ¬ f.data.length ≤ 2048)
theorem test_ill_sent_command : (Instr.forwardedCommand .d0 true ⟨0, 1025, 0, 0, 0, 0, 0, 0, []⟩).wellFormed = false := by decide
theorem test_ill_scratch_lock : (Instr.scratchAccessGrant 0 [⟨0, .read, 0, 0, 0, false, false, 67⟩] []).wellFormed = false := by decide
theorem test_ill_glue_id : (Instr.glueTimeout 0).wellFormed = false := by decide
theorem test_ill_agent : (Instr.getS 12 0).wellFormed = false := by decide
theorem test_ill_line : (Instr.getS 0 (2 ^ 19)).wellFormed = false := by decide
theorem test_ill_line_words : (Instr.wb 0 0 [1]).wellFormed = false := by decide
theorem test_ill_channel : (Instr.canBusOff 64).wellFormed = false := by decide
theorem test_ill_port : (Instr.transmissionStart 32).wellFormed = false := by decide
theorem test_ill_table : (Instr.segmentRelease 255).wellFormed = false := by decide
theorem test_ill_lane : (Instr.laneGate 8).wellFormed = false := by decide
theorem test_ill_pdu : (Instr.transmitSlot 256).wellFormed = false := by decide
theorem test_well_formed : (Instr.getM 11 (2 ^ 19 - 1) 255).wellFormed = true ∧ (Instr.transmissionStart 127).wellFormed = true := by decide

/-! ## Chapter 2 -/

def packetOf (cls op : Nat) (plen : Nat) : List Byte := header 3 cls op 7 plen 0 0 0

def withPair (p : QPair) : State := { up with cmdq := { up.cmdq with pairs := smSet pair0 up.cmdq.pairs 5 p } }

theorem test_meets_QueuePairsComplete :
    (let s := withPair { pair0 with run := true, sqLog2 := 3, cqLog2 := 3 }
     s.coreUp = true ∧ (s.pair 5).run = true ∧ (7 : Word).toNat < 2 ^ (s.pair 5).sqLog2 ∧ 2 ^ (s.pair 5).sqLog2 ≤ (8 : Word).toNat ∧
       (7 : Word).toNat < 2 ^ (s.pair 5).cqLog2 ∧ 2 ^ (s.pair 5).cqLog2 ≤ (8 : Word).toNat) ∧
    (let s := upReg Reg.cmdqCtrl 1
     s.coreUp = true ∧ bit (0x800000C1 : Word) 31 = true ∧ s.rb (Reg.cmdqQCfg 15) 31 = false ∧ s.rb Reg.cmdqCtrl 0 = true ∧
       1 ≤ fld (0x800000C1 : Word) 0 4 ∧ fld (0x800000C1 : Word) 0 4 ≤ 12 ∧ 1 ≤ fld (0x800000C1 : Word) 4 4 ∧
       fld (0x800000C1 : Word) 4 4 ≤ 12 ∧ bit (0 : Word) 31 = false) := by decide +kernel

def fetching : State :=
  (withPair { pair0 with run := true, sqLog2 := 1, cqLog2 := 2, sqTail := 1 }).wr Reg.cmdqCtrl 1

/-- The 32 bytes of a submission entry for a packet of `len` bytes (Table 2.9). -/
def sqBytes (len : Nat) : List Byte := bytesLE 8 0x1000 ++ bytesLE 4 len ++ bytesLE 4 0 ++ bytesLE 8 0x2000 ++ bytesLE 4 64 ++ bytesLE 4 0

def started (op : Nat) : Cmd := ⟨1, op, ⟨.pcie 5, 7, 0, 0, []⟩, none, none, .accepted, false, 0, 1, [], false⟩

theorem test_meets_PcieCommandsComplete :
    (let s := fetching
     let p := packetOf 0 Op.identify 0
     let e := SqEntry.ofBytes (sqBytes 16)
     s.coreUp = true ∧ s.mayFetch 5 = true ∧ 16 ≤ e.reqLen.toNat ∧ 16 ≤ p.length ∧
       packetChecks (parsePacket (.pcie 5) p) e.reqLen.toNat = 0 ∧ s.cmdOf (parsePacket (.pcie 5) p).q = none ∧
       (SqEntry.ofBytes (sqBytes 15)).reqLen.toNat < 16 ∧ ([] : List Byte).length < 16) ∧
    (let s (c : Cmd) : State := { fetching with cmdq := { fetching.cmdq with cmds := [c] } }
     let meets (c : Cmd) : Prop := (s c).coreUp = true ∧ (s c).cmdq.cmds = c :: [] ∧ (s c).mayStart c = true ∧ c.q.fwd = false ∧ c.q.side = 0 ∧
       c.q.stream = .pcie 5
     (meets (started Op.identify) ∧ (s (started Op.identify)).sealedRefused Op.identify = false) ∧
     (meets (started Op.keyLoad) ∧ (s (started Op.keyLoad)).sealedRefused Op.keyLoad = true)) ∧
    (let r : HeldReply := ⟨0, 7, 0, none, false, true, []⟩
     let s := withPair { pair0 with run := true, sqLog2 := 1, cqLog2 := 1, cqHead := 0, cqTail := 0, held := [r] }
     s.coreUp = true ∧ (s.pair 5).held = r :: [] ∧ 2 ≤ (s.pair 5).cqFree ∧ r.final = true) := by
  dsimp only; decide +kernel

def spiOn : State := upReg Reg.cmdqCtrl 2

theorem test_meets_SpiAndInbandComplete :
    (let p := packetOf 0 Op.identify 0
     spiOn.coreUp = true ∧ spiOn.pwr.state = .run ∧ spiOn.cmdReady = true ∧ 16 ≤ p.length ∧
       packetChecks (parsePacket .spi p) p.length = 0 ∧ spiOn.cmdOf (parsePacket .spi p).q = none ∧ spiOn.spiUp = true ∧
       (p.drop 1).length < 16) ∧
    (up.coreUp = true ∧ up.pwr.state = .run ∧ (upReg Reg.cmdqCtrl 0).cmdReady = false) ∧
    (let s : State := { up with cmdq := { up.cmdq with spiReplies := [[1]] } }
     s.coreUp = true ∧ s.cmdq.spiReplies = [1] :: []) ∧
    (let i : InbandStream := ⟨31, 2, 4095, 0, []⟩
     let s : State := { up with cmdq := { up.cmdq with inband := [i] } }
     s.coreUp = true ∧ s.inbandStream (.inband 31 2 4095) = some i ∧ s.clk.age < i.lastReq + 10 * 1250000000 ∧
       i.lastReq + 10 * 1250000000 < 2 ^ 64) := by decide +kernel

/-- A member of a fabric: node 3 at level 1, below the root. -/
def member : State :=
  { up with fab := { up.fab with joined := true, node := 3, level := 1, depth := 2, routes := [(8, LinkId.d1), (2, .d0)], up := [.d0, .d1]
                                 members := [] } }

/-- The root of a fabric: node 1 at level 0, with one route down. -/
def top : State := { member with fab := { member.fab with node := 1, level := 0, routes := [(8, LinkId.d1)] } }

def sent : Cmd := ⟨1, Op.identify, ⟨.spi, 7, 0, 0, []⟩, none, none, .forwarded, false, 0, 1, [false], false⟩

theorem test_meets_ForwardingCompletes :
    (top.coreUp = true ∧ top.deafOn .d0 = true) ∧ member.deafOn .d0 = false ∧
    (let s := member
     let c : FwdCommand := ⟨1, 2, s.ownAddr, 16380, Op.identify, 7, 0, 0, []⟩
     s.coreUp = true ∧ s.deafOn .d0 = false ∧ s.fab.joined = true ∧ c.dest = s.ownAddr ∧ c.dest ≠ 1024 ∧ c.src ≠ 1024 ∧ s.pwr.fwReady = true ∧
       s.cmdq.cmds = [] ∧ s.pwr.state = .run ∧ s.sealedRefused c.op = false ∧ c.target.toNat / 2 ^ 10 % 4 = 0) ∧
    (8 ≠ member.ownAddr ∧ 8 ≠ 1024 ∧ member.deafOn .d0 = false ∧ member.fab.joined = true ∧ member.route 8 = some .d0) ∧
    (let s : State := { member with cmdq := { member.cmdq with cmds := [sent] } }
     let r : FwdReply := ⟨1, s.ownAddr, Op.identify, 0, false, []⟩
     s.coreUp = true ∧ s.deafOn .d1 = false ∧ s.fab.joined = true ∧ r.dest = s.ownAddr ∧ s.cmdq.cmds = [sent] ∧ sent.id = r.ref ∧ sent.away = [false] ∧
       sent.finals = 1 ∧ sent.q.stream = .spi ∧ sent.q.flags.getLsbD 0 = false ∧ r.status = 0 ∧ sent.op ≠ 0 ∧
       s.clk.age < 2 ^ 63 ∧ sent.sentAt < 2 ^ 62) := by
  decide +kernel

theorem test_meets_NoReplyIsSilent :
    Op.echo ≠ 0 ∧ Op.echo < 2 ^ 16 ∧ 0x01B0 < 2 ^ 16 ∧ (rqN []).flags.getLsbD 0 = true ∧ up.twin.mirrors = [] ∧ up.evt.q.length < 1024 := by
  decide +kernel

theorem test_meets_RepliesReachTheirStream :
    Op.echo ≠ 0 ∧ (rq []).flags.getLsbD 0 = false ∧ up.twin.mirrors = [] ∧ up.twin.config = none ∧
      (rq []).stream = .spi ∧ up.cmdOf ⟨.pcie 15, 7, 0, 0, []⟩ = none ∧ [(0 : Word)].length ≤ 16380 := by decide +kernel

theorem test_meets_EchoReturnsItsWords :
    (up.mayRun (rq []) = true ∧ (List.replicate 1020 (0 : Word)).length ≤ maxWords .spi ∧ envelope 0 (rq []) = 0) ∧
    envelope 0 ⟨.spi, 7, 8, 0, []⟩ ≠ 0 ∧ maxWords .spi < (List.replicate 1021 (0 : Word)).length := by decide +kernel

theorem test_meets_GeneralCommandsComplete :
    Taken Op.identify (rq []) up ∧ Taken Op.eventPop (rq [32]) up ∧ 1 ≤ (rq [32]).f 0 0 6 ∧ (rq [32]).f 0 0 6 ≤ 32 ∧
      (rq [32]).stray 0 0x3F = false ∧ Taken Op.eventPop (rq [33]) up ∧ 32 < (rq [33]).f 0 0 6 := by
  unfold Taken; decide +kernel

theorem test_meets_SealedNeedsPresence :
    (let q := rq []
     up.mayRun q = true ∧ up.cmdOf q = none ∧ up.pwr.recovery = false ∧ up.heath.windowEnd = none ∧ up.twin.mirrors = [] ∧
       plenOk Op.calRestoreFactory q.words.length (maxWords .spi) = true ∧ envelope 15 q = 0) ∧
    (let c : Cmd := ⟨1, Op.keyLoad, rq [], none, none, .accepted, false, 0, 1, [], false⟩
     let s : State := { up with cmdq := { up.cmdq with cmds := [c] } }
     s.coreUp = true ∧ s.cmdq.cmds = c :: [] ∧ s.mayStart c = true ∧ c.q.stream = .spi ∧ c.q.fwd = false ∧ c.q.side = 0 ∧ classOf c.op = 15 ∧
       s.pwr.recovery = false ∧ s.heath.windowEnd = none) := by decide +kernel

/-! ## The machine as a whole -/

/-- A device with one command waiting, one byte in its scratchpad and a first life-cycle transition burned. -/
def waiting : State :=
  let s := { up with pending := [.pcsLinkLoss 3], sec := { up.sec with log := [some 1] } }
  { s with scr := { s.scr with mem := smSet 0#8 s.scr.mem 77 9 } }

theorem test_meets_StepRunsFront :
    waiting.pending = [.pcsLinkLoss 3] ∧ State.reset.pending = [] := by decide +kernel

theorem test_meets_StepKeepsInvariant :
    waiting.Inv ∧ (match step waiting with | .next t => t.sec.log == [some 1] | _ => false) = true := by
  unfold State.Inv
  decide +kernel

theorem test_meets_ScratchpadFrame :
    accessesScratch (.pcsLinkLoss 3) waiting = false ∧ (match exec (.pcsLinkLoss 3) waiting with | .next t => t.scrByte 77 == 9 | _ => false) = true := by
  decide +kernel

theorem test_meets_LifeCycleFrame :
    Instr.pcsLinkLoss 3 ≠ .lifecycleBurnDone ∧ Instr.pcsLinkLoss 3 ≠ .startSequence ∧
      (match exec (.pcsLinkLoss 3) waiting with | .next t => t.sec.log == [some 1] | _ => false) = true := by decide +kernel

/-! ## Chapter 13 -/

theorem test_meets_AliasViewsWrite :
    up.coreUp = true ∧ 3 < 4 ∧ (Reg.arrayCtrl, 1) ∈ [(Reg.arrayCtrl, 1), (Reg.glueCtrl, 0x1FF)] := by decide +kernel

def inKeep : State := { up with pwr := { up.pwr with state := .keep } }

theorem test_meets_RegisterAccesses :
    (let a := Reg.mapperEtype
     up.coreUp = true ∧ up.place .spi a = some (a, .normal) ∧ inDebug a = false ∧ slowBlock a = none ∧ isNsec a = false ∧
       isNsec (a - 4) = false ∧ isNsec (a - 8) = false ∧ isLo a = false ∧ isHi a = false ∧ a ≠ Reg.lockViolAddr ∧
       a ≠ Reg.globalPostedDropAddr ∧ a ≠ Reg.powerLanes) ∧
    (inKeep.spiUp = true ∧ inKeep.coreUp = false ∧ ¬ (0x10000 ≤ (0xFFFF#24).toNat ∧ (0xFFFF#24).toNat < 0x11000) ∧
      ¬ (0x10000 ≤ (0x11000#24).toNat ∧ (0x11000#24).toNat < 0x11000)) ∧
    ((14#4 : BitVec 4) ≠ 15#4 ∧ (up.place .bar0 Reg.mapperEtype).any (fun x => x.1 == Reg.scratchHostCmd) = false) ∧
    inKeep.reaches .bar0 Reg.mapperEtype = false ∧
    ({ up with pwr := { up.pwr with state := .fallow } } : State).spiUp = false := by decide +kernel

def posted : State :=
  { up with reg := { up.reg with posted := smSet none up.reg.posted 0 (some ⟨Reg.heathRetain 63, 5, .spi⟩) } }

theorem test_meets_WideAndPostedWrites :
    up.coreUp = true ∧ Path.spi ≠ .bar2 ∧ 63 < 64 ∧ smGet none up.reg.posted 0 = none ∧
      smGet none posted.reg.posted 0 = some ⟨Reg.heathRetain 63, 5, .spi⟩ := by decide +kernel

def lockedReg (a : Nat) : State := { up with reg := { up.reg with w1done := smSet false up.reg.w1done a true } }
def locked (g : Nat) : State := (lockedReg (Reg.lockctlLock g)).wr (Reg.lockctlLock g) 1

theorem test_meets_LocksHold :
    up.coreUp = true ∧ 31 < 32 ∧ smGet false up.reg.w1done (Reg.lockctlLock 31) = false ∧
      smGet false (locked 31).reg.w1done (Reg.lockctlLock 31) = true ∧ (locked 5).coreUp = true ∧ (locked 5).groupLocked 5 = true ∧
      up.groupLocked 5 = false ∧ bit (up.rd Reg.lockViolAddr) 31 = false ∧
      bit ((locked 5).wr Reg.lockViolAddr 0x80000000 |>.rd Reg.lockViolAddr) 31 = true := by decide +kernel

theorem test_meets_ApplyGroups :
    (up.coreUp = true ∧ 3 < 4 ∧ up.reg.apply = []) ∧
    (let s : State := { up with reg := { up.reg with apply := [⟨8, [(Reg.powerThermWarn, some 1)], 0⟩] } }
     s.reg.apply = [⟨8, [(Reg.powerThermWarn, some 1)], 0⟩] ∧ s.reg.applyNext = 0) ∧
    (let s : State := { up with reg := { up.reg with apply := [⟨4, [(Reg.heathWakeCtrl, some 1)], 0x20000 + 3⟩] } }
     s.reg.apply = [⟨4, [(Reg.heathWakeCtrl, some 1)], 0x20000 + 3⟩] ∧ 3 < 4 ∧ s.reg.applyNext = 0 ∧
       smGet none s.reg.staged Reg.heathWakeCtrl = none) := by decide +kernel

def inPass (commits : Bool) : State :=
  { (upReg Reg.cfgcrcCtrl 1) with reg := { (upReg Reg.cfgcrcCtrl 1).reg with crc := { up.reg.crc with running := true, passCommits := commits, startVals := (upReg Reg.cfgcrcCtrl 1).reg.vals } } }

theorem test_meets_ConfigurationCrc :
    (bit (1 : Word) 0 = true ∧ up.groupLocked 7 = false ∧ (locked 7).coreUp = true ∧ (locked 7).groupLocked 7 = true) ∧
    (let s : State := { up with clk := { up.clk with age := 80000 } }
     s.coreUp = true ∧ s.reg.crc.running = false ∧ s.clk.age < 2 ^ 63 ∧ s.reg.crc.lastStart + 80000 ≤ s.clk.age) ∧
    ((inPass true).coreUp = true ∧ (inPass true).reg.crc.running = true ∧ (inPass true).reg.crc.startVals = (inPass true).reg.vals ∧ (inPass true).reg.crc.passCommits = true) ∧
    ((inPass false).coreUp = true ∧ (inPass false).reg.crc.running = true ∧ (inPass false).reg.crc.startVals = (inPass false).reg.vals ∧ (inPass false).reg.crc.passCommits = false ∧
      (inPass false).reg.crc.commitWait = false ∧ bit ((inPass false).rd Reg.cfgcrcCtrl) 0 = true) := by decide +kernel

/-! ## Chapters 3 to 6 -/

/-- A table of one segment with 80-bit keys, and an entry of it. -/
def desc1 : TernDesc := ⟨0, 0, 0, 0, 1, 1, 0, [[0]]⟩
def entry1 : NewEntry := ⟨5, 9, 0, 0xAB, 0xFF, 3⟩

/-- `up` with table 1 of that description. -/
def tabled (busy : TableBusy := .idle) : State :=
  { up with tern := { up.tern with tables := smSet ternTable0 up.tern.tables 1 ⟨[⟨0, some desc1⟩], 1, busy⟩
                                   segments := smSet segment0 up.tern.segments 0 ⟨1, false⟩ } }

/-- The same with the entry committed in slot `n`, its hidden field as `f` makes it. -/
def entered (s : State) (n : Nat) (f : Row → Row := id) : State :=
  s.writeSlot desc1 0 n ((entry1.rows desc1 .live 0).map f) (mkWord entry1.index entry1.action)

theorem test_meets_SearchFindsHighestRank :
    let s := entered (tabled) 0
    (s.cands desc1 0 0 (fun a => s.entryMatches desc1 a 0xAB 0)).length = 1 ∧
      ∀ c ∈ s.cands desc1 0 0 (fun a => s.entryMatches desc1 a 0xAB 0), c.ok = true := by decide +kernel

theorem test_meets_SearchCommandsComplete_search :
    let s := entered (tabled) 0
    let q := rq [0x00080001 + 0x1000, 0xAB, 0, 0]
    Taken Op.search q s ∧ q.stray 0 0xFD0F13FF = false ∧ q.b 0 24 = false ∧ q.b 0 12 = true ∧ 1 ≤ q.f 0 16 4 ∧ q.f 0 16 4 ≤ 8 ∧
      q.words.length = 1 + kwOf (q.f 0 8 2) ∧ s.exNow (q.f 0 0 8) = none ∧ s.ternNow (q.f 0 0 8) = some desc1 ∧
      desc1.width = q.f 0 8 2 ∧
      (s.lsSearch (q.f 0 0 8) desc1 (ofWords ((q.words.drop 1).take (kwOf (q.f 0 8 2))) % 2 ^ desc1.bits) (q.b 0 12) (q.f 0 16 4)).isSome
        = true := by
  unfold Taken; decide +kernel

theorem test_meets_SearchCommandsComplete_reads :
    (let s := entered (tabled) 0
     Taken Op.entryRead (rq [1, 5]) s ∧ s.ternCheck 1 = 0 ∧ (rq [1, 5]).stray 0 0xFF = false ∧ (rq [1, 5]).stray 1 0x1FFFFF = false ∧
       (rq [1, 5]).f 0 0 8 = 1 ∧ s.ternNow 1 = some desc1 ∧ committed (s.places desc1) 0x1FFFFF = none ∧
       (committed (s.places desc1) 5).isSome = true) ∧
    (let q := rq [0x18000000, 0, 0]
     Taken Op.profileRead (rq [63]) up ∧ (rq [63]).stray 0 0x3F = false ∧ q.stray 0 0x1FFF133F = false ∧ q.f 0 16 8 ≠ 255 ∧
       q.f 0 24 5 = 24) ∧
    (let q := rq ([0x18010000, 0, 0] ++ List.replicate 24 0)
     Taken Op.profileWrite q up ∧ up.single ∧ q.f 0 16 8 ≠ 255 ∧ q.f 0 24 5 ≤ 24 ∧ q.words.length = 3 + q.f 0 24 5 ∧
       (up.profileSt (q.f 0 0 6)).standby = none ∧ (up.profileSt (q.f 0 0 6)).vers.length ≤ 1) ∧
    (let q := rq [0x00010000, 0, 0]
     Taken Op.profileWrite q up ∧ q.stray 0 0x1FFF133F = false ∧ q.words.length = 3 + q.f 0 24 5 ∧
       ((q.words.drop 3).take (q.f 0 24 5)).any (badInstr (q.f 0 8 2)) = false) := by
  unfold Taken State.single; decide +kernel

def exDesc1 : ExactDesc := ⟨0, 4, 0, 0, 0, false, 0, false, 0, false⟩

/-- `up` with exact-match table 2 of that description. -/
def exTabled (d : ExactDesc := exDesc1) (busy : ExactBusy := .idle) : State :=
  { up with exm := { up.exm with tables := smSet exactTable0 up.exm.tables 2 ⟨[⟨0, some d⟩], 1, 1, busy, none, none⟩ } }

theorem test_meets_SearchCommandsComplete_writes :
    (let q := rq [32, 256]
     Taken Op.governorSet q up ∧ 32 ≤ q.f 0 0 16 ∧ 256 ≤ q.f 1 0 18 ∧ q.stray 0 0x8000FFFF = false ∧ q.stray 1 0x3FFFF = false ∧
       up.groupLocked 2 = false) ∧
    (let q := rq [0x00081002, 0, 0]
     let s := exTabled
     Taken Op.searchNext q s ∧ s.exNow (q.f 0 0 8) = some exDesc1 ∧ q.words.length = 3 ∧ 1 ≤ q.f 0 16 4 ∧ q.f 0 16 4 ≤ 8 ∧
       q.f 0 8 2 < 3 ∧ q.stray 0 0xFF0F17FF = false ∧ q.stray 1 0x1FFFFF = false ∧ q.b 0 10 = false ∧ q.b 0 12 = true ∧
       s.exm.slots = []) := by
  unfold Taken; decide +kernel

def glued (s : State) (i : Nat) (st : GlueState) (ops : Nat := 0) : State :=
  { s with glue := { s.glue with ups := smSet glueUp0 s.glue.ups i { glueUp0 with st := st, ops := ops, timeoutS := 255 } } }

def dying (r : Row) : Row := { r with tag := 9 }

theorem test_meets_TernaryTableLifeComplete_commands :
    (let q := rq [0x01030001, 0, 0]
     Taken Op.tableCreate q up ∧ up.single ∧ q.places = [] ∧ 0 < q.f 0 0 8 ∧ q.f 0 0 8 < 255 ∧ 1 ≤ q.f 0 20 5 ∧ q.f 0 20 5 ≤ 16 ∧ q.f 0 13 2 = 0 ∧
       q.stray 0 0x01F373FF = false ∧ q.stray 1 0x3FF = false ∧ q.stray 2 0xFFFFF = false ∧ up.tableTaken (q.f 0 0 8) = false ∧
       (q.f 0 16 2 + 1) * q.f 0 20 5 ≤ up.freeSegs.length) ∧
    (let q := rq [0x00100001]
     let s := tabled
     Taken Op.tableResize q s ∧ s.single ∧ q.places = [] ∧ s.ternCheck (q.f 0 0 8) = 0 ∧ q.stray 0 0x1F00FF = false ∧ q.f 0 16 5 ≤ 16 ∧
       (s.ternTable (q.f 0 0 8)).busy = .idle ∧ s.ternNow (q.f 0 0 8) = some desc1 ∧ 1 ≤ desc1.segs ∧ desc1.segs ≤ q.f 0 16 5 ∧
       desc1.parts * desc1.replicas * q.f 0 16 5 ≤ 128 ∧
       desc1.parts * desc1.replicas * (q.f 0 16 5 - desc1.segs) ≤ s.freeSegs.length) ∧
    (let q := rq [1]
     let s := entered (tabled) 0
     Taken Op.tableDestroy q s ∧ s.single ∧ q.stray 0 0xFF = false ∧ s.ternCheck (q.f 0 0 8) = 0 ∧ s.tableInUse (q.f 0 0 8) = false ∧
       (∀ x ∈ s.places desc1, s.holderOf (q.f 0 0 8) x = 0) ∧ (∀ m ∈ s.glue.moves, m.table ≠ q.f 0 0 8) ∧
       (s.ternTable (q.f 0 0 8)).busy = .idle) := by
  unfold Taken State.single; decide +kernel

theorem test_meets_TernaryTableLifeComplete_events :
    (let s := tabled (.draining 7)
     s.fwUp = true ∧ (s.ternTable 1).busy = .draining 7 ∧ s.drainedTo 7 = true) ∧
    (let s := tabled .releasing
     s.fwUp = true ∧ 1 ≠ 0 ∧ (s.ternTable 1).busy = .releasing ∧ s.ternNow 1 = some desc1 ∧ ∀ x ∈ s.tern.rows, x.2.state = .free) ∧
    (let s := glued (entered (tabled (.shrinking 0 [] (some (2 ^ 62 - 1)))) 0 dying) 9 .opened 1
     s.fwUp = true ∧ (s.ternTable 1).busy = .shrinking 0 [] (some (2 ^ 62 - 1)) ∧ 2 ^ 62 - 1 < 2 ^ 62 ∧ s.ternNow 1 = some desc1 ∧ s.clk.age < 2 ^ 63 ∧
       (s.places desc1).any (fun x => x.stands && decide (0 * desc1.eps ≤ x.slot) && s.holderOf 1 x != 0 &&
         (s.glueUp (s.holderOf 1 x)).opener == .host) = true) ∧
    (Taken Op.capacityReport (rq [0]) up ∧ Taken Op.capacityReport (rq [1]) tabled ∧ (rq [0]).f 0 0 8 = 0 ∧ (rq [1]).f 0 0 8 ≠ 0) := by
  unfold Taken; decide +kernel

theorem test_meets_EntryWriteCompletes_new :
    let q := rq [0x0901, 5, 9, 3, 0xAB, 0, 0, 0xFF, 0, 0]
    let s := glued (tabled) 9 .opened 4095
    let e := entryOf desc1 q
    let p := desc1.partOf e.value
    Taken Op.entryWrite q s ∧ s.single ∧ q.mirrored = false ∧ s.entryPre q = 0 ∧ q.b 0 16 = false ∧ q.f 0 8 8 = 9 ∧
      s.glueOpen? 9 = 0 ∧ s.ternNow (q.f 0 0 8) = some desc1 ∧
      s.indexHolder (q.f 0 0 8) e.index (s.places desc1) = 0 ∧ committed (s.places desc1) e.index = none ∧
      pendingOf (s.places desc1) 9 e.index = none ∧ s.jobFor 9 (q.f 0 0 8) e.index = none ∧ s.isTouched 9 (q.f 0 0 8) e.index = false ∧
      s.placeEntry (q.f 0 0 8) desc1 p 9 e [] [] = .at_ ⟨[], 0⟩ ∧ s.planHolder (q.f 0 0 8) p 9 (s.places desc1) ⟨[], 0⟩ = none ∧
      s.slotFree (q.f 0 0 8) desc1 p 9 [] 0 = true ∧ (s.glueUp 9).ops < 4096 := by
  unfold Taken State.single; decide +kernel

def room : MakeRoom :=
  { id := 9, op := Op.entryWrite, q := rq [], table := 1, part := 0, index := 5, entry := entry1, moves := [], place := 0, claimed := [], base := 1
    done := 0, moving := none, redo := false, waitSince := none, stuck := none, since := 0, claims := [], finished := false }

theorem test_meets_EntryWriteCompletes_rest :
    (let q := rq [0x00010901, 5]
     let s := glued (entered (tabled) 0) 9 .opened
     Taken Op.entryWrite q s ∧ s.single ∧ s.entryPre q = 0 ∧ q.b 0 16 = true ∧ q.f 0 8 8 = 9 ∧ s.glueOpen? 9 = 0 ∧
       s.ternNow (q.f 0 0 8) = some desc1 ∧ s.indexHolder (q.f 0 0 8) (q.f 1 0 21) (s.places desc1) = 0 ∧
       (committed (s.places desc1) (q.f 1 0 21)).isSome = true ∧ pendingOf (s.places desc1) 9 (q.f 1 0 21) = none ∧
       s.jobFor 9 (q.f 0 0 8) (q.f 1 0 21) = none ∧ s.isTouched 9 (q.f 0 0 8) (q.f 1 0 21) = false ∧ (s.glueUp 9).ops < 4096) ∧
    (let s := { (glued (tabled) 9 .opened 4095) with glue := { (glued (tabled) 9 .opened 4095).glue with moves := [room] } }
     s.fwUp = true ∧ s.glue.moves.find? (fun x => x.id == room.id && !x.finished) = some room ∧ s.ternNow room.table = some desc1 ∧
       (s.glueUp room.id).st = .opened ∧ room.moving = none ∧ room.stuck = none ∧ s.jobBeyond room desc1 = false ∧ room.moves = [] ∧
       s.slotFree room.table desc1 room.part room.id room.claimed room.place = true ∧ (s.glueUp room.id).ops + room.base ≤ 4096 ∧
       desc1.replicas = 1) ∧
    (let r : RetryOp := ⟨9, Op.entryWrite, rq [], 2 ^ 62 - 1⟩
     let s := { up with glue := { up.glue with retryQ := [r] } }
     s.fwUp = true ∧ s.glue.retryQ.find? (fun x => x.id == r.id && !x.q.mirrored) = some r ∧ s.clk.age < 2 ^ 63 ∧ r.since < 2 ^ 62) := by
  unfold Taken State.single; decide +kernel

theorem test_meets_GlueCommandsComplete :
    (let q := rq [0x00FF01FF]
     Taken Op.glueOpen q up ∧ up.single ∧ q.stray 0 0x00FF01FF = false ∧ q.f 0 0 8 ≠ 0 ∧ (up.glueUp (q.f 0 0 8)).st = .free ∧
       2 ≤ up.freeIds.length) ∧
    (let s := glued up 255 .opened 1
     Taken Op.glueClamp (rq [w32 255]) s ∧ s.single ∧ 0 < 255 ∧ 255 < 256 ∧ s.fabricId 255 = false ∧ (s.glueUp 255).st = .opened ∧
       (s.glueUp 255).ops ≠ 0 ∧ ((glued up 255 .opened).glueUp 255).ops = 0 ∧ Taken Op.glueClamp (rq [w32 255]) (glued up 255 .opened)) ∧
    (let s := glued up 255 .opened 1
     Taken Op.glueAbort (rq [255]) s ∧ (rq [255]).stray 0 0xFF = false ∧ (s.glueUp ((rq [255]).f 0 0 8)).st = .opened) ∧
    (Taken Op.glueStatus (rq [0]) up ∧ (rq [0]).w 0 = 0) ∧
    (Taken Op.epochConfig (rq [1000]) up ∧ (rq [1000]).stray 0 0x3FF = false ∧ 1 ≤ (rq [1000]).f 0 0 10 ∧ (rq [1000]).f 0 0 10 ≤ 1000 ∧
      up.groupLocked 3 = false) := by
  unfold Taken State.single; decide +kernel

theorem test_meets_GlueEventsComplete :
    (let s := glued up 1 .opened
     s.fwUp = true ∧ (s.glueUp 1).st = .opened ∧ (s.glueUp 1).opener = .host ∧ s.single ∧ s.clk.age < 2 ^ 63 ∧
       (s.glueUp 1).openedAt < 2 ^ 62 ∧ (s.glueUp 1).timeoutS ≤ 255) ∧
    (let s := glued up 255 .settling 1
     s.fwUp = true ∧ (s.glueUp 255).st = .settling ∧ (∀ f ∈ s.sw.fills, f.id ≠ 255) ∧ s.twin.waitOps = [] ∧ s.twin.prepared = []) ∧
    up.glue.retryQ = [] := by
  unfold State.single; decide +kernel

theorem test_meets_AdvanceKeepsSnapshots :
    up.inflightCount (up.glue.c + 1) = 0 ∧ up.inflight up.glue.c = true ∧ (up.cycleOf [1] true).reclaims ⟨.veneer, 1, 0, 0⟩ = false ∧
      (up.cycleOf [1] true).reclaims ⟨.dying, 0, 0, 7⟩ = true := by decide +kernel

theorem test_meets_BoundaryCompletes :
    (up.coreUp = true ∧ up.single ∧ up.fab.joined = false ∧ up.fab.join = none ∧ up.fab.decision = none ∧ up.pwr.entry = none ∧
      up.twin.preps = [] ∧ up.twin.prepared = [] ∧ up.glue.ups.all (fun x => x.2.st != .aborting) = true ∧
      up.glue.ups.all (fun x => x.2.st != .clamping) = true ∧ up.objectDue = false ∧ up.anyVersWait = false ∧
      up.anyWaits (fun _ => true) = false) ∧
    (let s := glued up 255 .clamping 1
     s.glue.ups.all (fun x => x.2.st != .aborting) = true ∧ (s.glueUp 255).st = .clamping ∧ (s.glueUp 255).held = false ∧
       (s.glueUp 255).clampAt + 250 ≤ (s.untilNs s.nextBoundary).clk.age ∧ s.glue.moves = [] ∧ s.exm.flushes = [] ∧ s.sw.frames = [] ∧
       s.tern.tables.all (fun x => x.2.busy == .idle) = true) := by
  unfold State.single; decide +kernel

/-- The entry with key 0xAB and action 3 in slot `p` of table 2. -/
def exEntered (s : State) (p : Nat) (d : ExactDesc := exDesc1) : State := s.writeUnit d p 0xAB 3 true 0 .live 0

theorem test_meets_ExactEntriesComplete_insert :
    let q := rq [0x0902, 3, 0xAB, 0, 0]
    let s := glued (exTabled) 9 .opened 4095
    Taken Op.exactInsert q s ∧ s.single ∧ s.insertPre q = 0 ∧ q.f 0 8 8 ≠ 0 ∧ s.glueOpen? (q.f 0 8 8) = 0 ∧
      s.exNow (q.f 0 0 8) = some exDesc1 ∧ s.liveAt exDesc1 (keyFrom exDesc1 q 2) = none ∧
      s.pendAt exDesc1 (keyFrom exDesc1 q 2) (q.f 0 8 8) = none ∧
      s.keyHolder (q.f 0 0 8) exDesc1 (keyFrom exDesc1 q 2) (q.f 0 8 8) = none ∧
      s.waitOf (q.f 0 0 8) (keyFrom exDesc1 q 2) (q.f 0 8 8) = none ∧ (s.takeUnit exDesc1 (keyFrom exDesc1 q 2)).isSome = true ∧ s.exm.rehash = none ∧
      (s.glueUp (q.f 0 8 8)).ops + exDesc1.w ≤ 4096 := by
  unfold Taken State.single; decide +kernel

/-- The bucket of that key. -/
def home1 : Nat := 4 * (exDesc1.bucketOf 0xAB)

theorem test_meets_ExactEntriesComplete_delete :
    let q := rq [0x0902, 0xAB, 0, 0]
    let s := glued (exEntered (exTabled) home1) 9 .opened 4095
    Taken Op.exactDelete q s ∧ s.single ∧ s.deletePre q = 0 ∧ q.f 0 8 8 ≠ 0 ∧ s.glueOpen? (q.f 0 8 8) = 0 ∧
      s.exNow (q.f 0 0 8) = some exDesc1 ∧ s.liveAt exDesc1 (keyFrom exDesc1 q 1) = some home1 ∧ (s.slot home1).tag = 0 ∧
      s.pendAt exDesc1 (keyFrom exDesc1 q 1) (q.f 0 8 8) = none ∧
      s.keyHolder (q.f 0 0 8) exDesc1 (keyFrom exDesc1 q 1) (q.f 0 8 8) = none ∧
      s.waitOf (q.f 0 0 8) (keyFrom exDesc1 q 1) (q.f 0 8 8) = none ∧ s.exm.rehash = none ∧
      (s.glueUp (q.f 0 8 8)).ops + exDesc1.w ≤ 4096 := by
  unfold Taken State.single; decide +kernel

theorem test_meets_ExactEntriesComplete_rest :
    (let q := rq [2, 0xAB, 0, 0]
     let s := exEntered (exTabled) home1
     Taken Op.exactRead q s ∧ s.exactCheck (q.f 0 0 8) = 0 ∧ s.exNow (q.f 0 0 8) = some exDesc1 ∧
       q.words.length = 1 + kwOf exDesc1.width ∧ q.stray 0 0xFF = false ∧ keyFrom exDesc1 q 1 < 2 ^ (80 * exDesc1.w) ∧
       (s.exactSearch exDesc1 (keyFrom exDesc1 q 1) s.glue.c false).failing = [] ∧
       (s.exactSearch exDesc1 (keyFrom exDesc1 q 1) s.glue.c false).hit = some home1 ∧
       ((exTabled).exactSearch exDesc1 (keyFrom exDesc1 q 1) s.glue.c false).hit = none ∧
       ((exTabled).exactSearch exDesc1 (keyFrom exDesc1 q 1) s.glue.c false).failing = [] ∧ Taken Op.exactRead q exTabled) ∧
    (let i : InsertWait := ⟨9, Op.exactInsert, rq [], 2, 0xAB, 3, false, [home1], 1, 0⟩
     let g := glued (exTabled) 9 .opened
     let s := { g with exm := { g.exm with inserts := [i] } }
     s.fwUp = true ∧
       s.exm.inserts.find? (fun x => x.id == i.id && (s.insertStray x || x.slots.all (fun p => (s.slot p).state == .free))) = some i ∧
       s.insertStray i = false ∧ i.slots = home1 :: [] ∧ i.op = Op.exactInsert ∧
       (s.glueUp i.id).st = .opened ∧ (s.glueUp i.id).opener = .host ∧ s.exNow i.table = some exDesc1 ∧ s.exm.rehash = none) := by
  unfold Taken; decide +kernel

theorem test_meets_ExactTableLifeComplete_commands :
    (let q := rq [0x000A0001, 0, 4031]
     Taken Op.exactTableCreate q up ∧ up.single ∧ q.b 0 9 = false ∧ q.words.length = 3 ∧ 0 < q.f 0 0 8 ∧ q.f 0 0 8 < 255 ∧
       10 ≤ q.f 0 16 5 ∧ q.f 0 16 5 ≤ 18 ∧ q.f 2 0 12 ≤ 4031 ∧ q.stray 0 0x3F1F0FFF = false ∧ q.stray 2 0x10FFF = false ∧
       up.tableTaken (q.f 0 0 8) = false ∧ up.exm.tables.length < 64 ∧ (up.freeRegion (q.f 0 16 5)).isSome = true ∧
       up.freeNs.isSome = true) ∧
    (let q := rq [0x00120102, 5]
     let d := { exDesc1 with log2 := 10 }
     let s := exTabled d
     Taken Op.exactRehash q s ∧ s.single ∧ s.exactCheck (q.f 0 0 8) = 0 ∧ q.stray 0 0x1F01FF = false ∧ q.f 0 16 5 ≤ 18 ∧
       s.exm.rehash = none ∧ s.flushing (q.f 0 0 8) = false ∧ (s.exTable (q.f 0 0 8)).busy = .idle ∧ s.exNow (q.f 0 0 8) = some d ∧
       (s.freeRegion 17).isSome = true ∧ (s.freeRegion d.log2).isSome = true ∧ s.freeNs.isSome = true ∧ s.freeIds ≠ []) := by
  unfold Taken State.single; decide +kernel

def exNew : ExactDesc := { exDesc1 with base := 64, seed := 5, ns := 1 }

def rehashing (next : Nat) (p : RehashPhase) : State :=
  let s := exEntered (exTabled) home1
  { s with exm := { s.exm with rehash := some ⟨2, exDesc1, exNew, next, 0, p⟩ } }

theorem test_meets_ExactTableLifeComplete_events :
    (let s := rehashing 0 .copying
     s.fwUp = true ∧ (s.exactEntries exDesc1).find? (fun p => decide (0 ≤ p)) = some home1 ∧ (s.slot home1).state ≠ .free ∧
       (∀ x ∈ s.homes exNew (s.keyAt exDesc1.w home1), (s.slot x).state = .free) ∧
       (s.takeUnit exNew (s.keyAt exDesc1.w home1)).isSome = true ∧ exNew.width = exDesc1.width ∧
       exDesc1.width ≤ 1) ∧
    (let s := rehashing (home1 + 1) .copying
     s.fwUp = true ∧ s.exm.rehash = some ⟨2, exDesc1, exNew, home1 + 1, 0, .copying⟩ ∧ (∀ p ∈ s.exactEntries exDesc1, p < home1 + 1) ∧ (s.pickId 1).isSome = true) ∧
    ((rehashing 0 (.draining 7)).fwUp = true ∧ (rehashing 0 (.draining 7)).drainedTo 7 = true) ∧
    ((exTabled exDesc1 (.draining 7)).fwUp = true ∧ ((exTabled exDesc1 (.draining 7)).exTable 2).busy = .draining 7 ∧
      (exTabled exDesc1 (.draining 7)).drainedTo 7 = true) := by decide +kernel

def flushOf (tables : List Nat) : Flush := ⟨127, false, tables, [], 0, [], [], [], 0, 0, false⟩
def exWith (s : State) (f : ExactSt → ExactSt) : State := { s with exm := f s.exm }

theorem test_meets_LearningAndMowingComplete_flush :
    (let q := rq [32]
     Taken Op.learnPop q up ∧ 1 ≤ q.f 0 0 6 ∧ q.f 0 0 6 ≤ 32 ∧ q.stray 0 0x3F = false) ∧
    (let r : FilterRec := ⟨false, 2, 0xAB, 127, 0, false, 2 ^ 62 - 1, 0⟩
     let s := exWith up fun x => { x with filter := [r] }
     s.coreUp = true ∧ s.exm.filter.find? (fun x => x.table == r.table && x.key == r.key) = some r ∧ s.clk.age < 2 ^ 63 ∧ r.at_ < 2 ^ 62) ∧
    (let q := rq [0x00017F02]
     let s := exTabled
     Taken Op.flushByPort q s ∧ q.f 0 0 8 ≠ 0 ∧ s.exactCheck (q.f 0 0 8) = 0 ∧ s.exNow (q.f 0 0 8) = some exDesc1 ∧
       q.stray 0 0x1FFFF = false ∧ portValid (q.f 0 8 8) = true ∧ s.flushing (q.f 0 0 8) = false ∧ s.rehashing (q.f 0 0 8) = false ∧
       s.freeIds ≠ []) ∧
    (let s := exWith (exTabled) fun x => { x with flushes := [flushOf [2]] }
     let f := flushOf [2]
     s.fwUp = true ∧ s.exm.flushes.find? (fun x => x.port == f.port && !x.ended) = some f ∧ f.tables = 2 :: [] ∧
       s.exNow 2 = some exDesc1 ∧ f.next + 1 < 2 ^ exDesc1.log2 ∧
       (f.queued.map (fun e => (s.exNow e.1).elim 1 ExactDesc.w)).foldl (· + ·) 0 + 4 < 4095) ∧
    (let s := exWith up fun x => { x with flushes := [flushOf []] }
     s.fwUp = true ∧ s.exm.flushes = [flushOf []] ∧ (flushOf []).tables = [] ∧ (flushOf []).queued = [] ∧ (flushOf []).claimed = [] ∧
       (flushOf []).ids = []) := by
  unfold Taken; decide +kernel

def aged : ExactDesc := { exDesc1 with ageLimit := 1 }

theorem test_meets_LearningAndMowingComplete_mower :
    (let q := rq [0x0100, 0xFFFF]
     Taken Op.mowerConfig q up ∧ up.single ∧ q.stray 0 0x0FFF03FF = false ∧ q.stray 1 0xFFFF = false ∧ q.f 0 0 8 = 0 ∧ q.b 0 8 = true ∧
       16 ≤ q.f 1 0 16) ∧
    ((upReg Reg.exactCtrl 8).coreUp = true ∧ (upReg Reg.exactCtrl 8).rb Reg.exactCtrl 3 = true) ∧
    (let s := exWith (exEntered (exTabled aged) ovfBase aged) fun x => { x with mower := { x.mower with sweep := some 262144, clock := 1 } }
     s.coreUp = true ∧ s.exm.mower.sweep = some (262144 + 0) ∧ 0 + 1 < 8192 ∧ aged.width = 0 ∧ s.ownerAt (ovfBase + 0) = some (2, aged) ∧
       s.exNow 2 = some aged ∧ (s.slot (ovfBase + 0)).learned = true ∧ (s.slot (ovfBase + 0)).state = .live ∧
       (s.slot (ovfBase + 0)).tag = 0 ∧ aged.ageLimit ≠ 0 ∧ aged.ageLimit ≤ s.ageTicks (s.slot (ovfBase + 0))) ∧
    (let s := exWith (exEntered (exTabled) home1) fun x => { x with mower := { x.mower with queue := [(2, home1)], sweep := none } }
     s.fwUp = true ∧ s.exm.mower.queue = [(2, home1)] ∧ s.exm.mower.sweep = none ∧ s.exNow 2 = some exDesc1 ∧ exDesc1.width = 0 ∧
       s.exm.rehash = none ∧ (s.pickId 1).isSome = true ∧ (s.slot home1).state = .live ∧ (s.slot home1).tag = 0 ∧
       s.liveAt exDesc1 (s.keyAt exDesc1.w home1) = some home1 ∧ s.keyHolder 2 exDesc1 (s.keyAt exDesc1.w home1) 0 = none) := by
  unfold Taken State.single; decide +kernel

/-! ## Chapter 9 -/

/-- `up` with port 31 up, in mode 3, and in-band commands allowed on it. -/
def linked : State :=
  ((({ up with sw := { up.sw with ports := smSet ethPort0 up.sw.ports 31 { ethPort0 with mode := 3, linkUp := true } } } : State).wr
    Reg.cmdqCtrl 0xFFFF0004).wr Reg.cmdqInbandPorts 0x80000000)

def ethBytes (etype n : Nat) : List Byte :=
  List.replicate 12 0 ++ [BitVec.ofNat 8 (etype / 256), BitVec.ofNat 8 etype] ++ List.replicate (n - 14) 0

def plain : EthFrame := ⟨ethBytes 0x0800 60, true, 0, 0⟩

theorem test_meets_ReceptionCompletes :
    (linked.coreUp = true ∧ (linked.ethPort 31).mode ≠ 0 ∧ (linked.ethPort 31).linkUp = true ∧
      (linked.ethPort 31).downAt ≠ some linked.clk.age ∧ linked.twin.ingressHeld = false ∧
      linked.pwr.entry = none ∧ linked.lifeCycle ≠ 5 ∧ linked.pwr.state = .run ∧ (linked.secCfg 31).en = false) ∧
    (60 ≤ plain.bytes.length ∧ plain.bytes.length + 4 ≤ (linked.ethPort 31).maxFrame ∧ plain.fcsOk = true ∧ etherType plain.bytes ≠ 0x8808 ∧
      linked.isCommandFrame 31 plain.bytes = false ∧
      ((linked.countFec 31 plain).chargeFrom (ingHolder 31) (cellsOf (plain.bytes.length + 4))
        (linked.clk.age - (140 + rxCclk (plain.bytes.length + 4) (linked.ethPort 31).rate))).isSome = true) ∧
    (∀ at_, (linked.countFec 31 plain).mapperTake 31 plain.bytes at_ = none) ∧
    ((ethBytes 0x0800 59).length < 60 ∧ etherType (ethBytes 0x8808 60) = 0x8808) := by
  refine ⟨by decide +kernel, by decide +kernel, fun at_ => by unfold State.mapperTake; exact if_pos (by decide +kernel), by decide +kernel⟩

/-- A tagged command frame with an IDENTIFY. -/
def cmdFrame : List Byte :=
  List.replicate 12 0 ++ [0x81, 0, 0, 5, 0x88, 0xB5] ++ packetOf 0 Op.identify 0 ++ List.replicate 26 0

theorem test_meets_ReceptionCompletes_inband :
    let s := linked
    let p := packetOf 0 Op.identify 0 ++ List.replicate 26 0
    let st := StreamId.inband 31 0 5
    let pk := parsePacket st (p.take (16 + 4 * ofBytesLE ((p.drop 8).take 2)))
    60 ≤ cmdFrame.length ∧ half cmdFrame 12 = 0x8100 ∧ s.isCommandFrame 31 cmdFrame = true ∧ etherType cmdFrame ≠ 0x8808 ∧ 16 ≤ p.length ∧ behindEtype 0x88B5 cmdFrame = some p ∧
      half cmdFrame 14 = 5 ∧ s.unstarted st < 8 ∧ s.pwr.fwReady = true ∧ s.pwr.recovery = false ∧ packetChecks pk (p.take (16 + 4 * ofBytesLE ((p.drop 8).take 2))).length = 0 ∧
      s.transportCheck pk = 0 ∧ s.streamCheck st = 0 ∧ s.keptReply pk.q = none ∧ s.cmdOf pk.q = none ∧
      8 ≤ ({ s with cmdq := { s.cmdq with cmds := List.replicate 8 ⟨1, 1, ⟨st, 7, 0, 0, []⟩, none, none, .accepted, false, 0, 1, [], false⟩ } } :
        State).unstarted st := by decide +kernel

def frame1 (stage : FrameStage) (out : Bool) : Frame :=
  { num := 1, ingress := 31, seq := 0, epoch := 0, deadline := 2 ^ 62 - 1, relAt := 660, rxAge := 0, rxNs := 0, roles := roles0, portUser := 0
    kind := 0, bytes := plain.bytes, length := 64, cells := 1, lane := 7, stage := stage, results := List.replicate 5 ⟨out, false, 0⟩
    entries := List.replicate 5 none, actionErr := false, group := none, gi := false, sent := 0, drops := [], counted := true }

def res0 : SearchRes := ⟨[], false, false, [], []⟩

def search1 (exact : Bool) (phase : SearchPhase) : Search :=
  { lane := 7, frame := 1, role := 4, profile := 0, epoch := 0, table := if exact then 2 else 1, exact := exact, key := 0xAB, width := 0
    urgent := false, phase := phase, issued := 0, at_ := 2 ^ 62 - 1, replica := 0, port := 0, waited := false, starved := false
    blocks := [], picks := [], res := some res0 }

def searching (base : State) (x : Search) : State :=
  { base with sw := { base.sw with frames := [frame1 .wave1 true] }, tern := { base.tern with searches := [x] } }

theorem test_meets_LanesComplete_searches :
    (let s := searching ((entered (tabled) 0).wr Reg.arrayGovCtrl 0) (search1 false .waiting)
     let x := search1 false .waiting
     s.coreUp = true ∧ s.tern.searches = [x] ∧ x.lane < 8 ∧ x.exact = false ∧ x.phase = .waiting ∧ s.govOn = false ∧
       (s.bid x).any (fun b => decide (b.free ≤ s.clk.age) && !s.blockLocked b.blocks b.letter) = true ∧
       s.tern.rewriteAt ≠ some s.clk.age ∧ x.issued ≤ s.clk.age ∧ s.wanted x = true ∧ s.clk.age < 2 ^ 63) ∧
    (let x := search1 false .granted
     let s := searching (tabled) x
     let r := x.res.getD (s.resultOf x)
     s.tern.searches = [x] ∧ x.phase = .granted ∧ x.role < 5 ∧ s.frame x.frame = some (frame1 .wave1 true) ∧
       (frame1 .wave1 true).results.length = 5 ∧ r.failed = [] ∧ r.flags = [] ∧ x.at_ < 2 ^ 62) ∧
    (let x := search1 true .granted
     let s := searching (exTabled) x
     s.coreUp = true ∧ s.tern.searches = [x] ∧ x.exact = true ∧ s.frame x.frame = some (frame1 .wave1 true) ∧
       s.exDesc x.table x.epoch = some exDesc1 ∧ exDesc1.learnEn = false ∧ (s.exactSearch exDesc1 x.key.toNat x.epoch true).failing = []) := by
  decide +kernel

def framed (f : Frame) : State := { up with sw := { up.sw with frames := [f] } }

theorem test_meets_LanesComplete_frames :
    (let f := frame1 .wave1 false
     (framed f).frame 1 = some f ∧ f.stage = .wave1 ∧ (framed f).overdue f = false ∧ f.settled = true ∧ (∀ r : Fin 3, f.actionOf r = none) ∧
       f.roles.profile 3 = none ∧ f.roles.profile 4 = none ∧ (framed { f with deadline := 0 }).overdue { f with deadline := 0 } = true) ∧
    (let f := frame1 .wave2 false
     (framed f).frame 1 = some f ∧ f.stage = .wave2 ∧ (framed f).overdue f = false ∧ f.settled = true ∧
       (∀ r, f.actionOf r = none) ∧ (∀ e ∈ f.entries, e = none) ∧ f.actionErr = false ∧ f.kind = 0 ∧
       (framed { f with deadline := 0 }).overdue { f with deadline := 0 } = true) := by
  refine ⟨by decide +kernel, by decide +kernel, by decide +kernel, by decide +kernel, by decide +kernel, ?_, by decide +kernel⟩
  intro r
  rcases r with _ | _ | _ | _ | _ | r <;> first | rfl | simp [Frame.actionOf, frame1, roleRes0, roles0, wd]; try decide

def copy1 (port : Nat) (released eligible sending : Bool) : Copy :=
  { frame := 1, ingress := 0, port := port, queue := 7, cells := 1, bytes := plain.bytes, image := decide (64 ≤ port), session := 0
    deadline := some (2 ^ 62 - 1), pdu := none, released := released, eligible := eligible, relAt := 2 ^ 62 - 1, sending := sending, wire := [] }

def queued (c : Copy) : State := { linked with sw := { linked.sw with copies := [c] } }

def latPort : State :=
  { (queued (copy1 31 false false false)) with
    sw := { linked.sw with copies := [copy1 31 false false false]
                           ports := smSet ethPort0 linked.sw.ports 31 { ethPort0 with mode := 3, linkUp := true, lat := true } } }

theorem test_meets_EgressCompletes_sends :
    (let c := copy1 31 false false false
     latPort.coreUp = true ∧ latPort.copyAt c.frame c.port = some c ∧ latPort.pastHorizon c = true ∧ latPort.releases c = [c] ∧ c.port < 64 ∧
       (latPort.ethPort c.port).lat = true) ∧
    (let c := copy1 31 true false false
     let s := queued c
     s.copyAt c.frame c.port = some c ∧ c.released = true ∧ c.eligible = false ∧ s.clk.age < 2 ^ 63 ∧ c.relAt < 2 ^ 62) ∧
    (let c := copy1 31 true true false
     let s := queued c
     s.sw.copies = [c] ∧ c.queue < 8 ∧ c.session = 0 ∧ c.sending = false ∧ s.mayTransmit c.port = true ∧ c.deadline.any (· ≤ s.clk.age) = false ∧ s.gateOpen c.port c.queue (s.copyNs c) = true ∧
       (s.secCfg c.port).en = false) ∧
    (let c := { copy1 31 true true true with frame := 0 }
     let s := queued c
     s.sw.copies.find? (fun x => x.port == c.port && x.sending) = some c ∧ s.inHold c.port = false ∧ c.pdu = none ∧ c.frame = 0 ∧ s.frame 0 = none) := by
  decide +kernel

theorem test_meets_EgressCompletes_drops :
    (let f := frame1 .wave2 true
     (framed f).frame f.num = some f ∧ f.stage ≠ .decided ∧ (framed f).clk.age < 2 ^ 63 ∧ f.deadline < 2 ^ 62) ∧
    (let c := { copy1 31 true true false with pdu := some 255 }
     let s := queued c
     s.sw.copies.find? (fun x => x.pdu == some 255 && !x.sending) = some c ∧ s.frame c.frame = none ∧ c.deadline = some (2 ^ 62 - 1)) ∧
    (let c := copy1 127 true true true
     let s : State := { (queued c) with chans := smSet slowCh0 up.chans 63 { slowCh0 with w0 := 0x00000100, active := true } }
     s.sw.copies.find? (fun x => x.port == 64 + 63 && x.sending) = some c ∧ (s.chan 63).mode = 1) := by decide +kernel

def arbed (f : ArbSt → ArbSt) : State := { up with arb := f up.arb }

theorem test_meets_PortsAndArbitersComplete :
    ((linked.ethPort 31).linkUp = true ∧ (linked.ethPort 31).lossSince = none ∧ (linked.ethPort 31).mode ≠ 0 ∧
      linked.pwr.refclkLost = false ∧ linked.lifeCycle ≠ 5) ∧
    (let s : State := { up with sw := { up.sw with ports := smSet ethPort0 up.sw.ports 31 { ethPort0 with lossSince := some (2 ^ 62 - 1) } } }
     s.coreUp = true ∧ (s.ethPort 31).lossSince = some (2 ^ 62 - 1) ∧ s.sw.copies.all (fun c => c.port != 31) = true ∧ s.clk.age < 2 ^ 63) ∧
    (up.arb.arrayRefill ≤ up.clk.age ∧ up.arb.scratchRefill ≤ up.clk.age ∧ 8 < 9 ∧
      up.arb.arrayRefill + windowOf (up.rd Reg.arbArrayWindow) ≤ up.arb.scratchRefill + ceilDiv (windowOf (up.rd Reg.arbScratchWindow) * 25) 16) ∧
    (let k : ArbLock := ⟨4127, 6, 2, 64, 0⟩
     (arbed fun a => { a with locks := [k] }).arb.locks = [k] ∧ 4096 ≤ k.resource ∧
       (arbed fun a => { a with locks := [k] }).lockTimeout 8 < k.left + k.held) ∧
    (let x := search1 false .waiting
     let s := searching (tabled) x
     s.tern.searches = [x] ∧ x.exact = false ∧ x.phase ≠ .granted ∧ x.starved = false ∧ x.issued ≤ s.clk.age) ∧
    (let s := arbed fun a => { a with starvedAt := [(8, 2 ^ 62)] }
     s.coreUp = true ∧ s.tern.searches = [] ∧ smGet 0 s.arb.starvedAt 8 ≠ 0 ∧ smGet 0 s.arb.starvedAt 8 ≤ 2 ^ 62) := by decide +kernel

theorem test_meets_SwitchCommandsComplete_config :
    (let q := rq ([0x000F133F - 0x20, 9216, 0] ++ List.replicate 7 0)
     let s := { linked with sw := { linked.sw with ports := smSet ethPort0 linked.sw.ports 31 { ethPort0 with mode := 3 } } }
     Taken Op.portConfig q s ∧ q.stray 0 0x000F171F = false ∧ q.f 0 8 3 ≤ 6 ∧ q.stray 1 0x3FFF = false ∧ 64 ≤ q.f 1 0 14 ∧
       q.f 1 0 14 ≤ 9216 ∧ q.roleSet.stray = false ∧ s.roleWave q.roleSet = false ∧ q.f 0 8 3 = (s.ethPort (q.f 0 0 5)).mode) ∧
    (Taken Op.queueConfig (rq [0x7F00, 0, 1]) up ∧ (rq [0x7F00, 0, 1]).holderSets.length = 1 ∧
      ∀ h ∈ (rq [0x7F00, 0, 1]).holderSets, h.bad = false ∧ (up.setLimits h).sumMin ≤ 98304) ∧
    (Taken Op.frameBudgetSet (rq [1000]) up ∧ (rq [1000]).stray 0 0x3FF = false ∧ 2 ≤ (rq [1000]).f 0 0 10 ∧ (rq [1000]).f 0 0 10 ≤ 1000) ∧
    (Taken Op.portStats (rq [0x17F]) up ∧ (rq [0x17F]).stray 0 0x1FF = false ∧ portValid ((rq [0x17F]).f 0 0 8) = true) := by
  unfold Taken; decide +kernel

theorem test_meets_SwitchCommandsComplete_glued :
    (let q := rq [0x00040900, 0xFFFF, 0, 0, 0, 0, 0]
     let s := glued up 9 .opened 4095
     Taken Op.policerWrite q s ∧ s.single ∧ s.policerPre q = 0 ∧ q.f 0 8 8 ≠ 0 ∧ s.glueOpen? (q.f 0 8 8) = 0 ∧
       (s.policer (q.f 1 0 16)).pend = none ∧ (s.glueUp (q.f 0 8 8)).ops < 4096) ∧
    (let q := rq [0x00030900, 0xFFF, 1, 1, 1]
     let s := glued up 9 .opened 4095
     Taken Op.mcastGroupWrite q s ∧ q.stray 0 0x3FF00 = false ∧ q.stray 1 0xFFF = false ∧ q.f 0 8 8 ≠ 0 ∧ s.glueOpen? (q.f 0 8 8) = 0 ∧
       (s.groupVers (q.f 1 0 12)).pend = none ∧ (s.glueUp (q.f 0 8 8)).ops < 4096) ∧
    (let q := rq [0xFFFF]
     Taken Op.policerRead q up ∧ q.stray 0 0x1FFFF = false ∧ q.f 0 0 16 < up.coh.ctrLines ∧ q.b 0 16 = false ∧
       (up.atomicBy 8 (up.coh.ctrBase + q.f 0 0 16) .readLine).2.isSome = true) := by
  unfold Taken State.single; decide +kernel

/-! ## Chapter 10 -/

def chanOn (c : SlowCh) : State := { up with chans := smSet slowCh0 up.chans 63 c }
def canCh : SlowCh := { slowCh0 with w0 := 0x0000013F, nomRate := 500000, active := true }
def serialCh : SlowCh := { slowCh0 with w0 := 0x0200043F, nomRate := 9600 }

theorem test_meets_SlowChannelsComplete_commands :
    (let q := rq ([0x0200043F, 9600] ++ List.replicate 13 0)
     Taken Op.channelConfig q up ∧ q.stray 0 0x0F0F773F = false ∧ q.f 0 8 3 = 4 ∧ 2 ≤ q.f 0 24 4 ∧ q.roleSet.stray = false ∧
       q.stray 11 0x03FF03FF = false ∧ q.stray 12 0xFFFF = false ∧ q.stray 14 0xFFFF = false ∧ q.ratesOk = true ∧
       up.roleWave q.roleSet = false ∧ up.designated (q.f 0 0 6) = false ∧ q.f 0 8 3 ≠ (up.chan (q.f 0 0 6)).mode ∧ up.mapper.pdus = [] ∧
       Taken Op.channelConfig q (chanOn serialCh) ∧ q.f 0 8 3 = ((chanOn serialCh).chan (q.f 0 0 6)).mode ∧
       (q.w 1).toNat = ((chanOn serialCh).chan (q.f 0 0 6)).nomRate ∧ (q.w 2).toNat = ((chanOn serialCh).chan (q.f 0 0 6)).dataRate ∧
       bit (q.w 0) 12 = bit ((chanOn serialCh).chan (q.f 0 0 6)).w0 12) ∧
    (let q := rq [0x7F7F7F3F, 0xF, 0, 0, 0, 0, 0, 0, 0]
     let s := chanOn canCh
     Taken Op.wakePatternWrite q s ∧ q.stray 0 0x7F7F7F7F = false ∧
       (q.desigs.filter (· != 0x7F)).all (fun d => decide (d < 64) && [125000, 250000, 500000].contains (s.chan d).nomRate &&
         ((s.chan d).mode == 1 || (s.chan d).mode == 2)) = true ∧
       (q.desigs.filter (· != 0x7F)).eraseDups.length = (q.desigs.filter (· != 0x7F)).length ∧
       (q.patterns.map (fun p => fld (wd p 0) 0 4)).eraseDups.length = q.patterns.length ∧ q.patterns.any patternStray = false ∧
       q.patterns = [[0xF, 0, 0, 0, 0, 0, 0, 0]]) := by
  unfold Taken; decide +kernel

def slow1 : SlowFrame := ⟨5, 0, 0, List.replicate 8 0, true, false, false⟩

theorem test_meets_SlowChannelsComplete_events :
    (let s := chanOn { canCh with active := false }
     s.coreUp = true ∧ 63 < 64 ∧ (s.chan 63).mode = 1 ∧ (s.chan 63).active = false ∧ (s.chan 63).busOff = false ∧ s.lifeCycle ≠ 5) ∧
    (let s := chanOn canCh
     (s.chan 63).active = true ∧ (s.chan 63).mode = 1 ∧ s.sw.copies = [] ∧ kindFits (s.chan 63).mode (frameKind slow1.chanId.toNat) = true ∧
       s.twin.ingressHeld = false ∧ s.pwr.entry = none ∧ frameKind slow1.chanId.toNat = 0 ∧
       slow1.data.length ≤ kindMax (s.chan 63).mode (frameKind slow1.chanId.toNat) ∧ slow1.remote = false ∧ slow1.good = true ∧
       s.pwr.state = .run ∧ (s.secCfg (64 + 63)).en = false ∧
       (s.chargeFrom (ingHolder (64 + 63)) (cellsOf (16 + slow1.data.length)) (s.clk.age - ceilDiv ((s.chan 63).wireNs (slowImage
         slow1.chanId.toNat slow1.data slow1.flags 0 0) * 5) 4)).isSome = true) ∧
    (let s := chanOn { canCh with active := false, busOff := true, w0 := 0x0000213F }
     (s.chan 63).busOff = true ∧ bit (s.chan 63).w0 13 = true ∧ (s.chan 63).recover = false ∧ (s.chan 63).recessive = false ∧
       bit (1 : Word) 0 = true) := by decide +kernel

/-- PDU 255 on E31, sent on generator 1 with an offset of 0 and a window of 1 µs, 8 bytes long. -/
def pdu1 : Pdu := { pdu0 with rec_ := [0xFF000005, 0x00001F01, 0, 1, 8, 0, 0, 0] }
/-- Route 65,535 from slow source 5 to it. -/
def route1 : List Word := [0xFF000004, 0x0005FFFF, 0, 1, 0, 0, 0, 0]

def mapped (rs : SMap Route) (os : List (List Byte × Nat)) : State :=
  { linked with mapper := { up.mapper with pdus := [(255, pdu1)], routes := rs, offers := os }
                time := { up.time with gens := [(1, ⟨1250, 0, 1, 0⟩)] } }

theorem test_meets_MapperComplete_commands :
    (let q := rq route1
     let s := mapped [] []
     let t := q.records.foldl State.applyRec s
     Taken Op.routeWrite q s ∧ s.single ∧ q.records.any recBad = false ∧ ((enabledPdus q.records).map t.pdu).any t.pduBad = false ∧
       t.mapper.routes.any (fun x => x.2.en && t.routeBad x.2) = false ∧
       ((enabledPdus q.records).map t.pdu).all (fun p => t.genHas p.gen 0) = true ∧ sourceLists t.mapper.routes ≤ 8192 ∧
       twiceEnabled q.records = none ∧ q.records = [route1] ∧ fld (wd route1 0) 0 2 = 0 ∧ bit (wd route1 0) 2 = true ∧
       (s.route? (fld (wd route1 1) 0 16)).en = false) ∧
    (Taken Op.routeRead (rq [0x100FF]) up ∧ (rq [0x100FF]).stray 0 0x1FFFF = false ∧ (rq [0x100FF]).b 0 16 = true ∧
      (rq [0x100FF]).f 0 0 16 < 256 ∧ Taken Op.routeRead (rq [0xFFFF]) up ∧ (rq [0xFFFF]).stray 0 0x1FFFF = false ∧
      (rq [0xFFFF]).b 0 16 = false ∧ (up.route? 0xFFFF).value = none ∧ (up.route? 0xFFFF).last ≠ some true) := by
  unfold Taken State.single; decide +kernel

/-- The header of a PDU of source 5 with one data byte. -/
def offer1 : List Byte := [0x11, 0, 0, 5, 0, 0, 0, 1, 0x80]
def fromPdu (v : Option (Nat × Int)) : SMap Route := [(3, ⟨[0xFF00000C, 0x00050003, 0, 1, 0, 0, 0, 0], v, none⟩)]

theorem test_meets_MapperComplete_events :
    (let s := mapped (fromPdu (some (1, 8))) [(offer1, 9)]
     s.fwUp = true ∧ s.mapper.offers = (offer1, 9) :: [] ∧ s.sourceList 1 (half offer1 2) = [3] ∧ bit ((s.route? 3).w 0) 8 = false ∧
       readVal (bit ((s.route? 3).w 0) 4) (fld ((s.route? 3).w 2) 0 14) (s.route? 3).len ((offer1.drop 8).take (half offer1 6)) = some 1 ∧
       (s.route? 3).value.all (fun x => decide (x.2 < ((9 : Nat) : Int))) = true) ∧
    (((mapped (fromPdu (some (1, 9))) [(offer1, 9)]).route? 3).value.any (fun x => decide (((9 : Nat) : Int) ≤ x.2)) = true) ∧
    (let s := mapped [] []
     s.fwUp = true ∧ (s.pdu 255).en = true ∧ s.genHas (s.pdu 255).gen 0 = true ∧ s.routesOf 255 = []) ∧
    (let s := mapped (fromPdu none) []
     s.fwUp = true ∧ (s.pdu 255).en = true ∧ s.genHas (s.pdu 255).gen 0 = true ∧ (s.routesOf 255).any (fun r => !r.2.silent) = true ∧
       s.egressUp (s.pdu 255).port = true ∧ queueHolder (s.pdu 255).port (if (s.pdu 255).slow then 0 else fld ((s.pdu 255).w 0) 8 3) =
         queueHolder 31 0 ∧ s.sw.limitsWas = none ∧ (s.holder (queueHolder 31 0)).overQ = false ∧
       (s.holder (queueHolder 31 0)).used + 20 ≤ (s.holder (queueHolder 31 0)).quota ∧ s.sharedUsed + 20 ≤ s.sharedSize) := by
  decide +kernel

theorem test_meets_TimeCommandsComplete_generators :
    (let q := rq [0x0000073F, 12500, 12499]
     Taken Op.periodConfig q up ∧ q.stray 0 0x773F = false ∧ q.f 0 0 6 ≠ 0 ∧ (up.gen (q.f 0 0 6)).owners = 0 ∧ q.f 0 8 3 ≠ 0 ∧
       q.f 0 12 3 = 0 ∧ 125 ≤ (q.w 1).toNat ∧ (q.w 1).toNat ≤ 1250000000 ∧ (q.w 2).toNat < (q.w 1).toNat ∧ 12500 ≤ (q.w 1).toNat) ∧
    (let q := rq [0x0000703F, 0, 0]
     let s : State := { up with time := { up.time with gens := [(63, ⟨12500, 0, 7, 0⟩)] } }
     Taken Op.periodConfig q s ∧ q.stray 0 0x773F = false ∧ q.f 0 0 6 ≠ 0 ∧ (s.gen (q.f 0 0 6)).owners &&& (7 - q.f 0 12 3) = 0 ∧
       q.f 0 8 3 = 0 ∧ (List.range 3).all (fun k => !s.genUsed (q.f 0 0 6) k) = true) := by
  unfold Taken; decide +kernel

theorem test_meets_TimeCommandsComplete_time :
    (let q := rq [0x0F000306, 5, 0, 0, w32 500000, 0, 0, 0, 0]
     Taken Op.timeConfig q up ∧ up.badTime q = false ∧ up.fabricTimed = false ∧ q.f 0 16 6 = 0 ∧ up.timeConflict q = none ∧
       q.b 0 2 = true ∧ q.f 0 0 2 = 2) ∧
    (let q := rq [0x00000001, 999999999, 5, 0, 0, 0, 0, 0, 0]
     Taken Op.timeConfig q up ∧ up.badTime q = false ∧ up.timeConflict q = none ∧ q.b 0 2 = false ∧ q.f 0 0 2 = 1) ∧
    (let q := rq [0, 0, 0, 0, 0, 0, 0, 0, 0]
     Taken Op.timeConfig q up ∧ up.badTime q = false ∧ q.f 0 0 2 = 0) ∧ Taken Op.timeRead (rq []) up := by
  unfold Taken; decide +kernel

/-- `up` with other time services, and a user value of 0 for the delay of PPS_IN. -/
def timed (f : TimeSt → TimeSt) : State := { up with time := f up.time, pwr := { up.pwr with user := [(256, some 0)] } }

theorem test_meets_TimeEventsComplete :
    (let s := timed fun t => { t with gens := [(63, ⟨125, 0, 4, 0⟩)], timerGen := 63 }
     s.coreUp = true ∧ (s.gen 63).owners ≠ 0 ∧ (63 : Fin 64).val ≠ 0 ∧ s.time.timerGen = 63) ∧
    (let s := timed fun t => { t with ptp := 1, ptpState := 2 }
     s.fwUp = true ∧ bit s.time.ptp 0 = true ∧ s.time.ptpState = 2 ∧ s.mayReceive = true) ∧
    ((timed fun t => { t with ppsInMode := 1 }).time.ppsInMode = 1) ∧
    (let s := timed fun t => { t with ppsInMode := 2 }
     s.fwUp = true ∧ s.time.ppsInMode = 2 ∧ s.fabricTimed = false ∧ s.time.ppsLast = none ∧ s.secOffset * dtUnit ≤ s.clk.dt ∧
       (s.clk.dt : Int) - s.secOffset * dtUnit < dtWrap) ∧
    (let s := timed fun t => { t with ppsInMode := 2, ppsLast := some 5, ppsWait := 2 ^ 62 - 1 }
     s.fwUp = true ∧ s.time.ppsInMode = 2 ∧ s.time.ppsLast ≠ none ∧ -1000 ≤ s.secOffset ∧ s.secOffset ≤ 1000 ∧ s.clk.age < 2 ^ 63 ∧
       s.time.ppsWait < 2 ^ 62) ∧
    ((timed fun t => { t with ppsOutEn := true }).time.ppsOutEn = true) ∧
    ((timed fun t => { t with timerOut := some (2 ^ 62 - 1) }).time.timerOut = some (2 ^ 62 - 1)) := by decide +kernel

def slotted (t : SlotTable) (s : State := up) : State :=
  { s with time := { s.time with tables := [(127, t)], gens := [(1, ⟨1250, 0, 2, 0⟩)] } }

def active2 : SlotCopy := ⟨2, 1, [(0, 0x000001FF), (1, 0x000001FF)]⟩

theorem test_meets_SlotsComplete_commands :
    (let q := rq [0x0002097F, 0x050001FF, 0x00000101]
     let s := glued (slotted slotTable0) 9 .opened 4094
     Taken Op.slotWrite q s ∧ s.single ∧ s.slotPre q = 0 ∧ q.b 0 16 = false ∧ q.f 0 8 8 ≠ 0 ∧ s.glueOpen? (q.f 0 8 8) = 0 ∧
       (s.slotTable (q.f 0 0 8)).pend = none ∧ (s.glueUp (q.f 0 8 8)).ops + q.f 1 8 7 + b2n (q.b 0 17) ≤ 4096) ∧
    (let q := rq [0x0001007F, 0x000001FF, 0x00000101]
     Taken Op.slotWrite q up ∧ up.slotPre q = 0 ∧ q.b 0 16 = true ∧ up.slotWriteBusy q = false) := by
  unfold Taken State.single; decide +kernel

theorem test_meets_SlotsComplete_swap :
    let q := rq [0x0900, 0, 0, 0x80000000]
    let s := glued up 9 .opened 4095
    Taken Op.slotSwap q s ∧ s.single ∧ s.swapPre q = 0 ∧ q.f 0 8 8 ≠ 0 ∧ s.glueOpen? (q.f 0 8 8) = 0 ∧ q.swapTables = [127] ∧
      (s.slotTable 127).pend = none ∧ (s.glueUp (q.f 0 8 8)).ops < 4096 := by
  unfold Taken State.single; decide +kernel

theorem test_meets_SlotsComplete_events :
    (let s := slotted { slotTable0 with copyA := active2 }
     s.coreUp = true ∧ s.cycling (s.slotTable 127) = true ∧
       (s.slotTable 127).entry + 1 < (s.slotTable 127).active.length ∧
       (s.slotTable 127).cycleNs + (s.slotTable 127).active.startOf ((s.slotTable 127).entry + 1) < s.nextCycle (s.slotTable 127)) ∧
    (let s := slotted { slotTable0 with copyA := active2, swapPend := true }
     s.cycling (s.slotTable 127) = true ∧ (s.slotTable 127).swapPend = true ∧ (s.slotTable 127).swapFrom ≤ s.nextCycle (s.slotTable 127)) ∧
    ((slotted { slotTable0 with swapPend := true }).slotTable 127).active.gen = 0 ∧
    (((slotted { slotTable0 with copyBack := true }).slotTable 127).copyBack = true) ∧
    (let s := slotted { slotTable0 with deferred := [(255, 255, 5)] }
     s.fwUp = true ∧ (s.slotTable 127).deferred = [(255, 255, 5)] ∧ s.slotBusy (s.slotAt 127) 255 = false) := by decide +kernel

/-! ## Chapter 7 -/

def coh (f : CohSt → CohSt) (s : State := up) : State := { s with coh := f s.coh }
def held (st : DirState) (owner : BitVec 4) (sharers : BitVec 12) (l : Nat) : State :=
  coh fun c => { c with dir := [(wayKey l 15, { dir0 with line := l, dstate := st, owner := owner, sharers := sharers })] }

/-- The last line before the counter region. -/
def lastLine : Nat := 0x6FFFF
def req1 (a l : Nat) : CohReq := ⟨a, l, .getM, 0, 1, none⟩

theorem test_meets_RequestsComplete :
    (up.coreUp = true ∧ lastLine < 2 ^ 19 ∧ 11 < 12 ∧ up.coh.reqs = [] ∧ up.agentFailed 11 = false ∧ up.clk.age < 2 ^ 63 ∧
      (∀ n ∈ up.coh.net, n.msg.dest = 16 + homeOf lastLine → up.clk.age < n.due) ∧ up.coh.lastWb ≠ some (lastLine, up.clk.age) ∧
      up.ctrLine lastLine = false ∧ up.lineBusy lastLine = false ∧ up.coh.seniors = [] ∧ up.dirOf lastLine = none ∧
      (up.freeWay lastLine).isSome = true) ∧
    (let s := held .owned 11 0 lastLine
     s.lineBusy lastLine = false ∧ (s.dirOf lastLine).any (fun x => x.2.owned && x.2.owner.toNat != 8 && !s.agentFailed x.2.owner.toNat &&
       x.2.sharers == 0 && x.2.pin == 0) = true) ∧
    (let s := held .shared 0 (sharer 8) lastLine
     s.lineBusy lastLine = false ∧
       (s.dirOf lastLine).any (fun x => x.2.dstate == .shared && x.2.pin == 0 && x.2.sharers == sharer 8) = true) ∧
    (let s := held .shared 0 (sharer 8 ||| sharer 0) lastLine
     (s.dirOf lastLine).any (fun x => x.2.dstate == .shared && !((sharersOf x.2.sharers).filter (· != 8)).isEmpty &&
       ((sharersOf x.2.sharers).filter (· != 8)).all (fun b => !s.agentFailed b)) = true) ∧
    (let s := coh fun c => { c with trans := [⟨lastLine, none, [0], none, none, false, false, none, 0⟩] }
     s.ctrLine lastLine = false ∧ (s.transOf lastLine).isSome = true) ∧
    (up.ctrLine up.coh.ctrBase = true ∧ up.ctrLine (up.coh.ctrBase + up.coh.ctrLines - 1) = true) := by decide +kernel

/-- A message of agent 11 on the last line, due at once. -/
def msg1 (m : CohMsg) : NetMsg := ⟨11, 0, m⟩

/-- Agent 11 holds the last line, and one message is under way. -/
def netted (m : CohMsg) (st : Moesi) : State :=
  coh fun c => { c with net := [msg1 m], caches := smSet line0 [] (cacheKey 11 lastLine) { line0 with state := st } }

/-- The message's turn has come. -/
def due (s : State) (m : CohMsg) : Prop := s.coreUp = true ∧ s.turn m = some (msg1 m) ∧ s.clk.age < 2 ^ 63 ∧ (msg1 m).due < 2 ^ 62

def trans1 (acks : List Nat) (fwd : Option Nat) (grant : Bool) (m : CohMsg) : State :=
  let s := held .shared 0 (sharer 8) lastLine
  coh (fun c => { c with trans := [⟨lastLine, some (req1 8 lastLine), acks, fwd, none, grant, false, none, 2 ^ 62 - 1⟩]
                         net := [msg1 m] }) s

theorem test_meets_CoherenceMessagesComplete_owner : ∀ m ∈ [CohMsg.fwdS 11 lastLine 0, .fwdM 11 lastLine 8, .fwdNa 11 lastLine 8,
      .recall 11 lastLine, .inv 11 lastLine],
    let s := netted m .o
    due s m ∧ 11 < 12 ∧ lastLine < 2 ^ 19 ∧ s.agentFailed 11 = false ∧ s.dataDue 11 lastLine = false ∧ s.agentGated 11 = false ∧
      (s.cached 11 lastLine).state.supplies = true ∧ s.wbOf 11 lastLine = none := by
  unfold due; decide +kernel

theorem test_meets_CoherenceMessagesComplete_home :
    (let l := lastLine
     let s := trans1 [11] none true (.invAck 11 l)
     let r := req1 8 l
     due s (.invAck 11 l) ∧ s.coh.trans = [⟨l, some r, [11], none, none, true, false, none, 2 ^ 62 - 1⟩] ∧ r.line = l ∧
       (s.dirOf l).isSome = true ∧ s.agentFailed r.agent = false) ∧
    (∀ m ∈ [CohMsg.fwdDone 11 lastLine, .fwdMiss 11 lastLine],
      let s := trans1 [] (some 11) false m
      due s m ∧ (s.dirOf lastLine).isSome = true ∧ s.agentFailed 8 = false ∧ s.wbOf 11 lastLine = none) ∧
    (let m := CohMsg.wb 11 lastLine [1]
     let s := netted m .i
     due s m ∧ s.transOf lastLine = none ∧ s.coh.waiting = []) := by
  unfold due; decide +kernel

def requesting (r : CohReq) (m : CohMsg) : State := coh (fun c => { c with reqs := [r] }) (netted m .s)

theorem test_meets_CoherenceMessagesComplete_requester :
    (∀ m ∈ [CohMsg.nack 11 lastLine 1 false, .err 11 lastLine, .data 11 lastLine (some .m) false [1], .data 11 lastLine none false [1],
        .grant 11 lastLine false, .atomicRes 11 lastLine false [1] 0],
      let s := requesting (req1 11 lastLine) m
      due s m ∧ 8 ≤ 11 ∧ s.coh.reqs = [req1 11 lastLine] ∧ s.coh.net.any (fun x => x.msg == .nack 11 lastLine 1 true) = false ∧ s.coh.held = [] ∧
        s.coh.caches.length < 8 ∧ (s.cached 11 lastLine).state ≠ .i) ∧
    (let m := CohMsg.nack 7 lastLine 1 true
     let s := requesting (req1 7 lastLine) m
     due s m ∧ 7 < 8 ∧ s.coh.reqs = [req1 7 lastLine]) ∧
    (let r := { req1 11 lastLine with resendAt := some (2 ^ 62 - 1) }
     let s := requesting r (.err 0 0)
     s.coh.reqs = [r] ∧ r.agent = 11 ∧ r.line = lastLine ∧ s.clk.age < 2 ^ 63 ∧ 2 ^ 62 - 1 < 2 ^ 62) := by
  unfold due; decide +kernel

theorem test_meets_AtomicsAndMailboxComplete :
    (let l := up.coh.ctrBase + up.coh.ctrLines - 1
     up.coreUp = true ∧ 11 < 12 ∧ l < 2 ^ 19 ∧ up.agentFailed 11 = false ∧ up.ctrLine l = true ∧ up.poisoned l = false ∧
       up.clk.dt < dtWrap ∧ smGet 0 up.coh.atomicAt (homeOf l) ≤ up.clk.age ∧
       (∀ n ∈ up.coh.net, n.msg.dest = 16 + homeOf l → up.clk.age < n.due)) ∧
    (let s := coh fun c => { c with seniors := [⟨lastLine, 8, 2 ^ 62 - 1⟩] }
     s.coh.seniors = [⟨lastLine, 8, 2 ^ 62 - 1⟩] ∧ s.clk.age < 2 ^ 63) ∧
    ((trans1 [] (some 11) false (.fwdDone 11 lastLine)).coh.trans = [⟨lastLine, some (req1 8 lastLine), [], some 11, none, false, false, none, 2 ^ 62 - 1⟩]) ∧
    (bit (0x8007FFFF : Word) 31 = true) ∧
    (let v : Word := 0x80000001
     let i := up.rf Reg.cohereActIndex 0 20
     up.fwUp = true ∧ up.coh.mailbox = none ∧ v &&& 0x7FFFFFF8#32 = 0 ∧ up.coh.mailboxNext = false ∧ up.coh.failed = 0 ∧ up.coh.trans = [] ∧
       up.coh.waiting = [] ∧ up.coh.seniors = [] ∧ up.coh.closing = [] ∧ up.coh.caches = [] ∧ up.coh.net = [] ∧ up.coh.dir = [] ∧
       up.ctrLine (i / 2) = false ∧ up.inPool i = false ∧ up.poisoned (i / 2) = false ∧ up.single ∧ up.twin.mirrors = [] ∧ up.named i = false) ∧
    (let s := upReg Reg.cohereActIndex (w32 up.coh.ctrBase)
     s.fwUp = true ∧ s.ctrLine (s.rf Reg.cohereActIndex 0 20) = true ∧ s.poisoned (s.rf Reg.cohereActIndex 0 20) = false) := by
  unfold State.single; decide +kernel

/-! ## Chapter 8 -/

def fabbed (f : FabSt → FabSt) (s : State := up) : State := { s with fab := f s.fab }
def root : State :=
  fabbed fun x => { x with joined := true, depth := 1, fe := 5, up := [.d1], members := [⟨0, 0, 0⟩, ⟨8, 1, 0⟩], slots := [(63, 0x00010000)]
                           routes := [(8, .d1)] }
def below : State := fabbed (fun x => { x with up := [.d0, .d1], slots := [(63, 0x00010003)] }) member

theorem test_meets_FabricMembershipCompletes_join :
    (let q := rq [0x00070000, 254]
     let s := up
     Taken Op.fabricJoin q s ∧ q.stray 0 0x1701FF = false ∧ q.stray 1 0xFF = false ∧ q.f 0 16 3 ≠ 0 ∧ 128 ≤ q.f 1 0 8 ∧ q.f 1 0 8 ≤ 254 ∧
       s.fab.joined = false ∧ s.fab.join = none ∧ 4 ≤ s.quantum ∧ q.b 0 20 = false ∧ q.f 0 0 9 = 0) ∧
    (let q := rq [0x000101FF, 0]
     let s := fabbed fun x => { x with up := [.d0] }
     Taken Op.fabricJoin q s ∧ q.stray 0 0x1701FF = false ∧ q.f 1 0 8 = 0 ∧ q.f 0 0 9 ≠ 0 ∧ s.linkIsUp .d0 = true ∧ 4 ≤ s.quantum) := by
  unfold Taken; decide +kernel

theorem test_meets_FabricMembershipCompletes_rest :
    (Taken Op.fabricLeave (rq [0]) member ∧ (rq [0]).stray 0 0x101FF = false ∧ member.fab.joined = true ∧ (rq [0]).b 0 16 = false ∧
      member.hasChildren = false ∧ member.fab.leaves = []) ∧
    (Taken Op.fabricLeave (rq [0x10004]) root ∧ (rq [0x10004]).b 0 16 = true ∧ root.coordinator = true ∧ root.fab.leaves = [] ∧
      root.fab.members.any (fun m => m.addr / 2 == (rq [0x10004]).f 0 0 9) = true) ∧
    (Taken Op.fabricStatus (rq []) up ∧ up.fab.joined = false ∧ Taken Op.fabricStatus (rq []) root ∧ root.fab.joined = true ∧
      LinkId.d1 ≠ .d0 ∧ LinkId.d1 ≠ .mitre ∧ root.fab.pendJoins = []) ∧
    (let s := fabbed fun x => { x with join := some ⟨⟨4, 0, 0, 4, 1, false, 0, 4⟩, 2 ^ 62 - 1, true⟩ }
     s.fwUp = true ∧ s.fab.join = some ⟨⟨4, 0, 0, 4, 1, false, 0, 4⟩, 2 ^ 62 - 1, true⟩ ∧ s.waits .join = false ∧ s.clk.age < 2 ^ 63 ∧ 2 ^ 62 - 1 < 2 ^ 62) ∧
    (8 ≤ 8 ∧ up.pwr.refclkLost = false ∧ below.fabricTimed = true) := by
  unfold Taken; decide +kernel

def report1 : FabReport := ⟨8000, 1, [], [], [], [], [], [], []⟩
def decision1 : FabDecision := ⟨12000, 5, 4, [], [], [], [], [], [], none, []⟩

theorem test_meets_FabricDecisionsComplete :
    (below.coreUp = true ∧ below.fab.joined = true ∧ LinkId.d1 ≠ .d0 ∧ below.coordinator = false ∧ below.fab.level ≠ 0 ∧
      below.cutOff = false ∧ below.deafOn .d0 = false ∧ below.fab.decision ≠ some decision1) ∧
    (let s := fabbed (fun x => { x with report := some report1 }) root
     s.coreUp = true ∧ s.fab.joined = true ∧ s.coordinator = true ∧ s.fab.report = some report1 ∧ report1.boundary = report1.boundary ∧
       s.fab.level = 0) ∧
    (let s := fabbed (fun x => { x with glueBase := 254, lastDecision := 2 ^ 61 - 1 }) (glued root 254 .opened 1)
     s.coreUp = true ∧ s.fabricIds [.opened, .clamping] = [254] ∧ (s.glueUp 254).st = .opened ∧ s.pwr.entry = none ∧ s.clk.age < 2 ^ 63 ∧
       s.fab.lastDecision < 2 ^ 61) := by decide +kernel

def search1q : Request := rq [0x00081001, 0xAB, 0, 0]
def freq (init ident : Nat) : FabRequest := ⟨init, ident, 63, 0, 5, 1, false, 0, true, 8, 0xAB⟩

theorem test_meets_FabricSearchesComplete_requests :
    (Taken Op.fabricSearch search1q below ∧ below.fabCheck search1q = 0) ∧
    (let s := fabbed (fun x => { x with launches := [search1q] }) below
     s.coreUp = true ∧ s.fab.joined = true ∧ s.fwUp = true ∧ s.fab.launches = search1q :: [] ∧ s.fabCheck search1q = 0 ∧
       s.nextOwned.isSome = true ∧ s.fab.level ≠ 0) ∧
    (let r := freq 0 1024
     root.coreUp = true ∧ root.fab.joined = true ∧ root.fab.level = 0 ∧
       root.clk.dt ≤ (r.launched + 8 + 64 * (root.fab.depth - 1)) * dtUnit ∧ slotOf (smGet 0#32 root.fab.slots r.slot) (r.initiator / 2) = true) ∧
    (let r := freq 0 1024
     let s : State := { root with clk := { root.clk with dt := 9 * dtUnit } }
     s.fab.level = 0 ∧ (r.launched + 8 + 64 * (s.fab.depth - 1)) * dtUnit < s.clk.dt ∧ r.ident % 1024 = s.ownAddr ∧ s.fabJob r.ident = none) ∧
    (let r := freq 0 1024
     let s := fabbed (fun x => { x with joined := true, level := 1, node := 3, fe := 5, up := [.d0] }) (tabled)
     s.coreUp = true ∧ s.fab.level ≠ 0 ∧ s.fab.fe + 1 ≠ r.fe ∧ r.fe + 1 ≠ s.fab.fe ∧ s.memberLinks r = [] ∧ s.fabJob r.ident = none ∧
       r.exact = false ∧ s.ternDesc r.table s.glue.c = some desc1 ∧ desc1.width = r.width ∧ up.ternDesc r.table up.glue.c = none) := by
  unfold Taken; decide +kernel

def job1 (await : List LinkId) (own : Option Request) (result : Option FabReply) : FabJob :=
  ⟨freq 0 1024, own, none, true, false, fabReply0, await, result⟩
def jobbed (j : FabJob) (ss : List Search := []) : State :=
  fabbed (fun x => { x with jobs := [j] }) { root with tern := { root.tern with searches := ss } }
def fabSearch1 : Search := { search1 false .waiting with lane := 8, frame := 0, role := 1024, urgent := true }

theorem test_meets_FabricSearchesComplete_jobs :
    (let s := jobbed (job1 [.d1] none none) [fabSearch1]
     s.coreUp = true ∧ s.fab.joined = true ∧ s.fabJob 1024 = some (job1 [.d1] none none) ∧
       s.tern.searches.find? (fun x => x.lane == 8 && x.frame == 0 && x.role == 1024 && x.phase != .granted) = some fabSearch1 ∧
       (job1 [.d1] none none).await ≠ [] ∧ LinkId.d1 ≠ .d0 ∧ (job1 [.d1] none none).await.contains .d1 = true ∧
       (job1 [.d1] none none).open_ = true) ∧
    (let j := job1 [] (some search1q) (some fabReply0)
     (jobbed j).fabJob 1024 = some j ∧ j.own = some search1q ∧ j.result = some fabReply0 ∧ fabReply0.refused = false ∧
       fabReply0.incomplete = false) := by decide +kernel

def twinned (f : TwinSt → TwinSt) (s : State := up) : State :=
  { s with twin := f { s.twin with config := some false, linkUp := true, formed := true, partnerSeen := true } }
def following (f : TwinSt → TwinSt) (s : State := up) : State := twinned (fun t => f { t with config := some true }) s

theorem test_meets_TwinsComplete_commands :
    (Taken Op.twinConfig (rq [0]) up ∧ (rq [0]).stray 0 0x13 = false ∧ up.fab.joined = false ∧ up.twin.mirrors = [] ∧
      up.waits .resync = false ∧ (rq [0]).f 0 0 2 = 0 ∧ Taken Op.twinConfig (rq [0x11]) up ∧ (rq [0x11]).stray 0 0x13 = false ∧
      (rq [0x11]).f 0 0 2 = 1 ∧ up.twin.config ≠ some ((rq [0x11]).b 0 4)) ∧
    (Taken Op.twinStatus (rq []) up ∧ up.twin.resync = none) ∧
    (let s := twinned fun t => { t with diverged := true }
     Taken Op.twinResync (rq [1]) s ∧ (rq [1]).stray 0 0x3 = false ∧ s.twin.diverged = true ∧ s.twin.resync = none ∧
       s.partnerPresent = true) ∧
    (let s := twinned id
     Taken Op.twinResync (rq [2]) s ∧ (rq [2]).b 0 1 = true ∧ s.twin.resync = none ∧ s.partnerPresent = true) := by
  unfold Taken; decide +kernel

def mirror1 (final : Option (Nat × List Word)) : MirrorWait := ⟨3, Op.glueAbort, rq [9], 9, final⟩
def open9 : MirrorOp := ⟨3, Op.glueOpen, [], [9]⟩

theorem test_meets_TwinsComplete_events :
    (let s := twinned id
     s.coreUp = true ∧ s.twin.config = some false ∧ s.twin.linkUp = true ∧ s.twin.partnerSeen = true ∧ s.twin.misses + 1 ≠ 3) ∧
    (let s := twinned fun t => { t with misses := 2 }
     s.twin.partnerSeen = true ∧ s.twin.misses = 2 ∧ s.twin.formed = true ∧ s.twin.lost = false ∧ s.twin.mirrors = []) ∧
    (let s := following id
     s.fwUp = true ∧ s.followRefuses = true ∧ s.twin.resync = none ∧ open9.op = Op.glueOpen ∧ s.twin.waitOps = [] ∧ s.twin.prepared = [] ∧
       open9.glue ≠ 0 ∧ (s.glueUp open9.glue).st = .free) ∧
    ((twinned fun t => { t with mirrors := [mirror1 none] }).twin.mirrors = [mirror1 none] ∧ (mirror1 none).final = none ∧
      (mirror1 (some (0, []))).final = some (0, [])) ∧
    (let s := twinned fun t => { t with resync := some ⟨true, false, false, false⟩ }
     s.coreUp = true ∧ s.twin.resync = some ⟨true, false, false, false⟩ ∧ s.waits .resync = false ∧ s.fab.joined = false ∧
       s.boundary.twin.resync = some ⟨true, false, false, false⟩ ∧ s.boundary.waits .resync = false) ∧
    (let s := twinned (fun t => { t with resync := some ⟨false, true, true, true⟩ }) root
     s.coreUp = true ∧ s.fab.joined = true ∧ s.twin.resync = some ⟨false, true, true, true⟩ ∧ s.waits .resync = false) ∧
    (let s := twinned (fun t => { t with resync := some ⟨false, true, true, false⟩ }) root
     s.fab.joined = true ∧ s.twin.resync = some ⟨false, true, true, false⟩ ∧ s.waits .resync = false) := by decide +kernel

theorem test_meets_TwinClampsComplete :
    (let s := following id (glued up 255 .opened 1)
     s.coreUp = true ∧ s.followRefuses = true ∧ s.twin.prepared = [] ∧ s.holdsAll 255 = true) ∧
    (let p : PrepJob := ⟨[255], 1000000, 2 ^ 62 - 1, false, false⟩
     let s := twinned (fun t => { t with preps := [p] }) (glued up 255 .clamping 1)
     s.twin.preps = [p] ∧ p.committed = false ∧ p.alone = false ∧ s.twin.mirrors = [] ∧ s.clk.age < 2 ^ 63 ∧ p.since < 2 ^ 62 ∧
       s.boundaryAfter 400 ≤ p.target) ∧
    (let p : FollowPrep := ⟨[255], true, 2 ^ 62 - 1, none, false⟩
     let s := following (fun t => { t with prepared := [p] }) (glued up 255 .clamping 1)
     s.twin.prepared = [p] ∧ p.ready = true ∧ p.commitAt = none ∧ s.clk.dt + 250 * s.tickUnits ≤ 200 * dtUnit ∧
       199 * dtUnit < s.clk.dt + 250 * s.tickUnits ∧ s.twin.mirrors = [] ∧ s.twin.formed = true ∧ s.twin.diverged = false ∧
       s.noPhase = false) ∧
    (let s := twinned id
     s.twin.formed = true ∧ s.twin.diverged = false ∧ s.noPhase = true ∧ s.pwr.entry = none ∧ s.twin.mirrors = []) := by decide +kernel

/-! ## Chapter 11 -/

def secured (f : SecSt → SecSt) : State := { up with sec := f { up.sec with log := [some 1] } }

/-- RFC 3394, 4.1: a 128-bit KEK wraps 128 bits of key data. -/
def kek1 : List Byte := (List.range 16).map (BitVec.ofNat 8)
def wrapped1 : List Word := wordsOf 6 (bytesBE 8 0x1FA68B0A8112B447 ++ bytesBE 8 0xAEF34BD8FB5A7B82 ++ bytesBE 8 0x9D3E862371D2CFE5)

/-- A MACsec transmit session for E31, with AN 3 and PN 1, as session 4,095. -/
def create1 : Request := rq ([0x0FFF0000, 0x0000031F, 0, 0, 1, 0, 0, 0, 0, 0] ++ wrapped1)
def keyed : State := secured fun x => { x with keys := ⟨[(0, some kek1)], none⟩ }

theorem test_key_unwrap :
    keyUnwrap (nats kek1) (nats ((bytesOf (create1.words.drop 10)).take 24)) = some (nats (bytesBE 16 0x00112233445566778899AABBCCDDEEFF)) := by
  decide +kernel

theorem test_meets_SecurityCommandsComplete_sessions :
    (let q := create1
     let s := keyed
     Taken Op.sessionCreate q s ∧ s.lcKeys = true ∧ q.f 0 0 2 = 0 ∧ s.badSession q = false ∧ s.heath.tampPresent = false ∧
       smGet none s.sec.keys.keks (q.f 0 4 4) = some kek1 ∧ q.b 0 8 = false ∧ s.sessionPick q = some 4095 ∧ s.session 4095 = none ∧
       s.findSession (sameBinding (q.session (bytes (nats (bytesBE 16 0x00112233445566778899AABBCCDDEEFF))))) = none) ∧
    (let q := rq [0x00001F01, 0, 0, 0]
     Taken Op.sessionCreate q keyed ∧ q.f 0 0 2 = 1 ∧ q.badSecCfg = false) ∧
    (let s := keyed.setSession 4095 (some (create1.session []))
     Taken Op.sessionDelete (rq [4095]) s ∧ (rq [4095]).stray 0 0xFFF = false ∧ (s.session ((rq [4095]).f 0 0 12)).isSome = true ∧
       Taken Op.sessionStatus (rq [4095]) s) := by
  unfold Taken; decide +kernel

theorem test_meets_SecurityCommandsComplete_sealed :
    let s : State := { keyed with heath := { keyed.heath with windowEnd := some 5 } }
    (s.keyRefused = 0 ∧ Taken Op.keyLoad (rq [0x20F, 1, 2, 3, 4, 5, 6, 7, 8]) s ∧ (rq [0x20F, 1, 2, 3, 4, 5, 6, 7, 8]).badKey 16 = false ∧
      (rq [0x20F, 1, 2, 3, 4, 5, 6, 7, 8]).key.isSome = true ∧ Taken Op.fabricKeySet (rq [0x200, 1, 2, 3, 4, 5, 6, 7, 8]) s ∧
      (rq [0x200, 1, 2, 3, 4, 5, 6, 7, 8]).badKey 1 = false ∧ (rq [0x200, 1, 2, 3, 4, 5, 6, 7, 8]).b 0 9 = true) ∧
    (let q := rq [0x4C430002]
     Taken Op.lifecycleSet q s ∧ q.stray 0 0xFFFF000F = false ∧ q.f 0 16 16 = 0x4C43 ∧ lcAllowed s.lifeCycle (q.f 0 0 4) = true ∧
       s.sec.log.length < 62) ∧
    Taken Op.tamperRead (rq []) s ∧ Taken Op.tamperClear (rq []) s := by
  unfold Taken; decide +kernel

def pressed (f : HeathSt → HeathSt) : State := { up with heath := f { up.heath with presLow := true, sealOpen := true, sealOk := true } }

theorem test_meets_SecurityEventsComplete :
    (up.coreUp = true ∧ up.heath.presLow = false ∧ up.pwr.entry = none) ∧
    (let s := pressed id
     s.coreUp = true ∧ s.heath.presLow = true ∧ 65536 ≤ 65536 ∧ 327680 ≤ 327680 ∧ s.heath.sealOk = true ∧ s.heath.sealOpen = true ∧
       s.pwr.state = .run ∧ 65535 < 65536 ∧ 327680 < 327681) ∧
    ((pressed fun h => { h with windowEnd := some 5 }).heath.windowEnd ≠ none) ∧
    ((upReg Reg.heathTampCtrl 3).coreUp = true ∧ (upReg Reg.heathTampCtrl 3).rb Reg.heathTampCtrl (1 : Fin 2) = true) ∧
    (let s := secured fun x => { x with burning := some (2, rq [0x4C430002]) }
     s.fwUp = true ∧ s.sec.burning = some (2, rq [0x4C430002]) ∧ 2 ≠ 5 ∧ lcAllowed s.lifeCycle 2 = true ∧ s.sec.log.length < 62) := by
  decide +kernel

/-! ## Chapters 14 and 12 -/

def powered (f : PowerSt → PowerSt) (s : State := up) : State := { s with pwr := f s.pwr }

theorem test_meets_PowerCommandsComplete_commands :
    (Taken Op.powerReport (rq []) up ∧ Taken Op.powerState (rq [0]) up ∧ (rq [0]).stray 0 0x7 = false ∧ (rq [0]).f 0 0 3 = 0 ∧
      Taken Op.powerState (rq [1]) up ∧ (rq [1]).f 0 0 3 = 1) ∧
    (let s := upReg Reg.heathWakeCtrl 0x4000
     Taken Op.powerState (rq [2]) s ∧ (rq [2]).f 0 0 3 = 2 ∧ s.anyWake (powerOf 2) = true ∧ Taken Op.powerState (rq [3]) s ∧
       (rq [3]).f 0 0 3 = 3 ∧ s.anyWake (powerOf 3) = true ∧ (rq [2]).stray 0 0x7 = false) ∧
    (let s := (upReg Reg.heathWakeCtrl 0x4030).wr Reg.heathFallowCtrl 1
     Taken Op.powerState (rq [4]) s ∧ (rq [4]).f 0 0 3 = 4 ∧ s.rb Reg.heathFallowCtrl 0 = true ∧ s.anyWake (powerOf 4) = true) ∧
    (let q := rq [0x01007FF1, 5]
     Taken Op.wakeConfig q up ∧ q.stray 0 0xFFFF7FF1 = false ∧ q.f 0 24 8 ≠ 0 ∧
       firstBelow 4 (fun n => q.b 0 (4 + n) && nfld up.time.capture n 1 == 1) = none) := by
  unfold Taken; decide +kernel

theorem test_meets_PowerCommandsComplete_calibration :
    (let s : State := { up with heath := { up.heath with windowEnd := some 5 } }
     Taken Op.calRestoreFactory (rq []) s ∧ s.lifeCycle ≠ 2) ∧
    (let s := upReg Reg.powerCalSel 0x3302
     s.fwUp = true ∧ bit (0x80000001 : Word) 31 = true ∧ s.rf Reg.powerCalSel 0 4 = 2 ∧ s.rf Reg.powerCalSel 8 6 = 51 ∧
       calExists 2 51 = true ∧ s.pwr.calReqs = 0 ∧ fld (0x80000000 : Word) 0 2 = 0 ∧ fld (0x80000001 : Word) 0 2 = 1 ∧ 2 ≤ 5) ∧
    (let s := powered fun p => { p with calWrites := 1 }
     s.fwUp = true ∧ s.pwr.calWrites ≠ 0) ∧
    (let s : State := { State.reset with pwr := { powerReset with calReqs := 1 } }
     s.coreUp = true ∧ s.fwUp = false) := by
  unfold Taken; decide +kernel

def holding (f : PowerSt → PowerSt) : State := powered f

theorem test_meets_ResetsComplete :
    (let s := powered fun p => { p with rails := [(0, 1800)], vio2Strap := 0x81 }
     (∀ r ∈ (List.range 13).filter (1 ≤ ·), smGet 0 s.pwr.rails r ≤ 75) ∧ s.pwr.vio2Strap = 0x81) ∧
    (let s := powered fun p => { p with rails := [(0, 1800), (1, 750)], coreEn := true }
     let u (mv : Nat) : State := { s with pwr := { s.pwr with rails := smSet 0 s.pwr.rails Rail.vdda.num mv, vio2Strap := 0 } }
     s.pwr.holdVaon = false ∧ s.pwr.ioFirst = false ∧ s.orderFault = none ∧ (u 90).orderFault = none ∧ (u 810).orderFault = none ∧
       Rail.vdda ≠ .vddc ∧ 10 * 90 ≤ s.nominal Rail.vdda.num ∧ 9 * s.nominal Rail.vdda.num ≤ 10 * 810) ∧
    (let s := up
     let u : State := { s with pwr := { s.pwr with rails := smSet 0 s.pwr.rails Rail.vdda.num 0 } }
     s.pwr.ioFirst = false ∧ s.orderFault = none ∧ u.orderFault.isSome = true ∧ s.coreOn = true) ∧
    (1000 ≤ 1000 ∧ up.pwr.holdVaon = false ∧ (powered fun p => { p with holdRst := true }).pwr.holdRst = true ∧ 9999 < 10000) ∧
    ((powered fun p => { p with holdSysclk := true }).pwr.holdSysclk = true ∧ up.coreUp = true ∧ up.pwr.holdTherm = false) ∧
    (let s := (powered fun p => { p with holdTherm := true }).wr Reg.heathThermCtrl 1
     s.pwr.holdTherm = true ∧ s.rb Reg.heathThermCtrl 0 = true) := by decide +kernel

def entering : State := powered fun p => { p with entry := some ⟨.watch, true, 0, none, false⟩ }
def watching : State := (powered (fun p => { p with state := .watch }) (upReg Reg.heathWakeCtrl 0x608F))

theorem test_meets_StandbyAndStartComplete_states :
    (let e : Entry := ⟨.watch, true, 0, none, false⟩
     entering.coreUp = true ∧ entering.pwr.entry = some e ∧ entering.entryReady e = true ∧ entering.waits .powerEntry = false ∧
       entering.repliesOut = true ∧ e.target = .watch ∧ e.latched = none) ∧
    (let s := powered fun p => { p with dozeOn := true }
     s.coreUp = true ∧ s.pwr.dozeOn = true ∧ s.pwr.state = .run ∧ s.pwr.entry = none ∧ s.sw.frames = [] ∧ s.sw.copies = [] ∧
       s.cmdq.cmds = [] ∧ s.boundaryWork = false) ∧
    (let s : State := { up with time := { up.time with capture := 8 } }
     s.pwr.entry = none ∧ s.pwr.state = .run ∧ s.coreUp = true ∧ nfld s.time.capture (3 : Fin 4) 1 = 1) ∧
    (let s := powered (fun p => { p with starting := true, booted := false, fwReady := false })
     s.coreUp = true ∧ s.pwr.starting = true ∧ s.pwr.booted = false) ∧
    (State.reset.coreUp = true ∧ State.reset.pwr.starting = true ∧ State.reset.pwr.booted = true ∧ State.reset.clk.age < 2 ^ 63 ∧
      State.reset.scr.clearEnd < 2 ^ 62) := by decide +kernel

theorem test_meets_StandbyAndStartComplete_wakes :
    (watching.pwr.state = .watch ∧ watching.pwr.entry = none ∧ watching.rb Reg.heathWakeCtrl (8 + (3 : Fin 4).val) = false ∧
      watching.wakeEnabled 1 (3 : Fin 4) = true ∧ watching.spiUp = true ∧ watching.rb Reg.heathWakeCtrl 13 = true ∧
      watching.rb Reg.heathWakeCtrl 14 = true) ∧
    (let s : State := { (watching.wr Reg.heathRtcAlarm 1) with heath := { up.heath with rtc := 65535 } }
     (s.rd Reg.heathRtcAlarm).toNat * 32768 ≤ s.heath.rtc ∧ s.heath.rtc < (s.rd Reg.heathRtcAlarm).toNat * 32768 + 32768 ∧
       s.pwr.entry = none ∧ up.pwr.state = .run ∧ up.pwr.starting = false) ∧
    (({ up with heath := { up.heath with wakeOut := some 5 } } : State).heath.wakeOut ≠ none) ∧
    (let pats := [(15, [0x00080110, 5, 0x1FFFFFFF, 0, 0, 0, 0, 0])]
     let s : State := { watching with heath := { up.heath with desig := [63, 0x7F, 0x7F, 0x7F], wakeRc := true, patterns := pats } }
     s.matcherOn = true ∧ s.desigOf 63 = some 0 ∧ s.heath.wakeRc = true ∧ slow1.good = true ∧ slow1.remote = false ∧ slow1.runt = false ∧
       (firstBelow 16 (fun i => patternMatches (smGet [] s.heath.patterns i) 0 slow1)).isSome = true) := by decide +kernel

theorem test_meets_StandbyAndStartComplete_lanes :
    (let s := upReg Reg.powerLaneCtrl 1
     s.coreUp = true ∧ 7 < 8 ∧ s.laneOn 7 = true ∧ s.minLanes < ((List.range 8).filter s.laneOn).length ∧ s.laneLoad 7 = 0 ∧
       s.agentReads 7 = false ∧ (∀ k, k < 8 → 7 < k → s.laneOn k = false)) ∧
    (let s := powered fun p => { p with lanes := 0x7F, ungating := [7] }
     s.coreUp = true ∧ s.pwr.ungating = [7] ∧ s.laneOn 7 = false) := by decide +kernel

def scr1 (m : Fin 7) (o : BitVec 22) : ScratchReq := ⟨m, .write, o, 0xFF, 5, false, false, 0⟩

theorem test_meets_ScratchAccessesComplete :
    (up.coreUp = true ∧ up.scr.waits = [] ∧ up.arb.locks = [] ∧ up.glean.window = none ∧ up.scr.hostNext = false ∧ up.clearing = false) ∧
    ((scr1 1 0x37FFF8).bank = (15 : Fin 16).val ∧ (scr1 1 0x37FFF8).letter = 0 ∧ (scr1 1 0x37FFF8).master ≠ 4 ∧ (scr1 1 0x37FFF8).lock = 0 ∧ (scr1 1 0x37FFF8).barred = false ∧
      up.badBytes (scr1 1 0x37FFF8).word = 0) ∧
    ((scr1 5 0x3FFFF8).bank = (15 : Fin 16).val ∧ (scr1 5 0x3FFFF8).letter = 1 ∧ (scr1 5 0x3FFFF8).master ≠ 4 ∧
      (scr1 5 0x3FFFF8).barred = true) ∧
    (let s := upReg Reg.scratchHostAddr 0x37FFF8
     s.rf Reg.scratchHostAddr 3 19 * 8 = 0x37FFF8 ∧ 0x37FFF8 < 0x380000 ∧ s.badBytes 0x37FFF8 = 0 ∧ s.scr.waits = []) := by decide +kernel

def gleaning (f : GleanSt → GleanSt) (s : State := up) : State := { s with glean := f s.glean }

/-- Table 2 with a committed entry whose image parity bit is wrong, and its failure in the queue. -/
def spoiled : State :=
  let s := exEntered (exTabled) home1
  let s := s.setSlot home1 { s.slot home1 with parity := !(s.slot home1).parity }
  { s with exm := { s.exm with gleanQ := [⟨2, home1, true⟩] } }

theorem test_meets_GleanerCompletes_walks :
    (let s := (tabled).wr Reg.gleanerCtrl 1
     s.coreUp = true ∧ s.rb Reg.gleanerCtrl 0 = true ∧ s.nextAssigned s.glean.ternNext = some 0 ∧ (s.row 0).ok = true ∧ (s.word 0).ok = true ∧
       (if 0 + 1 < 2097152 then s.nextAssigned (0 + 1) else none) = some 1) ∧
    ((upReg Reg.gleanerCtrl 2).rb Reg.gleanerCtrl 1 = true ∧ (up.slot up.glean.exactNext).ok = true) ∧
    (let s : State := { (upReg Reg.gleanerCtrl 4) with scr := { up.scr with bad := [(0, true)] } }
     s.rb Reg.gleanerCtrl 2 = true ∧ s.glean.window.all (fun w => w.bank != s.glean.scrubNext % 16) = true ∧ s.badBytes (8 * s.glean.scrubNext) ≠ 0) ∧
    (spoiled.exm.gleanQ = ⟨2, home1, true⟩ :: [] ∧ (spoiled.slot home1).ok = false ∧ (spoiled.slot home1).tag = 0 ∧
      spoiled.exm.inserts = [] ∧ spoiled.ownerAt home1 = some (2, exDesc1) ∧ exDesc1.w = 1 ∧ (spoiled.slot home1).state = .live ∧
      spoiled.canAsk = false) ∧
    (let s : State := { up with exm := { up.exm with gleanQ := [⟨2, 0, true⟩] }, tern := { up.tern with gleanQ := [⟨1, 0, true⟩] } }
     (s.slot 0).ok = true ∧ s.tern.gleanQ = ⟨1, 0, true⟩ :: [] ∧ s.findSlot 1 0 = none) := by decide +kernel

theorem test_meets_GleanerCompletes_repairs :
    ((twinned id).coreUp = true ∧ (twinned id).canAsk = true) ∧
    (let r : Repair := ⟨true, 2, 5, 0, 2 ^ 62 - 1⟩
     let s := gleaning fun g => { g with repairs := [r] }
     s.coreUp = true ∧ s.glean.repairs = [r] ∧ r.exact = true ∧ s.clk.age < 2 ^ 63 ∧ r.since < 2 ^ 62) ∧
    (let r : Repair := ⟨false, 1, 0, 0, 0⟩
     let s := gleaning (fun g => { g with repairs := [r] }) (entered (tabled) 0)
     s.glean.repairs = [r] ∧ r.exact = false ∧ s.findSlot 1 0 = some (desc1, 0, 0, 0) ∧
       s.slotClaimed 1 0 0 (s.placeAt desc1 0 0).tag = false) := by decide +kernel

def windowed : State := gleaning fun g => { g with window := some ⟨15, 111, 0⟩, nextWindow := 1791 }
def urgent1 : ScratchWait := ⟨{ scr1 6 0x37FFF8 with urgent := true }, 0, false, false⟩

theorem test_meets_GleanerCompletes_windows :
    (let s := upReg Reg.gleanerCtrl 8
     s.coreUp = true ∧ s.rb Reg.gleanerCtrl 3 = true ∧ s.glean.window = none ∧ s.arb.locks = [] ∧ s.clk.age < 2 ^ 62 ∧
       s.glean.lastWindow ≤ s.clk.age) ∧
    (windowed.coreUp = true ∧ windowed.glean.window = some ⟨15, 111, 0⟩) ∧
    (let s : State := { windowed with scr := { windowed.scr with waits := [urgent1] } }
     s.scr.waits = [urgent1] ∧ s.inWindow urgent1.req = true ∧ s.isUrgent urgent1.req = true) := by decide +kernel

/-! ## Chapter 15 -/

def updating (f : UpdSt → UpdSt) (s : State := up) : State := { s with upd := f s.upd }

/-- The last chunk of two, one byte long, on a PCI Express stream. -/
def chunkData : List Byte := [0xA5]
def chunk1 : Request := ⟨.pcie 15, 7, 0, 0, [0x00010201, 9, w32 (flashCrc chunkData), 0xA5]⟩
def chunk1w : ChunkWrite := ⟨1, 2, 9, w32 (flashCrc chunkData), chunkData, some chunk1, none, false⟩

/-- A download of two chunks of which `n` are done. -/
def loaded (n : Nat) (s : State := up) : State :=
  (List.range n).foldl (fun s k => s.record 2 k 2 9 0) (s.record 1 0 2 9 0)

theorem test_meets_UpdateCommandsComplete_chunks :
    (let q := chunk1
     let s := upReg Reg.updateLock 7
     let c := chunk1w
     Taken Op.updateChunk q s ∧ s.rb Reg.updateLock 0 = true ∧ q.stray 0 0x1FFF7F1F = false ∧
       c = ⟨q.f 0 0 5, q.f 0 8 5, q.w 1, q.w 2, (bytesOf (q.words.drop 3)).take (q.f 0 16 13), some q, none, false⟩ ∧ c.shapeOk = true ∧
       c.data.length = q.f 0 16 13 ∧ q.words.length = 3 + ceilDiv (q.f 0 16 13) 4 ∧ s.upd.onTrial = false ∧ s.bankHeld = false ∧
       s.download = none ∧ flashCrc c.data = c.check.toNat ∧ q.b 0 14 = false ∧ s.pwr.recovery = false ∧ s.upd.chunks = []) ∧
    (Taken Op.updateVerify (rq []) (loaded 2) ∧ (loaded 2).updBusy = false ∧ (loaded 2).downloaded = true) := by
  unfold Taken; decide +kernel

def ptrWith (f : BootPtr → BootPtr) (s : State) : State := s.writePtr (f ptr0)
def sealOpened (s : State) : State := { s with heath := { s.heath with windowEnd := some 5 } }

theorem test_meets_UpdateCommandsComplete_images :
    (let s := updating (fun u => { u with verified := true }) (upReg Reg.updateLock 7)
     Taken Op.updateActivate (rq [2]) s ∧ s.rb Reg.updateLock 1 = true ∧ s.upd.onTrial = false ∧ s.upd.verified = true ∧
       s.belowFloor s.inactive = false ∧ s.pwr.recovery = false ∧ (rq [2]).b 0 1 = true) ∧
    (let s := { (updating fun u => { u with onTrial := true }) with clk := { up.clk with age := 2 ^ 48 } }
     Taken Op.updateConfirm (rq [0]) s ∧ s.upd.onTrial = true ∧ (rq [0]).b 0 0 = false ∧ s.healthOk = true ∧
       Taken Op.updateConfirm (rq [1]) s ∧ (rq [1]).b 0 0 = true) ∧
    (let s := sealOpened (ptrWith (fun p => { p with prevOk := true }) (upReg Reg.updateLock 7))
     Taken Op.forceFallback (rq []) s ∧ s.rb Reg.updateLock 1 = true ∧ s.ptr.prevOk = true ∧ s.belowFloor (!s.upd.bank) = false) ∧
    Taken Op.updateStatus (rq []) up := by
  unfold Taken; decide +kernel

/-- A GOVERNOR_SET for settings record 1,023. -/
def saved1 : Request := rq ([0x03FF0000] ++ wordsOf 4 (header 3 1 Op.governorSet 0 2 0 0 0) ++ [32, 256])
def relaying (s : State := up) : State := updating (fun u => { u with verified := true }) (fabbed (fun x => { x with up := [.d1] }) s)

theorem test_meets_UpdateCommandsComplete_rest :
    (let q := rq [0x102, 0]
     let s := relaying
     Taken Op.updateRelay q s ∧ q.stray 0 0x11F = false ∧ q.w 1 = 0 ∧ s.updBusy = false ∧ q.b 0 0 = false ∧ s.upd.verified = true ∧
       allLinks.filter (fun l => q.b 0 l.num) = [.d1] ∧ s.linkIsUp .d1 = true) ∧
    (let q := saved1
     Taken Op.settingsSave q up ∧ q.stray 0 0x03FF0003 = false ∧ up.upd.apply = none ∧ q.f 0 0 2 = 0 ∧ 5 ≤ q.words.length ∧
       q.words.length = 5 + q.packet.plen ∧ recordOk q.packet = true ∧ up.ownStore.size + 16 + 4 * q.packet.plen ≤ 262144) ∧
    (let q := rq [0x03FF0001]
     Taken Op.settingsSave q up ∧ q.f 0 0 2 = 1 ∧ smGet [] up.ownStore.records (q.f 0 16 10) = []) ∧
    (Taken Op.settingsSave (rq [2]) up ∧ (rq [2]).f 0 0 2 = 2 ∧ (rq [2]).words.length = 1) := by
  unfold Taken; decide +kernel

theorem test_meets_UpdateEventsComplete_own :
    (let s := updating fun u => { u with chunks := [chunk1w] }
     s.coreUp = true ∧ s.pwr.fwReady = true ∧ s.upd.chunks = [chunk1w] ∧ chunk1w.link = none ∧ chunk1w.retried = false) ∧
    (let s := updating fun u => { u with verifying := some (some (rq [])) }
     s.pwr.fwReady = true ∧ s.upd.verifying = some (some (rq []))) ∧
    ((updating fun u => { u with restart := true }).upd.restart = true) ∧
    (let s := ptrWith (fun p => { p with auto := true }) (updating fun u => { u with onTrial := true, readyAt := 2 ^ 61 - 1 })
     s.fwUp = true ∧ s.upd.onTrial = true ∧ s.upd.restart = false ∧ s.ptr.auto = true ∧ s.upd.unreadable = false ∧
       s.sec.internalFault = false ∧ s.clk.age < 2 ^ 63 ∧ s.upd.readyAt < 2 ^ 61) ∧
    (let s := updating fun u => { u with settings := [⟨1023, [1], rq []⟩] }
     s.fwUp = true ∧ s.upd.settings = [⟨1023, [1], rq []⟩]) ∧
    (let s := updating fun u => { u with apply := some ⟨1, 0, none, rq []⟩ }
     s.fwUp = true ∧ s.upd.apply = some ⟨1, 0, none, rq []⟩ ∧ s.cmdq.cmds.all (fun c => c.q.stream != .internal) = true) := by
  decide +kernel

/-- An image of one body byte under way into bank B, of which chunk 0 is done. -/
def oneByte : State := (loaded 1).flProgram (bankBase true + 18) (bytesLE 4 1)

theorem test_meets_UpdateEventsComplete_relay :
    (let s := oneByte.wr Reg.updateLock 7
     let c : RelayChunk := ⟨1, 2, 9, w32 (flashCrc chunkData), false, chunkData⟩
     let w : ChunkWrite := ⟨c.index, c.total, c.tag, c.check, c.data, none, some .d0, false⟩
     s.coreUp = true ∧ s.pwr.fwReady = true ∧ s.rb Reg.updateLock 2 = true ∧ s.upd.chunks = [] ∧ c.index ≠ 0 ∧ w.shapeOk = true ∧
       s.upd.onTrial = false ∧ s.upd.verifying = none ∧ s.upd.relay = none ∧ s.download = some ⟨2, 9, [(0, 0)]⟩ ∧
       flashCrc c.data = c.check.toNat ∧ s.badLast w = false) ∧
    (let d : Download := ⟨2, 9, [(0, 0)]⟩
     d.tag = 9 ∧ d.total = 2 ∧ (d.check 0).isSome = true ∧ d.check 1 = none) ∧
    (let x : RelayTarget := ⟨.d1, 0, none, 2 ^ 62 - 1⟩
     let r : Relay := ⟨true, 9, [x], false, none⟩
     let s := updating (fun u => { u with relay := some r }) oneByte
     s.pwr.fwReady = true ∧ s.upd.relay = some r ∧ r.targets = [x] ∧ x.result = none ∧ r.who = none ∧ x.next + 1 < (s.relayChunk r 0).total ∧
       s.clk.age < 2 ^ 63 ∧ x.since < 2 ^ 62) := by decide +kernel

/-! ## Chapter 16 -/

theorem test_meets_BallsAndBanks :
    (let s := powered fun p => { p with holdRst := true }
     s.coreUp = false ∧ ∀ r, r < 13 → s.rail r ≠ .low) ∧
    (let s := chanOn canCh
     s.coreUp = true ∧ s.rail (5 + 63 / 8) ≠ .low ∧ (s.chan 63).mode ≠ 0 ∧ (s.chan 63).mode = 1) ∧
    (powered fun p => { p with vio2Sel := 0x80 }).pwr.vio2Sel.getLsbD 7 = true := by decide +kernel

/-- The three balls of the example after R533. -/
theorem test_balls_of_example :
    (ballName 48 17 = "BK17" ∧ ballAt 48 17 = .lane 0 21 true true) ∧ (ballName 28 50 = "AJ50" ∧ ballAt 28 50 = .lane 1 9 false false) ∧
      ballAt 29 50 = .lane 1 9 false true ∧ (ballName 14 20 = "P20" ∧ ballAt 14 20 = .vddc) := by decide +kernel

/-- The balls for which `p` holds. -/
def ballsThat (p : Ball → Bool) : Nat :=
  (List.range 51).foldl (fun n r => n + ((List.range 51).filter (fun c => p (ballAt (r + 1) (c + 1)))).length) 0

/-- Table 16.11. -/
theorem test_ball_counts :
    ballsThat (· == .vss) = 1375 ∧ ballsThat (· == .vddc) = 543 ∧
      ballsThat (fun b => match b with | .lane .. => true | _ => false) = 244 := by decide +kernel

/-! ## The spec's own examples -/

/-- Chapter 2: the request that asks fabric device 37's twin partner to identify itself, and the header of its reply. -/
theorem test_identify_packets :
    (let h := parsePacket .spi [0x03, 0x00, 0x00, 0xCC, 0x01, 0x5A, 0x00, 0x00, 0x00, 0x00, 0x04, 0x00, 0x25, 0x04, 0x00, 0x00]
     h.op = Op.identify ∧ h.q.tag = 0x5A01 ∧ h.q.fwd = true ∧ h.q.addr = 37 ∧ h.q.side = 1 ∧ packetChecks h 16 = 0) ∧
    header 3 0 Op.identify 0x5A01 7 0x8004 0x0425 0 =
      [0x03, 0x00, 0x00, 0xCC, 0x01, 0x5A, 0x00, 0x00, 0x07, 0x00, 0x04, 0x80, 0x25, 0x04, 0x00, 0x00] := by decide +kernel

/-- Chapter 13: BAR2 offset 0x1520, and its other names, are ARRAY_GOV_HELD_COUNT. -/
theorem test_bar2_offset :
    let s := upReg Reg.globalCtrl 0x100
    ∀ o ∈ [0x1420, 0x1520, 0x1620, 0x1720], s.place .bar2 o = some (Reg.arrayGovHeldCount, .normal) := by decide +kernel

/-- Chapter 6: the bucket of the key 0 under the seed 0xFFFF_FFFF. -/
theorem test_bucket_of_zero :
    ExactDesc.bucketOf { exDesc1 with log2 := 16, base := 0x10000, seed := 0xFFFFFFFF } 0 = 79530 := by decide +kernel

/-- Chapter 3: profile 12 of the 160-bit ACL, and the TCP frame on E5 in VLAN 100 from 10.1.2.3 port 40,000 to 10.1.9.20 port 502. -/
def acl : Profile := ⟨1, 20, 0, 0, [0x00078003, 0x04078103, 0x0A0F8602, 0x0E0F8802, 0x06038308, 0x07038008, 0x02058108, 0x038003A8]⟩
def tcp : List Byte :=
  List.replicate 12 0 ++ [0x81, 0x00, 0x00, 0x64, 0x08, 0x00, 0x45, 0x00, 0x00, 0x28, 0, 0, 0, 0, 0x40, 0x06, 0, 0, 10, 1, 2, 3, 10, 1, 9, 20,
    0x9C, 0x40, 0x01, 0xF6] ++ List.replicate 16 0
def aclKey : Nat := ofWords [0x10649C40, 0x050601F6, 0x02030000, 0x09140A01, 0x00000A01]

theorem test_acl_key : acl.key (parseFrame 0 tcp) tcp (metadata (parseFrame 0 tcp) 5 0 0 62 0 0 0) = aclKey := by decide +kernel

/-- Entry A of the example, with its two range slices, matches that key, and not with another destination port. -/
theorem test_acl_ranges :
    let e : NewEntry := ⟨0, 200, 3, 1024 + 2 ^ 28 + 502 * 2 ^ 32 + 6 * 2 ^ 48 + 0x0A0109 * 2 ^ 120,
      65535 + 2 ^ 28 + 502 * 2 ^ 32 + 255 * 2 ^ 48 + 0xFFFFFF * 2 ^ 120, 0⟩
    let d := { desc1 with width := 1 }
    let s := up.writeSlot d 0 0 (e.rows d .live 0) (mkWord 0 0)
    s.entryMatches d 0 aclKey 0 = true ∧ s.entryMatches d 0 (aclKey + 2 ^ 32) 0 = false ∧ s.entryMatches d 0 (aclKey - 38977) 0 = false := by
  decide +kernel

/-- Chapter 3: the /24 row with a flipped VALUE[37] falls back to the /16 of its block; with that corrupt too, to the default route, degraded. -/
def routing (bad16 : Bool) : State :=
  let put (s : State) (n index pri value care : Nat) (flip : Nat) : State :=
    let e : NewEntry := ⟨index, pri, 0, value, care, index⟩
    s.writeSlot desc1 0 n ((e.rows desc1 .live 0).map fun r => { r with value := r.value ^^^ BitVec.ofNat 80 flip }) (mkWord index index)
  let s := put (tabled) 0 16 16 0x0A010000 0xFFFF0000 (if bad16 then 2 ^ 37 else 0)
  put (put s 1 24 24 0x0A010900 0xFFFFFF00 (2 ^ 37)) 1024 1 0 0 0 0

theorem test_parity_fallback :
    (let r := (routing false).searchIn desc1 0 0x0A010914 0 false 1
     r.hits.map (·.index) = [16] ∧ r.fallback = true ∧ r.degraded = false) ∧
    (let r := (routing true).searchIn desc1 0 0x0A010914 0 false 1
     r.hits.map (·.index) = [1] ∧ r.degraded = true) := by decide +kernel

/-- Chapter 4: the positional table with indices 16 to 56 in slots 398 to 403 takes index 52 with 5 relocations, into slot 402. -/
theorem test_positional_insert :
    let d := { desc1 with resolution := 1 }
    let put (s : State) (x : Nat × Nat) : State :=
      s.writeSlot d 0 x.2 ((⟨x.1, 0, 0, x.1, 0xFF, 0⟩ : NewEntry).rows d .live 0) (mkWord x.1 0)
    let base := { (tabled) with tern := { (tabled).tern with tables := smSet ternTable0 [] 1 ⟨[⟨0, some d⟩], 1, .idle⟩ } }
    let s := [(16, 398), (24, 399), (32, 400), (40, 401), (48, 402), (56, 403), (64, 404), (72, 405), (80, 406), (88, 407), (96, 408)].foldl put base
    (match s.placeEntry 1 d 0 9 ⟨52, 0, 0, 52, 0xF0, 0⟩ [] [] with
     | .at_ p => p.place == 402 && p.moves.length == 5
     | _ => false) = true := by decide +kernel

end Sys2Proof.Tests
end

/-! The silence of NO_REPLY (R34): what a request with NO_REPLY set leaves alone when it goes PENDING and when it ends, and how a
failure of such a request is counted and entered. -/

namespace Sys2Proof.Machine

/-! ## Queue pairs -/

@[simp] theorem State.pair_setPair_same (s : State) (n : Nat) (p : QPair) : (s.setPair n p).pair n = p := by
  simp [State.pair, State.setPair]

theorem State.pair_setPair_ne (s : State) {n m : Nat} (p : QPair) (h : m ≠ n) : (s.setPair n p).pair m = s.pair m := by
  simp [State.pair, State.setPair, smGet_smSet_ne _ _ _ _ h]

/-- To store a pair with the replies it held changes the replies held of no pair. -/
theorem State.held_setPair (s : State) {n : Nat} {p : QPair} (h : p.held = (s.pair n).held) (m : Nat) :
    ((s.setPair n p).pair m).held = (s.pair m).held := by
  by_cases e : m = n
  · subst e; rw [s.pair_setPair_same, h]
  · rw [s.pair_setPair_ne p e]

/-! ## What no stream, queue pair, frame or link gets -/

/-- No stream has got a reply: the SPI replies, the replies that each queue pair holds, the in-band streams, the frames of the switch
core and everything that has been sent are the same. -/
def State.SameReplies (s t : State) : Prop :=
  t.cmdq.spiReplies = s.cmdq.spiReplies ∧ (∀ n, (t.pair n).held = (s.pair n).held) ∧ t.cmdq.inband = s.cmdq.inband ∧ t.sw = s.sw ∧
    t.out = s.out

theorem State.SameReplies.trans {s t u : State} (h : s.SameReplies t) (k : t.SameReplies u) : s.SameReplies u := by
  obtain ⟨hspi, hheld, hin, hsw, hout⟩ := h
  obtain ⟨kspi, kheld, kin, ksw, kout⟩ := k
  exact ⟨kspi.trans hspi, fun n => (kheld n).trans (hheld n), kin.trans hin, ksw.trans hsw, kout.trans hout⟩

/-- What leaves the command path, the switch core and the messages sent as they are gives no stream a reply. -/
theorem State.SameReplies.of_eq {s t : State} (hc : t.cmdq = s.cmdq) (hw : t.sw = s.sw) (ho : t.out = s.out) : s.SameReplies t :=
  ⟨by rw [hc], fun n => by simp [State.pair, hc], by rw [hc], hw, ho⟩

theorem State.SameReplies.refl (s : State) : s.SameReplies s := .of_eq rfl rfl rfl

/-- Nor does a change to the records of the outstanding commands. -/
theorem State.SameReplies.of_cmds (s : State) (cs : List Cmd) : s.SameReplies { s with cmdq := { s.cmdq with cmds := cs } } :=
  ⟨rfl, fun _ => rfl, rfl, rfl, rfl⟩

theorem State.pairSettle_replies (s : State) (n : Nat) : s.SameReplies (s.pairSettle n) := by
  unfold State.pairSettle
  dsimp only
  split
  · exact ⟨rfl, s.held_setPair rfl, rfl, rfl, rfl⟩
  · exact .refl s

theorem State.closeCmd_replies (s : State) (q : Request) : s.SameReplies (s.closeCmd q) := by
  unfold State.closeCmd
  split
  · exact .refl s
  · split
    · exact .of_cmds s _
    · split
      · exact .of_cmds s _
      · dsimp only
        split
        · exact (State.SameReplies.of_cmds s _).trans (State.pairSettle_replies _ _)
        · exact .of_cmds s _

theorem State.sealedCount_replies (s : State) (st : Nat) : s.SameReplies (s.sealedCount st) := by
  unfold State.sealedCount
  split
  · exact .of_eq (by simp) (by simp) (by simp)
  · exact .refl s

theorem State.noteFault_replies (s : State) (st : Nat) : s.SameReplies (s.noteFault st) := by
  unfold State.noteFault
  split
  · exact .of_eq rfl rfl rfl
  · exact .refl s

theorem State.noReplyFail_replies (s : State) (op : Nat) (q : Request) (st : Nat) : s.SameReplies (s.noReplyFail op q st) := by
  unfold State.noReplyFail
  split
  · exact .refl s
  · exact .of_eq (by simp) (by simp) (by simp)

/-! ## Registers and events at the end of a command -/

@[simp] theorem State.pairSettle_reg_evt (s : State) (n : Nat) : (s.pairSettle n).reg = s.reg ∧ (s.pairSettle n).evt = s.evt := by
  unfold State.pairSettle
  dsimp only
  split <;> simp

/-- The end of a command touches no register and enters no event. -/
@[simp] theorem State.closeCmd_reg_evt (s : State) (q : Request) : (s.closeCmd q).reg = s.reg ∧ (s.closeCmd q).evt = s.evt := by
  unfold State.closeCmd
  split
  · simp
  · split
    · simp
    · split
      · simp
      · dsimp only
        split <;> simp

@[simp] theorem State.noteFault_reg_evt (s : State) (st : Nat) : (s.noteFault st).reg = s.reg ∧ (s.noteFault st).evt = s.evt := by
  unfold State.noteFault
  split <;> simp

@[simp] theorem State.sealedCount_evt (s : State) (st : Nat) : (s.sealedCount st).evt = s.evt := by
  unfold State.sealedCount
  split <;> simp

/-- The count of refused sealed commands is the one register that it touches. -/
theorem State.rd_sealedCount_ne (s : State) (st : Nat) {a : Nat} (h : a ≠ Reg.cmdqSealedRefusedCount) :
    (s.sealedCount st).rd a = s.rd a := by
  unfold State.sealedCount
  split
  · exact s.rd_cnt_ne 1 h
  · rfl

/-! ## The event of a failure (R34, R450) -/

/-- An event enters a queue with room at its end, and no register changes. -/
theorem State.putEvent_room (s : State) (blk code inst : Nat) (a b : Word) (h : s.evt.q.length < 1024) :
    (s.putEvent blk code inst a b).reg = s.reg ∧
    (s.putEvent blk code inst a b).evt.q =
      s.evt.q ++ [⟨w32 (blk * 256 + code + inst * 2 ^ 16 + b2n s.evt.lost * 2 ^ 31), w32 s.dtUs, a, b⟩] := by
  simp [State.putEvent, Nat.not_le.mpr h]

/-- The events of the command path have no enable. -/
theorem State.event_cmdq (s : State) (code inst : Nat) (a b : Word) : s.event 0x02 code inst a b = s.putEvent 0x02 code inst a b := rfl

/-- Word 0 of the event of a failure names block 0x02 and code 0x01, whether or not an event was lost before it. -/
theorem noReplyEvent_block_code (lost : Bool) :
    fld (w32 (0x02 * 256 + 0x01 + 0 * 2 ^ 16 + b2n lost * 2 ^ 31)) 8 8 = 0x02 ∧
    fld (w32 (0x02 * 256 + 0x01 + 0 * 2 ^ 16 + b2n lost * 2 ^ 31)) 0 8 = 0x01 := by
  cases lost <;> decide

/-- A failure is counted, and entered as an event with the request's tag, the status and the opcode. -/
theorem State.noReplyFail_failure (s : State) {op st : Nat} (q : Request) (hop : op < 2 ^ 16) (hst : st ≠ 0)
    (hroom : s.evt.q.length < 1024) :
    (s.noReplyFail op q st).rd Reg.cmdqNoreplyFailCount = w32 (sat32 ((s.rd Reg.cmdqNoreplyFailCount).toNat + 1)) ∧
    ∃ e, (s.noReplyFail op q st).evt.q = s.evt.q ++ [e] ∧ e.a = q.tag ∧ e.b = w32 (st + op * 2 ^ 16) ∧
      fld e.w0 8 8 = 0x02 ∧ fld e.w0 0 8 = 0x01 := by
  have hfail : s.noReplyFail op q st =
      (s.cnt Reg.cmdqNoreplyFailCount 1).putEvent 0x02 0x01 0 q.tag (w32 (st + op * 2 ^ 16)) := by
    rw [State.noReplyFail, if_neg hst, State.event_cmdq, Nat.mod_eq_of_lt hop]
  obtain ⟨hreg, hq⟩ := (s.cnt Reg.cmdqNoreplyFailCount 1).putEvent_room 0x02 0x01 0 q.tag (w32 (st + op * 2 ^ 16)) (by simpa using hroom)
  rw [hfail, hq, State.rd_of_reg hreg]
  exact ⟨s.rd_cnt_same _ _, _, rfl, rfl, rfl, noReplyEvent_block_code _⟩

/-! ## The two replies with NO_REPLY -/

/-- With NO_REPLY the PENDING reply is a note in the command's record and nothing else. -/
theorem State.replyPending_noReply (s : State) {op : Nat} {q : Request} (hop : op ≠ 0) (hq : q.noReply = true) :
    s.replyPending op q = (s.cmdOf q).elim s (fun c => s.updCmd c.id (fun c => { c with phase := .pending })) := by
  simp [State.replyPending, hop, hq]

/-- With NO_REPLY the final reply is the counts of its status and the end of the command. -/
theorem State.reply_noReply (s : State) {op : Nat} {q : Request} (st : Nat) (ws : List Word) (hop : op ≠ 0) (hq : q.noReply = true)
    (hm : s.twin.mirrors = []) :
    s.reply op q st ws = (((s.sealedCount st).noteFault st).noReplyFail op q st).closeCmd q := by
  simp [State.reply, State.replyFrom, hm, hop, hq]

theorem State.reply_noReply_replies (s : State) {op : Nat} {q : Request} (st : Nat) (ws : List Word) (hop : op ≠ 0)
    (hq : q.noReply = true) (hm : s.twin.mirrors = []) : s.SameReplies (s.reply op q st ws) := by
  rw [s.reply_noReply st ws hop hq hm]
  exact (s.sealedCount_replies st).trans <| (State.noteFault_replies _ st).trans <|
    (State.noReplyFail_replies _ op q st).trans (State.closeCmd_replies _ q)

/-- Any final status but OK is counted and entered, a refused sealed command's among them. -/
theorem State.reply_noReply_failure (s : State) {op : Nat} {q : Request} {st : Nat} (ws : List Word) (hop : op ≠ 0) (hop16 : op < 2 ^ 16)
    (hq : q.noReply = true) (hm : s.twin.mirrors = []) (hst : st ≠ 0) (hroom : s.evt.q.length < 1024) :
    (s.reply op q st ws).rd Reg.cmdqNoreplyFailCount = w32 (sat32 ((s.rd Reg.cmdqNoreplyFailCount).toNat + 1)) ∧
    ∃ e, (s.reply op q st ws).evt.q = s.evt.q ++ [e] ∧ e.a = q.tag ∧ e.b = w32 (st + op * 2 ^ 16) ∧
      fld e.w0 8 8 = 0x02 ∧ fld e.w0 0 8 = 0x01 := by
  have hevt : ((s.sealedCount st).noteFault st).evt = s.evt := by simp
  have hcount : ((s.sealedCount st).noteFault st).rd Reg.cmdqNoreplyFailCount = s.rd Reg.cmdqNoreplyFailCount :=
    (State.rd_of_reg (State.noteFault_reg_evt _ st).1 _).trans (s.rd_sealedCount_ne st (by decide))
  have hfail := ((s.sealedCount st).noteFault st).noReplyFail_failure q hop16 hst (by rwa [hevt])
  rw [hevt, hcount] at hfail
  rwa [s.reply_noReply st ws hop hq hm, State.rd_of_reg (State.closeCmd_reg_evt _ q).1, (State.closeCmd_reg_evt _ q).2]

/-- Settles O11: with NO_REPLY neither kind of reply reaches `State.toStream`, and a failure goes through `State.noReplyFail`. -/
theorem noReplyIsSilent : Obligations.NoReplyIsSilent := by
  unfold Obligations.NoReplyIsSilent
  intro op q s st ws hop hop16 _ hq hm
  refine ⟨?pending, s.reply_noReply_replies st ws hop hq hm, fun hst _ _ hroom => s.reply_noReply_failure ws hop hop16 hq hm hst hroom⟩
  case pending =>
    rw [s.replyPending_noReply hop hq]
    cases s.cmdOf q with
    | none => exact ⟨rfl, rfl, rfl, rfl, rfl⟩
    | some c => exact ⟨rfl, rfl, rfl, rfl, rfl⟩

end Sys2Proof.Machine


/-! The machine as a whole: how a command ends, and what of the scratchpad and of the life-cycle log its end leaves. -/

namespace Sys2Proof.Machine

/-! ## The step -/

/-- Settles O1: the two arms of `step`, and the end of the idle cycle leaves the queue as it was. -/
theorem stepRunsFront : Obligations.StepRunsFront := by
  unfold Obligations.StepRunsFront
  refine ⟨fun c rest s h => ?_, fun s h => ⟨?_, ?_⟩⟩
  · simp [step, h]
  · simp [step, h, idle]
  · simp [h]

/-- Settles O4: every field of the reset state that the statement names is a literal. -/
theorem resetInvariant : Obligations.ResetInvariant := by
  unfold Obligations.ResetInvariant
  exact ⟨rfl, rfl, rfl, fun _ => rfl, State.reset_wf, rfl, by decide⟩

/-! ## How a command ends -/

/-- The ways a command can end, each with what its end restores of the state that it began in (`State.after` and its four variants). -/
inductive EndsAs (c : Instr) (s : State) : State → Prop
  | plain (u : State) : EndsAs c s (s.after u)
  | reset (h : mayReset c = true) (u : State) : EndsAs c s (s.afterReset u)
  | wipe (h : mayWipe c = true) (u : State) : EndsAs c s (s.afterWipe u)
  | scratch (h : accessesScratch c s = true) (u : State) : EndsAs c s (s.afterScr u)
  | otp (h : c = .lifecycleBurnDone ∨ c = .startSequence) (u : State) : EndsAs c s (s.afterOtp u)

/-- The row that the register write `c` makes on path `p` at `addr`, one of five. -/
def WritesRegister (c : Instr) (p : Path) (addr : Nat) : Prop :=
  ∃ (a : BitVec 24) (v : Word) (be : BitVec 4), a.toNat = addr ∧
    (c = .regWrite a v ∧ p = Path.spi ∨ c = .registerWrite p a v be ∨ c = .hiWrite p a v ∨ c = .loWrite p a v ∨ c = .lockGroupSet p a v)

theorem WritesRegister.mayReset {c : Instr} {p : Path} {addr : Nat} (h : WritesRegister c p addr) : mayReset c = true := by
  obtain ⟨a, v, be, -, ⟨rfl, -⟩ | rfl | rfl | rfl | rfl⟩ := h <;> rfl

theorem WritesRegister.accessesScratch {c : Instr} {p : Path} {addr : Nat} (h : WritesRegister c p addr) (s : State) :
    accessesScratch c s = (s.place p addr).any (fun x => x.1 == Reg.scratchHostCmd) := by
  obtain ⟨a, v, be, rfl, ⟨rfl, rfl⟩ | rfl | rfl | rfl | rfl⟩ := h <;> rfl

theorem State.regWriteBy_ends {c : Instr} {s t : State} {p : Path} {addr : Nat} {v : Word} {be : Nat} (w : WritesRegister c p addr)
    (h : s.regWriteBy p addr v be = .next t) : EndsAs c s t := by
  unfold State.regWriteBy at h
  split at h
  · cases h; exact .plain _
  · split at h
    · cases h
    · split at h
      · next hp => cases h; exact .scratch ((w.accessesScratch s).trans hp) _
      · cases h; exact .reset w.mayReset _

theorem exec_ends {c : Instr} {s t : State} (h : exec c s = .next t) : EndsAs c s t := by
  cases c
  case regWrite a v => exact State.regWriteBy_ends ⟨a, v, 0, rfl, by simp⟩ h
  case registerWrite p a v be => exact State.regWriteBy_ends ⟨a, v, be, rfl, by simp⟩ h
  case hiWrite p a v => exact State.regWriteBy_ends ⟨a, v, 0, rfl, by simp⟩ h
  case loWrite p a v => exact State.regWriteBy_ends ⟨a, v, 0, rfl, by simp⟩ h
  case lockGroupSet p a v => exact State.regWriteBy_ends ⟨a, v, 0, rfl, by simp⟩ h
  case lifecycleBurnDone | startSequence => cases h; exact .otp (by simp) _
  case lifecycleSet | tamperDetected => cases h; exact .wipe rfl _
  case scratchAccessGrant | scratchHostRead | scratchHostWrite | scratchHostAdd | scratchHostSwap | gleanerWindowEnd |
      urgentWindowAccess =>
    cases h; exact .scratch rfl _
  case regRead | postedWriteLanded | loRead | wakeMatch | heathWakeReq | vaonPowerOn | vaonBrownout | railChange | rstNLow | sysclkLoss |
      thermalTrip | wakeInEdge | rtcAlarm | presNFall | updateRestart =>
    cases h; exact .reset rfl _
  all_goals (cases h; exact .plain _)

/-! ## Every command completes -/

theorem EndsAs.pending {c : Instr} {s t : State} (h : EndsAs c s t) : t.pending = s.pending := by
  cases h <;> rfl

/-- A register write goes on, but for one into an open DEBUG block. -/
theorem State.regWriteBy_next_or_debug (s : State) (p : Path) (addr : Nat) (v : Word) (be : Nat) :
    (∃ t, s.regWriteBy p addr v be = .next t) ∨
    (s.regWriteBy p addr v be = .refused .debugRegister ∧ s.debugOpen = true ∧ s.reaches p addr = true ∧
      (s.place p addr).any (fun x => inDebug x.1) = true) := by
  unfold State.regWriteBy
  split
  · exact .inl ⟨_, rfl⟩
  · next hr =>
    split
    · next hd => exact .inr ⟨rfl, hd.2.1, by simpa using hr, hd.1⟩
    · split <;> exact .inl ⟨_, rfl⟩

/-- A command answers a next state, but for a register write into an open DEBUG block. -/
theorem exec_next_or_debug (c : Instr) (s : State) :
    (∃ t, exec c s = .next t) ∨
    (exec c s = .refused .debugRegister ∧ s.debugOpen = true ∧ ∃ p addr, WritesRegister c p addr ∧ s.reaches p addr = true ∧
      (s.place p addr).any (fun x => inDebug x.1) = true) := by
  have debug {p : Path} {addr v be} (w : WritesRegister c p addr) (e : exec c s = s.regWriteBy p addr v be) :
      (∃ t, exec c s = .next t) ∨
      (exec c s = .refused .debugRegister ∧ s.debugOpen = true ∧ ∃ p addr, WritesRegister c p addr ∧ s.reaches p addr = true ∧
        (s.place p addr).any (fun x => inDebug x.1) = true) := by
    rw [e]
    exact (s.regWriteBy_next_or_debug p addr v be).imp_right fun ⟨hr, ho, hp, hi⟩ => ⟨hr, ho, p, addr, w, hp, hi⟩
  cases c
  case regWrite a v => exact debug ⟨a, v, 0, rfl, by simp⟩ rfl
  case registerWrite p a v be => exact debug ⟨a, v, be, rfl, by simp⟩ rfl
  case hiWrite p a v => exact debug ⟨a, v, 0, rfl, by simp⟩ rfl
  case loWrite p a v => exact debug ⟨a, v, 0, rfl, by simp⟩ rfl
  case lockGroupSet p a v => exact debug ⟨a, v, 0, rfl, by simp⟩ rfl
  all_goals exact .inl ⟨_, rfl⟩

/-- Settles O2: a command answers a next state or is the register write into an open DEBUG block, and each end restores the queue. -/
theorem everyCommandCompletes : Obligations.EveryCommandCompletes := by
  unfold Obligations.EveryCommandCompletes
  intro c s
  obtain ⟨t, ht⟩ | ⟨href, hopen, p, addr, ⟨a, v, be, rfl, hc⟩, hreach, hdebug⟩ := exec_next_or_debug c s
  · exact .inl ⟨t, ht, (exec_ends ht).pending⟩
  · exact .inr ⟨href, hopen, p, a, v, be, hc, hreach, hdebug⟩

/-! ## The frame of the scratchpad and of the life-cycle log -/

theorem State.scrByte_of_mem {s t : State} (h : t.scr.mem = s.scr.mem) (a : Nat) : t.scrByte a = s.scrByte a := by
  simp [State.scrByte, h]

/-- Settles O5: only `EndsAs.scratch` lets a byte through, a reset leaves all or clears all, and a wipe zeroes the secure region at most. -/
theorem scratchpadFrame : Obligations.ScratchpadFrame := by
  unfold Obligations.ScratchpadFrame
  intro c s t hno ht
  cases exec_ends ht with
  | plain u => exact .inl fun a => State.scrByte_of_mem rfl a
  | otp h u => exact .inl fun a => State.scrByte_of_mem rfl a
  | scratch h u => simp [hno] at h
  | reset h u =>
    refine (s.afterReset_mem u).imp (fun e a => State.scrByte_of_mem e a) fun e => .inl ⟨h, fun a => ?_⟩
    simp [State.scrByte, e]
  | wipe h u =>
    refine (s.afterWipe_mem u).imp (fun e a => State.scrByte_of_mem e a) fun e => .inr ⟨h, fun a => ?_⟩
    rw [State.scrByte, e]
    exact smGet_filter_not 0#8 s.scr.mem inSecure a

theorem EndsAs.log {c : Instr} {s t : State} (h : EndsAs c s t) (hb : c ≠ .lifecycleBurnDone) (hs : c ≠ .startSequence) :
    t.sec.log = s.sec.log := by
  cases h with
  | otp h u => exact absurd h (by simp [hb, hs])
  | _ => rfl

/-- Settles O6: only the end of a burn and of a start sequence does not restore the log. -/
theorem lifeCycleFrame : Obligations.LifeCycleFrame := by
  unfold Obligations.LifeCycleFrame
  exact fun c s t hb hs ht => (exec_ends ht).log hb hs

end Sys2Proof.Machine


/-! What a reply leaves alone: everything but the parts that carry replies, and, where it is a failure, what counts failures. -/

namespace Sys2Proof.Machine

/-! ## Any reply -/

/-- `t` is `s` but for what some reply may change. -/
def State.Replied (s t : State) : Prop :=
  ∃ reg evt cmdq glue coh mirrors sw fault app out,
    t = { s with
      reg := reg, evt := evt, cmdq := cmdq, glue := glue, coh := coh, twin := { s.twin with mirrors := mirrors }, sw := sw
      sec := { s.sec with internalFault := fault }, upd := { s.upd with apply := app }, out := out }

theorem State.Replied.refl (s : State) : s.Replied s := ⟨_, _, _, _, _, _, _, _, _, _, rfl⟩

theorem State.Replied.trans {s t u : State} (h : s.Replied t) (k : t.Replied u) : s.Replied u := by
  obtain ⟨_, _, _, _, _, _, _, _, _, _, rfl⟩ := h
  obtain ⟨_, _, _, _, _, _, _, _, _, _, rfl⟩ := k
  exact ⟨_, _, _, _, _, _, _, _, _, _, rfl⟩

theorem State.Replied.log {s t : State} (h : s.Replied t) : t.sec.log = s.sec.log := by
  obtain ⟨_, _, _, _, _, _, _, _, _, _, rfl⟩ := h
  rfl

theorem State.cnt_replied (s : State) (a n : Nat) : s.Replied (s.cnt a n) := ⟨_, _, _, _, _, _, _, _, _, _, rfl⟩

theorem State.putEvent_replied (s : State) (b c i : Nat) (x y : Word) : s.Replied (s.putEvent b c i x y) := by
  unfold State.putEvent
  split <;> exact ⟨_, _, _, _, _, _, _, _, _, _, rfl⟩

theorem State.event_replied (s : State) (b c i : Nat) (x y : Word) : s.Replied (s.event b c i x y) := by
  unfold State.event
  split
  · exact s.putEvent_replied b c i x y
  · exact .refl s

/-- A charge changes the account of one holder. -/
theorem State.chargeFrom_eq {s t : State} {h n a : Nat} (e : s.chargeFrom h n a = some t) :
    ∃ x : Holder, t = s.setHolder h x ∧ x.min = (s.holder h).min ∧ x.quota = (s.holder h).quota := by
  unfold State.chargeFrom at e
  dsimp only at e
  split at e
  · cases e
  · split at e
    · cases e
    · split at e
      · cases e
      · cases e
        exact ⟨_, rfl, rfl, rfl⟩

/-- Two counters of an Ethernet port's drops, QUOTA and PORT_DOWN, for a frame of the device's own. -/
theorem State.queueOwn_eq (s : State) (p q : Nat) (b : List Byte) :
    (∃ r, (r = 12 ∨ r = 13) ∧ s.queueOwn p q b = s.drop p r) ∨
    ∃ (x : Holder) (c : Copy), s.queueOwn p q b = (s.setHolder (queueHolder p q) x).setCopies (s.sw.copies ++ [c]) ∧
      x.min = (s.holder (queueHolder p q)).min ∧ x.quota = (s.holder (queueHolder p q)).quota ∧
      c.frame = 0 ∧ c.port = p ∧ c.queue = q := by
  unfold State.queueOwn
  dsimp only
  split
  · exact .inl ⟨13, .inr rfl, rfl⟩
  · split
    · exact .inl ⟨12, .inl rfl, rfl⟩
    · next t e =>
      obtain ⟨x, rfl, hm, hq⟩ := State.chargeFrom_eq e
      exact .inr ⟨x, _, rfl, hm, hq, rfl, rfl, rfl⟩

theorem State.queueOwn_replied (s : State) (p q : Nat) (b : List Byte) : s.Replied (s.queueOwn p q b) := by
  obtain ⟨r, -, e⟩ | ⟨x, c, e, -⟩ := s.queueOwn_eq p q b <;> rw [e] <;> exact ⟨_, _, _, _, _, _, _, _, _, _, rfl⟩

theorem State.sendTo_replied (s : State) (a : Nat) (m : LinkMsg) : s.Replied (s.sendTo a m) := by
  unfold State.sendTo
  cases s.route a <;> exact ⟨_, _, _, _, _, _, _, _, _, _, rfl⟩

theorem State.markMissed_replied (s : State) (op : Nat) (q : Request) (st : Nat) : s.Replied (s.markMissed op q st) := by
  unfold State.markMissed
  dsimp only
  split <;> exact ⟨_, _, _, _, _, _, _, _, _, _, rfl⟩

theorem State.toStream_replied (s : State) (id cls op : Nat) (q : Request) (buf : Option SqBuf) (vtag : Option Nat) (mute : Bool)
    (st : Nat) (side final : Bool) (w : List Word) : s.Replied (s.toStream id cls op q buf vtag mute st side final w) := by
  unfold State.toStream
  split
  · split <;> exact ⟨_, _, _, _, _, _, _, _, _, _, rfl⟩
  · exact ⟨_, _, _, _, _, _, _, _, _, _, rfl⟩
  · dsimp only
    split
    · exact State.Replied.trans ⟨_, _, _, _, _, _, _, _, _, _, rfl⟩ (State.queueOwn_replied _ _ _ _)
    · exact State.queueOwn_replied _ _ _ _
  · exact State.sendTo_replied _ _ _
  · split
    · exact (s.markMissed_replied op q st).trans ⟨_, _, _, _, _, _, _, _, _, _, rfl⟩
    · exact .refl s
  · split
    · exact ⟨_, _, _, _, _, _, _, _, _, _, rfl⟩
    · exact .refl s
  · exact .refl s

theorem State.noteFault_replied (s : State) (st : Nat) : s.Replied (s.noteFault st) := by
  unfold State.noteFault
  split <;> exact ⟨_, _, _, _, _, _, _, _, _, _, rfl⟩

theorem State.mailboxResult_replied (s : State) (st : Nat) (w : List Word) : s.Replied (s.mailboxResult st w) := by
  unfold State.mailboxResult
  dsimp only
  refine (s.noteFault_replied st).trans ?_
  split <;> exact ⟨_, _, _, _, _, _, _, _, _, _, rfl⟩

theorem State.pairSettle_replied (s : State) (n : Nat) : s.Replied (s.pairSettle n) := by
  unfold State.pairSettle
  dsimp only
  split <;> exact ⟨_, _, _, _, _, _, _, _, _, _, rfl⟩

theorem State.closeCmd_replied (s : State) (q : Request) : s.Replied (s.closeCmd q) := by
  unfold State.closeCmd
  split
  · exact .refl s
  · split
    · exact ⟨_, _, _, _, _, _, _, _, _, _, rfl⟩
    · split
      · exact ⟨_, _, _, _, _, _, _, _, _, _, rfl⟩
      · dsimp only
        split
        · exact State.Replied.trans ⟨_, _, _, _, _, _, _, _, _, _, rfl⟩ (State.pairSettle_replied _ _)
        · exact ⟨_, _, _, _, _, _, _, _, _, _, rfl⟩

theorem State.sealedCount_replied (s : State) (st : Nat) : s.Replied (s.sealedCount st) := by
  unfold State.sealedCount
  split
  · exact s.cnt_replied _ _
  · exact .refl s

theorem State.noReplyFail_replied (s : State) (op : Nat) (q : Request) (st : Nat) : s.Replied (s.noReplyFail op q st) := by
  unfold State.noReplyFail
  split
  · exact .refl s
  · exact (s.cnt_replied _ _).trans (State.event_replied _ _ _ _ _ _)

theorem State.replyFrom_replied (s : State) (op : Nat) (q : Request) (st : Nat) (side : Bool) (w : List Word) :
    s.Replied (s.replyFrom op q st side w) := by
  unfold State.replyFrom
  split
  · exact s.mailboxResult_replied st w
  · refine (s.sealedCount_replied st).trans <| (State.noteFault_replied _ st).trans <| State.Replied.trans ?_ (State.closeCmd_replied _ q)
    split
    · exact State.noReplyFail_replied _ op q st
    · exact State.toStream_replied _ _ _ _ _ _ _ _ _ _ _ _

theorem State.reply_replied (s : State) (op : Nat) (q : Request) (st : Nat) (w : List Word) : s.Replied (s.reply op q st w) := by
  unfold State.reply
  dsimp only
  split
  · exact ⟨_, _, _, _, _, _, _, _, _, _, rfl⟩
  · exact s.replyFrom_replied op q st _ w


/-! ## A reply that reports no failure -/

/-- `t` is `s` but for what a reply may change that reports no failure. Of the registers that is a drop counter of an Ethernet port. -/
def State.Answered (s t : State) : Prop :=
  ∃ vals pairs cmds spi inband mirrors copies holders app links,
    t = { s with
      reg := { s.reg with vals := vals }
      cmdq := { s.cmdq with pairs := pairs, cmds := cmds, spiReplies := spi, inband := inband }
      twin := { s.twin with mirrors := mirrors }, sw := { s.sw with copies := copies, holders := holders }
      upd := { s.upd with apply := app }, out := { s.out with links := links } } ∧
    (∀ a, a < 0xA0000 ∨ 0xC0000 ≤ a → t.rd a = s.rd a) ∧
    ∀ h, (t.holder h).min = (s.holder h).min ∧ (t.holder h).quota = (s.holder h).quota

/-- A change that leaves registers and buffer accounts alone. -/
theorem State.Answered.of_eq {s t : State} (hr : t.reg = s.reg) (hh : t.sw.holders = s.sw.holders)
    (h : ∃ pairs cmds spi inband mirrors copies app links, t = { s with
      cmdq := { s.cmdq with pairs := pairs, cmds := cmds, spiReplies := spi, inband := inband }
      twin := { s.twin with mirrors := mirrors }, sw := { s.sw with copies := copies }
      upd := { s.upd with apply := app }, out := { s.out with links := links } }) : s.Answered t := by
  obtain ⟨p, c, i, b, m, o, a, l, h⟩ := h
  exact ⟨_, p, c, i, b, m, o, _, a, l, h, fun a _ => State.rd_of_reg hr a, fun k => by simp [State.holder, hh]⟩

theorem State.Answered.refl (s : State) : s.Answered s := .of_eq rfl rfl ⟨_, _, _, _, _, _, _, _, rfl⟩

theorem State.Answered.trans {s t u : State} (h : s.Answered t) (k : t.Answered u) : s.Answered u := by
  obtain ⟨_, _, _, _, _, _, _, _, _, _, rfl, hr, hh⟩ := h
  obtain ⟨_, _, _, _, _, _, _, _, _, _, rfl, kr, kh⟩ := k
  exact ⟨_, _, _, _, _, _, _, _, _, _, rfl, fun a ha => (kr a ha).trans (hr a ha),
    fun n => ⟨(kh n).1.trans (hh n).1, (kh n).2.trans (hh n).2⟩⟩

section
variable {s t : State} (h : s.Answered t)
include h

theorem State.Answered.rd {a : Nat} (ha : a < 0xA0000 ∨ 0xC0000 ≤ a) : t.rd a = s.rd a := by
  obtain ⟨_, _, _, _, _, _, _, _, _, _, -, hr, -⟩ := h
  exact hr a ha

theorem State.Answered.rf {a : Nat} (ha : a < 0xA0000 ∨ 0xC0000 ≤ a) (lo n : Nat) : t.rf a lo n = s.rf a lo n := by
  simp [State.rf, h.rd ha]

theorem State.Answered.rb {a : Nat} (ha : a < 0xA0000 ∨ 0xC0000 ≤ a) (i : Nat) : t.rb a i = s.rb a i := by
  simp [State.rb, h.rd ha]

theorem State.Answered.limits (n : Nat) : (t.holder n).min = (s.holder n).min ∧ (t.holder n).quota = (s.holder n).quota := by
  obtain ⟨_, _, _, _, _, _, _, _, _, _, -, -, hh⟩ := h
  exact hh n

/-- The parts of the state that such a reply leaves alone. -/
theorem State.Answered.frame :
    t.pending = s.pending ∧ t.free = s.free ∧ t.clk = s.clk ∧ t.evt = s.evt ∧ t.tern = s.tern ∧ t.glue = s.glue ∧ t.exm = s.exm ∧
    t.coh = s.coh ∧ t.fab = s.fab ∧ t.chans = s.chans ∧ t.mapper = s.mapper ∧ t.time = s.time ∧ t.sec = s.sec ∧ t.scr = s.scr ∧
    t.glean = s.glean ∧ t.arb = s.arb ∧ t.pwr = s.pwr ∧ t.heath = s.heath := by
  obtain ⟨_, _, _, _, _, _, _, _, _, _, rfl, -, -⟩ := h
  exact ⟨rfl, rfl, rfl, rfl, rfl, rfl, rfl, rfl, rfl, rfl, rfl, rfl, rfl, rfl, rfl, rfl, rfl, rfl⟩

theorem State.Answered.waiters : t.cmdq.waiters = s.cmdq.waiters := by
  obtain ⟨_, _, _, _, _, _, _, _, _, _, rfl, -, -⟩ := h
  rfl

theorem State.Answered.upd : t.upd = { s.upd with apply := t.upd.apply } := by
  obtain ⟨_, _, _, _, _, _, _, _, _, _, rfl, -, -⟩ := h
  rfl

theorem State.Answered.twin : t.twin = { s.twin with mirrors := t.twin.mirrors } := by
  obtain ⟨_, _, _, _, _, _, _, _, _, _, rfl, -, -⟩ := h
  rfl

theorem State.Answered.frames : t.sw.frames = s.sw.frames := by
  obtain ⟨_, _, _, _, _, _, _, _, _, _, rfl, -, -⟩ := h
  rfl

end

/-- A wait is on the list of waiters. -/
theorem State.Answered.waits {s t : State} (h : s.Answered t) (on : WaitOn) : t.waits on = s.waits on := by
  simp [State.waits, h.waiters]

theorem State.holder_setHolder_same (s : State) (h : Nat) (x : Holder) : (s.setHolder h x).holder h = x := by
  simp [State.holder, State.setHolder]

theorem State.holder_setHolder_ne (s : State) {h k : Nat} (x : Holder) (e : k ≠ h) : (s.setHolder h x).holder k = s.holder k := by
  simp [State.holder, State.setHolder, smGet_smSet_ne _ _ _ _ e]

theorem State.drop_answered (s : State) {p r : Nat} (hp : p < 32) (hr : r ≤ 32) : s.Answered (s.drop p r) := by
  refine ⟨_, _, _, _, _, _, _, _, _, _, rfl, fun a ha => ?_, fun _ => ⟨rfl, rfl⟩⟩
  refine s.rd_cnt_ne 1 fun e => ?_
  rw [portBase, if_pos (by omega)] at e
  omega

theorem State.queueOwn_answered (s : State) {p : Nat} (hp : p < 32) (q : Nat) (b : List Byte) : s.Answered (s.queueOwn p q b) := by
  obtain ⟨r, hr, e⟩ | ⟨x, c, e, hmin, hquota, -⟩ := s.queueOwn_eq p q b <;> rw [e]
  · exact s.drop_answered hp (by omega)
  · refine ⟨_, _, _, _, _, _, _, _, _, _, rfl, fun _ _ => rfl, fun n => ?_⟩
    show (((s.setHolder (queueHolder p q) x).holder n).min = _ ∧ ((s.setHolder (queueHolder p q) x).holder n).quota = _)
    by_cases hn : n = queueHolder p q
    · subst hn
      rw [s.holder_setHolder_same]
      exact ⟨hmin, hquota⟩
    · rw [s.holder_setHolder_ne x hn]
      exact ⟨rfl, rfl⟩

theorem State.sendTo_answered (s : State) (a : Nat) (m : LinkMsg) : s.Answered (s.sendTo a m) := by
  unfold State.sendTo
  cases s.route a
  · exact .refl s
  · exact .of_eq rfl rfl ⟨_, _, _, _, _, _, _, _, rfl⟩

/-- A reply that is not final, or is final with OK, reports no failure to its stream. -/
theorem State.toStream_answered (s : State) (id cls op : Nat) (q : Request) (buf : Option SqBuf) (vtag : Option Nat) (mute : Bool)
    {st : Nat} (side : Bool) {final : Bool} (w : List Word) (hst : final = true → st = 0) :
    s.Answered (s.toStream id cls op q buf vtag mute st side final w) := by
  unfold State.toStream
  split
  · split
    · exact .refl s
    · exact .of_eq rfl rfl ⟨_, _, _, _, _, _, _, _, rfl⟩
  · exact .of_eq rfl rfl ⟨_, _, _, _, _, _, _, _, rfl⟩
  · next port _ _ _ =>
    dsimp only
    split
    · exact State.Answered.trans (.of_eq rfl rfl ⟨_, _, _, _, _, _, _, _, rfl⟩) (State.queueOwn_answered _ port.isLt _ _)
    · exact State.queueOwn_answered _ port.isLt _ _
  · exact State.sendTo_answered _ _ _
  · split
    · next hf =>
      rw [State.markMissed, if_pos (.inl (hst hf))]
      exact .of_eq rfl rfl ⟨_, _, _, _, _, _, _, _, rfl⟩
    · exact .refl s
  · split
    · exact .of_eq rfl rfl ⟨_, _, _, _, _, _, _, _, rfl⟩
    · exact .refl s
  · exact .refl s

theorem State.pairSettle_answered (s : State) (n : Nat) : s.Answered (s.pairSettle n) := by
  unfold State.pairSettle
  dsimp only
  split <;> exact .of_eq rfl rfl ⟨_, _, _, _, _, _, _, _, rfl⟩

theorem State.closeCmd_answered (s : State) (q : Request) : s.Answered (s.closeCmd q) := by
  unfold State.closeCmd
  split
  · exact .refl s
  · split
    · exact .of_eq rfl rfl ⟨_, _, _, _, _, _, _, _, rfl⟩
    · split
      · exact .of_eq rfl rfl ⟨_, _, _, _, _, _, _, _, rfl⟩
      · dsimp only
        split
        · exact State.Answered.trans (.of_eq rfl rfl ⟨_, _, _, _, _, _, _, _, rfl⟩) (State.pairSettle_answered _ _)
        · exact .of_eq rfl rfl ⟨_, _, _, _, _, _, _, _, rfl⟩

/-- A final reply of OK to a command of the opcode table. -/
theorem State.replyFrom_answered (s : State) {op : Nat} (q : Request) (side : Bool) (w : List Word) (hop : op ≠ 0) :
    s.Answered (s.replyFrom op q 0 side w) := by
  rw [State.replyFrom, if_neg (fun h => hop h.1)]
  show s.Answered (State.closeCmd (if q.noReply then s else _) q)
  refine State.Answered.trans ?_ (State.closeCmd_answered _ q)
  split
  · exact .refl s
  · exact State.toStream_answered _ _ _ _ _ _ _ _ _ _ fun _ => rfl

theorem State.reply_answered (s : State) {op : Nat} (q : Request) (w : List Word) (hop : op ≠ 0) : s.Answered (s.reply op q 0 w) := by
  unfold State.reply
  dsimp only
  split
  · exact .of_eq rfl rfl ⟨_, _, _, _, _, _, _, _, rfl⟩
  · exact s.replyFrom_answered q _ w hop

theorem State.replyPending_answered (s : State) {op : Nat} (q : Request) (hop : op ≠ 0) : s.Answered (s.replyPending op q) := by
  rw [State.replyPending, if_neg (fun h => hop h.1)]
  dsimp only
  have hmark : s.Answered ((s.cmdOf q).elim s (fun c => s.updCmd c.id (fun c => { c with phase := .pending }))) := by
    cases s.cmdOf q
    · exact .refl s
    · exact .of_eq rfl rfl ⟨_, _, _, _, _, _, _, _, rfl⟩
  split
  · exact hmark
  · exact hmark.trans (State.toStream_answered _ _ _ _ _ _ _ _ _ _ (by simp))

end Sys2Proof.Machine


/-! Every step keeps the invariant: the accesses of the scratchpad keep its canonical form, and what a burn adds to the life-cycle log is
a transition that Table 11.2 allows, or an entry that a loss of power has used up. -/

namespace Sys2Proof.Machine

/-! ## The scratchpad -/

theorem slowBlock_scratchHostCmd : slowBlock Reg.scratchHostCmd = none := by decide

theorem isHi_scratchHostCmd : isHi Reg.scratchHostCmd = false := by decide

theorem isLo_scratchHostCmd : isLo Reg.scratchHostCmd = false := by decide

theorem State.writeWord_scratchHostCmd (s : State) (r : RegRow) (d : Word) : s.writeWord Reg.scratchHostCmd r d = s.hostGo d := rfl

theorem State.landWrite_scratchHostCmd_wf {s : State} (h : s.ScrWf) (p : Path) (v : View) (d : Word) :
    (s.landWrite p Reg.scratchHostCmd v d).ScrWf := by
  unfold State.landWrite
  split
  · exact h
  · simp only [isHi_scratchHostCmd, isLo_scratchHostCmd, State.writeWord_scratchHostCmd]
    exact State.hostGo_wf h _

/-- A write that reaches SCRATCH_HOST_CMD keeps the canonical form. -/
theorem State.busWrite_scratchHostCmd_wf {s : State} (h : s.ScrWf) {p : Path} {addr : Nat} (d : Word) (be : Nat)
    (hp : (s.place p addr).any (fun x => x.1 == Reg.scratchHostCmd) = true) : (s.busWrite p addr d be).ScrWf := by
  unfold State.busWrite
  split
  · exact h.of_eq (by simp)
  · unfold State.write
    split
    · exact h
    · next a view e =>
      obtain rfl : a = Reg.scratchHostCmd := by simpa [e] using hp
      simp only [slowBlock_scratchHostCmd]
      exact State.landWrite_scratchHostCmd_wf h _ _ _

theorem State.regWriteBy_scratch_wf {s t : State} (h : s.ScrWf) {p : Path} {addr : Nat} {v : Word} {be : Nat}
    (hp : (s.place p addr).any (fun x => x.1 == Reg.scratchHostCmd) = true) (e : s.regWriteBy p addr v be = .next t) : t.ScrWf := by
  unfold State.regWriteBy at e
  split at e
  · cases e; exact h.of_eq rfl
  · split at e
    · cases e
    · cases e
      exact (State.busWrite_scratchHostCmd_wf h v be hp).of_eq rfl

theorem whileUp_wf {s : State} {f : State → State} (h : s.ScrWf) (hf : (f s).ScrWf) : (whileUp s f).ScrWf := by
  unfold whileUp
  split
  · exact hf
  · exact h

theorem State.hostRow_wf {s : State} (h : s.ScrWf) (op : Nat) (v : Word) : (s.hostRow op v).ScrWf := State.hostGo_wf h _

theorem State.scrArrive_wf {s : State} (h : s.ScrWf) (qs : List ScratchReq) : (s.scrArrive qs).ScrWf := h.of_mem rfl

theorem State.readerFaults_wf {s : State} (h : s.ScrWf) (n : Nat) : (s.readerFaults n).ScrWf := h.of_eq (State.readerFaults_scr s n)

@[simp] theorem State.winFault_scr (s : State) (w : Window) : (s.winFault w).scr = s.scr := by simp [State.winFault]

theorem State.winSpoil_wf {s : State} (h : s.ScrWf) (w : Window) : (s.winSpoil w).ScrWf := by
  refine State.ScrWf.of_mem (State.putByte_wf ?_ _ _) rfl
  exact h.of_eq (by simp)

theorem State.bankWait_wf {s : State} (h : s.ScrWf) (b k : Nat) : (s.bankWait b k).ScrWf := h.of_mem (by simp [State.bankWait])

theorem State.until_wf {s : State} (h : s.ScrWf) (n : Nat) : (s.until n).ScrWf := h.of_eq (by simp)

theorem State.winFault_wf {s : State} (h : s.ScrWf) (w : Window) : (s.winFault w).ScrWf := h.of_eq (State.winFault_scr s w)

theorem execGleanerWindowEnd_wf {s t : State} (h : s.ScrWf) {a b : Bool} (e : execGleanerWindowEnd a b s = .next t) : t.ScrWf := by
  cases e
  refine (whileUp_wf h ?_).of_eq rfl
  dsimp only
  split
  · exact h
  · next w _ =>
    have hu := State.until_wf h (w.since + 1075)
    have hp : (if a = true then s.until (w.since + 1075) else (s.until (w.since + 1075)).winFault w).ScrWf := by
      split
      · exact hu
      · exact State.winFault_wf hu w
    refine State.ScrWf.of_mem (s := if b = true then _ else _) ?_ rfl
    split
    · exact hp
    · exact State.winSpoil_wf (State.winFault_wf hp w) w

theorem execUrgentWindowAccess_wf {s t : State} (h : s.ScrWf) (e : execUrgentWindowAccess s = .next t) : t.ScrWf := by
  cases e
  refine (whileUp_wf h ?_).of_eq rfl
  dsimp only
  split
  · exact h
  · split
    · have hw : ∀ b k, ((s.freeN 9).2.bankWait b k).ScrWf := fun b k => State.bankWait_wf (h.of_eq (by simp)) b k
      exact State.bankCycle_wf ((hw _ _).of_mem (by simp [State.freeN]; rfl)) _
    · exact h

/-- The accesses of the scratchpad keep its canonical form. -/
theorem exec_scratch_wf {c : Instr} {s t : State} (h : s.ScrWf) (hc : accessesScratch c s = true) (e : exec c s = .next t) : t.ScrWf := by
  cases c
  case regWrite | registerWrite | hiWrite | loWrite | lockGroupSet => exact State.regWriteBy_scratch_wf h hc e
  case scratchHostRead | scratchHostWrite | scratchHostAdd | scratchHostSwap =>
    cases e
    exact (whileUp_wf h (State.hostRow_wf h _ _)).of_eq rfl
  case scratchAccessGrant b x y =>
    cases e
    refine (whileUp_wf h ?_).of_eq rfl
    exact State.hostStart_wf (State.readerFaults_wf (State.bankCycle_wf (State.scrArrive_wf h _) _) _)
  case gleanerWindowEnd => exact execGleanerWindowEnd_wf h e
  case urgentWindowAccess => exact execUrgentWindowAccess_wf h e
  all_goals cases hc

/-- Every command keeps the scratchpad's canonical form. -/
theorem exec_wf {c : Instr} {s t : State} (h : s.ScrWf) (e : exec c s = .next t) : t.ScrWf := by
  cases exec_ends e with
  | plain u => exact h.of_mem rfl
  | otp _ u => exact h.of_mem rfl
  | scratch hc u => exact exec_scratch_wf h hc e
  | reset _ u =>
    obtain hm | hm := s.afterReset_mem u
    · exact h.of_mem hm
    · rw [State.ScrWf, hm]; rfl
  | wipe _ u =>
    obtain hm | hm := s.afterWipe_mem u
    · exact h.of_mem hm
    · rw [State.ScrWf, hm]; exact smWf_filter _ _ h

/-! ## The life-cycle log -/

/-- The state of the life cycle that a log leaves, from the state `c` on. -/
def lcEnd (c : Nat) (l : List (Option Nat)) : Nat := ((l.filterMap id).getLast?).getD c

theorem lcEnd_cons_some (c t : Nat) (l : List (Option Nat)) : lcEnd c (some t :: l) = lcEnd t l := by
  simp only [lcEnd, List.filterMap_cons, id, List.getLast?_cons]
  rfl

theorem lcEnd_cons_none (c : Nat) (l : List (Option Nat)) : lcEnd c (none :: l) = lcEnd c l := rfl

/-- A log goes on legally with an entry that is used up. -/
theorem lcLegal_append_none (c : Nat) (l : List (Option Nat)) : lcLegal c (l ++ [none]) = lcLegal c l := by
  induction l generalizing c with
  | nil => rfl
  | cons x l ih => cases x <;> simp [lcLegal, ih]

/-- A log goes on legally with a transition that is allowed where it ends. -/
theorem lcLegal_append_some (c t : Nat) (l : List (Option Nat)) :
    lcLegal c (l ++ [some t]) = (lcLegal c l && (lcAllowed (lcEnd c l) t && t != 5)) := by
  induction l generalizing c with
  | nil => simp [lcLegal, lcEnd]
  | cons x l ih =>
    cases x with
    | none => simp [lcLegal, ih, lcEnd_cons_none]
    | some u => simp [lcLegal, ih, lcEnd_cons_some, Bool.and_assoc]

theorem lcEnd_of_allowed {s : State} {t : Nat} (h : lcAllowed s.lifeCycle t = true) : lcAllowed (lcEnd 0 s.sec.log) t = true := by
  unfold State.lifeCycle at h
  split at h
  · cases h
  · exact h

/-- What a command adds to the log: nothing, one entry used up, or one allowed transition; the last two while an entry is left. -/
def State.LogGrows (s t : State) : Prop :=
  t.sec.log = s.sec.log ∨ (s.sec.log.length < 62 ∧
    (t.sec.log = s.sec.log ++ [none] ∨ ∃ n, n ≠ 5 ∧ lcAllowed s.lifeCycle n = true ∧ t.sec.log = s.sec.log ++ [some n]))

theorem State.LogGrows.congr {s s' t t' : State} (h : s.LogGrows t) (hs : s'.sec = s.sec) (ht : t'.sec.log = t.sec.log) :
    s'.LogGrows t' := by
  unfold State.LogGrows State.lifeCycle at *
  rwa [hs, ht]

theorem State.LogGrows.isPrefix {s t : State} (h : s.LogGrows t) : s.sec.log <+: t.sec.log := by
  obtain e | ⟨-, e | ⟨n, -, -, e⟩⟩ := h
  · exact ⟨[], (List.append_nil _).trans e.symm⟩
  · exact ⟨[none], e.symm⟩
  · exact ⟨[some n], e.symm⟩

theorem State.LogGrows.legal {s t : State} (h : s.LogGrows t) (hl : lcLegal 0 s.sec.log = true) : lcLegal 0 t.sec.log = true := by
  obtain e | ⟨-, e | ⟨n, hn, ha, e⟩⟩ := h <;> rw [e]
  · exact hl
  · rwa [lcLegal_append_none]
  · rw [lcLegal_append_some, hl, lcEnd_of_allowed ha]
    simpa using hn

theorem State.LogGrows.length {s t : State} (h : s.LogGrows t) (hl : s.sec.log.length ≤ 62) : t.sec.log.length ≤ 62 := by
  obtain e | ⟨hlt, e | ⟨n, -, -, e⟩⟩ := h <;> rw [e]
  · exact hl
  · rw [List.length_append, List.length_singleton]
    omega
  · rw [List.length_append, List.length_singleton]
    omega

/-! ### The end of a burn -/

/-- `t` is `s` but for registers, events and the switch core. -/
def State.OnlySwitch (s t : State) : Prop := ∃ r e w, t = { s with reg := r, evt := e, sw := w }

theorem State.OnlySwitch.refl (s : State) : s.OnlySwitch s := ⟨_, _, _, rfl⟩

theorem State.OnlySwitch.trans {s t u : State} (h : s.OnlySwitch t) (k : t.OnlySwitch u) : s.OnlySwitch u := by
  obtain ⟨_, _, _, rfl⟩ := h
  obtain ⟨_, _, _, rfl⟩ := k
  exact ⟨_, _, _, rfl⟩

theorem State.OnlySwitch.sec {s t : State} (h : s.OnlySwitch t) : t.sec = s.sec := by
  obtain ⟨_, _, _, rfl⟩ := h
  rfl

theorem State.putEvent_only (s : State) (b c i : Nat) (x y : Word) : s.OnlySwitch (s.putEvent b c i x y) := by
  unfold State.putEvent
  split <;> exact ⟨_, _, _, rfl⟩

theorem State.event_only (s : State) (b c i : Nat) (x y : Word) : s.OnlySwitch (s.event b c i x y) := by
  unfold State.event
  split
  · exact s.putEvent_only b c i x y
  · exact .refl s

theorem State.eventSup_only (s : State) (b c i : Nat) (x y : Word) (k : List Nat) (p : Nat) :
    s.OnlySwitch (s.eventSup b c i x y k p) := by
  unfold State.eventSup
  split
  · exact .refl s
  · split
    · exact ⟨_, _, _, rfl⟩
    · split
      · exact s.putEvent_only b c i x y
      · exact (s.putEvent_only b c i x y).trans ⟨_, _, _, rfl⟩

theorem State.endFrame_only (s : State) (n : Nat) : s.OnlySwitch (s.endFrame n) := by
  unfold State.endFrame
  split
  · exact .refl s
  · split
    · exact .refl s
    · dsimp only
      split
      · split
        · exact State.OnlySwitch.trans ⟨_, _, _, rfl⟩ (State.eventSup_only _ _ _ _ _ _ _ _)
        · exact ⟨_, _, _, rfl⟩
      · exact ⟨_, _, _, rfl⟩

theorem State.dropCopy_only (s : State) (c : Copy) (r : Nat) : s.OnlySwitch (s.dropCopy c r) := by
  unfold State.dropCopy
  dsimp only
  split
  · exact ⟨_, _, _, rfl⟩
  · exact State.OnlySwitch.trans ⟨_, _, _, rfl⟩ (State.endFrame_only _ _)

theorem State.OnlySwitch.foldl {α : Type} {f : State → α → State} (hf : ∀ (t : State) (i : α), t.OnlySwitch (f t i)) (l : List α)
    (t : State) : t.OnlySwitch (l.foldl f t) := by
  induction l generalizing t with
  | nil => exact .refl t
  | cons i l ih => exact (hf t i).trans (ih _)

theorem State.flushPort_only (s : State) (p : Nat) : s.OnlySwitch (s.flushPort p).1 :=
  State.OnlySwitch.foldl (fun t c => t.dropCopy_only c _) _ s

theorem State.takeDown_only (s : State) (n : Nat) : s.OnlySwitch (s.takeDown n) :=
  State.OnlySwitch.trans ⟨_, _, _, rfl⟩ ((State.flushPort_only _ n).trans (State.event_only _ _ _ _ _ _))

@[simp] theorem State.restartChan_sec (s : State) (n : Nat) : (s.restartChan n).sec = s.sec := (s.flushPort_only (64 + n)).sec

theorem State.foldl_sec {α : Type} {f : State → α → State} (hf : ∀ (t : State) (i : α), (f t i).sec = t.sec) (l : List α) (t : State) :
    (l.foldl f t).sec = t.sec := by
  induction l generalizing t with
  | nil => rfl
  | cons i l ih => exact (ih _).trans (hf t i)

/-- SCRAPPED takes ports and channels down and leaves the security state alone. -/
theorem State.scrap_sec (s : State) : s.scrap.sec = s.sec := by
  unfold State.scrap
  refine (State.foldl_sec (fun t n => ?_) _ _).trans (State.foldl_sec (fun t n => ?_) _ _)
  · split
    · rfl
    · simp
  · split
    · rfl
    · dsimp only
      split
      · exact (t.takeDown_only n).sec
      · rfl

theorem execLifecycleBurnDone_log {s t : State} (e : execLifecycleBurnDone s = .next t) : s.LogGrows t := by
  cases e
  show s.LogGrows (s.afterOtp (whileFw s _))
  unfold whileFw
  split
  · dsimp only
    split
    · exact .inl rfl
    · next to_ q hb =>
      split
      · exact .inl rfl
      · next hok =>
        by_cases h5 : to_ = 5
        · refine .inl ((State.reply_replied _ _ _ _ _).log.trans ?_)
          rw [if_pos h5, State.scrap_sec]
        · have hok : ¬(¬lcAllowed s.lifeCycle to_ = true ∨ s.lcLeft = 0) := fun hx => hok ⟨h5, hx⟩
          rw [not_or, Classical.not_not] at hok
          refine .inr ⟨?_, .inr ⟨to_, h5, hok.1, (State.reply_replied _ _ _ _ _).log.trans (by rw [if_neg h5])⟩⟩
          have := hok.2
          simp only [State.lcLeft] at this
          omega
  · exact .inl rfl

/-! ### The start -/

@[simp] theorem State.writePtr_sec (s : State) (p : BootPtr) : (s.writePtr p).sec = s.sec := by
  simp only [State.writePtr, State.flProgram, State.flErase]

@[simp] theorem State.bootEvent_sec (s : State) (c : Nat) (a b : Word) : (s.bootEvent c a b).sec = s.sec := by
  simp only [State.bootEvent]

@[simp] theorem State.fallBack_sec (s : State) (r : Nat) (v : Word) : (s.fallBack r v).sec = s.sec := by
  simp only [State.fallBack, State.bootEvent_sec, State.writePtr_sec]

@[simp] theorem State.setStore_sec (s : State) (b : Bool) (x : Store) : (s.setStore b x).sec = s.sec := by
  cases b <;> rfl

@[simp] theorem State.loadBank_sec (s : State) (b : Bool) : (s.loadBank b).sec = s.sec := by
  simp only [State.loadBank]

@[simp] theorem State.enterRecovery_sec (s : State) : s.enterRecovery.sec = s.sec := by
  simp only [State.enterRecovery]

@[simp] theorem State.bankFailed_sec (s : State) (b : Bool) : (s.bankFailed b).sec = s.sec := by
  simp only [State.bankFailed, State.bootEvent_sec]

theorem State.countTrial_sec (s : State) : s.countTrial.sec = s.sec := by
  unfold State.countTrial
  simp only [apply_ite State.sec, State.writePtr_sec, State.fallBack_sec, ite_self]

theorem State.bootSelect_sec (s : State) : s.bootSelect.sec = s.sec := by
  unfold State.bootSelect
  simp only [apply_ite State.sec, State.writePtr_sec, State.fallBack_sec, State.loadBank_sec, State.enterRecovery_sec,
    State.bankFailed_sec, State.bootEvent_sec, ite_self]

theorem State.readSettings_sec (s : State) : s.readSettings.sec = s.sec := by
  unfold State.readSettings
  dsimp only
  split <;> simp only [apply_ite State.sec, State.setStore_sec, State.bootEvent_sec, ite_self]

theorem State.finishWipe_log (s : State) : s.finishWipe.sec.log = s.sec.log := by
  unfold State.finishWipe
  split <;> simp

@[simp] theorem State.burnFloor_sec (s : State) : s.burnFloor.sec = s.sec := by
  simp only [State.burnFloor, State.writePtr_sec]

theorem State.restore_log (s : State) : s.restore.sec.log = s.sec.log := by
  unfold State.restore
  simp only [State.readSettings_sec, apply_ite State.sec, State.burnFloor_sec, ite_self, State.finishWipe_log]

theorem State.clearScratch_sec (s : State) : s.clearScratch.sec = s.sec := by
  simp only [State.clearScratch]

theorem State.startEvents_sec (s : State) (was : Bool) : (s.startEvents was).sec = s.sec := by
  unfold State.startEvents
  simp only [apply_ite State.sec, State.bootEvent_sec, ite_self]

theorem State.takeRegions_sec (s : State) : s.takeRegions.sec = s.sec := by
  unfold State.takeRegions
  simp only [apply_ite State.sec, ite_self]

/-- A burn that a loss of power has cut uses up its entry, where it had one. -/
theorem State.cutBurn_logGrows (s : State) : s.LogGrows s.cutBurn := by
  unfold State.cutBurn
  split
  · exact .inl rfl
  · next to_ _ _ =>
    by_cases h : to_ = 5 ∨ s.lcLeft = 0
    · exact .inl (if_pos h)
    · rw [State.lcLeft, not_or] at h
      exact .inr ⟨by omega, .inl (if_neg (by rw [State.lcLeft, not_or]; exact h))⟩

theorem State.startUp_log (s : State) : s.startUp.sec.log = s.takeRegions.cutBurn.sec.log := by
  have hselect : s.takeRegions.cutBurn.countTrial.bootSelect.sec = s.takeRegions.cutBurn.sec := by
    rw [State.bootSelect_sec, State.countTrial_sec]
  unfold State.startUp
  dsimp only
  split
  · rw [hselect]
  · rw [State.startEvents_sec, State.restore_log, State.clearScratch_sec, hselect]

theorem execStartSequence_log {s t : State} (e : execStartSequence s = .next t) : s.LogGrows t := by
  cases e
  show s.LogGrows (s.afterOtp (whileUp s _))
  unfold whileUp
  split
  · dsimp only
    split
    · exact s.takeRegions.cutBurn_logGrows.congr s.takeRegions_sec.symm s.startUp_log
    · exact .inl rfl
  · exact .inl rfl

/-- Every command leaves the log or lets it grow by one legal entry. -/
theorem exec_logGrows {c : Instr} {s t : State} (e : exec c s = .next t) : s.LogGrows t := by
  by_cases hb : c = .lifecycleBurnDone
  · subst hb; exact execLifecycleBurnDone_log e
  · by_cases hs : c = .startSequence
    · subst hs; exact execStartSequence_log e
    · exact .inl ((exec_ends e).log hb hs)

/-! ## The invariant -/

theorem exec_keeps_inv {c : Instr} {s t : State} (h : s.Inv) (e : exec c s = .next t) : t.Inv ∧ s.sec.log <+: t.sec.log := by
  obtain ⟨hmem, hlegal, hlen⟩ := h
  have hgrows := exec_logGrows e
  exact ⟨⟨exec_wf hmem e, hgrows.legal hlegal, hgrows.length hlen⟩, hgrows.isPrefix⟩

/-- Settles O3: a step is a command with the rest of the queue, which keeps the invariant, or an idle cycle, which touches neither part. -/
theorem stepKeepsInvariant : Obligations.StepKeepsInvariant := by
  unfold Obligations.StepKeepsInvariant
  intro s t h e
  unfold step at e
  split at e
  · cases e
    exact ⟨h, List.prefix_refl _⟩
  · next c rest _ => exact exec_keeps_inv (s := { s with pending := rest }) h e

end Sys2Proof.Machine


/-! The snapshot property of an epoch advance (R142, R146, R150): ages shift by one for every epoch in flight, and BIRTH settles no
further than the oldest of them. -/

namespace Sys2Proof.Machine

/-- The state with the next epoch current. -/
def State.nextEpoch (s : State) : State := { s with glue := { s.glue with c := s.glue.c + 1 } }

theorem epochAge_succ {c e : BitVec 3} (h : e ≠ c + 1) : epochAge (c + 1) e = epochAge c e + 1 := by
  revert c e
  unfold epochAge
  decide

theorem epochAge_self (c : BitVec 3) : epochAge c c = 0 := by simp [epochAge]

theorem mem_epochs (e : BitVec 3) : e ∈ epochs := by
  revert e
  decide

section
variable {s : State} (hfree : s.inflightCount (s.glue.c + 1) = 0)
include hfree

/-- The reused number is not in flight. -/
theorem State.ne_next_of_inflight {e : BitVec 3} (h : s.inflight e = true) : e ≠ s.glue.c + 1 := by
  rintro rfl
  rw [State.inflight, hfree] at h
  simp at h

theorem State.ageOf_next {e : BitVec 3} (h : s.inflight e = true) : s.nextEpoch.ageOf e = s.ageOf e + 1 :=
  epochAge_succ (State.ne_next_of_inflight hfree h)

end

/-- The oldest of a list of epochs is the start value or in the list, and none is older. -/
theorem State.foldl_oldest (s : State) (l : List (BitVec 3)) (o : BitVec 3) :
    (l.foldl (fun o x => if s.ageOf o < s.ageOf x then x else o) o = o ∨
      l.foldl (fun o x => if s.ageOf o < s.ageOf x then x else o) o ∈ l) ∧
    s.ageOf o ≤ s.ageOf (l.foldl (fun o x => if s.ageOf o < s.ageOf x then x else o) o) ∧
    ∀ e ∈ l, s.ageOf e ≤ s.ageOf (l.foldl (fun o x => if s.ageOf o < s.ageOf x then x else o) o) := by
  induction l generalizing o with
  | nil => simp
  | cons x l ih =>
    obtain ⟨hmem, hle, hall⟩ := ih (if s.ageOf o < s.ageOf x then x else o)
    rw [List.foldl_cons]
    by_cases hx : s.ageOf o < s.ageOf x
    · rw [if_pos hx] at *
      exact ⟨.inr (by simpa using hmem), by omega, by simpa using ⟨hle, hall⟩⟩
    · rw [if_neg hx] at *
      exact ⟨hmem.imp_right (List.mem_cons_of_mem x), hle, by simpa using ⟨by omega, hall⟩⟩

theorem State.oldest_inflight (s : State) : s.inflight s.oldest = true := by
  obtain ⟨h | h, -, -⟩ := s.foldl_oldest (epochs.filter s.inflight) s.glue.c
  · rw [State.oldest, h]; simp [State.inflight]
  · exact (List.mem_filter.mp h).2

theorem State.ageOf_le_oldest (s : State) {e : BitVec 3} (h : s.inflight e = true) : s.ageOf e ≤ s.ageOf s.oldest :=
  (s.foldl_oldest (epochs.filter s.inflight) s.glue.c).2.2 e (List.mem_filter.mpr ⟨mem_epochs e, h⟩)

/-- The drained set holds the epochs that are not in flight. -/
theorem State.mem_drained (s : State) (k : List Nat) (adv : Bool) (e : BitVec 3) :
    e ∈ (s.cycleOf k adv).drained ↔ s.inflight e = false := by
  simp [State.cycleOf, mem_epochs]

theorem State.drained_contains (s : State) (k : List Nat) (adv : Bool) (e : BitVec 3) :
    (s.cycleOf k adv).drained.contains e = !s.inflight e := by
  rw [Bool.eq_iff_iff, List.contains_iff_mem, State.mem_drained, Bool.not_eq_true']

section
variable {s : State} (hfree : s.inflightCount (s.glue.c + 1) = 0) {e : BitVec 3} (he : s.inflight e = true)
include hfree he

/-- A settled BIRTH is seen from the next epoch as the BIRTH was seen before. -/
theorem State.born_next (k : List Nat) (b : BitVec 3) :
    (s.nextEpoch.ageOf e ≤ s.nextEpoch.ageOf ((s.cycleOf k true).settle b)) ↔ s.ageOf e ≤ s.ageOf b := by
  have hold := s.ageOf_le_oldest he
  rw [State.ageOf_next hfree he]
  show _ ≤ s.nextEpoch.ageOf (if s.ageOf s.oldest < s.ageOf b then s.oldest else b) ↔ _
  split
  · rw [State.ageOf_next hfree s.oldest_inflight]
    omega
  · next hb =>
    have hne : b ≠ s.glue.c + 1 := by
      rintro rfl
      have h7 : s.ageOf (s.glue.c + 1) = 7 := by unfold State.ageOf epochAge; generalize s.glue.c = c; revert c; decide
      have hlt : s.nextEpoch.ageOf s.oldest < 8 := BitVec.isLt _
      rw [State.ageOf_next hfree s.oldest_inflight] at hlt
      omega
    rw [show s.nextEpoch.ageOf b = s.ageOf b + 1 from epochAge_succ hne]
    omega

/-- An object that dies in the next epoch is dead there alone. -/
theorem State.dies_next (k : List Nat) : s.nextEpoch.ageOf (s.cycleOf k true).next < s.nextEpoch.ageOf e := by
  rw [State.ageOf_next hfree he, show s.nextEpoch.ageOf (s.cycleOf k true).next = 0 from epochAge_self _]
  omega

end

/-- Every row that the cycle does not reclaim keeps its visibility in each epoch in flight. -/
theorem State.cycle_keeps_visible {s : State} (hfree : s.inflightCount (s.glue.c + 1) = 0) (k : List Nat) (h : Hidden) {e : BitVec 3}
    (he : s.inflight e = true) (hkeep : (s.cycleOf k true).reclaims h = false) :
    s.nextEpoch.visible ((s.cycleOf k true).apply h).st ((s.cycleOf k true).apply h).birth ((s.cycleOf k true).apply h).death e =
      s.visible h.st h.birth h.death e := by
  obtain ⟨st, tag, birth, death⟩ := h
  have hborn := State.born_next hfree he k birth
  have hdies := State.dies_next hfree he k
  unfold Cycle.reclaims at hkeep
  rw [State.drained_contains] at hkeep
  unfold Cycle.apply
  cases st with
  | free => rfl
  | veneer =>
    have hnext : s.nextEpoch.visible .live (s.cycleOf k true).next death e = false := by
      simpa [State.visible] using hdies
    by_cases htag : tag = 0
    · have hflying : s.inflight death = true := by simpa [htag] using hkeep
      simp [htag, State.mem_drained, hflying, State.visible]
    · simp only [htag, if_false]
      split
      · exact hnext
      · split <;> rfl
  | live =>
    have hlive : s.nextEpoch.visible .live ((s.cycleOf k true).settle birth) death e = s.visible .live birth death e := by
      simp [State.visible, hborn]
    by_cases htag : tag = 0
    · simpa [htag] using hlive
    · simp only [htag, if_false]
      split
      · simp [State.visible, hborn, hdies]
      · split <;> exact hlive
  | dying =>
    have hflying : s.inflight death = true := by simpa using hkeep
    have hdeath : s.nextEpoch.ageOf e > s.nextEpoch.ageOf death ↔ s.ageOf e > s.ageOf death := by
      rw [State.ageOf_next hfree he, State.ageOf_next hfree hflying]
      omega
    simp [State.mem_drained, hflying, State.visible, hborn, hdeath]

/-- What the cycle reclaims is free, and its death epoch has drained. -/
theorem State.cycle_reclaims (s : State) (k : List Nat) (h : Hidden) (hr : (s.cycleOf k true).reclaims h = true) :
    ((s.cycleOf k true).apply h).st = .free ∧ s.inflight h.death = false := by
  obtain ⟨st, tag, birth, death⟩ := h
  unfold Cycle.reclaims at hr
  rw [Bool.and_eq_true] at hr
  obtain ⟨hst, hdrained⟩ := hr
  refine ⟨?_, (s.mem_drained k true _).mp (by simpa using hdrained)⟩
  cases st with
  | free => rfl
  | veneer =>
    have htag : tag = 0 := by simpa using hst
    simp only [Cycle.apply, htag, hdrained, if_true]
  | live => simp at hst
  | dying => simp only [Cycle.apply, hdrained, if_true]

/-- In the new epoch the LIVE rows are the visible ones. -/
theorem State.visible_newest (s : State) (st : RowState) (birth death : BitVec 3) :
    s.nextEpoch.visible st birth death (s.glue.c + 1) = (st == .live) := by
  have hzero : s.nextEpoch.ageOf (s.glue.c + 1) = 0 := epochAge_self _
  unfold State.visible
  rw [hzero]
  cases st <;> simp

/-- The rows that a cycle leaves LIVE: those that clamp, and the LIVE ones that do not die. -/
theorem Cycle.apply_live (y : Cycle) (h : Hidden) :
    ((y.apply h).st == .live) =
      ((h.st == .live && (h.tag == 0 || !y.k.contains h.tag)) || (h.st == .veneer && h.tag != 0 && y.k.contains h.tag)) := by
  obtain ⟨st, tag, birth, death⟩ := h
  unfold Cycle.apply
  cases st with
  | free => rfl
  | dying => dsimp only; split <;> rfl
  | live =>
    by_cases htag : tag = 0
    · simp [htag]
    · cases hk : y.k.contains tag <;> simp only [htag, if_false, if_true, Bool.false_eq_true]
      · split <;> simp
      · simp [beq_false_of_ne htag]; rfl
  | veneer =>
    by_cases htag : tag = 0
    · simp only [htag, if_true]
      split <;> rfl
    · cases hk : y.k.contains tag <;> simp only [htag, if_false, if_true, Bool.false_eq_true]
      · rw [Bool.and_false, Bool.or_false]
        split <;> rfl
      · simp [htag]

/-- Settles O28: case by case of Table 5.2, with the ages of the epochs in flight shifted by one. -/
theorem advanceKeepsSnapshots : Obligations.AdvanceKeepsSnapshots := by
  unfold Obligations.AdvanceKeepsSnapshots
  intro s k h hfree
  refine ⟨rfl, fun e he hkeep => State.cycle_keeps_visible hfree k h he hkeep, fun hr => s.cycle_reclaims k h hr, ?_⟩
  exact (s.visible_newest _ _ _).trans (Cycle.apply_live _ h)

end Sys2Proof.Machine


/-! What `exec` answers, said through the body of its command, and the commands on queue pairs. -/

namespace Sys2Proof.Machine

/-! ## The answer of `exec` -/

theorem Makes.of_finish {i : Instr} {s t : State} {P : State → Prop} (h : exec i s = finish s t) (hp : P (s.after t)) : Makes i s P :=
  ⟨_, h, hp⟩

/-- A row that runs while the core domain is up. -/
theorem Makes.of_up {i : Instr} {s : State} {f : State → State} {P : State → Prop} (hup : s.coreUp = true)
    (h : exec i s = finish s (whileUp s f)) (hp : P (s.after (f s))) : Makes i s P := by
  rw [whileUp_up f hup] at h
  exact .of_finish h hp

/-- A row that the firmware works on. -/
theorem Makes.of_fw {i : Instr} {s : State} {f : State → State} {P : State → Prop} (hup : s.fwUp = true)
    (h : exec i s = finish s (whileFw s f)) (hp : P (s.after (f s))) : Makes i s P := by
  rw [whileFw_up f hup] at h
  exact .of_finish h hp

/-- A command that is taken ends as its body says. -/
theorem Makes.of_taken {i : Instr} {op : Nat} {q : Request} {s : State} {body : State → Request → State × CmdEnd} {P : State → Prop}
    (ht : Taken op q s) (h : exec i s = finish s (runCmd op q body s)) (hp : P (s.after (endCmd op q (body s q)))) : Makes i s P := by
  rw [runCmd_taken body ht] at h
  exact .of_finish h hp

/-- A command that is taken and ends with a final reply. -/
theorem finish_final {op : Nat} {q : Request} {s t : State} {st : Nat} {w : List Word} {body : State → Request → State × CmdEnd}
    (ht : Taken op q s) (h : body s q = (t, .final st w)) : finish s (runCmd op q body s) = .next (s.after (t.reply op q st w)) := by
  rw [runCmd_taken body ht, h, endCmd_final, finish_eq]

/-! ## IDENTIFY and EVENT_POP -/

theorem State.eventPop_good (s : State) {q : Request} (h1 : 1 ≤ q.f 0 0 6) (h2 : q.f 0 0 6 ≤ 32) (h3 : q.stray 0 0x3F = false) :
    s.eventPop q = ({ s with evt := { s.evt with q := s.evt.q.drop (q.f 0 0 6) } }, .final St.ok
      (w32 (min (q.f 0 0 6) s.evt.q.length + (s.evt.q.length - q.f 0 0 6) * 2 ^ 16) ::
        (s.evt.q.take (q.f 0 0 6)).flatMap (fun (e : EvtEntry) => [e.w0, e.w1, e.a, e.b]))) := by
  have h : ¬ (q.f 0 0 6 = 0 ∨ 32 < q.f 0 0 6 ∨ q.stray 0 0x3F = true) := by simp [h3]; omega
  unfold State.eventPop
  dsimp only
  rw [if_neg h, List.length_take, List.length_drop]

theorem State.eventPop_bad (s : State) {q : Request} (h : q.f 0 0 6 = 0 ∨ 32 < q.f 0 0 6 ∨ q.stray 0 0x3F = true) :
    s.eventPop q = (s, .final 0x01B0 []) := by
  unfold State.eventPop
  rw [if_pos h]
  rfl

/-- Settles O14: both commands end with a final reply, and EVENT_POP has its two arms. -/
theorem generalCommandsComplete : Obligations.GeneralCommandsComplete := by
  unfold Obligations.GeneralCommandsComplete
  exact ⟨fun q s ht => ⟨finish_final ht rfl, rfl, rfl⟩,
    fun q s ht h1 h2 h3 => finish_final ht (s.eventPop_good h1 h2 h3), fun q s ht h => finish_final ht (s.eventPop_bad h)⟩

/-! ## Queue pairs -/

theorem State.rouse_run {s : State} (h : s.pwr.state = .run) : s.rouse = s := by simp [State.rouse, h]

theorem State.pair_after (s t : State) (n : Nat) : (s.after t).pair n = t.pair n := rfl

/-- A pair that settles changes whether it has stopped, and nothing else. -/
theorem State.pairSettle_pair (s : State) (n : Nat) :
    ((s.pairSettle n).pair n).run = (s.pair n).run ∧ ((s.pairSettle n).pair n).doorbellErr = (s.pair n).doorbellErr ∧
      ((s.pairSettle n).pair n).held = (s.pair n).held ∧ (s.pairSettle n).out = s.out := by
  unfold State.pairSettle
  dsimp only
  split <;> simp

/-- An enable with good sizes: the pair as it stands after it. -/
theorem State.writeCfg_enable {s : State} (n : Fin 16) {v : Word} (hv : bit v 31 = true) (hold : s.rb (Reg.cmdqQCfg n) 31 = false)
    (hctrl : s.rb Reg.cmdqCtrl 0 = true) (hsq : 1 ≤ fld v 0 4 ∧ fld v 0 4 ≤ 12) (hcq : 1 ≤ fld v 4 4 ∧ fld v 4 4 ≤ 12) :
    s.writeCfg n v = (s.wr (Reg.cmdqQCfg n) (merge 0 v 0x80003FFF)).setPair n
      { (if (s.pair n).sqLog2 = fld v 0 4 ∧ (s.pair n).cqLog2 = fld v 4 4 then s.pair n
         else { s.pair n with sqHead := 0, sqTail := 0, cqHead := 0, cqTail := 0, phase := true }) with
        run := true, stopping := false, stopped := false, doorbellErr := false
        sqBase := s.rd64 (Reg.cmdqQSqBaseLo n), cqBase := s.rd64 (Reg.cmdqQCqBaseLo n), sqLog2 := fld v 0 4, cqLog2 := fld v 4 4 } := by
  have hrd {b : Nat} (hb : b ≠ Reg.cmdqQCfg n) : (s.wr (Reg.cmdqQCfg n) (merge 0 v 0x80003FFF)).rd b = s.rd b := s.rd_wr_ne _ hb
  have hctrl' : (s.wr (Reg.cmdqQCfg n) (merge 0 v 0x80003FFF)).rb Reg.cmdqCtrl 0 = true := by
    rw [State.rb, hrd (by unfold Reg.cmdqCtrl Reg.cmdqQCfg; omega)]
    exact hctrl
  have hgood : ¬ (fld v 0 4 = 0 ∨ 12 < fld v 0 4 ∨ fld v 4 4 = 0 ∨ 12 < fld v 4 4) := by omega
  have hsqb : (s.wr (Reg.cmdqQCfg n) (merge 0 v 0x80003FFF)).rd64 (Reg.cmdqQSqBaseLo n) = s.rd64 (Reg.cmdqQSqBaseLo n) := by
    unfold State.rd64
    rw [hrd (by unfold Reg.cmdqQSqBaseLo Reg.cmdqQCfg; omega), hrd (by unfold Reg.cmdqQSqBaseLo Reg.cmdqQCfg; omega)]
  have hcqb : (s.wr (Reg.cmdqQCfg n) (merge 0 v 0x80003FFF)).rd64 (Reg.cmdqQCqBaseLo n) = s.rd64 (Reg.cmdqQCqBaseLo n) := by
    unfold State.rd64
    rw [hrd (by unfold Reg.cmdqQCqBaseLo Reg.cmdqQCfg; omega), hrd (by unfold Reg.cmdqQCqBaseLo Reg.cmdqQCfg; omega)]
  unfold State.writeCfg
  dsimp only
  rw [if_pos ⟨hv, by simp [hold]⟩, if_neg (not_not_intro hctrl'), if_neg hgood, hsqb, hcqb]
  rfl

theorem State.writeCfg_disable {s : State} (n : Fin 16) {v : Word} (hv : bit v 31 = false) :
    s.writeCfg n v = ((s.wr (Reg.cmdqQCfg n) (merge 0 v 0x80003FFF)).setPair n
      { s.pair n with run := false, stopping := true, stopped := false, doorbellErr := false }).pairSettle n := by
  unfold State.writeCfg
  dsimp only
  rw [if_neg (by simp [hv]), if_pos (by simp [hv])]
  rfl

theorem State.resetPair_cmds_muted (s : State) (n : Fin 16) {c : Cmd} (h : c ∈ (s.resetPair n).cmdq.cmds) (hs : c.q.stream = .pcie n) :
    c.mute = true := by
  obtain ⟨d, -, rfl⟩ := List.mem_map.mp h
  by_cases hd : ∃ k : Fin 16, d.q.stream = .pcie k ∧ k.val = n.val
  · simp [hd]
  · rw [if_neg (by simpa using hd)] at hs
    exact absurd ⟨n, hs, rfl⟩ hd

theorem State.resetPair_cmds_other (s : State) (n : Fin 16) {c : Cmd} (h : c ∈ s.cmdq.cmds) (hs : c.q.stream ≠ .pcie n) :
    c ∈ (s.resetPair n).cmdq.cmds := by
  have hc : ¬ ∃ k : Fin 16, c.q.stream = .pcie k ∧ k.val = n.val := by
    rintro ⟨k, hk, e⟩
    exact hs (Fin.ext e ▸ hk)
  exact List.mem_map.mpr ⟨c, List.mem_filter.mpr ⟨h, by simp [hc]⟩, by simp [hc]⟩

/-- Settles O7: a doorbell in Run is one write of the pair; an enable, a disable and a reset are the lemmas above. -/
theorem queuePairsComplete : Obligations.QueuePairsComplete := by
  unfold Obligations.QueuePairsComplete
  intro s n v hup hrun
  refine ⟨fun h hv => .of_up hup rfl ?_, fun h hv => .of_up hup rfl ?_, fun h hv => .of_up hup rfl ?_, fun h hv => .of_up hup rfl ?_,
    fun hv hold hctrl hs1 hs2 hc1 hc2 => .of_up hup rfl ?_, fun hv => .of_up hup rfl ?_, .of_up hup rfl ?_⟩
  · simp [State.rouse_run hrun, h, Nat.not_le.mpr hv, State.pair_after]
  · simp [State.rouse_run hrun, h, hv, State.pair_after]
  · simp [State.rouse_run hrun, h, Nat.not_le.mpr hv, State.pair_after]
  · simp [State.rouse_run hrun, h, hv, State.pair_after]
  · rw [State.writeCfg_enable n hv hold hctrl ⟨hs1, hs2⟩ ⟨hc1, hc2⟩]
    rw [State.pair_after, State.pair_setPair_same]
    refine ⟨rfl, rfl, rfl, rfl, rfl, rfl, rfl, fun hne => ?_⟩
    rw [if_neg (fun h => hne h.1)]
    exact ⟨rfl, rfl, rfl⟩
  · rw [State.writeCfg_disable n hv]
    simpa [State.pair_after] using
      State.pairSettle_pair ((s.wr (Reg.cmdqQCfg n) (merge 0 v 0x80003FFF)).setPair n
        { s.pair n with run := false, stopping := true, stopped := false, doorbellErr := false }) n
  · have hp : (s.after (s.resetPair n)).pair n = { s.pair n with
        run := false, stopping := false, stopped := true, sqHead := 0, sqTail := 0, cqHead := 0, cqTail := 0, phase := true, held := [] } :=
      s.pair_setPair_same n _
    rw [hp]
    exact ⟨rfl, rfl, rfl, rfl, rfl, rfl, fun c hc hs => s.resetPair_cmds_muted n hc hs, fun c hc hs => s.resetPair_cmds_other n hc hs, rfl⟩

end Sys2Proof.Machine


/-! Registers: what a path reaches, and accesses that change nothing but the register they name (R428 to R431). -/

namespace Sys2Proof.Machine

/-- A command that may reset, and has reset nothing, ends in the state that it made. -/
theorem State.afterReset_of_eq {s t : State} (hp : t.pending = s.pending) (hs : t.sec = s.sec) (hc : t.scr = s.scr) :
    s.afterReset t = t := by
  unfold State.afterReset
  rw [← hp, ← hs, ← hc]
  have hm : (if t.scr.mem = [] then [] else t.scr.mem) = t.scr.mem := by
    split
    · next h => exact h.symm
    · rfl
  rw [hm]

theorem State.spiUp_of_coreUp {s : State} (h : s.coreUp = true) : s.spiUp = true := by
  simp only [State.coreUp, Bool.and_eq_true, Bool.not_eq_true', Bool.or_eq_false_iff, Bool.or_eq_true, beq_iff_eq] at h
  obtain ⟨⟨hst, -, hvaon⟩, -⟩ := h
  rcases hst with e | e <;> simp [State.spiUp, hvaon, e]

/-- While the core domain is up, every path reaches every address. -/
theorem State.reaches_up {s : State} (h : s.coreUp = true) (p : Path) (addr : Nat) : s.reaches p addr = true := by
  cases p
  case spi => simp [State.reaches, State.spiUp_of_coreUp h, State.heathOnly, h]
  all_goals exact h

/-! ## The four views (R431) -/

/-- The row of a register has CTRL fields under the mask `m`, and none of another kind that takes a write. -/
def RegRow.onlyCtrl (r : RegRow) (m : Nat) : Bool := r.ctrl == m && r.lock == 0 && r.w1 == 0 && r.cnt == 0 && r.hs == 0

/-- The register at `a` has CTRL fields alone, and a write of it does nothing but store. -/
def PlainCtrl (a m : Nat) : Prop :=
  (regRow? a).any (fun r => r.onlyCtrl m) = true ∧ slowBlock a = none ∧ isHi a = false ∧ isLo a = false ∧ inDebug a = false ∧
    stagedField a = none ∧ a % 0x1000 = 0 ∧ a < 2 ^ 22 ∧ a ≠ Reg.scratchHostCmd ∧
    ∀ (s : State) (r : RegRow) (d : Word), s.writeWord a r d = s.writeFields a r d

/-- The registers that O16 names. -/
def plainCtrls : List (Nat × Nat) :=
  [(Reg.arrayCtrl, 1), (Reg.glueCtrl, 0x1FF), (Reg.exactCtrl, 0xF), (Reg.cohereCtrl, 1), (Reg.fabricCtrl, 1), (Reg.mitreCtrl, 1),
    (Reg.switchCtrl, 1), (Reg.mapperCtrl, 3), (Reg.timeCtrl, 1), (Reg.secCtrl, 1), (Reg.scratchCtrl, 1), (Reg.gleanerCtrl, 0x1F),
    (Reg.arbCtrl, 1), (Reg.updateCtrl, 0xFF01)]

theorem plainCtrls_plain {a m : Nat} (h : (a, m) ∈ plainCtrls) : PlainCtrl a m := by
  simp only [plainCtrls, List.mem_cons, Prod.mk.injEq, List.not_mem_nil, or_false] at h
  rcases h with ⟨rfl, rfl⟩ | ⟨rfl, rfl⟩ | ⟨rfl, rfl⟩ | ⟨rfl, rfl⟩ | ⟨rfl, rfl⟩ | ⟨rfl, rfl⟩ | ⟨rfl, rfl⟩ | ⟨rfl, rfl⟩ | ⟨rfl, rfl⟩ |
    ⟨rfl, rfl⟩ | ⟨rfl, rfl⟩ | ⟨rfl, rfl⟩ | ⟨rfl, rfl⟩ | ⟨rfl, rfl⟩
  all_goals
    exact ⟨by decide +kernel, rfl, rfl, rfl, rfl, rfl, rfl, by decide, by decide, fun _ _ _ => rfl⟩

/-- The view that an offset `0x400 * k` selects. -/
def viewOf (k : Nat) : View := match k with | 0 => .normal | 1 => .setBits | 2 => .clearBits | _ => .toggleBits

theorem State.place_view (s : State) {p : Path} (hp : p ≠ .bar2) {a k : Nat} (ha : a % 0x1000 = 0) (hlt : a < 2 ^ 22) (hk : k < 4) :
    s.place p (BitVec.ofNat 24 (a + 0x400 * k)).toNat = some (a, viewOf k) := by
  have haddr : (BitVec.ofNat 24 (a + 0x400 * k)).toNat = a + 0x400 * k := by rw [BitVec.toNat_ofNat]; omega
  have hmod : (a + 0x400 * k) % 2 ^ 22 = a + 0x400 * k := by omega
  have hbase : (a + 0x400 * k) / 0x1000 * 0x1000 + (a + 0x400 * k) % 0x400 / 4 * 4 = a := by omega
  have hview : (a + 0x400 * k) % 0x1000 / 0x400 = k := by omega
  have hin : ¬ 2 ^ 22 ≤ a + 0x400 * k := by omega
  rw [haddr]
  cases p
  case bar2 => exact absurd rfl hp
  all_goals
    simp only [State.place, hmod, hbase, hview, if_neg hin, ite_self]
    rfl

/-- What each view makes of the fields under the mask `m`. -/
def viewResult (k : Nat) (x d m : Word) : Word :=
  match k with
  | 0 => (x &&& ~~~m) ||| (d &&& m)
  | 1 => x ||| (d &&& m)
  | 2 => x &&& ~~~(d &&& m)
  | _ => x ^^^ (d &&& m)

theorem merge_viewData {s : State} {a m : Nat} {r : RegRow} (hr : r.onlyCtrl m = true) (hst : stagedField a = none) (d : Word) (k : Nat) :
    merge (s.rd a) (s.viewData a r (viewOf k) d) m = viewResult k (s.rd a) d (w32 m) := by
  simp only [RegRow.onlyCtrl, Bool.and_eq_true, beq_iff_eq] at hr
  obtain ⟨⟨⟨⟨hc, hl⟩, hw⟩, hn⟩, hh⟩ := hr
  have hv : s.fieldsNow a r = s.rd a &&& w32 m := by simp [State.fieldsNow, hst, hc, hl, hw, hn]
  have h0 : w32 r.hs = 0#32 := by rw [hh]; rfl
  unfold merge State.viewData
  rw [hv, h0]
  generalize s.rd a = x
  generalize w32 m = y
  apply BitVec.eq_of_getLsbD_eq
  intro i hi
  match k with
  | 0 => rfl
  | 1 =>
    simp only [viewOf, viewResult, BitVec.not_zero, BitVec.and_allOnes, BitVec.and_zero, BitVec.or_zero, BitVec.getLsbD_or,
      BitVec.getLsbD_and, BitVec.getLsbD_not, hi]
    grind
  | 2 =>
    simp only [viewOf, viewResult, BitVec.not_zero, BitVec.and_allOnes, BitVec.getLsbD_or, BitVec.getLsbD_and, BitVec.getLsbD_not, hi]
    grind
  | k + 3 =>
    simp only [viewOf, viewResult, BitVec.not_zero, BitVec.and_allOnes, BitVec.getLsbD_or, BitVec.getLsbD_and, BitVec.getLsbD_not,
      BitVec.getLsbD_xor, hi]
    grind

/-- A mask has 32 bits. -/
theorem merge_mask (x y : Word) (m : Nat) : merge x y ((m ||| 0) &&& (0xFFFFFFFF ^^^ 0)) = merge x y m := by
  have h : w32 ((m ||| 0) &&& (0xFFFFFFFF ^^^ 0)) = w32 m := by
    apply BitVec.eq_of_toNat_eq
    rw [w32, w32, BitVec.toNat_ofNat, BitVec.toNat_ofNat, Nat.or_zero, Nat.xor_zero, Nat.and_two_pow_sub_one_eq_mod m 32, Nat.mod_mod]
  rw [merge, merge, h]

theorem State.regWriteBy_plain {s : State} (hup : s.coreUp = true) {p : Path} {addr a m k : Nat} (hplace : s.place p addr = some (a, viewOf k))
    (h : PlainCtrl a m) (d : Word) : s.regWriteBy p addr d 15 = .next (s.wr a (viewResult k (s.rd a) d (w32 m))) := by
  obtain ⟨hrow, hslow, hhi, hlo, hdbg, hst, -, -, hcmd, hword⟩ := h
  obtain ⟨r, hrow, hr⟩ := (Option.any_eq_true _ _).mp hrow
  have hwrite : s.write p addr d = s.wr a (viewResult k (s.rd a) d (w32 m)) := by
    rw [← merge_viewData hr hst d k, ← merge_mask]
    simp only [RegRow.onlyCtrl, Bool.and_eq_true, beq_iff_eq] at hr
    obtain ⟨⟨⟨⟨hc, hl⟩, -⟩, hn⟩, -⟩ := hr
    simp only [State.write, hplace, hslow, State.landWrite, hrow, hhi, hlo, hword, State.writeFields, hst, Bool.false_eq_true, if_false,
      Option.elim_none, if_true, hl, hc, hn]
  have hhost : (a == Reg.scratchHostCmd) = false := beq_false_of_ne hcmd
  unfold State.regWriteBy State.busWrite finishReset
  rw [if_neg (by simp [State.reaches_up hup]), hplace, if_neg (by simp [hdbg]), if_neg (by simp [hhost]), if_neg (by omega), hwrite,
    State.afterReset_of_eq]
  all_goals rfl

/-- Settles O16: a write of a plain register stores what its view makes of the data, and that is all. -/
theorem aliasViewsWrite : Obligations.AliasViewsWrite := by
  unfold Obligations.AliasViewsWrite
  intro s a m k d hup hk hmem c hc
  have hplain := plainCtrls_plain hmem
  refine ⟨s.wr a (viewResult k (s.rd a) d (w32 m)), ?_, ?_, fun b hb => s.rd_wr_ne _ hb, rfl⟩
  · have hwrite {p : Path} (hp : p ≠ .bar2) : s.regWriteBy p (BitVec.ofNat 24 (a + 0x400 * k)).toNat d 15 =
        .next (s.wr a (viewResult k (s.rd a) d (w32 m))) := by
      have ⟨_, _, _, _, _, _, hal, hlt, _⟩ := hplain
      exact State.regWriteBy_plain hup (s.place_view hp hal hlt hk) hplain d
    rcases hc with rfl | rfl | rfl
    · exact hwrite (p := .spi) (by decide)
    · exact hwrite (p := .bar0) (by decide)
    · exact hwrite (p := .firmware) (by decide)
  · rw [State.rd_wr_same]
    rfl

/-! ## Reads, partial writes and addresses outside the window (R428, R430, R55) -/

theorem State.readAt_plain {s : State} (p : Path) {a : Nat} (hslow : slowBlock a = none) (h0 : isNsec a = false)
    (h4 : isNsec (a - 4) = false) (h8 : isNsec (a - 8) = false) (hlo : isLo a = false) (hhi : isHi a = false)
    (hv : a ≠ Reg.lockViolAddr) (hd : a ≠ Reg.globalPostedDropAddr) (hl : a ≠ Reg.powerLanes) : s.readAt p a = (s.regVal a, s) := by
  have hchan : ¬ (0xC0000 ≤ a ∧ a < 0x100000 ∧ a % 0x1000 = 0x18) := by
    rintro ⟨h1, h2, -⟩
    unfold slowBlock at hslow
    rw [if_neg (by omega), if_neg (by omega), if_pos ⟨h1, h2⟩] at hslow
    cases hslow
  unfold State.readAt
  simp [h0, h4, h8, hlo, hhi, hv, hd, hl, hchan]

theorem State.answerRead_keeps (s : State) (p : Path) (addr : Nat) (v : Word) :
    s.afterReset (State.answerRead p addr (v, s)) =
      { s with out := { s.out with reads := s.out.reads ++ [(p, addr, v)] } } :=
  State.afterReset_of_eq rfl rfl rfl

/-- Settles O17: each access by the branch of the reading or writing rule that its hypotheses select. -/
theorem registerAccesses : Obligations.RegisterAccesses := by
  unfold Obligations.RegisterAccesses
  intro s
  refine ⟨fun addr a v hup hplace hdbg hslow h0 h4 h8 hlo hhi hv hd hl => ?_, fun addr hspi hdown hout => ?_,
    fun addr v be hup hbe hhost => ?_, fun p addr v be hr => ?_, fun addr v hspi => ⟨?_, ?_⟩⟩
  · have hread : s.read .spi addr.toNat = (s.regVal a, s) := by
      unfold State.read
      rw [hplace]
      simp only [hdbg, hslow, Bool.false_eq_true, if_false, Option.elim_none]
      exact State.readAt_plain .spi hslow h0 h4 h8 hlo hhi hv hd hl
    show finishReset s (s.regReadBy .spi addr.toNat) = _
    unfold State.regReadBy finishReset
    rw [if_pos (State.reaches_up hup _ _), hread, State.answerRead_keeps]
  · have hno : s.reaches .spi addr.toNat = false := by
      simp only [State.reaches, State.heathOnly, hdown, hspi]
      simpa using hout
    show finishReset s (s.regReadBy .spi addr.toNat) = _
    unfold State.regReadBy finishReset
    rw [if_neg (by simp [hno]), if_pos ⟨rfl, hspi⟩, State.answerRead_keeps]
  · have h15 : be.toNat % 16 ≠ 15 := fun e => hbe (BitVec.eq_of_toNat_eq (by rwa [Nat.mod_eq_of_lt be.isLt] at e))
    show s.regWriteBy .bar0 addr.toNat v be.toNat = _
    unfold State.regWriteBy State.busWrite finishReset
    rw [if_neg (by simp [State.reaches_up hup]), if_neg (by simp [h15]), if_neg (by simp [hhost]), if_pos ⟨.inl rfl, h15⟩,
      State.afterReset_of_eq]
    all_goals rfl
  · show s.regWriteBy p addr.toNat v be.toNat = _
    unfold State.regWriteBy
    rw [if_pos (by simp [hr])]
    rfl
  · show s.regWriteBy .spi addr.toNat v 15 = _
    unfold State.regWriteBy
    rw [if_pos (by simp [State.reaches, hspi])]
    rfl
  · show finishReset s (s.regReadBy .spi addr.toNat) = _
    unfold State.regReadBy finishReset
    rw [if_neg (by simp [State.reaches, hspi]), if_neg (by simp [hspi]), State.afterReset_of_eq rfl rfl rfl]

end Sys2Proof.Machine


/-! What passes with the clock (`State.advance`), and the configuration CRC (R453, R454). -/

namespace Sys2Proof.Machine

/-! ## The clock -/

/-- The registers that count as the clock advances: the array's waits and the governor's held cycles. -/
def clockCounts (a : Nat) : Prop := (0x801C0 ≤ a ∧ a ≤ 0x801E0) ∨ a = 0x30024

/-- `t` is `s` with some of these registers counted on. -/
def State.Counted (s t : State) : Prop :=
  ∃ v, t = { s with reg := { s.reg with vals := v } } ∧ ∀ a, ¬ clockCounts a → t.rd a = s.rd a

theorem State.Counted.refl (s : State) : s.Counted s := ⟨_, rfl, fun _ _ => rfl⟩

theorem State.Counted.trans {s t u : State} (h : s.Counted t) (k : t.Counted u) : s.Counted u := by
  obtain ⟨v, rfl, hr⟩ := h
  obtain ⟨w, rfl, kr⟩ := k
  exact ⟨w, rfl, fun a ha => (kr a ha).trans (hr a ha)⟩

theorem State.cnt_counted (s : State) {b : Nat} (n : Nat) (hb : clockCounts b) : s.Counted (s.cnt b n) :=
  ⟨_, rfl, fun _ ha => s.rd_cnt_ne n (fun e => ha (e ▸ hb))⟩

theorem State.waitingLanes_le {s : State} {n : Nat × Nat} (h : n ∈ s.waitingLanes) : n.1 ≤ 8 := by
  obtain ⟨l, hl, rfl⟩ := List.mem_map.mp h
  rw [List.mem_eraseDups] at hl
  obtain ⟨x, hx, rfl⟩ := List.mem_map.mp hl
  have hlane := (List.mem_filter.mp hx).2
  simp only [Bool.and_eq_true, decide_eq_true_eq] at hlane
  exact hlane.2

theorem State.waitCounts_counted {ns : List (Nat × Nat)} (hns : ∀ n ∈ ns, n.1 ≤ 8) (f : Nat × Nat → Nat) (s : State) :
    s.Counted (ns.foldl (fun t n => t.cnt (Reg.arbArrayWait n.1) (f n)) s) := by
  induction ns generalizing s with
  | nil => exact .refl s
  | cons n ns ih =>
    obtain ⟨hn, hns⟩ := List.forall_mem_cons.mp hns
    exact (s.cnt_counted _ (.inl (by unfold Reg.arbArrayWait; omega))).trans (ih hns _)

/-- An advance of the clock moves the clocks, the governor's level and Heath's clock, and counts. -/
theorem State.advance_eq (s : State) (k : Nat) : ∃ v r c,
    s.advance k = { s with
      reg := { s.reg with vals := v }
      clk := { s.clk with age := (s.clk.age + k) % 2 ^ 64, dt := (s.clk.dt + k * s.tickUnits) % dtWrap }
      tern := { s.tern with govLevel := s.govFill k }, heath := { s.heath with rtc := r, rtcAcc := c } } ∧
    ∀ a, ¬ clockCounts a → (s.advance k).rd a = s.rd a := by
  have hwaits (u : State) : u.Counted (s.waitingLanes.foldl (fun t n => t.cnt (Reg.arbArrayWait n.1) (k - (n.2 - s.clk.age))) u) :=
    State.waitCounts_counted (fun n hn => s.waitingLanes_le hn) _ u
  have hheld (b : Bool) (u : State) : u.Counted (if b = true then u.cnt Reg.arrayGovHeldCycles k else u) := by
    split
    · exact u.cnt_counted k (.inr rfl)
    · exact .refl u
  obtain ⟨v, hv, hr⟩ := (hwaits _).trans (hheld s.govHolding _)
  exact ⟨v, _, _, hv, hr⟩

theorem State.until_clk_age {s : State} {n : Nat} (h : s.clk.age ≤ n) (hn : n < 2 ^ 64) : (s.until n).clk.age = n := by
  obtain ⟨v, r, c, e, -⟩ := s.advance_eq (n - s.clk.age)
  rw [State.until, e]
  dsimp only
  rw [Nat.mod_eq_of_lt (by omega)]
  omega

theorem State.until_past {s : State} {n : Nat} (h : n ≤ s.clk.age) (ha : s.clk.age < 2 ^ 64) : (s.until n).clk.age = s.clk.age := by
  obtain ⟨v, r, c, e, -⟩ := s.advance_eq (n - s.clk.age)
  rw [State.until, e]
  dsimp only
  rw [Nat.sub_eq_zero_of_le h, Nat.add_zero, Nat.mod_eq_of_lt ha]

theorem State.until_reg (s : State) (n : Nat) : (s.until n).reg = { s.reg with vals := (s.until n).reg.vals } := by
  obtain ⟨v, r, c, e, -⟩ := s.advance_eq (n - s.clk.age)
  rw [State.until, e]

theorem State.until_rd (s : State) (n : Nat) {a : Nat} (ha : ¬ clockCounts a) : (s.until n).rd a = s.rd a := by
  obtain ⟨v, r, c, -, hr⟩ := s.advance_eq (n - s.clk.age)
  exact hr a ha

/-! ## Counters and events -/

/-- Reading a register looks at the stored values alone. -/
theorem State.rd_of_vals {s t : State} (h : t.reg.vals = s.reg.vals) (a : Nat) : t.rd a = s.rd a := by simp [State.rd, h]

@[simp] theorem State.rd_after (s t : State) (a : Nat) : (s.after t).rd a = t.rd a := rfl

/-- A counter that has stopped short of its end. -/
theorem State.rd_cnt_one (s : State) (a : Nat) : (s.cnt a 1).rd a = w32 (min 0xFFFFFFFF ((s.rd a).toNat + 1)) := by
  rw [State.rd_cnt_same, sat32, Nat.min_comm]

/-- An event changes the queue of events; a lost one counts. -/
theorem State.event_eq (s : State) (b c i : Nat) (x y : Word) : ∃ v e,
    s.event b c i x y = { s with reg := { s.reg with vals := v }, evt := e } ∧
    ∀ a, a ≠ Reg.globalEventLostCount → (s.event b c i x y).rd a = s.rd a := by
  unfold State.event
  split
  · unfold State.putEvent
    split
    · exact ⟨_, _, rfl, fun a ha => s.rd_cnt_ne 1 ha⟩
    · exact ⟨_, _, rfl, fun _ _ => rfl⟩
  · exact ⟨_, _, rfl, fun _ _ => rfl⟩

/-- A violation of a lock is counted, and leaves the state of the CRC alone. -/
theorem State.violate_counts (s : State) (a : Nat) :
    (s.violate a).rd Reg.lockViolCount = w32 (min 0xFFFFFFFF ((s.rd Reg.lockViolCount).toNat + 1)) ∧ (s.violate a).reg.crc = s.reg.crc := by
  unfold State.violate
  dsimp only
  split
  · exact ⟨s.rd_cnt_one _, rfl⟩
  · exact ⟨((s.cnt Reg.lockViolCount 1).rd_wr_ne _ (by decide)).trans (s.rd_cnt_one _), rfl⟩

/-! ## The configuration CRC -/

/-- A pass during which no register has changed: its result is that of the values in force. -/
theorem State.passCrc_unchanged {s : State} (h : s.reg.crc.startVals = s.reg.vals) : s.passCrc = (s.configCrc, s) := by
  have hvalue (x : Nat × Nat) : s.passValue x = (s.rd x.1 &&& w32 x.2, s) := by
    unfold State.passValue
    rw [h]
    exact if_pos rfl
  have hfold (l : List (Nat × Nat)) (b : List Nat) :
      l.foldl (fun (a : List Nat × State) x =>
        let (v, s) := a.2.passValue x
        (a.1 ++ (bytesLE 4 x.1 ++ bytesLE 4 v.toNat).map (·.toNat), s)) (b, s) =
      (b ++ l.flatMap (fun x => (bytesLE 4 x.1 ++ bytesLE 4 (s.rd x.1 &&& w32 x.2).toNat).map (·.toNat)), s) := by
    induction l generalizing b with
    | nil => simp
    | cons x l ih =>
      rw [List.foldl_cons, hvalue, ih, List.flatMap_cons, List.append_assoc]
  unfold State.passCrc State.configCrc
  rw [hfold, List.nil_append]

theorem ceilDiv_bounds (a : Nat) {b : Nat} (hb : 0 < b) : a ≤ ceilDiv a b * b ∧ ceilDiv a b * b < a + b := by
  unfold ceilDiv
  have h := Nat.div_add_mod (a + b - 1) b
  have hm := Nat.mod_lt (a + b - 1) hb
  rw [Nat.mul_comm] at h
  omega

theorem State.compareCrc_eq (s : State) (v : Word) :
    (s.compareCrc v).reg.crc.running = s.reg.crc.running ∧ (s.compareCrc v).reg.crc.mismatch = (v != s.rd Reg.cfgcrcRef) ∧
      (∀ a, a ≠ Reg.globalEventLostCount → a ≠ Reg.cfgcrcMismatchCount → (s.compareCrc v).rd a = s.rd a) ∧
      (s.compareCrc v).rd Reg.cfgcrcMismatchCount = (if v = s.rd Reg.cfgcrcRef ∨ s.reg.crc.mismatch = true then s.rd Reg.cfgcrcMismatchCount
        else w32 (min 0xFFFFFFFF ((s.rd Reg.cfgcrcMismatchCount).toNat + 1))) := by
  unfold State.compareCrc
  dsimp only
  by_cases hbad : v = s.rd Reg.cfgcrcRef ∨ s.reg.crc.mismatch = true
  · rw [if_neg (by rcases hbad with h | h <;> simp [h]), if_pos hbad]
    exact ⟨rfl, rfl, fun _ _ _ => rfl, rfl⟩
  · rw [if_pos (by simpa [not_or] using hbad), if_neg hbad]
    generalize hc : State.cnt _ Reg.cfgcrcMismatchCount 1 = t
    obtain ⟨w, e, he, hr⟩ := t.event_eq 0x00 0x01 0 v (s.rd Reg.cfgcrcRef)
    refine ⟨?_, ?_, fun a h1 h2 => ?_, ?_⟩
    · rw [he, ← hc]
      rfl
    · rw [he, ← hc]
      rfl
    · rw [hr a h1, ← hc]
      exact State.rd_cnt_ne _ 1 h2
    · rw [hr _ (by decide), ← hc]
      exact State.rd_cnt_one _ _

/-- The state in which a pass has left its result `v`, before the result is used. -/
def State.passResult (s : State) (c : CrcSt) (v : Word) : State :=
  (({ s with reg := { s.reg with crc := c } } : State).wr Reg.cfgcrcLast v).cnt Reg.cfgcrcPassCount 1

theorem State.passResult_last (s : State) (c : CrcSt) (v : Word) : (s.passResult c v).rd Reg.cfgcrcLast = v :=
  (State.rd_cnt_ne _ 1 (by decide)).trans (State.rd_wr_same _ _ _)

theorem State.passResult_rd (s : State) (c : CrcSt) (v : Word) {a : Nat} (h1 : a ≠ Reg.cfgcrcPassCount) (h2 : a ≠ Reg.cfgcrcLast) :
    (s.passResult c v).rd a = s.rd a :=
  (State.rd_cnt_ne _ 1 h1).trans (State.rd_wr_ne _ _ h2)

/-- The end of a pass that commits: its result becomes the reference. -/
theorem State.passEnd_commits {s : State} {n : Nat} (hup : s.coreUp = true) (hpass : s.passCrc = (n, s)) (hrun : s.reg.crc.running = true)
    (hcom : s.reg.crc.passCommits = true) : Makes .cfgcrcPassEnd s fun t =>
      t.rd Reg.cfgcrcLast = w32 n ∧ t.rd Reg.cfgcrcRef = w32 n ∧ t.reg.crc.running = false ∧ t.reg.crc.mismatch = false ∧
        t.reg.crc.latched = false ∧ t.evt = s.evt := by
  refine .of_up hup rfl ?_
  rw [if_neg (not_not_intro hrun), hpass]
  dsimp only
  rw [if_pos hcom]
  obtain hlast := s.passResult_last { s.reg.crc with running := false, startVals := [] } (w32 n)
  have hvals {u : State} (hu : u.reg.vals =
      ((s.passResult { s.reg.crc with running := false, startVals := [] } (w32 n)).wr Reg.cfgcrcRef (w32 n)).reg.vals) :
      u.rd Reg.cfgcrcLast = w32 n ∧ u.rd Reg.cfgcrcRef = w32 n := by
    rw [State.rd_of_vals hu, State.rd_of_vals hu]
    exact ⟨(State.rd_wr_ne _ _ (by decide)).trans hlast, State.rd_wr_same _ _ _⟩
  exact ⟨(hvals rfl).1, (hvals rfl).2, rfl, rfl, rfl, rfl⟩

/-- The end of a pass that compares its result with the reference. -/
theorem State.passEnd_compares {s : State} {n : Nat} (hup : s.coreUp = true) (hpass : s.passCrc = (n, s)) (hrun : s.reg.crc.running = true)
    (hcom : s.reg.crc.passCommits = false) (hwait : s.reg.crc.commitWait = false) (hen : bit (s.rd Reg.cfgcrcCtrl) 0 = true) :
    Makes .cfgcrcPassEnd s fun t =>
      t.rd Reg.cfgcrcLast = w32 n ∧ t.rd Reg.cfgcrcRef = s.rd Reg.cfgcrcRef ∧ t.reg.crc.running = false ∧
        t.reg.crc.mismatch = (w32 n != s.rd Reg.cfgcrcRef) ∧
        t.rd Reg.cfgcrcMismatchCount = (if w32 n = s.rd Reg.cfgcrcRef ∨ s.reg.crc.mismatch = true then s.rd Reg.cfgcrcMismatchCount
          else w32 (min 0xFFFFFFFF ((s.rd Reg.cfgcrcMismatchCount).toNat + 1))) := by
  refine .of_up hup rfl ?_
  rw [if_neg (not_not_intro hrun), hpass]
  dsimp only
  generalize hs : State.cnt _ Reg.cfgcrcPassCount 1 = t
  replace hs : s.passResult { s.reg.crc with running := false, startVals := [] } (w32 n) = t := hs
  have hrd {a : Nat} (h1 : a ≠ Reg.cfgcrcPassCount) (h2 : a ≠ Reg.cfgcrcLast) : t.rd a = s.rd a := by
    rw [← hs, s.passResult_rd _ _ h1 h2]
  have hcrc : t.reg.crc = { s.reg.crc with running := false, startVals := [] } := by rw [← hs]; rfl
  rw [if_neg (by simp [hcom]), if_pos ⟨by rw [State.rb, hrd (by decide) (by decide)]; exact hen, by simp [hwait]⟩]
  obtain ⟨h1, h2, h3, h4⟩ := t.compareCrc_eq (w32 n)
  rw [hrd (by decide) (by decide)] at h2 h4
  rw [hrd (by decide) (by decide), hcrc] at h4
  rw [State.rd_after, State.rd_after, State.rd_after, h3 _ (by decide) (by decide), h3 _ (by decide) (by decide), ← hs, s.passResult_last,
    s.passResult_rd _ _ (by decide) (by decide), hs]
  exact ⟨rfl, rfl, h1.trans (by rw [hcrc]), h2, h4⟩

/-- Settles O21: at the end of a pass its result is recorded first, and then it becomes the reference or is compared with it. -/
theorem configurationCrc : Obligations.ConfigurationCrc := by
  unfold Obligations.ConfigurationCrc
  intro s hup
  refine ⟨fun v hv hl => .of_up hup rfl ?_, fun v hv hl => .of_up hup rfl ?_, fun hrun hage hlast => .of_up hup rfl ?_,
    fun hrun hvals hcom => State.passEnd_commits hup (State.passCrc_unchanged hvals) hrun hcom,
    fun hrun hvals hcom hwait hen => State.passEnd_compares hup (State.passCrc_unchanged hvals) hrun hcom hwait hen⟩
  · unfold State.commitCrc
    rw [if_neg (not_not_intro hv), if_neg (by simp [hl])]
    exact ⟨rfl, rfl⟩
  · unfold State.commitCrc
    rw [if_neg (not_not_intro hv), if_pos hl]
    exact ⟨(s.violate_counts _).2, (s.violate_counts _).1⟩
  · obtain ⟨h1, h2⟩ := ceilDiv_bounds s.clk.age (b := 80000) (by decide)
    have hmax : max (s.reg.crc.lastStart + 80000) (ceilDiv s.clk.age 80000 * 80000) = ceilDiv s.clk.age 80000 * 80000 := by omega
    have hclk : (s.until (ceilDiv s.clk.age 80000 * 80000)).clk.age = ceilDiv s.clk.age 80000 * 80000 := State.until_clk_age h1 (by omega)
    rw [if_neg (by simp [hrun]), hmax]
    refine ⟨rfl, rfl, ?_, ?_, ?_, rfl⟩
    · exact (congrArg (· % 80000) hclk).trans (Nat.mul_mod_left _ _)
    · exact Nat.le_trans h1 (Nat.le_of_eq hclk.symm)
    · exact Nat.lt_of_le_of_lt (Nat.le_of_eq hclk) h2

end Sys2Proof.Machine


/-! What the balls show (chapter 16), and the resolution of a single-match search (R84 to R88). -/

namespace Sys2Proof.Machine

/-! ## Balls -/

/-- The rails that supply signal balls are among the thirteen. -/
theorem State.supplied {s : State} {b : Ball} (h : ∀ r, r < 13 → s.rail r ≠ .low) (hb : ∀ r ∈ b.supply, r < 13) :
    b.supply.any (fun r => s.rail r == .low) = false := by
  cases hs : b.supply with
  | none => rfl
  | some r => simpa using h r (hb r hs)

theorem State.drive_follows_or_up {s : State} {n : Nat} (h : (Ball.slow n 0).supply.any (fun r => s.rail r == .low) = false) :
    s.drive (.slow n 0) = some (if (!s.coreUp || (s.chan n).mode == 0) = true then .pulledUp else .follows) := by
  simp only [State.drive, h, Bool.false_eq_true, if_false]

theorem State.drive_de {s : State} {n : Nat} (h : (Ball.slow n 2).supply.any (fun r => s.rail r == .low) = false) :
    s.drive (.slow n 2) =
      some (if (!s.coreUp || (s.chan n).mode == 0) = true then .pulledUp else .of (s.slowDe n != bit (s.chan n).w0 14)) := by
  simp only [State.drive, h, Bool.false_eq_true, if_false]

theorem Ball.supply_slow {n : Nat} (hn : n < 64) (k : Nat) : ∀ r ∈ (Ball.slow n k).supply, r < 13 := by
  rintro r ⟨⟩
  omega

/-- In the CAN modes Sn_DE shows by DE_POL that the channel is not in LISTEN. -/
theorem State.slowDe_can {s : State} {n : Nat} (h : (s.chan n).mode = 1 ∨ (s.chan n).mode = 2) : s.slowDe n = !bit (s.chan n).w0 12 :=
  if_pos h

theorem Drive.of_ne (a b : Bool) : Drive.of ((!a) != b) = if a = b then .high else .low := by cases a <;> cases b <;> rfl

/-- Settles O60: a ball is supplied, and then its row of `State.drive` says what it shows. -/
theorem ballsAndBanks : Obligations.BallsAndBanks := by
  unfold Obligations.BallsAndBanks
  intro s
  refine ⟨fun hdown hrails => ⟨fun n hn => ⟨?_, ?_⟩, ?_, ?_, ?_, ?_, ?_⟩, fun n hn hup hrail hmode => ⟨?_, fun hcan => ?_⟩, fun k hk => ?_⟩
  · rw [State.drive_follows_or_up (State.supplied hrails (Ball.supply_slow hn 0)), hdown]
    rfl
  · rw [State.drive_de (State.supplied hrails (Ball.supply_slow hn 2)), hdown]
    rfl
  · simp [State.drive, State.supplied (b := .named "PPS_OUT") hrails (by decide), hdown]
  · simp [State.drive, State.supplied (b := .named "FL_CLK") hrails (by decide), hdown]
  · simp [State.drive, State.supplied (b := .named "TDO") hrails (by decide), hdown]
  · simp [State.drive, State.supplied (b := .named "FL_CS_N") hrails (by decide), hdown]
  · simp [State.drive, State.supplied (b := .named "INT_N") hrails (by decide), hdown]
  · rw [State.drive_follows_or_up (by simpa [Ball.supply] using hrail), hup]
    simp [hmode]
  · rw [State.drive_de (by simpa [Ball.supply] using hrail), hup, State.slowDe_can hcan, Drive.of_ne]
    simp [hmode]
  · have hnom : s.nominal (5 + k) = if s.pwr.vio2Sel.getLsbD k then 3300 else 1800 := by
      have e : 5 + k = k + 1 + 1 + 1 + 1 + 1 := by omega
      rw [e]
      simp [State.nominal]
    refine ⟨fun hsel => ⟨by rw [hnom, if_pos hsel], ?_⟩, fun hsel => ⟨by rw [hnom, hsel]; rfl, ?_⟩⟩
    · simp [State.dcLevels, hsel]
    · rintro mv rfl
      simp [State.dcLevels, hsel]

/-! ## Sorting by a key -/

section
variable {α : Type} (k : α → Nat)

theorem mem_insertBy (a : α) (l : List α) (x : α) : x ∈ insertBy k a l ↔ x = a ∨ x ∈ l := by
  induction l with
  | nil => simp [insertBy]
  | cons b bs ih =>
    simp only [insertBy]
    split
    · simp
    · rw [List.mem_cons, ih, List.mem_cons]
      exact or_left_comm

theorem insertBy_sorted (a : α) {l : List α} (h : l.Pairwise (fun x y => k x ≤ k y)) :
    (insertBy k a l).Pairwise (fun x y => k x ≤ k y) := by
  induction l with
  | nil => simp [insertBy]
  | cons b bs ih =>
    obtain ⟨hb, hbs⟩ := List.pairwise_cons.mp h
    simp only [insertBy]
    split
    · next hlt =>
      refine List.pairwise_cons.mpr ⟨fun x hx => ?_, h⟩
      rcases List.mem_cons.mp hx with rfl | hx
      · omega
      · exact Nat.le_trans (Nat.le_of_lt hlt) (hb x hx)
    · next hge =>
      refine List.pairwise_cons.mpr ⟨fun x hx => ?_, ih hbs⟩
      rcases (mem_insertBy k a bs x).mp hx with rfl | hx
      · omega
      · exact hb x hx

theorem foldl_insertBy_mem (l b : List α) (x : α) : x ∈ l.foldl (fun l a => insertBy k a l) b ↔ x ∈ l ∨ x ∈ b := by
  induction l generalizing b with
  | nil => simp
  | cons a l ih =>
    rw [List.foldl_cons, ih, mem_insertBy, List.mem_cons, or_left_comm, or_assoc]

theorem foldl_insertBy_sorted (l : List α) {b : List α} (h : b.Pairwise (fun x y => k x ≤ k y)) :
    (l.foldl (fun l a => insertBy k a l) b).Pairwise (fun x y => k x ≤ k y) := by
  induction l generalizing b with
  | nil => exact h
  | cons a l ih => exact ih (insertBy_sorted k a h)

theorem mem_sortBy (l : List α) (x : α) : x ∈ sortBy k l ↔ x ∈ l := by
  rw [sortBy, foldl_insertBy_mem]
  simp

theorem sortBy_sorted (l : List α) : (sortBy k l).Pairwise (fun x y => k x ≤ k y) :=
  foldl_insertBy_sorted k l List.Pairwise.nil

end

/-- The first member of a sorted list that satisfies `p` has the least key among those that do. -/
theorem find?_sorted_le {α : Type} {k : α → Nat} {p : α → Bool} {l : List α} (h : l.Pairwise (fun x y => k x ≤ k y)) {x y : α}
    (hx : l.find? p = some x) (hy : y ∈ l) (hp : p y = true) : k x ≤ k y := by
  induction l with
  | nil => cases hy
  | cons a l ih =>
    obtain ⟨ha, hl⟩ := List.pairwise_cons.mp h
    by_cases hpa : p a = true
    · rw [List.find?_cons_of_pos hpa] at hx
      cases hx
      rcases List.mem_cons.mp hy with rfl | hy
      · exact Nat.le_refl _
      · exact ha y hy
    · rw [List.find?_cons_of_neg hpa] at hx
      rcases List.mem_cons.mp hy with rfl | hy
      · exact absurd hp hpa
      · exact ih hl hx hy

/-! ## Blocks -/

/-- A candidate of block `b`. -/
def Pick.inBlock (b : Nat) (x : Pick) : Bool := x.row / 1024 == b

theorem mem_blocksOf {rows : List Nat} {b : Nat} : b ∈ blocksOf rows ↔ ∃ a ∈ rows, a / 1024 = b := by
  simp [blocksOf, List.mem_eraseDups]

theorem find?_blockPicks_same (xs : List Pick) (b : Nat) : (blockPicks false xs b).find? (Pick.inBlock b) = xs.find? (Pick.inBlock b) := by
  have h : blockPicks false xs b = (xs.filter (Pick.inBlock b)).take 2 := rfl
  rw [h, ← List.head?_filter (l := xs)]
  cases hl : xs.filter (Pick.inBlock b) with
  | nil => rfl
  | cons x l =>
    have hx : Pick.inBlock b x = true := (List.mem_filter.mp (hl ▸ List.mem_cons_self)).2
    exact List.find?_cons_of_pos hx

theorem find?_blockPicks_other (xs : List Pick) {b c : Nat} (h : c ≠ b) : (blockPicks false xs c).find? (Pick.inBlock b) = none := by
  rw [List.find?_eq_none]
  intro x hx
  have hc := (List.mem_filter.mp (List.mem_of_mem_take hx)).2
  simp only [beq_iff_eq] at hc
  simp [Pick.inBlock, hc, h]

theorem findSome?_only {α : Type} {f : Nat → Option α} {b : Nat} (hf : ∀ c, c ≠ b → f c = none) {l : List Nat} (h : b ∈ l ∨ f b = none) :
    l.findSome? f = f b := by
  induction l with
  | nil => exact (h.resolve_left (List.not_mem_nil)).symm
  | cons c l ih =>
    by_cases e : c = b
    · subst e
      cases hc : f c with
      | some x => simp [hc]
      | none =>
        rw [List.findSome?_cons, hc]
        exact (ih (.inr hc)).trans hc
    · rw [List.findSome?_cons, hf c e]
      exact ih (h.imp_left fun hb => (List.mem_cons.mp hb).resolve_left (Ne.symm e))

/-- The first candidate of each block is the first of all entries in the block. -/
theorem find?_blockPicks (xs : List Pick) (b : Nat) :
    ((blocksOf (xs.map (·.row))).flatMap (blockPicks false xs)).find? (Pick.inBlock b) = xs.find? (Pick.inBlock b) := by
  rw [List.find?_flatMap, ← find?_blockPicks_same xs b]
  refine findSome?_only (fun c hc => find?_blockPicks_other xs hc) ?_
  cases hx : xs.find? (Pick.inBlock b) with
  | none => exact .inr (find?_blockPicks_same xs b ▸ hx)
  | some x =>
    have hb : x.row / 1024 = b := by simpa [Pick.inBlock] using List.find?_some hx
    exact .inl (mem_blocksOf.mpr ⟨x.row, List.mem_map_of_mem (List.mem_of_find?_eq_some hx), hb⟩)

theorem blockReport_ok {cs : List Cand} (h : ∀ c ∈ cs, c.ok = true) : blockReport false cs = ⟨cs.head?.toList, false, none, []⟩ := by
  have hbad : cs.filter (fun c => !c.ok) = [] := by simpa [List.filter_eq_nil_iff] using h
  unfold blockReport
  rw [hbad]
  match cs, h with
  | [], _ => rfl
  | [c], h => simp [h c]
  | c :: c' :: _, h => simp [h c]

/-- The best candidate of each block, read back. -/
def State.blockWinners (s : State) (d : TernDesc) (picks : List Pick) : List Cand :=
  (blocksOf (picks.map (·.row))).flatMap (fun b => ((picks.find? (Pick.inBlock b)).map (s.readBack d)).toList)

theorem State.verify_ok {s : State} {d : TernDesc} {picks : List Pick} (h : ∀ x ∈ picks, (s.readBack d x).ok = true) (rank : Cand → Nat)
    (count : Nat) : s.verify d picks rank false count = ⟨((sortBy rank (s.blockWinners d picks)).take 1).map d.hit, false, false, [], []⟩ := by
  have hreport (b : Nat) : blockReport false ((picks.filter (fun x => x.row / 1024 == b)).map (s.readBack d)) =
      ⟨((picks.find? (Pick.inBlock b)).map (s.readBack d)).toList, false, none, []⟩ := by
    rw [blockReport_ok, List.head?_map, List.head?_filter]
    · rfl
    · intro c hc
      obtain ⟨x, hx, rfl⟩ := List.mem_map.mp hc
      exact h x (List.mem_filter.mp hx).1
  unfold State.verify
  simp only [hreport]
  simp [State.blockWinners, List.flatMap_map]

/-! ## The winner of a search -/

/-- The matching entries of a search set, highest first in the priority trees. -/
def State.matches (s : State) (d : TernDesc) (r key : Nat) (e : BitVec 3) : List Pick :=
  sortBy (·.rank) (((s.usedSlots d (d.partOf key) r).filter (fun n => s.entryMatches d (d.rowAt (d.partOf key) r n) key e)).map
    (fun n => ⟨d.rowAt (d.partOf key) r n, n, treeRank d.resolution (s.row (d.rowAt (d.partOf key) r n)).pri.toNat n⟩))

theorem State.picksIn_eq (s : State) (d : TernDesc) (r key : Nat) (e : BitVec 3) :
    s.picksIn d r key e false = (blocksOf ((s.matches d r key e).map (·.row))).flatMap (blockPicks false (s.matches d r key e)) := by
  have h : ∀ l : List Nat, (l.filterMap (fun n =>
        let a := d.rowAt (d.partOf key) r n
        if s.entryMatches d a key e = true then some (⟨a, n, treeRank d.resolution (s.row a).pri.toNat n⟩ : Pick) else none)) =
      (l.filter (fun n => s.entryMatches d (d.rowAt (d.partOf key) r n) key e)).map
        (fun n => ⟨d.rowAt (d.partOf key) r n, n, treeRank d.resolution (s.row (d.rowAt (d.partOf key) r n)).pri.toNat n⟩) := by
    intro l
    induction l with
    | nil => rfl
    | cons n l ih => by_cases hn : s.entryMatches d (d.rowAt (d.partOf key) r n) key e = true <;> simp [hn, ih]
  unfold State.picksIn State.picks State.matches
  rw [← h]

/-- The winner of a block: an entry that matches, and whose tree rank none of its block undercuts. -/
theorem State.mem_blockWinners {s : State} {d : TernDesc} {r key : Nat} {e : BitVec 3} {c : Cand} :
    c ∈ s.blockWinners d (s.picksIn d r key e false) ↔
      ∃ b x, (s.matches d r key e).find? (Pick.inBlock b) = some x ∧ c = s.readBack d x := by
  simp only [State.blockWinners, List.mem_flatMap, Option.mem_toList, Option.map_eq_some_iff, State.picksIn_eq,
    find?_blockPicks]
  constructor
  · rintro ⟨b, -, x, hx, rfl⟩
    exact ⟨b, x, hx, rfl⟩
  · rintro ⟨b, x, hx, rfl⟩
    refine ⟨b, ?_, x, hx, rfl⟩
    rw [← find?_blockPicks] at hx
    have hb : x.row / 1024 = b := by simpa [Pick.inBlock] using List.find?_some hx
    exact mem_blocksOf.mpr ⟨x.row, List.mem_map_of_mem (List.mem_of_find?_eq_some hx), hb⟩

theorem State.mem_picksIn {s : State} {d : TernDesc} {r key : Nat} {e : BitVec 3} {x : Pick} (h : x ∈ s.picksIn d r key e false) :
    x ∈ s.matches d r key e := by
  rw [State.picksIn_eq] at h
  obtain ⟨b, -, hx⟩ := List.mem_flatMap.mp h
  exact (List.mem_filter.mp (List.mem_of_mem_take hx)).1

/-- Settles O22: of each block the entry that its tree ranks highest is read back, and of these the one of highest rank is the hit. -/
theorem searchFindsHighestRank : Obligations.SearchFindsHighestRank := by
  unfold Obligations.SearchFindsHighestRank
  intro s d r key e a ns rank tree res hok htree
  have hmem (x : Pick) : x ∈ s.matches d r key e ↔ ∃ n ∈ ns, x = ⟨a n, n, tree n⟩ := by
    rw [State.matches, mem_sortBy, List.mem_map]
    exact exists_congr fun n => and_congr_right fun _ => eq_comm
  have hsorted : (s.matches d r key e).Pairwise (fun x y => x.rank ≤ y.rank) := sortBy_sorted _ _
  have hres : res = ⟨((sortBy d.rankCand (s.blockWinners d (s.picksIn d r key e false))).take 1).map d.hit, false, false, [], []⟩ := by
    refine State.verify_ok (fun x hx => ?_) _ _
    obtain ⟨n, hn, rfl⟩ := (hmem x).mp (State.mem_picksIn hx)
    exact hok n hn
  /- A winner of a block is a matching entry; each matching entry has a winner that ranks no lower. -/
  have hwin {c : Cand} (hc : c ∈ s.blockWinners d (s.picksIn d r key e false)) : ∃ n ∈ ns, c = s.readBack d ⟨a n, n, 0⟩ := by
    obtain ⟨b, x, hx, rfl⟩ := State.mem_blockWinners.mp hc
    obtain ⟨n, hn, rfl⟩ := (hmem x).mp (List.mem_of_find?_eq_some hx)
    exact ⟨n, hn, rfl⟩
  have hbest {m : Nat} (hm : m ∈ ns) : ∃ c ∈ s.blockWinners d (s.picksIn d r key e false), d.rankCand c ≤ rank m := by
    have hin : Pick.inBlock (a m / 1024) ⟨a m, m, tree m⟩ = true := by simp [Pick.inBlock]
    obtain ⟨x, hx⟩ := Option.isSome_iff_exists.mp (List.find?_isSome.mpr ⟨_, (hmem _).mpr ⟨m, hm, rfl⟩, hin⟩)
    obtain ⟨n, hn, rfl⟩ := (hmem x).mp (List.mem_of_find?_eq_some hx)
    exact ⟨_, State.mem_blockWinners.mpr ⟨_, _, hx, rfl⟩, htree n hn m hm (find?_sorted_le hsorted hx ((hmem _).mpr ⟨m, hm, rfl⟩) hin)⟩
  rw [hres]
  refine ⟨⟨fun h => ?_, fun h => ?_⟩, ?_, rfl, rfl, rfl, fun h hh => ?_⟩
  · refine List.eq_nil_iff_forall_not_mem.mpr fun m hm => ?_
    obtain ⟨c, hc, -⟩ := hbest hm
    have hc' := (mem_sortBy d.rankCand _ c).mpr hc
    cases hl : sortBy d.rankCand (s.blockWinners d (s.picksIn d r key e false)) with
    | nil => rw [hl] at hc'; cases hc'
    | cons w l => simp [hl] at h
  · have hnil : s.blockWinners d (s.picksIn d r key e false) = [] := by
      refine List.eq_nil_iff_forall_not_mem.mpr fun c hc => ?_
      obtain ⟨n, hn, -⟩ := hwin hc
      rw [h] at hn
      cases hn
    simp [hnil, sortBy]
  · simp only [List.length_map]
    exact List.length_take_le _ _
  · cases hl : sortBy d.rankCand (s.blockWinners d (s.picksIn d r key e false)) with
    | nil => simp [hl] at hh
    | cons w l =>
      have hleast : ∀ c ∈ s.blockWinners d (s.picksIn d r key e false), d.rankCand w ≤ d.rankCand c := by
        intro c hc
        have hs := sortBy_sorted d.rankCand (s.blockWinners d (s.picksIn d r key e false))
        rw [hl] at hs
        rcases List.mem_cons.mp (hl ▸ (mem_sortBy d.rankCand _ c).mpr hc) with rfl | hc'
        · exact Nat.le_refl _
        · exact (List.pairwise_cons.mp hs).1 c hc'
      obtain ⟨n, hn, hw⟩ := hwin ((mem_sortBy d.rankCand _ w).mp (hl ▸ List.mem_cons_self))
      refine ⟨n, hn, by simpa [hl, hw] using hh, fun m hm => ?_⟩
      obtain ⟨c, hc, hle⟩ := hbest hm
      have := hleast c hc
      rw [hw] at this
      exact Nat.le_trans this hle

end Sys2Proof.Machine


/-! Fields of words, the twin that is not formed, and the commands and events of glue-ups (R165 to R177). -/

namespace Sys2Proof.Machine

/-! ## Fields -/

theorem fld_eq (w : Word) (lo n : Nat) : fld w lo n = (w.extractLsb' lo n).toNat := by
  rw [fld, BitVec.extractLsb'_toNat, Nat.shiftRight_eq_div_pow]

theorem bit_eq (w : Word) (i : Nat) : bit w i = w.getLsbD i := by
  rw [bit, fld, BitVec.getLsbD, Nat.testBit_eq_decide_div_mod_eq]
  cases h : decide (w.toNat / 2 ^ i % 2 = 1) <;> simp_all

theorem fld_lt (w : Word) (lo n : Nat) : fld w lo n < 2 ^ n := Nat.mod_lt _ (Nat.two_pow_pos n)

theorem getLsbD_merge (x v : Word) (m i : Nat) :
    (merge x v m).getLsbD i = if i < 32 ∧ m.testBit i = true then v.getLsbD i else x.getLsbD i := by
  simp only [merge, w32, BitVec.getLsbD_or, BitVec.getLsbD_and, BitVec.getLsbD_not, BitVec.getLsbD_ofNat]
  by_cases hi : i < 32
  · cases hm : m.testBit i <;> simp [hi]
  · simp only [hi, BitVec.getLsbD_of_ge x i (Nat.le_of_not_lt hi), BitVec.getLsbD_of_ge v i (Nat.le_of_not_lt hi)]
    simp

/-- A field under the mask is taken from the data. -/
theorem fld_merge_in (x v : Word) {m lo n : Nat} (h : ∀ i, i < n → lo + i < 32 ∧ m.testBit (lo + i) = true) :
    fld (merge x v m) lo n = fld v lo n := by
  rw [fld_eq, fld_eq]
  congr 1
  apply BitVec.eq_of_getLsbD_eq
  intro i hi
  rw [BitVec.getLsbD_extractLsb', BitVec.getLsbD_extractLsb', getLsbD_merge, if_pos (h i hi)]

/-- A field outside the mask keeps its value. -/
theorem fld_merge_out (x v : Word) {m lo n : Nat} (h : ∀ i, i < n → m.testBit (lo + i) = false) :
    fld (merge x v m) lo n = fld x lo n := by
  rw [fld_eq, fld_eq]
  congr 1
  apply BitVec.eq_of_getLsbD_eq
  intro i hi
  rw [BitVec.getLsbD_extractLsb', BitVec.getLsbD_extractLsb', getLsbD_merge, if_neg (by simp [h i hi])]

/-- Bits outside a mask are stray; a number below the end of a mask of ones has none. -/
theorem strayBits_w32 {n k : Nat} (h : n < 2 ^ k) : strayBits (w32 n) (2 ^ k - 1) = false := by
  have hz : w32 n &&& ~~~(w32 (2 ^ k - 1)) = 0#32 := by
    apply BitVec.eq_of_getLsbD_eq
    intro j hj
    have hn : k ≤ j → n.testBit j = false := fun hk => Nat.testBit_lt_two_pow (Nat.lt_of_lt_of_le h (Nat.pow_le_pow_right (by decide) hk))
    simp only [w32, BitVec.getLsbD_and, BitVec.getLsbD_not, BitVec.getLsbD_ofNat, Nat.testBit_two_pow_sub_one]
    by_cases hk : j < k
    · simp [hk]
    · simp [hn (Nat.le_of_not_lt hk)]
  simp [strayBits, hz]

theorem fld_w32 (n len : Nat) (h : len ≤ 32) : fld (w32 n) 0 len = n % 2 ^ len := by
  rw [fld, w32, BitVec.toNat_ofNat, Nat.pow_zero, Nat.div_one, Nat.mod_mod_of_dvd _ (Nat.pow_dvd_pow 2 h)]

/-! ## No twin -/

section
variable {s : State}

theorem State.mirroring_off (h : s.single) : s.mirroring = false := by simp [State.mirroring, h.1]

theorem State.followRefuses_off (h : s.single) : s.followRefuses = false := by simp [State.followRefuses, h.1]

theorem State.refuses_off (h : s.single) (q : Request) : s.refuses q = false := by simp [State.refuses, State.followRefuses_off h]

theorem State.mirrorAt_off (h : s.single) (op : Nat) (q : Request) (g : Nat) (ws : List Word) (ps : List Nat) : s.mirrorAt op q g ws ps = s := by
  simp [State.mirrorAt, State.mirroring_off h, h.2]

theorem State.mirrorAs_off (h : s.single) (op : Nat) (q : Request) (g : Nat) (ws : List Word) : s.mirrorAs op q g ws = s :=
  State.mirrorAt_off h op q g ws []

theorem State.mirror_off (h : s.single) (op : Nat) (q : Request) (g : Nat) : s.mirror op q g = s := State.mirrorAs_off h op q g _

theorem State.mirrorIf_off (h : s.single) (mir : Bool) (op : Nat) (q : Request) (g : Nat) : s.mirrorIf mir op q g = s := by
  simp [State.mirrorIf, State.mirrorAt_off h]

theorem State.tellAbort_off (h : s.single) (id reason : Nat) : s.tellAbort id reason = s := by
  simp [State.tellAbort, State.mirroring_off h]

/-- Whether there is a twin is read from the twin's state. -/
theorem State.single.of_twin {t : State} (h : s.single) (e : t.twin = s.twin) : t.single := by
  unfold State.single at *
  rwa [e]

end

/-! ## What an answer leaves -/

/-- A command that is taken and ends well: what holds of every state that its answer may leave. -/
theorem Makes.of_final {i : Instr} {op : Nat} {q : Request} {s t : State} {w : List Word} {body : State → Request → State × CmdEnd}
    {P : State → Prop} (ht : Taken op q s) (h : exec i s = finish s (runCmd op q body s)) (hb : body s q = (t, .final St.ok w)) (hop : op ≠ 0)
    (hp : ∀ u, t.Answered u → P (s.after u)) : Makes i s P := by
  refine .of_taken ht h ?_
  rw [hb]
  exact hp _ (t.reply_answered q w hop)

/-- The same for one that answers PENDING and waits. -/
theorem Makes.of_pend {i : Instr} {op : Nat} {q : Request} {s t : State} {on : WaitOn} {w : List Word}
    {body : State → Request → State × CmdEnd} {P : State → Prop} (ht : Taken op q s) (h : exec i s = finish s (runCmd op q body s))
    (hb : body s q = (t, .pend on w)) (hop : op ≠ 0) (hp : ∀ u, t.Answered u → P (s.after (u.wait on op q St.ok w))) : Makes i s P := by
  refine .of_taken ht h ?_
  rw [hb]
  exact hp _ (t.replyPending_answered q hop)

theorem State.Answered.glueUp {s t : State} (h : s.Answered t) (i : Nat) : t.glueUp i = s.glueUp i := by
  obtain ⟨-, -, -, -, -, hglue, -⟩ := h.frame
  rw [State.glueUp, hglue, State.glueUp]

theorem State.Answered.glue {s t : State} (h : s.Answered t) : t.glue = s.glue := by
  obtain ⟨-, -, -, -, -, hglue, -⟩ := h.frame
  exact hglue

@[simp] theorem State.glueUp_after (s t : State) (i : Nat) : (s.after t).glueUp i = t.glueUp i := rfl

@[simp] theorem State.waits_after (s t : State) (on : WaitOn) : (s.after t).waits on = t.waits on := rfl

theorem State.waits_wait (s : State) (on : WaitOn) (op : Nat) (q : Request) (st : Nat) (w : List Word) :
    (s.wait on op q st w).waits on = true := by
  simp [State.waits, State.wait]

@[simp] theorem State.glueUp_wait (s : State) (on : WaitOn) (op : Nat) (q : Request) (st : Nat) (w : List Word) (i : Nat) :
    (s.wait on op q st w).glueUp i = s.glueUp i := rfl

/-! ## The commands -/

theorem State.abortGlue_twin (s : State) (i reason wounder : Nat) : (s.abortGlue i reason wounder).twin = s.twin := by
  unfold State.abortGlue
  dsimp only
  split
  · rfl
  · split <;> split <;> rfl

theorem State.glueOpenCmd_named {s : State} {q : Request} (hs : s.single) (hstray : q.stray 0 0x00FF01FF = false) (hid : q.f 0 0 8 ≠ 0)
    (hfree : (s.glueUp (q.f 0 0 8)).st = .free) (hids : 2 ≤ s.freeIds.length) :
    s.glueOpenCmd q = (s.openGlue (q.f 0 0 8) (q.b 0 8) (q.f 0 16 8) .host,
      .final St.ok [w32 (q.f 0 0 8), ((s.openGlue (q.f 0 0 8) (q.b 0 8) (q.f 0 16 8) .host).glueUp (q.f 0 0 8)).age]) := by
  unfold State.glueOpenCmd
  dsimp only
  rw [if_neg (by simp [hstray]), if_neg (by simp [State.refuses_off hs]), if_neg (by simp [hfree]), if_neg (by omega), if_neg hid]
  dsimp only
  rw [State.mirrorAs_off]
  exact hs.of_twin rfl

/-- The IDs of a GLUE_CLAMP of one glue-up. -/
theorem clampIds {q : Request} {i : Nat} (hw : q.words = [w32 i]) (hi : i < 256) : q.words.map (fun w => fld w 0 8) = [i] := by
  rw [hw, List.map_singleton, fld_w32 i 8 (by decide), Nat.mod_eq_of_lt (by simpa using hi)]

theorem clampStray {q : Request} {i : Nat} (hw : q.words = [w32 i]) (hi : i < 256) : q.words.any (fun w => strayBits w 0xFF) = false := by
  have h : strayBits (w32 i) 0xFF = false := strayBits_w32 (k := 8) (by simpa using hi)
  simp [hw, h]

theorem State.glueClampCmd_one {s : State} {q : Request} {i : Nat} (hs : s.single) (hw : q.words = [w32 i]) (h0 : 0 < i) (hi : i < 256)
    (hfab : s.fabricId i = false) (hst : (s.glueUp i).st = .opened) :
    s.glueClampCmd q = if (s.glueUp i).ops = 0 then (s.freeGlue i, .final St.ok [w32 s.glue.c.toNat])
      else (s.toClamping [i], .pend (.clamp [i]) [w32 ((s.glueUp i).ops * 2 ^ 16)]) := by
  have hcheck : s.clampCheck [i] = 0 := by simp [State.clampCheck, State.glueOpen?, hst]
  unfold State.glueClampCmd
  dsimp only
  rw [clampIds hw hi, clampStray hw hi, if_neg (by simp [Nat.ne_of_lt h0, List.eraseDups_cons]), if_neg (by simp [State.refuses_off hs]), hcheck, if_neg (by simp),
    if_neg (by simp [hfab])]
  by_cases hops : (s.glueUp i).ops = 0
  · rw [if_pos (by simp [hops]), if_pos hops]
    simp only [List.foldl_cons, List.foldl_nil]
    rw [State.mirrorAs_off]
    exact hs.of_twin rfl
  · rw [if_neg (by simp [hops]), if_neg hops]
    simp [hfab]

/-- A clamp outside a twin. -/
theorem State.toClamping_one {s : State} {i : Nat} (hs : s.single) (hfab : s.fabricId i = false) :
    s.toClamping [i] = s.setGlue i { s.glueUp i with st := .clamping, clampAt := s.clk.age, held := false } := by
  simp [State.toClamping, State.toClampingIf, State.mirroring_off hs, hfab]

theorem State.glueAbortCmd_open {s : State} {q : Request} (hs : s.single) (hstray : q.stray 0 0xFF = false) (hid : q.f 0 0 8 ≠ 0)
    (hst : (s.glueUp (q.f 0 0 8)).st = .opened) :
    s.glueAbortCmd q = (s.abortGlue (q.f 0 0 8) 1 0, .pend (.abort (q.f 0 0 8)) []) := by
  have hopen : s.glueOpen? (q.f 0 0 8) = 0 := by simp [State.glueOpen?, hst]
  have htwin : (s.abortGlue (q.f 0 0 8) 1 0).single := hs.of_twin (s.abortGlue_twin _ _ _)
  unfold State.glueAbortCmd
  dsimp only
  rw [if_neg (by simp [hstray, hid]), if_neg (by simp [State.refuses_off hs]), if_neg (by simp [hopen]), State.mirror_off htwin]

theorem State.glueStatusCmd_all {s : State} {q : Request} (hs : s.single) (hw : q.w 0 = 0) :
    s.glueStatusCmd q = (s, .final St.ok
      [w32 (s.glue.c.toNat + s.oldest.toNat * 2 ^ 4 + s.inflightMask * 2 ^ 8 + s.countGlue .opened * 2 ^ 16 +
        s.countGlue .clamping * 2 ^ 24), w32 s.quantum]) := by
  have hf : q.f 0 0 8 = 0 := by rw [Request.f, hw]; rfl
  have hstray : q.stray 0 0xFF = false := by rw [Request.stray, hw]; rfl
  unfold State.glueStatusCmd
  dsimp only
  rw [if_neg (by simp [hstray]), if_neg (by simp [State.refuses_off hs]), if_pos hf]

theorem State.epochConfig_good {s : State} {q : Request} (hs : s.single) (hstray : q.stray 0 0x3FF = false) (h1 : 1 ≤ q.f 0 0 10)
    (h2 : q.f 0 0 10 ≤ 1000) (hlock : s.groupLocked 3 = false) :
    s.epochConfig q = (s.wr Reg.glueQuantum (merge (s.rd Reg.glueQuantum) (q.w 0) 0x3FF),
      .final St.ok [w32 (s.wr Reg.glueQuantum (merge (s.rd Reg.glueQuantum) (q.w 0) 0x3FF)).quantum]) := by
  have hopen : s.lockedAt Reg.glueQuantum = false := hlock
  unfold State.epochConfig
  rw [if_neg (by simp [hstray]; omega), if_neg (by simp [State.refuses_off hs])]
  dsimp only
  rw [State.wrLock, if_neg (by simp [hopen])]

/-- The quantum that EPOCH_CONFIG has written. -/
theorem State.quantum_written {s t : State} {v : Word} (h : t.rd Reg.glueQuantum = merge (s.rd Reg.glueQuantum) v 0x3FF)
    (h1 : 1 ≤ fld v 0 10) (h2 : fld v 0 10 ≤ 1000) : t.quantum = fld v 0 10 := by
  have hf : fld (merge (s.rd Reg.glueQuantum) v 0x3FF) 0 10 = fld v 0 10 :=
    fld_merge_in _ _ (fun i hi => ⟨by omega, by revert i; decide⟩)
  rw [State.quantum, State.rf, h, hf]
  omega

/-- An abort by the host is counted. -/
theorem State.abortGlue_count {s : State} {i : Nat} (hst : (s.glueUp i).st = .opened) :
    (s.abortGlue i 1 0).rd Reg.glueAbortCount = w32 (min 0xFFFFFFFF ((s.rd Reg.glueAbortCount).toNat + 1)) := by
  unfold State.abortGlue
  dsimp only
  rw [if_neg (by simp [hst]), if_neg (by decide), if_neg (by decide)]
  exact State.rd_cnt_one _ _

@[simp] theorem State.rd_wait (s : State) (on : WaitOn) (op : Nat) (q : Request) (st : Nat) (w : List Word) (a : Nat) :
    (s.wait on op q st w).rd a = s.rd a := rfl

/-- Settles O26: each command's body on its good arm, and its end leaves the glue-ups alone. -/
theorem glueCommandsComplete : Obligations.GlueCommandsComplete := by
  unfold Obligations.GlueCommandsComplete
  refine ⟨fun q s ht hs hstray hid hfree hids => .of_final ht rfl (State.glueOpenCmd_named hs hstray hid hfree hids) (by decide) fun u h => ?_,
    fun q s i ht hs hw h0 hi hfab hst hops =>
      .of_pend ht rfl ((State.glueClampCmd_one hs hw h0 hi hfab hst).trans (if_neg hops)) (by decide) fun u h => ?_,
    fun q s i ht hs hw h0 hi hfab hst hops => finish_final ht ((State.glueClampCmd_one hs hw h0 hi hfab hst).trans (if_pos hops)),
    fun q s ht hs hstray hid hst => .of_pend ht rfl (State.glueAbortCmd_open hs hstray hid hst) (by decide) fun u h => ?_,
    fun q s ht hs hw => finish_final ht (State.glueStatusCmd_all hs hw),
    fun q s ht hs hstray h1 h2 hlock => .of_final ht rfl (State.epochConfig_good hs hstray h1 h2 hlock) (by decide) fun u h => ⟨?_, h.glue⟩⟩
  · simp only [State.glueUp_after, State.after_fields, h.glueUp, h.glue, State.openGlue_self]
    exact ⟨trivial, trivial, trivial, trivial, trivial, trivial, rfl, rfl, fun j hj => s.openGlue_other _ _ _ hj⟩
  · rw [State.toClamping_one hs hfab] at h
    simp only [State.glueUp_after, State.after_fields, State.glueUp_wait, h.glueUp, State.glueUp_setGlue_same, State.waits_after,
      State.waits_wait, State.wait_frame, h.glue]
    exact ⟨trivial, trivial, trivial, trivial, rfl, fun j hj => s.glueUp_setGlue_ne _ hj⟩
  · simp only [State.glueUp_after, State.glueUp_wait, h.glueUp, State.abortGlue_self, hst, State.waits_after, State.waits_wait, if_true,
      State.rd_after, State.rd_wait]
    refine ⟨trivial, trivial, trivial, ?_, fun j hj => s.abortGlue_other _ _ hj⟩
    rw [h.rd (by decide), State.abortGlue_count hst]
  · refine State.quantum_written (s := s) ?_ h1 h2
    rw [State.rd_after, h.rd (by decide), State.rd_wr_same]

/-! ## Timeouts, settling and retries -/

theorem State.abortGlue_timeout {s : State} {i : Nat} (hst : (s.glueUp i).st = .opened) :
    (s.abortGlue i 3 0).rd Reg.glueTimeoutCount = w32 (min 0xFFFFFFFF ((s.rd Reg.glueTimeoutCount).toNat + 1)) ∧
      (s.abortGlue i 3 0).clk = s.clk := by
  unfold State.abortGlue
  dsimp only
  simp only [hst, if_false, if_true, show ¬ (3 = 2) by decide]
  refine ⟨(State.rd_cnt_one _ _).trans ?_, rfl⟩
  rw [State.rd_cnt_ne _ _ (by decide)]
  rfl

/-- No glue-up is prepared at the follow side. -/
theorem State.settlePrepare_none {s : State} (h : s.twin.prepared = []) : s.settlePrepare = s := by simp [State.settlePrepare, h]

/-- No mirrored operation waits. -/
theorem State.retryMirrors_none {s : State} (hw : s.twin.waitOps = []) (hp : s.twin.prepared = []) : s.retryMirrors = s := by
  have h : s.setTwin { s.twin with waitOps := [] } = s := by rw [← hw]; rfl
  unfold State.retryMirrors
  dsimp only
  rw [hw, List.foldl_nil, h, State.settlePrepare_none hp]

theorem State.retryAll_none {s : State} (hq : s.glue.retryQ = []) (hp : s.twin.prepared = []) : s.retryAll = s := by
  have h : s.retryOrder = [] := by rw [State.retryOrder, hq]; rfl
  unfold State.retryAll
  rw [h, List.foldl_nil, State.settlePrepare_none hp]

/-- Without policer fills to do, settling frees the glue-up and that is all. -/
theorem State.settleGlue_plain {s : State} {i : Nat} (hst : (s.glueUp i).st = .settling) (hf : ∀ f ∈ s.sw.fills, f.id ≠ i) :
    s.settleGlue i = s.freeGlue i := by
  have hnone : s.sw.fills.filter (fun f => f.id == i) = [] := by simpa [List.filter_eq_nil_iff] using hf
  have hall : s.sw.fills.filter (fun f => f.id != i) = s.sw.fills := by simpa [List.filter_eq_self] using hf
  unfold State.settleGlue
  dsimp only
  rw [if_neg (by simp [hst]), hnone, List.foldl_nil, hall]

/-- Settles O27: an abort for the timeout after the wait, a settling with nothing to fill, and a retry with nothing to retry. -/
theorem glueEventsComplete : Obligations.GlueEventsComplete := by
  unfold Obligations.GlueEventsComplete
  intro s hup
  refine ⟨fun i hst hop hs hage hopened hsec => .of_fw hup rfl ?_, fun i hst hf hw hs hp => .of_fw hup rfl ?_,
    fun hq hw hs hp => .of_fw hup rfl ?_⟩
  · rw [if_pos ⟨hst, hop, by simp [State.followRefuses_off hs]⟩]
    generalize hu : s.until ((s.glueUp i).openedAt + (s.glueUp i).timeoutS * secC) = u
    have hglue (j : Nat) : u.glueUp j = s.glueUp j := by rw [← hu]; simp [State.glueUp]
    have hclk : u.clk.age = max s.clk.age ((s.glueUp i).openedAt + (s.glueUp i).timeoutS * 1250000000) := by
      rw [← hu]
      rcases Nat.le_total ((s.glueUp i).openedAt + (s.glueUp i).timeoutS * secC) s.clk.age with h | h
      · rw [State.until_past h (by omega)]
        exact (Nat.max_eq_left h).symm
      · rw [State.until_clk_age h (by unfold secC; omega)]
        exact (Nat.max_eq_right h).symm
    have hopen : (u.glueUp i).st = .opened := (congrArg GlueUp.st (hglue i)).trans hst
    have htwin : (u.abortGlue i 3 0).single := hs.of_twin ((u.abortGlue_twin i 3 0).trans (by simp [← hu]))
    obtain ⟨hcount, hclk'⟩ := State.abortGlue_timeout hopen
    rw [State.tellAbort_off htwin]
    simp only [State.glueUp_after, State.abortGlue_self, hopen, if_true, State.rd_after, State.after_fields, hclk', hclk, hcount]
    refine ⟨trivial, trivial, fun j hj => (u.abortGlue_other _ _ hj).trans (hglue j), trivial, ?_⟩
    rw [← hu, State.until_rd _ _ (by unfold clockCounts; decide)]
  · have htwin : (s.freeGlue i).twin = s.twin := rfl
    rw [State.settleGlue_plain hst hf, State.retryMirrors_none (by rw [htwin]; exact hw) (by rw [htwin]; exact hp)]
    refine ⟨s.freeGlue_self i, ?_, fun j hj => s.freeGlue_other hj, rfl⟩
    simp [State.freeGlue, State.glueUp, State.setGlue]
  · rw [State.retryAll_none hq hp, State.retryMirrors_none hw hp]
    exact ⟨rfl, rfl, rfl, rfl⟩

end Sys2Proof.Machine


/-! Security (chapter 11): sessions, keys, wipes, presence and the life cycle. -/

namespace Sys2Proof.Machine

/-! ## The other ends of a row -/

theorem Makes.of_finishWipe {i : Instr} {s t : State} {P : State → Prop} (h : exec i s = finishWipe s t) (hp : P (s.afterWipe t)) : Makes i s P :=
  ⟨_, h, hp⟩

theorem Makes.of_finishReset {i : Instr} {s t : State} {P : State → Prop} (h : exec i s = finishReset s t) (hp : P (s.afterReset t)) :
    Makes i s P :=
  ⟨_, h, hp⟩

theorem Makes.of_finishOtp {i : Instr} {s t : State} {P : State → Prop} (h : exec i s = finishOtp s t) (hp : P (s.afterOtp t)) : Makes i s P :=
  ⟨_, h, hp⟩

theorem Makes.of_finishScr {i : Instr} {s t : State} {P : State → Prop} (h : exec i s = finishScr s t) (hp : P (s.afterScr t)) : Makes i s P :=
  ⟨_, h, hp⟩

theorem State.Answered.sec {s t : State} (h : s.Answered t) : t.sec = s.sec := by
  obtain ⟨-, -, -, -, -, -, -, -, -, -, -, -, hsec, -⟩ := h.frame
  exact hsec

/-! ## The wipe -/

/-- A wipe takes sessions, keys and the secure region, and the erase of the key store begins (R368). -/
theorem State.wipe_eq (s : State) (c : Nat) : ∃ e,
    (s.wipe c).sec = { s.sec with sessions := [], keys := keys0, flashKeys := keys0, wipeEnd := e } ∧
    (s.wipe c).heath = { s.heath with pendingWipe := true } ∧
    (s.wipe c).scr.mem = s.scr.mem.filter (fun c => !inSecure c.1) := by
  simp [State.wipe]

/-- However a wiping command ends, the log stands, and a wiped scratchpad stays wiped. -/
theorem State.afterWipe_wiped {s t : State} (h : t.scr.mem = s.scr.mem.filter (fun c => !inSecure c.1)) :
    (s.afterWipe t).scr.mem = s.scr.mem.filter (fun c => !inSecure c.1) := by
  show (if t.scr.mem = s.scr.mem then s.scr.mem else s.scr.mem.filter (fun c => !inSecure c.1)) = _
  split
  · next e => rw [← h, e]
  · rfl

/-- The life cycle is read from the log and the fuse. -/
theorem State.lifeCycle_of_sec {s t : State} (hl : t.sec.log = s.sec.log) (hs : t.sec.scrapped = s.sec.scrapped) :
    t.lifeCycle = s.lifeCycle := by
  rw [State.lifeCycle, State.lifeCycle, hl, hs]

/-! ## Sessions -/

theorem State.sessionCreate_good {s : State} {q : Request} {kek : List Byte} {key : List Nat} {n : Nat} (hlc : s.lcKeys = true)
    (hbad : s.badSession q = false) (htamp : s.heath.tampPresent = false) (hkek : smGet none s.sec.keys.keks (q.f 0 4 4) = some kek)
    (hkey : keyUnwrap (nats kek) (nats ((bytesOf (q.words.drop 10)).take (if q.b 0 8 then 40 else 24))) = some key)
    (hpick : s.sessionPick q = some n) (hfree : s.session n = none) (hbind : s.findSession (sameBinding (q.session (bytes key))) = none) :
    s.sessionCreate q = (s.setSession n (some (q.session (bytes key))), .final St.ok [w32 n]) := by
  simp [State.sessionCreate, hlc, hbad, htamp, hkek, hkey, hpick, hfree, hbind]

theorem State.secSettings_good {s : State} {q : Request} (hlc : s.lcKeys = true) (hbad : q.badSecCfg = false) :
    ∃ u, s.secSettings q = (u, fin St.ok) ∧
      u.secCfg (q.f 0 8 8) = ⟨q.w 0, q.w 1, BitVec.ofNat 64 ((q.w 2).toNat + 2 ^ 32 * (q.w 3).toNat)⟩ ∧
      ∀ i, i ≠ q.f 0 8 8 → u.secCfg i = s.secCfg i := by
  unfold State.secSettings
  rw [if_neg (by simp [hbad]), if_neg (by simp [hlc])]
  exact ⟨_, rfl, smGet_smSet_same _ _ _ _, fun i hi => smGet_smSet_ne _ _ _ _ hi⟩

theorem State.sessionDelete_good {s : State} {q : Request} (hstray : q.stray 0 0xFFF = false) (h : (s.session (q.f 0 0 12)).isSome = true) :
    s.sessionDelete q = (s.setSession (q.f 0 0 12) none, fin St.ok) := by
  have hsome : (s.session (q.f 0 0 12)).isNone = false := by simpa using h
  simp [State.sessionDelete, hstray, hsome]

theorem State.sessionStatus_good {s : State} {q : Request} {x : Session} (hstray : q.stray 0 0xFFF = false)
    (h : s.session (q.f 0 0 12) = some x) : s.sessionStatus q = (s, .final St.ok
      (w32 (x.kind + b2n x.exhausted * 4 + b2n x.threshold * 8 + x.an * 16 + x.port * 256) ::
        toWords 2 (if x.kind = 1 then x.pn - 1 else x.pn) ++ [w32 x.good, w32 x.failures, w32 x.replays])) := by
  simp [State.sessionStatus, hstray, h]

/-! ## Keys -/

theorem Request.keyReply_some {q : Request} {key : List Byte} (h : q.key = some key) : q.keyReply = .final St.ok [keyCheck key] := by
  simp [Request.keyReply, h]

theorem State.keyLoad_good {s : State} {q : Request} {key : List Byte} (href : s.keyRefused = 0) (hkey : q.key = some key)
    (hbad : q.badKey 16 = false) : s.keyLoad q = ({ s with sec := { s.sec with
      keys := { s.sec.keys with keks := smSet none s.sec.keys.keks (q.f 0 0 4) (some key) }
      flashKeys := { s.sec.flashKeys with keks := smSet none s.sec.flashKeys.keks (q.f 0 0 4) (some key) } } },
      .final St.ok [keyCheck key]) := by
  simp [State.keyLoad, href, hbad, Request.keyReply_some hkey, hkey]

theorem State.fabricKeySet_good {s : State} {q : Request} {key : List Byte} (href : s.keyRefused = 0) (hkey : q.key = some key)
    (hbad : q.badKey 1 = false) (h9 : q.b 0 9 = true) : s.fabricKeySet q = ({ s with sec := { s.sec with
      keys := { s.sec.keys with fabric := some key }, flashKeys := { s.sec.flashKeys with fabric := some key } } },
      .final St.ok [keyCheck key]) := by
  simp [State.fabricKeySet, href, hbad, h9, Request.keyReply_some hkey, hkey]

/-! ## The life cycle -/

theorem State.lifecycleSet_good {s : State} {q : Request} (hstray : q.stray 0 0xFFFF000F = false) (hmagic : q.f 0 16 16 = 0x4C43)
    (hall : lcAllowed s.lifeCycle (q.f 0 0 4) = true) (hleft : q.f 0 0 4 = 5 ∨ s.sec.log.length < 62) :
    s.lifecycleSet q = ({ s.wipe 1 with sec := { (s.wipe 1).sec with burning := some (q.f 0 0 4, q) } }, .quiet) := by
  have hto : ¬ 5 < q.f 0 0 4 := by
    intro h
    generalize q.f 0 0 4 = n at h hall
    unfold lcAllowed at hall
    split at hall <;> simp at hall <;> omega
  have hroom : ¬ (q.f 0 0 4 ≠ 5 ∧ s.lcLeft = 0) := by
    unfold State.lcLeft
    omega
  unfold State.lifecycleSet
  dsimp only
  rw [if_neg (by simp [hstray, hto]), if_neg (by simp [hmagic, hall]), if_neg hroom]

/-- Settles O51: the good arm of each command. -/
theorem securityCommandsComplete : Obligations.SecurityCommandsComplete := by
  unfold Obligations.SecurityCommandsComplete
  refine ⟨fun q s ht hlc => ⟨fun kek key n hobj hbad htamp hkek hkey hpick hfree hbind => ?_, fun hobj hbad => ?_⟩,
    fun q s ht hstray h => finish_final ht (State.sessionDelete_good hstray h),
    fun q s x ht hstray h => finish_final ht (State.sessionStatus_good hstray h),
    fun q s key href hkey => ⟨fun ht hbad => ?_, fun ht hbad h9 => ?_⟩,
    fun q s ht hstray hmagic hall hleft => ?_, fun q s ht => finish_final ht rfl, fun q s ht => finish_final ht rfl⟩
  · refine finish_final ht ?_
    rw [hobj]
    exact State.sessionCreate_good hlc hbad htamp hkek hkey hpick hfree hbind
  · obtain ⟨u, hbody, hcfg, hother⟩ := State.secSettings_good hlc hbad
    refine ⟨u, finish_final ht ?_, hcfg, hother⟩
    rw [hobj]
    exact hbody
  · exact ⟨_, finish_final ht (State.keyLoad_good href hkey hbad), smGet_smSet_same _ _ _ _, smGet_smSet_same _ _ _ _, rfl,
      fun i hi => smGet_smSet_ne _ _ _ _ hi⟩
  · exact ⟨_, finish_final ht (State.fabricKeySet_good href hkey hbad h9), rfl, rfl, rfl⟩
  · obtain ⟨e, hsec, hheath, hmem⟩ := s.wipe_eq 1
    have hexec : exec (.lifecycleSet q) s = finishWipe s (runCmd Op.lifecycleSet q State.lifecycleSet s) := rfl
    rw [runCmd_taken _ ht, State.lifecycleSet_good hstray hmagic hall hleft, endCmd_quiet, hsec] at hexec
    refine ⟨_, hexec, rfl, rfl, rfl, rfl, ?_, State.afterWipe_wiped hmem, State.lifeCycle_of_sec rfl rfl⟩
    exact congrArg HeathSt.pendingWipe hheath

/-! ## Presence -/

/-- What the core domain's running says of the power state. -/
theorem State.coreUp_parts {s : State} (h : s.coreUp = true) :
    (s.pwr.state = .run ∨ s.pwr.state = .doze) ∧ s.pwr.holdVaon = false := by
  simp only [State.coreUp, Bool.and_eq_true, Bool.not_eq_true', Bool.or_eq_false_iff, Bool.or_eq_true, beq_iff_eq] at h
  obtain ⟨⟨hst, -, hvaon⟩, -⟩ := h
  exact ⟨hst, hvaon⟩

/-- While the device runs and enters no standby, a wake source at most joins the wake that has just been recorded. -/
theorem State.wakeEvent_running {s : State} (hst : s.pwr.state = .run ∨ s.pwr.state = .doze) (hentry : s.pwr.entry = none) (c d n : Nat) :
    ∃ v o, s.wakeEvent c d n = { s with reg := { s.reg with vals := v }, heath := { s.heath with wakeOut := o } } := by
  have hlisted : wakeListed s.pwr.state c = false := by rcases hst with h | h <;> rw [h] <;> rfl
  unfold State.wakeEvent
  dsimp only
  split
  · exact ⟨_, _, rfl⟩
  · rw [hentry]
    dsimp only
    rw [hlisted, if_neg Bool.false_ne_true]
    unfold State.sameWake
    dsimp only
    split
    · unfold State.wakeNote
      dsimp only
      split <;> exact ⟨_, _, rfl⟩
    · exact ⟨_, _, rfl⟩

/-- A wait in Heath cycles moves the clocks, counts, and leaves the rest of Heath alone. -/
theorem State.untilRtc_eq (s : State) (n : Nat) : ∃ r c, (s.untilRtc n).heath = { s.heath with rtc := r, rtcAcc := c } ∧
    (s.untilRtc n).pwr = s.pwr ∧ ∀ a, ¬ clockCounts a → (s.untilRtc n).rd a = s.rd a := by
  unfold State.untilRtc
  split
  · exact ⟨_, _, rfl, rfl, fun _ _ => rfl⟩
  · split
    · obtain ⟨v, r, c, e, hr⟩ := s.advance_eq (ceilDiv ((n - s.heath.rtc) * secC - s.heath.rtcAcc) 32768)
      exact ⟨r, c, by rw [e], by rw [e], hr⟩
    · exact ⟨_, _, rfl, rfl, fun _ _ => rfl⟩

theorem State.wipe_event (s : State) (c : Nat) (b k i : Nat) (x y : Word) :
    ((s.wipe c).event b k i x y).sec = (s.wipe c).sec ∧ ((s.wipe c).event b k i x y).heath = (s.wipe c).heath ∧
      ((s.wipe c).event b k i x y).scr = (s.wipe c).scr := by
  simp

/-- The step of a burn keeps the security state that its unit leaves. -/
theorem State.afterOtp_burnt (s : State) {t : State} {x : SecSt} (h : t.sec = x) :
    (s.afterOtp t).sec.log = x.log ∧ (s.afterOtp t).sec.burning = x.burning ∧ (s.afterOtp t).sec.scrapped = x.scrapped := by
  subst h
  exact ⟨rfl, rfl, rfl⟩

theorem presNFall_makes {s : State} (hup : s.coreUp = true) (hlow : s.heath.presLow = false) (hentry : s.pwr.entry = none) :
    Makes .presNFall s fun t =>
      t.heath.presLow = true ∧ t.heath.pressAt = s.heath.rtc ∧ t.heath.sealOk = s.heath.sealOpen ∧ t.heath.windowEnd = s.heath.windowEnd := by
  refine .of_finishReset rfl ?_
  obtain ⟨hst, hvaon⟩ := State.coreUp_parts hup
  rw [if_neg (by simp [hlow, hvaon])]
  obtain ⟨v, o, e⟩ := State.wakeEvent_running (s := { s with heath := { s.heath with
    presLow := true, pressAt := s.heath.rtc, sealOk := s.heath.sealOpen } }) hst hentry 2 0 0
  rw [e]
  exact ⟨rfl, rfl, rfl, rfl⟩

theorem presNRise_opens {s : State} {n : Nat} (hlow : s.heath.presLow = true) (h1 : 65536 ≤ n) (h2 : n ≤ 327680) (hok : s.heath.sealOk = true)
    (hopen : s.heath.sealOpen = true) (hrun : s.pwr.state = .run) :
    Makes (.presNRise n) s fun t =>
      t.heath.presLow = false ∧ t.heath.windowEnd = some (t.heath.rtc + 3932160) ∧ t.presence = true := by
  refine .of_finish rfl ?_
  obtain ⟨r, c, hheath, hpwr, -⟩ := s.untilRtc_eq (s.heath.pressAt + n)
  rw [if_neg (by simp [hlow])]
  generalize s.untilRtc (s.heath.pressAt + n) = u at hheath hpwr ⊢
  dsimp only
  have hfits : (decide (65536 ≤ n) && decide (n ≤ 327680) && u.heath.sealOk && u.heath.sealOpen) = true := by
    simp [h1, h2, hheath, hok, hopen]
  rw [hfits, if_neg (by simp), if_neg (by simp [hpwr, hrun])]
  exact ⟨by split <;> rfl, by split <;> rfl, rfl⟩

theorem presNRise_rejected {s : State} {n : Nat} (hlow : s.heath.presLow = true)
    (hbad : n < 65536 ∨ 327680 < n ∨ s.heath.sealOk = false ∨ s.heath.sealOpen = false) :
    Makes (.presNRise n) s fun t =>
      t.heath.presLow = false ∧ t.heath.windowEnd = s.heath.windowEnd ∧
      t.rd Reg.heathPresRejectCount = w32 (min 0xFFFFFFFF ((s.rd Reg.heathPresRejectCount).toNat + 1)) := by
  refine .of_finish rfl ?_
  obtain ⟨r, c, hheath, hpwr, hrd⟩ := s.untilRtc_eq (s.heath.pressAt + n)
  rw [if_neg (by simp [hlow])]
  generalize s.untilRtc (s.heath.pressAt + n) = u at hheath hpwr hrd ⊢
  dsimp only
  have hfits : (decide (65536 ≤ n) && decide (n ≤ 327680) && u.heath.sealOk && u.heath.sealOpen) = false := by
    rw [hheath]
    rcases hbad with h | h | h | h
    · rw [decide_eq_false (Nat.not_le_of_lt h), Bool.false_and, Bool.false_and, Bool.false_and]
    · rw [decide_eq_false (Nat.not_le_of_lt h), Bool.and_false, Bool.false_and, Bool.false_and]
    · rw [h, Bool.and_false, Bool.false_and]
    · rw [h, Bool.and_false]
  rw [hfits, if_pos (by simp)]
  have hwin : u.heath.windowEnd = s.heath.windowEnd := by rw [hheath]
  refine ⟨rfl, hwin, ?_⟩
  rw [State.rd_after, State.rd_cnt_one]
  show w32 (min 0xFFFFFFFF ((u.rd _).toNat + 1)) = _
  rw [hrd _ (by unfold clockCounts; decide)]

theorem presenceWindowExpiry_makes {s : State} (hwin : s.heath.windowEnd ≠ none) :
    Makes .presenceWindowExpiry s fun t =>
      t.presence = false ∧ t.heath.presLow = s.heath.presLow := by
  refine .of_finish rfl ?_
  cases hw : s.heath.windowEnd with
  | none => exact absurd hw hwin
  | some e =>
    obtain ⟨r, c, hheath, -⟩ := s.untilRtc_eq e
    have hlow : (s.untilRtc e).heath.presLow = s.heath.presLow := by rw [hheath]
    exact ⟨rfl, hlow⟩

theorem tamperDetected_makes {s : State} {i : Fin 2} (hup : s.coreUp = true) (hen : s.rb Reg.heathTampCtrl i = true) :
    Makes (.tamperDetected i) s fun t =>
      t.heath.tampPresent = true ∧ t.heath.tampCount = min 255 (s.heath.tampCount + 1) ∧ t.heath.tampCause = s.heath.tampCause ||| 2 ^ i.val ∧
      t.sec.sessions = [] ∧ t.sec.keys = keys0 ∧ t.sec.flashKeys = keys0 ∧ t.heath.pendingWipe = true ∧ t.presence = false ∧
      t.scr.mem = s.scr.mem.filter (fun c => !inSecure c.1) := by
  refine .of_finishWipe rfl ?_
  obtain ⟨hst, hvaon⟩ := State.coreUp_parts hup
  rw [if_neg (by simp [hen, hvaon])]
  dsimp only
  generalize hu : State.closeWindow _ = u
  have hupu : u.coreUp = true := hu ▸ hup
  have hmemu : u.scr.mem = s.scr.mem := by rw [← hu]; rfl
  obtain ⟨e, hsec, hheath, hmem⟩ := u.wipe_eq 2
  obtain ⟨esec, eheath, escr⟩ := u.wipe_event 2 0x12 0x04 0 (w32 (s.heath.tampCause ||| 2 ^ i.val)) (w32 (s.heath.rtc / 32768))
  rw [if_pos hupu]
  generalize State.event (u.wipe 2) 0x12 0x04 0 _ _ = t at esec eheath escr ⊢
  rw [hsec] at esec
  rw [hheath, ← hu] at eheath
  rw [hmemu, ← escr] at hmem
  have hheath' : (s.afterWipe t).heath = t.heath := rfl
  have hsec' : (s.afterWipe t).sec = { t.sec with log := s.sec.log } := rfl
  rw [State.afterWipe_wiped hmem, State.presence, hheath', hsec', eheath, esec]
  exact ⟨rfl, rfl, rfl, rfl, rfl, rfl, rfl, rfl, rfl⟩

theorem lifecycleBurnDone_burnt {s : State} {n : Nat} {q : Request} (hfw : s.fwUp = true) (hburn : s.sec.burning = some (n, q)) (hn : n ≠ 5)
    (hall : lcAllowed s.lifeCycle n = true) (hleft : s.sec.log.length < 62) :
    Makes .lifecycleBurnDone s fun t =>
      t.sec.log = s.sec.log ++ [some n] ∧ t.sec.burning = none ∧ t.sec.scrapped = s.sec.scrapped := by
  refine .of_finishOtp rfl ?_
  rw [whileFw_up _ hfw, hburn]
  dsimp only
  have hroom : ¬ 62 ≤ s.sec.log.length := by omega
  rw [if_neg (by
    rintro ⟨-, h | h⟩
    · exact h hall
    · exact hroom (Nat.le_of_sub_eq_zero h)), if_neg hn]
  generalize hu : { s with sec := { s.sec with burning := none, log := s.sec.log ++ [some n] } } = u
  have hsec := (u.reply_answered (op := Op.lifecycleSet) q [w32 (u.lifeCycle + u.lcLeft * 2 ^ 8)] (by decide)).sec
  rw [← congrArg State.sec hu] at hsec
  obtain ⟨hlog, hburn', hscr⟩ := s.afterOtp_burnt hsec
  exact ⟨hlog, hburn', hscr⟩

theorem lifecycleBurnDone_scrapped {s : State} {n : Nat} {q : Request} (hfw : s.fwUp = true) (hburn : s.sec.burning = some (n, q)) (hn : n = 5) :
    Makes .lifecycleBurnDone s fun t =>
      t.lifeCycle = 5 ∧ t.sec.burning = none ∧ t.sec.log = s.sec.log := by
  refine .of_finishOtp rfl ?_
  rw [whileFw_up _ hfw, hburn]
  dsimp only
  rw [if_neg (by simp [hn]), if_pos hn]
  generalize hu : State.scrap _ = u
  have hsec : u.sec = { s.sec with burning := none, scrapped := true } := by rw [← hu, State.scrap_sec]
  have h := (u.reply_answered (op := Op.lifecycleSet) q [w32 (u.lifeCycle + u.lcLeft * 2 ^ 8)] (by decide)).sec.trans hsec
  obtain ⟨hlog, hburn', hscr⟩ := s.afterOtp_burnt h
  exact ⟨if_pos hscr, hburn', hlog⟩

/-- Settles O52: the branch of each row that its hypotheses select. -/
theorem securityEventsComplete : Obligations.SecurityEventsComplete := by
  unfold Obligations.SecurityEventsComplete
  exact fun s hup => ⟨fun hlow hentry => presNFall_makes hup hlow hentry,
    fun n hlow => ⟨fun h1 h2 hok hopen hrun => presNRise_opens hlow h1 h2 hok hopen hrun, fun hbad => presNRise_rejected hlow hbad⟩,
    fun hwin => presenceWindowExpiry_makes hwin, .of_finish rfl ⟨rfl, rfl, rfl, rfl⟩, .of_finish rfl ⟨rfl, rfl, rfl⟩,
    fun i hen => tamperDetected_makes hup hen, fun hfw => .of_fw hfw rfl ⟨rfl, rfl⟩,
    fun n q hfw hburn => ⟨fun hn hall hleft => lifecycleBurnDone_burnt hfw hburn hn hall hleft,
      fun hn => lifecycleBurnDone_scrapped hfw hburn hn⟩⟩

end Sys2Proof.Machine


/-! Power, wake and calibration commands; rails, resets and clocks; standby and the start (chapter 14). -/

namespace Sys2Proof.Machine

theorem State.Answered.pwr {s t : State} (h : s.Answered t) : t.pwr = s.pwr := by
  obtain ⟨-, -, -, -, -, -, -, -, -, -, -, -, -, -, -, -, hpwr, -⟩ := h.frame
  exact hpwr

theorem State.SameCore.clk {s t : State} (h : s.SameCore t) : t.clk = s.clk := by
  obtain ⟨-, -, hclk, -⟩ := h
  exact hclk

theorem State.SameCore.pwr {s t : State} (h : s.SameCore t) : t.pwr = s.pwr := by
  obtain ⟨-, -, -, -, -, -, -, -, -, -, -, -, hpwr, -⟩ := h
  exact hpwr

theorem State.releaseMirrors_same (s : State) : s.SameCore s.releaseMirrors := by
  refine State.SameCore.trans (t := s.setTwin { s.twin with mirrors := [] }) (.refl s) (State.SameCore.foldl (fun t m => ?_) _ _)
  cases m.final with
  | none => exact .refl t
  | some f => exact t.replyFrom_same _ _ _ _ _

theorem State.interruptUpdate_same (s : State) : s.SameCore s.interruptUpdate := by
  unfold State.interruptUpdate
  dsimp only
  have h : s.SameCore { s with upd := { s.upd with verifying := none, relay := none } } := .refl s
  split <;> split
  · exact (h.trans (State.reply_same _ _ _ _ _)).trans (State.reply_same _ _ _ _ _)
  · exact h.trans (State.reply_same _ _ _ _ _)
  · exact h.trans (State.reply_same _ _ _ _ _)
  · exact h

/-- A parting that is settled during an entry to standby leaves the power state alone. -/
theorem State.settleParting_entry {s : State} (h : s.pwr.entry.isSome = true) : s.settleParting.pwr = s.pwr := by
  unfold State.settleParting
  split
  · rfl
  · exact (State.releaseMirrors_same _).pwr

/-- A side that may have to tell its partner of its parting keeps the entry. -/
theorem State.entry_parting {s : State} {e : Entry} (h : s.pwr.entry = some e) (c : Prop) [Decidable c] :
    (if c then ((s.send .mitre .parting).setTwin { s.twin with parting := true }).settleParting else s).pwr.entry = some e := by
  split
  · have hs : ((s.send .mitre .parting).setTwin { s.twin with parting := true }).pwr = s.pwr := rfl
    rw [State.settleParting_entry (by rw [hs, h]; rfl), hs, h]
  · exact h

theorem State.startEntry_entry (s : State) (p : PowerState) : (s.startEntry p).pwr.entry = some ⟨p, false, s.clk.age, none, false⟩ := by
  unfold State.startEntry
  dsimp only
  rw [s.interruptUpdate_same.clk]
  refine State.entry_parting ?_ _
  split <;> rfl

theorem State.coreUp_of_fwUp {s : State} (h : s.fwUp = true) : s.coreUp = true := by
  simp only [State.fwUp, Bool.and_eq_true] at h
  exact h.1.1

/-! ## Commands of the power controller -/

theorem State.powerState_run {s : State} {q : Request} (hstray : q.stray 0 0x7 = false) (h : q.f 0 0 3 = 0) :
    s.powerState q = (State.leaveDoze { s with pwr := { s.pwr with dozeOn := false } }, fin St.ok) := by
  unfold State.powerState
  dsimp only
  rw [if_neg (by simp [hstray, h]), if_pos h]

theorem State.powerState_doze {s : State} {q : Request} (hstray : q.stray 0 0x7 = false) (h : q.f 0 0 3 = 1) :
    s.powerState q = ({ s with pwr := { s.pwr with dozeOn := true } }, fin St.ok) := by
  unfold State.powerState
  dsimp only
  rw [if_neg (by simp [hstray, h]), if_neg (by simp [h]), if_pos h]

theorem State.powerState_standby {s : State} {q : Request} (hstray : q.stray 0 0x7 = false)
    (h : q.f 0 0 3 = 2 ∨ q.f 0 0 3 = 3 ∨ q.f 0 0 3 = 4 ∧ s.rb Reg.heathFallowCtrl 0 = true) (hwake : s.anyWake (powerOf (q.f 0 0 3)) = true) :
    s.powerState q = (s.startEntry (powerOf (q.f 0 0 3)), .pend .powerEntry []) := by
  unfold State.powerState
  dsimp only
  rw [if_neg (by simp [hstray]; omega), if_neg (by omega), if_neg (by omega), if_neg (by rcases h with h | h | ⟨-, h⟩ <;> simp [h]),
    if_neg (by simp [hwake])]

theorem State.leaveDoze_run (s : State) : s.leaveDoze.pwr.dozeOn = s.pwr.dozeOn ∧ s.leaveDoze.pwr.state ≠ .doze := by
  unfold State.leaveDoze
  split
  · exact ⟨rfl, PowerState.noConfusion⟩
  · exact ⟨rfl, ‹_›⟩

theorem State.wakeConfig_good {s : State} {q : Request} (hstray : q.stray 0 0xFFFF7FF1 = false) (hcount : q.f 0 24 8 ≠ 0)
    (hpins : firstBelow 4 (fun n => q.b 0 (4 + n) && nfld s.time.capture n 1 == 1) = none) :
    s.wakeConfig q = ((s.wr Reg.heathWakeCtrl (q.w 0)).wr Reg.heathRtcAlarm (q.w 1), fin St.ok) := by
  unfold State.wakeConfig
  rw [if_neg (by simp [hstray, hcount]), hpins]

theorem State.calValue_set (s : State) (n k i : Nat) (v : Int) (hk : n = 64 * k + i) (hi : i < 64) (t : State)
    (ht : t.pwr.user = smSet none s.pwr.user n (some v)) :
    t.calValue k i = (v, true) ∧ ∀ l j, j < 64 → (l, j) ≠ (k, i) → t.calValue l j = s.calValue l j := by
  subst hk
  refine ⟨by simp [State.calValue, ht], fun l j hj hne => ?_⟩
  have h : 64 * l + j ≠ 64 * k + i := fun e => hne (by rw [Prod.mk.injEq]; omega)
  rw [State.calValue, State.calValue, ht, smGet_smSet_ne _ _ _ _ h]

/-- A GO that the firmware takes at once. -/
theorem State.calCmd_go {s : State} {v : Word} (hfw : s.fwUp = true) (hgo : bit v 31 = true) (hreq : s.pwr.calReqs = 0) :
    s.calCmd v = (s.wr Reg.powerCalCmd (w32 (fld v 0 2))).calGo (fld v 0 2) := by
  unfold State.calCmd
  dsimp only
  rw [if_neg (by simp [hgo]), if_pos ⟨hfw, hreq⟩]

/-- A GO that finds the firmware not running. -/
theorem State.calCmd_kept {s : State} {v : Word} (hfw : s.fwUp = false) (hgo : bit v 31 = true) :
    s.calCmd v = { s.wr Reg.powerCalCmd (w32 (fld v 0 2)) with pwr := { s.pwr with calReqs := min 2 (s.pwr.calReqs + 1) } } := by
  have hfw' : (s.wr Reg.powerCalCmd (w32 (fld v 0 2))).fwUp = false := hfw
  unfold State.calCmd
  dsimp only
  rw [if_neg (by simp [hgo]), if_neg (by simp [hfw'])]
  rfl

theorem State.calGo_read {s : State} (h : calExists (s.rf Reg.powerCalSel 0 4) (s.rf Reg.powerCalSel 8 6) = true) :
    s.calGo 0 = s.wr Reg.powerCalResult (w32 (((s.calValue (s.rf Reg.powerCalSel 0 4) (s.rf Reg.powerCalSel 8 6)).1 % 2 ^ 16).toNat +
      b2n (s.calValue (s.rf Reg.powerCalSel 0 4) (s.rf Reg.powerCalSel 8 6)).2 * 2 ^ 16)) := by
  rw [State.calGo, if_pos rfl, State.calRead]
  dsimp only
  rw [if_pos h]

theorem State.calGo_write {s : State} (h : calExists (s.rf Reg.powerCalSel 0 4) (s.rf Reg.powerCalSel 8 6) = true)
    (h5 : s.rf Reg.powerCalSel 0 4 ≤ 5) : (s.calGo 1).pwr = { s.pwr with
      user := smSet none s.pwr.user (64 * s.rf Reg.powerCalSel 0 4 + s.rf Reg.powerCalSel 8 6)
        (some (signed 16 (s.rf Reg.powerCalValue 0 16))), calWrites := s.pwr.calWrites + 1 } := by
  rw [State.calGo, if_neg (by decide), if_pos rfl, State.calWrite]
  dsimp only
  rw [if_pos ⟨h, h5⟩]
  rfl

theorem State.rf_wr_ne (s : State) {a b : Nat} (v : Word) (h : b ≠ a) (lo n : Nat) : (s.wr a v).rf b lo n = s.rf b lo n := by
  rw [State.rf, State.rf, s.rd_wr_ne _ h]

/-- Settles O53: each command's body on its good arm; a calibration GO through the registers that select it. -/
theorem powerCommandsComplete : Obligations.PowerCommandsComplete := by
  unfold Obligations.PowerCommandsComplete
  refine ⟨fun q s ht => finish_final ht rfl, fun q s ht hstray => ⟨fun h => ?_, fun h => finish_final ht (State.powerState_doze hstray h), fun h hwake => ?_⟩,
    fun q s ht hstray hcount hpins => finish_final ht (State.wakeConfig_good hstray hcount hpins), fun q s ht hlc => ?_,
    fun s => ⟨.of_finish rfl ⟨by simp [State.clearRecords, bit, fld], ?_⟩, .of_finish rfl ⟨by simp [State.clearRecords, bit, fld], rfl⟩,
      .of_finish rfl ⟨by simp [State.clearRecords, bit, fld], rfl⟩, .of_finish rfl ⟨by simp [State.clearRecords, bit, fld], rfl⟩⟩,
    fun s v k i hfw hgo hk hi hex hreq => ⟨fun hop => .of_up (State.coreUp_of_fwUp hfw) rfl ?_,
      fun hop h5 => .of_up (State.coreUp_of_fwUp hfw) rfl ?_⟩, fun s v hup hfw hgo i hi => ?_,
    fun s hfw hw => .of_fw hfw rfl ?_, fun s n hup => .of_up hup rfl ?_⟩
  · obtain ⟨hdoze, hrun⟩ := State.leaveDoze_run { s with pwr := { s.pwr with dozeOn := false } }
    exact ⟨_, finish_final ht (State.powerState_run hstray h), hdoze, hrun, by simp⟩
  · refine ⟨s.startEntry (powerOf (q.f 0 0 3)), ?_, s.startEntry_entry _⟩
    show finish s (runCmd _ _ _ _) = _
    rw [runCmd_taken _ ht, State.powerState_standby hstray h hwake, endCmd_pend, finish_eq]
  · show finish s (runCmd _ _ _ _) = _
    rw [runCmd_taken _ ht, State.calRestore, if_neg hlc, endCmd_quiet, finish_eq]
  · rw [State.rd_after]
    exact State.rd_wr_same _ _ _
  · subst hk hi
    rw [State.calCmd_go hfw hgo hreq, hop]
    have hsel := s.rf_wr_ne (w32 0) (show Reg.powerCalSel ≠ Reg.powerCalCmd by decide)
    rw [State.calGo_read (by rw [hsel, hsel]; exact hex), hsel, hsel]
    exact ⟨rfl, State.rd_wr_same _ _ _⟩
  · subst hk hi
    rw [State.calCmd_go hfw hgo hreq, hop]
    have hsel := s.rf_wr_ne (w32 1) (show Reg.powerCalSel ≠ Reg.powerCalCmd by decide)
    have hval := s.rf_wr_ne (w32 1) (show Reg.powerCalValue ≠ Reg.powerCalCmd by decide)
    have hpwr := State.calGo_write (s := s.wr Reg.powerCalCmd (w32 1)) (by rw [hsel, hsel]; exact hex) (by rw [hsel]; exact h5)
    rw [hsel, hsel, hval] at hpwr
    generalize (s.wr Reg.powerCalCmd (w32 1)).calGo 1 = u at hpwr ⊢
    have hset := s.calValue_set _ _ _ _ rfl (fld_lt (s.rd Reg.powerCalSel) 8 6) (s.after u) (congrArg PowerSt.user hpwr)
    have hwrites : u.pwr.calWrites = s.pwr.calWrites + 1 := by rw [hpwr]; rfl
    have hflash : u.pwr.calFlash = s.pwr.calFlash := by rw [hpwr]; rfl
    exact ⟨hset.1, hwrites, hflash, fun l j hj _ hne => hset.2 l j hj hne⟩
  · have hrow (u : State) (hu : u = s.calCmd v) : (s.after u).pwr = { s.pwr with calReqs := min 2 (s.pwr.calReqs + 1) } ∧
        (s.after u).rd Reg.powerCalResult = s.rd Reg.powerCalResult := by
      rw [hu, State.calCmd_kept hfw hgo]
      exact ⟨rfl, s.rd_wr_ne _ (by decide)⟩
    rcases List.mem_cons.1 hi with rfl | hi
    · exact .of_up hup rfl (hrow _ rfl)
    · obtain rfl := List.mem_singleton.1 hi
      exact .of_up hup rfl (hrow _ rfl)
  · rw [if_pos hw]
    exact ⟨rfl, rfl, rfl⟩
  · dsimp only
    generalize hon : (if s.pwr.thermWarn = true then decide ((_ : Int) < _) else decide ((_ : Int) ≤ _)) = on
    have h (u : State) (hu : u.pwr = { s.pwr with temp := n + (s.calValue 3 0).1, thermWarn := on }) :
        (s.after u).pwr.temp = n + (s.calValue 3 0).1 ∧
          (4 * (s.rf Reg.powerThermWarn 0 8 : Int) ≤ (s.after u).pwr.temp → (s.after u).pwr.thermWarn = true) ∧
          ((s.after u).pwr.temp ≤ 4 * (s.rf Reg.powerThermWarn 0 8 : Int) - 20 → (s.after u).pwr.thermWarn = false) := by
      have hpwr : (s.after u).pwr = u.pwr := rfl
      rw [hpwr, hu, ← hon]
      dsimp only
      refine ⟨rfl, fun hle => ?_, fun hle => ?_⟩
      · split <;> simp <;> omega
      · split <;> simp <;> omega
    split
    · exact h _ (by simp)
    · exact h _ rfl

end Sys2Proof.Machine


/-! How copies end, and the rails, resets and clocks of chapter 14. -/

namespace Sys2Proof.Machine

/-! ## How copies end -/

/-- Copies have ended: `cs` are left. Beside them only cells, frames and counts change, and an event may be recorded. -/
def State.CopiesTo (s t : State) (cs : List Copy) : Prop := ∃ r e h f, t = { s with
  reg := r, evt := e, sw := { s.sw with holders := h, frames := f, copies := cs } }

theorem State.CopiesTo.trans {s t u : State} {cs ds : List Copy} (h : s.CopiesTo t cs) (k : t.CopiesTo u ds) : s.CopiesTo u ds := by
  obtain ⟨_, _, _, _, rfl⟩ := h
  obtain ⟨_, _, _, _, rfl⟩ := k
  exact ⟨_, _, _, _, rfl⟩

theorem State.CopiesTo.copies {s t : State} {cs : List Copy} (h : s.CopiesTo t cs) : t.sw.copies = cs := by
  obtain ⟨_, _, _, _, rfl⟩ := h
  rfl

theorem State.CopiesTo.ethPort {s t : State} {cs : List Copy} (h : s.CopiesTo t cs) (n : Nat) : t.ethPort n = s.ethPort n := by
  obtain ⟨_, _, _, _, rfl⟩ := h
  rfl

theorem State.putEvent_eq (s : State) (b c i : Nat) (x y : Word) : ∃ r e, s.putEvent b c i x y = { s with reg := r, evt := e } := by
  unfold State.putEvent
  split <;> exact ⟨_, _, rfl⟩

theorem State.eventSup_eq (s : State) (b c i : Nat) (x y : Word) (k : List Nat) (p : Nat) : ∃ r e,
    s.eventSup b c i x y k p = { s with reg := r, evt := e } := by
  obtain ⟨r, e, h⟩ := s.putEvent_eq b c i x y
  unfold State.eventSup
  dsimp only
  rw [h]
  split
  · exact ⟨_, _, rfl⟩
  · split
    · exact ⟨_, _, rfl⟩
    · split <;> exact ⟨_, _, rfl⟩

theorem State.endFrame_copies (s : State) (n : Nat) : s.CopiesTo (s.endFrame n) s.sw.copies := by
  unfold State.endFrame
  split
  · exact ⟨_, _, _, _, rfl⟩
  · split
    · exact ⟨_, _, _, _, rfl⟩
    · dsimp only
      split
      · split
        · unfold State.partialDelivery
          dsimp only
          obtain ⟨r, e, h⟩ := State.eventSup_eq (State.cnt { s with sw := { s.sw with frames := s.sw.frames.filter (fun g => g.num != n) } }
            Reg.switchPartialCount 1) 0x09 0x01 0 _ _ _ _
          exact ⟨_, _, _, _, h⟩
        · exact ⟨_, _, _, _, rfl⟩
      · exact ⟨_, _, _, _, rfl⟩

theorem State.dropCopy_copies (s : State) (c : Copy) (r : Nat) : s.CopiesTo (s.dropCopy c r) (s.sw.copies.erase c) := by
  unfold State.dropCopy
  dsimp only
  split
  · exact ⟨_, _, _, _, rfl⟩
  · exact State.CopiesTo.trans ⟨_, _, _, _, rfl⟩ (State.endFrame_copies _ _)

/-- Erasing the members of a list that satisfy `p`, one by one, leaves those that do not. -/
theorem foldl_erase_filter {α : Type} [DecidableEq α] (p : α → Bool) (l : List α) :
    (l.filter p).foldl List.erase l = l.filter (fun x => !p x) := by
  induction l with
  | nil => rfl
  | cons x l ih =>
    have hkeep (ds m : List α) (h : x ∉ ds) : ds.foldl List.erase (x :: m) = x :: ds.foldl List.erase m := by
      induction ds generalizing m with
      | nil => rfl
      | cons d ds ihd =>
        obtain ⟨hd, hds⟩ := not_or.1 (fun hm => h (List.mem_cons.2 hm))
        rw [List.foldl_cons, List.erase_cons_tail (by simpa using hd), ihd _ hds, List.foldl_cons]
    cases hp : p x with
    | true => rw [List.filter_cons_of_pos hp, List.foldl_cons, List.erase_cons_head, ih, List.filter_cons_of_neg (by simp [hp])]
    | false =>
      rw [List.filter_cons_of_neg (by simp [hp]), hkeep _ _ (by simp [hp]), ih, List.filter_cons_of_pos (by simp [hp])]

/-- A flush leaves no copy of the port, and every other copy. -/
theorem State.flushPort_copies (s : State) (p : Nat) : s.CopiesTo (s.flushPort p).1 (s.sw.copies.filter (fun c => !(c.port == p))) := by
  rw [← foldl_erase_filter]
  show s.CopiesTo ((s.sw.copies.filter (fun c => c.port == p)).foldl (fun s c => s.dropCopy c (if c.sending then 16 else 13)) s) _
  generalize s.sw.copies.filter (fun c => c.port == p) = ds
  have h (t : State) : t.CopiesTo (ds.foldl (fun s c => s.dropCopy c (if c.sending then 16 else 13)) t) (ds.foldl List.erase t.sw.copies) := by
    induction ds generalizing t with
    | nil => exact ⟨_, _, _, _, rfl⟩
    | cons d ds ih =>
      have hd := t.dropCopy_copies d (if d.sending then 16 else 13)
      have hr := ih (t.dropCopy d (if d.sending then 16 else 13))
      rw [hd.copies] at hr
      exact hd.trans hr
  exact h s

/-- The record of a port whose link goes down. -/
def State.portOff (s : State) (n : Nat) : State :=
  s.setEth n { s.ethPort n with linkUp := false, lossSince := none, downAt := some s.clk.age }

theorem State.takeDown_copies (s : State) (n : Nat) : (s.portOff n).CopiesTo (s.takeDown n) (s.sw.copies.filter (fun c => !(c.port == n))) := by
  show (s.portOff n).CopiesTo ((((s.portOff n).flushPort n).1).event 0x0A 0x01 n (w32 ((s.portOff n).flushPort n).2) (w32 (s.ethPort n).mode)) _
  obtain ⟨v, e, h, -⟩ := State.event_eq ((s.portOff n).flushPort n).1 0x0A 0x01 n (w32 ((s.portOff n).flushPort n).2) (w32 (s.ethPort n).mode)
  obtain ⟨r, e', h', f, hf⟩ := (s.portOff n).flushPort_copies n
  rw [h, hf]
  exact ⟨_, _, _, _, rfl⟩

theorem State.ethPort_setEth_same (s : State) (n : Nat) (p : EthPort) : (s.setEth n p).ethPort n = p := by
  simp [State.ethPort, State.setEth]

theorem State.ethPort_setEth_ne (s : State) {m n : Nat} (p : EthPort) (h : m ≠ n) : (s.setEth n p).ethPort m = s.ethPort m := by
  simp [State.ethPort, State.setEth, smGet_smSet_ne _ _ _ _ h]

/-! ## Loss of REFCLK -/

/-- The port goes down if it is up. -/
def State.portLost (s : State) (n : Nat) : State := if (s.ethPort n).linkUp then s.takeDown n else s

theorem State.portLost_down (s : State) (n : Nat) : ((s.portLost n).ethPort n).linkUp = false := by
  unfold State.portLost
  split
  · rw [(s.takeDown_copies n).ethPort, State.portOff, State.ethPort_setEth_same]
  · exact Bool.eq_false_iff.2 ‹_›

theorem State.portLost_other (s : State) {m n : Nat} (h : m ≠ n) : (s.portLost n).ethPort m = s.ethPort m := by
  unfold State.portLost
  split
  · rw [(s.takeDown_copies n).ethPort, State.portOff, State.ethPort_setEth_ne _ _ h]
  · rfl

theorem State.portsLost_down (l : List Nat) (s : State) {n : Nat} (h : n ∈ l ∨ (s.ethPort n).linkUp = false) :
    ((l.foldl State.portLost s).ethPort n).linkUp = false := by
  induction l generalizing s with
  | nil => exact h.resolve_left List.not_mem_nil
  | cons m l ih =>
    refine ih _ ?_
    by_cases hm : n = m
    · exact .inr (hm ▸ s.portLost_down m)
    · refine h.imp (fun h => (List.mem_cons.1 h).resolve_left hm) fun h => ?_
      rw [State.portLost_other _ hm, h]

theorem State.linkLost_eq (s : State) (l : LinkId) : (s.linkLost l).sw = s.sw ∧ (s.linkLost l).linkIsUp l = false ∧
    ∀ k, s.linkIsUp k = false → (s.linkLost l).linkIsUp k = false := by
  cases l <;> simp [State.linkLost, State.linkIsUp] <;> intro k <;> cases k <;> simp

theorem State.linksLost (s : State) : (allLinks.foldl State.linkLost s).sw = s.sw ∧ ∀ l, (allLinks.foldl State.linkLost s).linkIsUp l = false := by
  have h (ls : List LinkId) (t : State) : (ls.foldl State.linkLost t).sw = t.sw ∧
      ∀ l, l ∈ ls ∨ t.linkIsUp l = false → (ls.foldl State.linkLost t).linkIsUp l = false := by
    induction ls generalizing t with
    | nil => exact ⟨rfl, fun l h => h.resolve_left List.not_mem_nil⟩
    | cons k ls ih =>
      obtain ⟨hsw, hdown, hkeep⟩ := t.linkLost_eq k
      obtain ⟨hsw', hrest⟩ := ih (t.linkLost k)
      refine ⟨hsw'.trans hsw, fun l h => hrest l ?_⟩
      rcases h with h | h
      · rcases List.mem_cons.1 h with rfl | h
        · exact .inr hdown
        · exact .inl h
      · exact .inr (hkeep l h)
  exact ⟨(h allLinks s).1, fun l => (h allLinks s).2 l (.inl (by cases l <;> decide))⟩

/-! ## Resets -/

theorem State.rd_resetCore (s : State) {a : Nat} (h : heathKept a = true) : s.resetCore.rd a = s.rd a := by
  have e : s.reg.vals.filter (fun x => heathKept x.1 || regionKept x.1) =
      s.reg.vals.filter (fun x => !(fun a => !(heathKept a || regionKept a)) x.1) := by simp
  show smGet (resetOf a) (s.reg.vals.filter (fun x => heathKept x.1 || regionKept x.1)) a = smGet (resetOf a) s.reg.vals a
  rw [e, smGet_filter_not _ _ (fun a => !(heathKept a || regionKept a)), h]
  rfl

theorem State.resetIfOn_on {s : State} (h : s.coreOn = true) :
    s.resetIfOn = { s.resetCore with pwr := { s.resetCore.pwr with state := .run } } := if_pos h

theorem State.wakeNote_eq (s : State) (p c d n : Nat) : ∃ o, s.wakeNote p c d n =
    { s.wr Reg.heathWakeCause (w32 (c + d * 2 ^ 8 + n * 2 ^ 16 + p * 2 ^ 24)) with heath := { s.heath with wakeOut := o } } := by
  unfold State.wakeNote
  dsimp only
  split <;> exact ⟨_, rfl⟩

/-- A wake that is recorded is counted, and only the release of WAKE_OUT may be due. -/
theorem State.wakeRecord_eq (s : State) (c d n : Nat) : ∃ v o,
    s.wakeRecord c d n = { s with reg := { s.reg with vals := v }, heath := { s.heath with wakeOut := o } } ∧
    (s.wakeRecord c d n).rd Reg.heathWakeCause = w32 (c + d * 2 ^ 8 + n * 2 ^ 16 + s.pwr.state.code * 2 ^ 24) ∧
    (s.wakeRecord c d n).rd Reg.heathWakeCount = w32 (min 0xFFFFFFFF ((s.rd Reg.heathWakeCount).toNat + 1)) := by
  obtain ⟨o, h⟩ := (s.cnt Reg.heathWakeCount 1).wakeNote_eq s.pwr.state.code c d n
  have hv : (s.wakeRecord c d n).reg.vals = ((s.cnt Reg.heathWakeCount 1).wr Reg.heathWakeCause
      (w32 (c + d * 2 ^ 8 + n * 2 ^ 16 + s.pwr.state.code * 2 ^ 24))).reg.vals := by
    rw [State.wakeRecord, State.wakeFrom, h]
  refine ⟨_, o, h, ?_, ?_⟩ <;> rw [State.rd_of_vals hv]
  · rw [State.rd_wr_same]
  · rw [State.rd_wr_ne _ _ (by decide), State.rd_cnt_one]

/-- VAON is back and no other rail stands: nothing is out of order. -/
theorem State.rail_low {s : State} {r : Nat} (h : smGet 0 s.pwr.rails r ≤ 75) : s.rail r = .low := by
  have hnom : 750 ≤ s.nominal r := by
    unfold State.nominal
    split
    all_goals (try split) <;> decide
  unfold State.rail
  exact if_pos (by omega)

theorem State.rail_congr {s t : State} {r : Nat} (hs : t.pwr.vio2Sel = s.pwr.vio2Sel) (hr : smGet 0 t.pwr.rails r = smGet 0 s.pwr.rails r) :
    t.rail r = s.rail r := by
  have hnom : t.nominal r = s.nominal r := by unfold State.nominal; rw [hs]
  rw [State.rail, State.rail, hr, hnom]

theorem State.nominal_pos (s : State) (r : Nat) : 0 < s.nominal r := by
  unfold State.nominal
  split <;> (try split) <;> decide

theorem State.afterReset_cleared {s t : State} (h : t.scr.mem = []) : (s.afterReset t).scr.mem = [] := if_pos h

theorem State.coreUp_held {s : State} (h : s.pwr.holdRst = true ∨ s.pwr.holdOrder = true ∨ s.pwr.holdSysclk = true ∨
    s.pwr.holdTherm = true ∨ s.pwr.holdVaon = true) : s.coreUp = false := by
  unfold State.coreUp
  rcases h with h | h | h | h | h <;> simp [h]

/-- What the rail requests of a power state change. -/
theorem State.setPower_eq (s : State) (p : PowerState) : ∃ v, s.setPower p = { s with pwr := { s.pwr with
    vio2Sel := v, state := p, coreEn := p == .run || p == .doze || p == .keep, retEn := p == .keep, ioEn := p != .fallow
    ioFirst := s.pwr.ioFirst || p == .watch } } := by
  unfold State.setPower State.sampleStraps
  split <;> exact ⟨_, rfl⟩

/-- What an order fault leaves: the hold, its record, and a core domain that has been reset. -/
theorem State.recordOrder_eq (s : State) (r p : Nat) (falling : Bool) : (s.recordOrder r p falling).pwr.holdOrder = true ∧
    (s.recordOrder r p falling).heath.orderRec = true ∧ (s.recordOrder r p falling).coreUp = false ∧
    (s.coreOn = true → (s.recordOrder r p falling).sec.sessions = [] ∧ (s.recordOrder r p falling).sw.frames = []) := by
  unfold State.recordOrder
  dsimp only
  generalize hu : State.wr _ _ _ = u
  have hpwr : u.pwr = s.pwr := by
    rw [← hu]
    split <;> simp
  by_cases hon : s.coreOn = true
  · rw [State.resetIfOn_on (by rw [State.coreOn] at hon ⊢; dsimp only; rwa [hpwr])]
    exact ⟨rfl, rfl, by simp [State.coreUp, State.resetCore], fun _ => ⟨rfl, rfl⟩⟩
  · rw [State.resetIfOn, if_neg (by rw [State.coreOn] at hon ⊢; dsimp only; rwa [hpwr])]
    exact ⟨rfl, rfl, by simp [State.coreUp], fun h => absurd h hon⟩

/-- What RAIL_CHANGE does once the rail has its new voltage: the order is checked. -/
def State.checkRails (s : State) (before : Option (Nat × Nat)) (r : Rail) (falling : Bool) : State :=
  match s.orderFault with
  | some (a, p) => if before = none then s.recordOrder a p falling else s
  | none => if r = .vddc ∧ s.rail r.num ≠ .high ∧ ¬ s.pwr.starting then s.resetIfOn else s

/-- The I/O rails may come first until the core rails are up. -/
def State.ioSettled (s : State) : State :=
  { s with pwr := { s.pwr with ioFirst := s.pwr.ioFirst && !(s.pwr.coreEn && [1, 2, 3].all (fun r => s.rail r == .high)) } }

theorem State.ioSettled_off {s : State} (h : s.pwr.ioFirst = false) : s.ioSettled = s := by
  have hand (b : Bool) : (s.pwr.ioFirst && b) = s.pwr.ioFirst := by simp [h]
  rw [State.ioSettled, hand]

theorem exec_railChange {s u : State} {r : Rail} {mv : Nat} {v : BitVec 8} (hvaon : s.pwr.holdVaon = false) (hio : s.pwr.ioFirst = false)
    (hu : u = { s with pwr := { s.pwr with rails := smSet 0 s.pwr.rails r.num mv, vio2Strap := v } }) :
    exec (.railChange r ⟨mv, v⟩) s = finishReset s (u.checkRails s.orderFault r (decide ((u.rail r.num).rank < (s.rail r.num).rank))) := by
  have hv : u.pwr.holdVaon = false := by rw [hu]; exact hvaon
  have hi : u.pwr.ioFirst = false := by rw [hu]; exact hio
  have h : exec (.railChange r ⟨mv, v⟩) s = finishReset s (if u.ioSettled.pwr.holdVaon then u.ioSettled
      else match u.ioSettled.orderFault with
        | some (a, p) => if s.orderFault = none
          then u.ioSettled.recordOrder a p (decide ((u.rail r.num).rank < (s.rail r.num).rank)) else u.ioSettled
        | none => if r = .vddc ∧ u.rail r.num ≠ .high ∧ ¬ u.ioSettled.pwr.starting then u.ioSettled.resetIfOn else u.ioSettled) := by
    rw [hu]
    rfl
  rw [h, State.ioSettled_off hi, if_neg (by simp [hv])]
  rfl

theorem vaonPowerOn_makes {s : State} (hlow : ∀ r, 1 ≤ r → r < 13 → smGet 0 s.pwr.rails r ≤ 75) :
    Makes .vaonPowerOn s fun t =>
      t.pwr.vio2Sel = s.pwr.vio2Strap ∧ t.pwr.holdVaon = false ∧ t.pwr.holdOrder = false ∧ t.pwr.state = .run ∧ t.rail 0 = .high ∧
      t.heath.rtc = 0 ∧ t.heath.vaonPor = true ∧ t.sec.sessions = [] ∧ t.tern = ternReset ∧ t.sec.log = s.sec.log ∧ t.scr.mem = [] := by
  refine .of_finishReset rfl ?_
  obtain ⟨v, h⟩ := s.resetCore.resetHeath.setPower_eq .run
  dsimp only
  rw [h]
  generalize hx : ({ State.setRail _ _ _ with pwr := _ } : State) = x
  have hnone : (List.range 13).find? (fun r => decide (1 ≤ r) && x.rail r != .low) = none := by
    rw [List.find?_eq_none]
    intro r hr
    have hr13 := List.mem_range.1 hr
    by_cases h1 : 1 ≤ r
    · have hmv : smGet 0 x.pwr.rails r = smGet 0 s.pwr.rails r := by
        rw [← hx]
        exact smGet_smSet_ne _ _ _ _ (by omega)
      simp [State.rail_low (hmv ▸ hlow r h1 hr13)]
    · simp [h1]
  rw [hnone, ← hx]
  refine ⟨rfl, rfl, rfl, rfl, ?_, rfl, rfl, rfl, rfl, rfl, State.afterReset_cleared rfl⟩
  simp [State.rail, State.nominal, State.setRail, State.afterReset]

theorem vaonBrownout_makes (s : State) :
    Makes .vaonBrownout s fun t =>
      t.coreUp = false ∧ t.pwr.holdVaon = true ∧ t.heath.windowEnd = none ∧ t.sec.sessions = [] ∧ t.scr.mem = [] ∧ t.sec.log = s.sec.log := by
  refine .of_finishReset rfl ?_
  obtain ⟨v, h⟩ := s.resetCore.resetHeath.setPower_eq .run
  dsimp only
  rw [h]
  exact ⟨State.coreUp_held (.inr (.inr (.inr (.inr rfl)))), rfl, rfl, rfl, State.afterReset_cleared rfl, rfl⟩

theorem railChange_inOrder {s u : State} {r : Rail} {mv : Nat} {v : BitVec 8} (hvaon : s.pwr.holdVaon = false) (hio : s.pwr.ioFirst = false)
    (hu : u = { s with pwr := { s.pwr with rails := smSet 0 s.pwr.rails r.num mv, vio2Strap := v } })
    (hfault : u.orderFault = none) (hr : r ≠ .vddc) :
    Makes (.railChange r ⟨mv, v⟩) s fun t =>
      t.pwr = u.pwr ∧ t.reg = s.reg ∧ t.heath = s.heath ∧ (10 * mv ≤ s.nominal r.num → t.rail r.num = .low) ∧
      (9 * s.nominal r.num ≤ 10 * mv → t.rail r.num = .high) ∧ ∀ k, k ≠ r.num → t.rail k = s.rail k := by
  refine .of_finishReset (exec_railChange hvaon hio hu) ?_
  rw [State.checkRails, hfault]
  dsimp only
  rw [if_neg (fun h => hr h.1)]
  have hrails : u.pwr.rails = smSet 0 s.pwr.rails r.num mv := by rw [hu]
  have hsel : u.pwr.vio2Sel = s.pwr.vio2Sel := by rw [hu]
  have hnom : u.nominal r.num = s.nominal r.num := by unfold State.nominal; rw [hsel]
  have hpos := s.nominal_pos r.num
  have hrail : u.rail r.num = if 10 * mv ≤ s.nominal r.num then .low else if 9 * s.nominal r.num ≤ 10 * mv then .high
      else if r.num = 1 ∧ 450 ≤ mv ∧ mv ≤ 550 then .ret else .mid := by
    rw [State.rail, hnom, hrails, smGet_smSet_same]
  have hreg : u.reg = s.reg := by rw [hu]
  have hheath : u.heath = s.heath := by rw [hu]
  refine ⟨rfl, hreg, hheath, fun h => ?_, fun h => ?_, fun k hk => ?_⟩
  · exact hrail.trans (if_pos h)
  · exact hrail.trans ((if_neg (by omega)).trans (if_pos h))
  · exact State.rail_congr hsel (by
      show smGet 0 u.pwr.rails k = _
      rw [hrails, smGet_smSet_ne _ _ _ _ hk])

theorem railChange_outOfOrder {s u : State} {r : Rail} {mv : Nat} {v : BitVec 8} {a p : Nat} (hvaon : s.pwr.holdVaon = false) (hio : s.pwr.ioFirst = false)
    (hbefore : s.orderFault = none)
    (hu : u = { s with pwr := { s.pwr with rails := smSet 0 s.pwr.rails r.num mv, vio2Strap := v } })
    (hfault : u.orderFault = some (a, p)) :
    Makes (.railChange r ⟨mv, v⟩) s fun t =>
      t.pwr.holdOrder = true ∧ t.heath.orderRec = true ∧ t.coreUp = false ∧ (s.coreOn → t.sec.sessions = [] ∧ t.sw.frames = []) := by
  refine .of_finishReset (exec_railChange hvaon hio hu) ?_
  rw [State.checkRails, hfault, hbefore]
  have hon : u.coreOn = s.coreOn := by rw [hu]; rfl
  obtain ⟨h1, h2, h3, h4⟩ := u.recordOrder_eq a p (decide ((u.rail r.num).rank < (s.rail r.num).rank))
  rw [hon] at h4
  exact ⟨h1, h2, h3, h4⟩

theorem rstNLow_makes {s : State} {n : Nat} (hn : 1000 ≤ n) (hvaon : s.pwr.holdVaon = false) :
    Makes (.rstNLow n) s fun t =>
      t.presence = false ∧ t.coreUp = false ∧ t.pwr.state = .run ∧ t.pwr.holdRst = true ∧ t.scr.mem = [] ∧ t.sw.frames = [] ∧
      t.tern = ternReset ∧ t.sec.log = s.sec.log := by
  refine .of_finishReset rfl ?_
  rw [if_neg (by simp [hvaon]; omega)]
  dsimp only
  split
  · rw [State.resetIfOn_on ‹_›]
    exact ⟨rfl, State.coreUp_held (.inl rfl), rfl, rfl, State.afterReset_cleared rfl, rfl, rfl, rfl⟩
  · obtain ⟨v, o, h, -⟩ := State.wakeRecord_eq ({ s.closeWindow with pwr := { s.closeWindow.pwr with holdRst := true } }) 7 0 0
    unfold State.wakeNow
    dsimp only
    rw [h, if_neg (by simp)]
    obtain ⟨v, h⟩ := State.setPower_eq (State.resetCore _) .run
    rw [h]
    exact ⟨rfl, State.coreUp_held (.inl rfl), rfl, rfl, State.afterReset_cleared rfl, rfl, rfl, rfl⟩

theorem rstNRise_makes {s : State} {n : Nat} (hrst : s.pwr.holdRst = true) :
    Makes (.rstNRise n) s fun t =>
      t.pwr.holdRst = false ∧ t.pwr.holdTherm = false ∧ t.reg = s.reg ∧ (n < 10000 → t.pwr.holdOrder = s.pwr.holdOrder) := by
  refine .of_finish rfl ?_
  rw [if_neg (by simp [hrst])]
  exact ⟨rfl, rfl, rfl, fun h => by simp [State.after, h]⟩

theorem sysclkLoss_makes {s : State} (hon : s.coreOn = true) :
    Makes .sysclkLoss s fun t =>
      t.pwr.holdSysclk = true ∧ t.heath.clkRec = true ∧ t.coreUp = false ∧ t.scr.mem = [] := by
  refine .of_finishReset rfl ?_
  rw [if_neg (by simp [hon]), State.resetIfOn_on (by exact hon)]
  exact ⟨rfl, rfl, State.coreUp_held (.inr (.inr (.inl rfl))), State.afterReset_cleared rfl⟩

theorem sysclkRestored_makes {s : State} (hhold : s.pwr.holdSysclk = true) :
    Makes .sysclkRestored s fun t =>
      t.pwr.holdSysclk = false ∧ t.heath.clkRec = s.heath.clkRec ∧
      t.rd Reg.heathWakeCount = w32 (min 0xFFFFFFFF ((s.rd Reg.heathWakeCount).toNat + 1)) := by
  refine .of_finish rfl ?_
  rw [if_neg (by simp [hhold])]
  obtain ⟨v, o, h, -, hcount⟩ := State.wakeRecord_eq ({ s with pwr := { s.pwr with holdSysclk := false } }) 8 0 0
  refine ⟨?_, ?_, (State.rd_after _ _ _).trans hcount⟩ <;> rw [h] <;> rfl

theorem refclkLoss_makes {s : State} (hup : s.coreUp = true) :
    Makes .refclkLoss s fun t =>
      t.pwr.refclkLost = true ∧ (∀ n : Fin 32, (t.ethPort n).linkUp = false) ∧ ∀ l, t.linkIsUp l = false := by
  refine .of_up hup rfl ?_
  have hfold : (fun (s : State) n => if (s.ethPort n).linkUp then s.takeDown n else s) = State.portLost := rfl
  dsimp only
  rw [hfold]
  have hports (n : Fin 32) := State.portsLost_down (List.range 32) s (.inl (List.mem_range.2 n.isLt))
  generalize (List.range 32).foldl State.portLost s = u at hports ⊢
  obtain ⟨hsw, hlinks⟩ := u.linksLost
  generalize allLinks.foldl State.linkLost u = w at hsw hlinks ⊢
  refine ⟨rfl, fun n => ?_, hlinks⟩
  have h := hports n
  rw [State.ethPort, ← hsw] at h
  exact h

theorem thermalTrip_makes {s : State} (hon : s.coreOn = true) (htherm : s.pwr.holdTherm = false) :
    Makes .thermalTrip s fun t =>
      t.pwr.holdTherm = true ∧ t.heath.thermRec = true ∧ t.coreUp = false ∧
      t.rd Reg.heathThermTripCount = w32 (min 0xFFFFFFFF ((s.rd Reg.heathThermTripCount).toNat + 1)) := by
  refine .of_finishReset rfl ?_
  rw [if_neg (by simp [hon, htherm])]
  dsimp only
  generalize hu : ({ s.cnt Reg.heathThermTripCount 1 with pwr := _, heath := _ } : State) = u
  have hv : u.reg.vals = (s.cnt Reg.heathThermTripCount 1).reg.vals := by rw [← hu]
  have hpwr : u.pwr = { s.pwr with holdTherm := true } := by rw [← hu]; rfl
  have hrec : u.heath.thermRec = true := by rw [← hu]
  rw [State.resetIfOn_on (by rw [State.coreOn, hpwr]; exact hon)]
  have hheld : u.resetCore.pwr.holdTherm = true := congrArg PowerSt.holdTherm hpwr
  refine ⟨hheld, hrec, State.coreUp_held (.inr (.inr (.inr (.inl hheld)))), ?_⟩
  rw [State.rd_of_vals (s := u.resetCore) (t := State.afterReset _ _) rfl, State.rd_resetCore _ (by decide), State.rd_of_vals hv, State.rd_cnt_one]

theorem thermalRestart_makes {s : State} (htherm : s.pwr.holdTherm = true) (hctrl : s.rb Reg.heathThermCtrl 0 = true) :
    Makes .thermalRestart s fun t =>
      t.pwr.holdTherm = false ∧ t.heath.thermRec = s.heath.thermRec := by
  refine .of_finish rfl ?_
  rw [if_neg (by simp [htherm, hctrl])]
  obtain ⟨v, o, h, -⟩ := State.wakeRecord_eq ({ s with pwr := { s.pwr with holdTherm := false } }) 8 0 0
  rw [h]
  exact ⟨rfl, rfl⟩

/-- Settles O54: the branch of each row that its hypotheses select. -/
theorem resetsComplete : Obligations.ResetsComplete := by
  unfold Obligations.ResetsComplete
  intro s
  exact ⟨fun hlow => vaonPowerOn_makes hlow, vaonBrownout_makes s,
    fun r mv v u hvaon hio hbefore hu => ⟨fun hfault hr => railChange_inOrder hvaon hio hu hfault hr,
      fun a p hfault => railChange_outOfOrder hvaon hio hbefore hu hfault⟩,
    fun n hn hvaon => rstNLow_makes hn hvaon, fun n hrst => rstNRise_makes hrst, fun hon => sysclkLoss_makes hon,
    fun hhold => sysclkRestored_makes hhold, fun hup => refclkLoss_makes hup, fun hup => .of_up hup rfl ⟨rfl, rfl, rfl⟩,
    .of_finish rfl ⟨rfl, rfl⟩, fun hon htherm => thermalTrip_makes hon htherm, fun htherm hctrl => thermalRestart_makes htherm hctrl⟩

end Sys2Proof.Machine


/-! Standby, wakes, gating within Run, and the start (chapter 14). -/

namespace Sys2Proof.Machine

/-! ## The coherence home leaves the power state alone -/

@[simp] theorem State.homeSend_pwr (s : State) (d : Nat) (m : CohMsg) : (s.homeSend d m).pwr = s.pwr := by
  unfold State.homeSend
  split <;> simp

@[simp] theorem State.homeSendAll_pwr (ms : List CohMsg) (s : State) : (s.homeSendAll ms).pwr = s.pwr := by
  unfold State.homeSendAll
  induction ms generalizing s with
  | nil => rfl
  | cons m ms ih => exact (ih _).trans (s.homeSend_pwr 1 m)

@[simp] theorem State.setBusy_pwr (s : State) (l : Nat) (b : Bool) : (s.setBusy l b).pwr = s.pwr := by
  unfold State.setBusy
  cases s.dirOf l <;> simp

@[simp] theorem State.openTrans_pwr (s : State) (t : CohTrans) : (s.openTrans t).pwr = s.pwr := by
  unfold State.openTrans
  simp

@[simp] theorem State.endTrans_pwr (s : State) (l : Nat) : (s.endTrans l).pwr = s.pwr := by
  unfold State.endTrans
  simp

@[simp] theorem State.closeWith_pwr (s : State) (d : Nat) (m : CohMsg) : (s.closeWith d m).pwr = s.pwr := by
  unfold State.closeWith
  simp

@[simp] theorem State.supply_pwr (s : State) (r : CohReq) (st : Option Moesi) : (s.supply r st).pwr = s.pwr := s.closeWith_pwr _ _

@[simp] theorem State.giveGrant_pwr (s : State) (r : CohReq) : (s.giveGrant r).pwr = s.pwr := s.closeWith_pwr _ _

@[simp] theorem State.nackReq_pwr (s : State) (r : CohReq) (p : Bool) : (s.nackReq r p).pwr = s.pwr := by
  unfold State.nackReq State.noteNack State.reserve
  dsimp only
  rw [State.homeSend_pwr]
  split
  · simp
  · split
    · simp
    · split
      · split <;> simp
      · simp

@[simp] theorem State.settleDir_pwr (s : State) (k : Nat) (e : DirEntry) (r : CohReq) (m : Bool) : (s.settleDir k e r m).pwr = s.pwr := by
  unfold State.settleDir
  dsimp only
  split
  · split <;> simp
  · split <;> simp
  · simp

@[simp] theorem State.awaitFor_pwr (s : State) (r : CohReq) (acks : List Nat) (f : Option Nat) (g : Bool) :
    (s.awaitFor r acks f g).pwr = s.pwr := s.openTrans_pwr _

@[simp] theorem State.allocate_pwr (s : State) (r : CohReq) (k : Nat) : (s.allocate r k).pwr = s.pwr := by
  unfold State.allocate State.putDir
  dsimp only
  split <;> simp

theorem State.needWay_pwr (s : State) (r : CohReq) : (s.needWay r).pwr = s.pwr := by
  unfold State.needWay
  split
  · exact s.allocate_pwr _ _
  · split
    · simp
    · split
      · simp
      · split
        · simp
        · split
          · simp
          · simp [State.evictFor]

theorem State.serveEntry_pwr (s : State) (r : CohReq) (k : Nat) (e : DirEntry) : (s.serveEntry r k e).pwr = s.pwr := by
  unfold State.serveEntry
  dsimp only
  split
  · split <;> simp
  · split <;> simp
  · repeat' split
    all_goals simp

@[simp] theorem State.handleReq_pwr (s : State) (r : CohReq) : (s.handleReq r).pwr = s.pwr := by
  unfold State.handleReq
  dsimp only
  generalize hx : (if s.coh.lastWb = some (r.line, s.clk.age) then s.advance 1 else s) = x
  have hpwr : x.pwr = s.pwr := by
    rw [← hx]
    split <;> simp
  rw [← hpwr]
  split
  · simp [State.errReq]
  · split
    · simp [State.ctrErr, State.errReq]
    · split
      · simp
      · split
        · simp
        · split
          · simp [State.holdReq]
          · split
            · simp
            · split
              · simp [State.serveEntry_pwr]
              · split
                · simp
                · simp [State.needWay_pwr]

@[simp] theorem State.tryClose_pwr (s : State) (l : Nat) : (s.tryClose l).pwr = s.pwr := by
  unfold State.tryClose
  split
  · rfl
  · next t ht =>
    split
    · rfl
    · dsimp only
      split
      · split
        · simp
        · split <;> simp
      · split
        · simp
        · split
          · simp
          · split
            · simp
            · cases (s.endTrans l).freeWay l <;> simp
      · cases (s.endTrans l).dirOf l <;> cases t.forSet <;> simp

@[simp] theorem State.landWb_pwr (s : State) (a l : Nat) (ws : List Word) : (s.landWb a l ws).pwr = s.pwr := by
  unfold State.landWb
  dsimp only
  have hfold (ms : List HeldReq) (t : State) : (ms.foldl (fun s x => s.handleReq x.req) t).pwr = t.pwr := by
    induction ms generalizing t with
    | nil => rfl
    | cons m ms ih => exact (ih _).trans (t.handleReq_pwr _)
  rw [hfold]
  simp only [State.setCoh_frame, State.tryClose_pwr, State.updTrans]
  split
  · split <;> simp
  · simp

/-- An agent that is gated gives up a line. -/
def State.gateDrop (a : Nat) (s : State) (x : Nat × CacheLine) : State :=
  if x.2.state.dirty then (s.uncache a (x.1 % 2 ^ 19)).landWb a (x.1 % 2 ^ 19) x.2.words else s.uncache a (x.1 % 2 ^ 19)

theorem State.gateDrops_pwr (a : Nat) (xs : List (Nat × CacheLine)) (s : State) : (xs.foldl (State.gateDrop a) s).pwr = s.pwr := by
  induction xs generalizing s with
  | nil => rfl
  | cons x xs ih =>
    refine (ih _).trans ?_
    unfold State.gateDrop
    split <;> simp [State.uncache]

/-- Gating the cache of an agent. -/
theorem State.gateCache_eq (s : State) (a : Nat) : ∃ t : State, t.pwr = s.pwr ∧
    s.gateCache a = t.setCoh { t.coh with gated := t.coh.gated ||| BitVec.ofNat 16 (2 ^ a) } :=
  ⟨_, State.gateDrops_pwr a (s.coh.caches.filter (fun x => x.1 / 2 ^ 19 == a)) s, rfl⟩

/-! ## Wakes -/

/-- A wake from standby, as RST_N apart from Keep: the cause is recorded and the core domain starts. -/
theorem State.wakeNow_eq (s : State) (w : Wake) : (s.wakeNow w).pwr.state = .run ∧ (s.wakeNow w).pwr.starting = true ∧
    (s.wakeNow w).heath.rtc = s.heath.rtc ∧
    (s.wakeNow w).rd Reg.heathWakeCause = w32 (w.cause + w.detail * 2 ^ 8 + w.chan * 2 ^ 16 + s.pwr.state.code * 2 ^ 24) := by
  obtain ⟨v, o, h, hcause, -⟩ := s.wakeRecord_eq w.cause w.detail w.chan
  unfold State.wakeNow
  dsimp only
  generalize hu : ({ s.wakeRecord w.cause w.detail w.chan with heath := _ } : State) = u
  have hrd : u.resetCore.rd Reg.heathWakeCause = w32 (w.cause + w.detail * 2 ^ 8 + w.chan * 2 ^ 16 + s.pwr.state.code * 2 ^ 24) := by
    rw [State.rd_resetCore _ (by decide), State.rd_of_vals (s := s.wakeRecord w.cause w.detail w.chan) (by rw [← hu]), hcause]
  have hrtc : u.heath.rtc = s.heath.rtc := by rw [← hu, h]
  generalize hc : (s.pwr.state == .keep && w.cause != 7) = keep
  have hx (x : State) (hv : x.reg.vals = u.resetCore.reg.vals) (hp : x.pwr = u.resetCore.pwr) (hh : x.heath = u.heath) :
      (x.setPower .run).pwr.state = .run ∧ (x.setPower .run).pwr.starting = true ∧ (x.setPower .run).heath.rtc = s.heath.rtc ∧
      (x.setPower .run).rd Reg.heathWakeCause = w32 (w.cause + w.detail * 2 ^ 8 + w.chan * 2 ^ 16 + s.pwr.state.code * 2 ^ 24) := by
    obtain ⟨v, e⟩ := x.setPower_eq .run
    have hr : (x.setPower .run).reg.vals = x.reg.vals := by rw [e]
    rw [State.rd_of_vals (hr.trans hv), hrd, e]
    refine ⟨rfl, ?_, ?_, rfl⟩
    · show x.pwr.starting = true
      rw [hp]
      rfl
    · show x.heath.rtc = _
      rw [hh, hrtc]
  split
  · exact hx _ rfl rfl rfl
  · exact hx _ rfl rfl rfl

/-- In Run, once started, a wake source does nothing. -/
theorem State.wakeEvent_run {s : State} (hst : s.pwr.state = .run) (hstart : s.pwr.starting = false) (hentry : s.pwr.entry = none) (c d n : Nat) :
    s.wakeEvent c d n = s := by
  unfold State.wakeEvent
  dsimp only
  split
  · rfl
  · rw [hentry, hst]
    rw [if_neg (by simp [wakeListed]), State.sameWake]
    dsimp only
    rw [if_neg (by simp [hstart])]

/-- In standby an enabled source that the state lists wakes the device. -/
theorem State.wakeEvent_wakes {s : State} {c d n : Nat} (hentry : s.pwr.entry = none) (hlist : wakeListed s.pwr.state c = true)
    (hen : s.wakeEnabled c d = true) : s.wakeEvent c d n = s.wakeNow ⟨c, d, n⟩ := by
  unfold State.wakeEvent
  dsimp only
  rw [if_neg (by simp [hen]), hentry]
  dsimp only
  rw [if_pos hlist]

/-- The cause and the detail in HEATH_WAKE_CAUSE. -/
theorem wakeCause_fields {c d : Nat} (n p : Nat) (hc : c < 256) (hd : d < 256) :
    fld (w32 (c + d * 2 ^ 8 + n * 2 ^ 16 + p * 2 ^ 24)) 0 8 = c ∧ fld (w32 (c + d * 2 ^ 8 + n * 2 ^ 16 + p * 2 ^ 24)) 8 8 = d := by
  simp only [fld, w32, BitVec.toNat_ofNat]
  omega

theorem State.wokenCause {s t : State} {w : Wake} (h : t.rd Reg.heathWakeCause = (s.wakeNow w).rd Reg.heathWakeCause) (hc : w.cause < 256)
    (hd : w.detail < 256) : fld (t.rd Reg.heathWakeCause) 0 8 = w.cause ∧ fld (t.rd Reg.heathWakeCause) 8 8 = w.detail := by
  obtain ⟨-, -, -, hcause⟩ := s.wakeNow_eq w
  rw [h, hcause]
  exact wakeCause_fields _ _ hc hd

/-! ## The entry to standby -/

theorem State.entryReply_none {s : State} (h : s.waits .powerEntry = false) : s.entryReply = s := by
  have hnone : s.cmdq.waiters.filter (fun w => w.on == .powerEntry) = [] := by
    rw [List.filter_eq_nil_iff]
    exact fun w hw e => Bool.eq_false_iff.1 h (List.any_eq_true.2 ⟨w, hw, e⟩)
  have hall : s.cmdq.waiters.filter (fun w => w.on != .powerEntry) = s.cmdq.waiters := by
    rw [List.filter_eq_self]
    intro w hw
    rw [List.filter_eq_nil_iff] at hnone
    simpa using hnone w hw
  unfold State.entryReply State.wake State.wakeWith
  rw [hnone, hall]
  rfl

/-- The capture on a rising edge of WAKE_IN. -/
def State.edgeCaptured (s : State) (n : Nat) (rising : Bool) : State :=
  if s.coreUp ∧ rising ∧ nfld s.time.capture n 1 = 1 then { s with time := { s.time with caps := smSet capture0 s.time.caps n s.capture } } else s

/-- WAKE_IN_EDGE: the capture, and the wake source on its chosen edge. -/
def State.edgeStep (s : State) (n : Nat) (rising : Bool) : State :=
  if (s.edgeCaptured n rising).rb Reg.heathWakeCtrl (8 + n) = rising then (s.edgeCaptured n rising).wakeEvent 1 n 0
  else s.edgeCaptured n rising

theorem exec_wakeInEdge (s : State) (n : Fin 4) (rising : Bool) : exec (.wakeInEdge n rising) s = finishReset s (s.edgeStep n rising) := rfl

theorem State.edgeCaptured_eq (s : State) (n : Nat) (rising : Bool) : ∃ c, s.edgeCaptured n rising = { s with time := { s.time with caps := c } } ∧
    (s.coreUp = true → rising = true → nfld s.time.capture n 1 = 1 → c = smSet capture0 s.time.caps n s.capture) := by
  unfold State.edgeCaptured
  split
  · exact ⟨_, rfl, fun _ _ _ => rfl⟩
  · next h => exact ⟨_, rfl, fun h1 h2 h3 => absurd ⟨h1, h2, h3⟩ h⟩

theorem State.untilAge {s : State} {n : Nat} (hage : s.clk.age < 2 ^ 64) (hn : n < 2 ^ 64) : (s.until n).clk.age = max s.clk.age n := by
  rcases Nat.le_total n s.clk.age with h | h
  · rw [State.until_past h hage, Nat.max_eq_left h]
  · rw [State.until_clk_age h hn, Nat.max_eq_right h]

/-- Only registers and the event queue have changed. -/
def State.Noted (s t : State) : Prop := ∃ r e, t = { s with reg := r, evt := e }

theorem State.Noted.trans {s t u : State} (h : s.Noted t) (k : t.Noted u) : s.Noted u := by
  obtain ⟨_, _, rfl⟩ := h
  obtain ⟨_, _, rfl⟩ := k
  exact ⟨_, _, rfl⟩

theorem State.event_noted (s : State) (b c i : Nat) (x y : Word) : s.Noted (s.event b c i x y) := by
  obtain ⟨v, e, h, -⟩ := s.event_eq b c i x y
  exact ⟨_, _, h⟩

theorem State.Noted.foldl {α : Type} {f : State → α → State} (hf : ∀ (t : State) (i : α), t.Noted (f t i)) (l : List α) (t : State) :
    t.Noted (l.foldl f t) := by
  induction l generalizing t with
  | nil => exact ⟨_, _, rfl⟩
  | cons i l ih => exact (hf t i).trans (ih _)

theorem State.readyEvents_eq (s : State) : ∃ r e, s.readyEvents = { s with
    reg := r, evt := e, heath := { s.heath with orderPending := false, thermPending := false }, upd := { s.upd with bootEvents := [] } } := by
  unfold State.readyEvents
  dsimp only
  have hif (c : Prop) [Decidable c] {t u : State} (h : t.Noted u) : t.Noted (if c then u else t) := by
    split
    · exact h
    · exact ⟨_, _, rfl⟩
  generalize hx : List.foldl _ _ _ = x
  have hn : s.Noted x := by
    rw [← hx]
    refine State.Noted.trans ?_ (State.Noted.foldl (fun t i => t.event_noted _ _ _ _ _) _ _)
    exact (s.event_noted _ _ _ _ _).trans ((hif _ (State.event_noted _ _ _ _ _ _)).trans (hif _ (State.event_noted _ _ _ _ _ _)))
  obtain ⟨r, e, rfl⟩ := hn
  exact ⟨_, _, rfl⟩

theorem powerEntryComplete_watch {s : State} {e : Entry} (hup : s.coreUp = true) (hentry : s.pwr.entry = some e) (hready : s.entryReady e = true)
    (hwait : s.waits .powerEntry = false) (hout : s.repliesOut = true) (htarget : e.target = .watch) (hlatch : e.latched = none) :
    Makes .powerEntryComplete s fun t =>
      t.pwr.state = .watch ∧ t.pwr.entry = none ∧ t.pwr.coreEn = false ∧ t.pwr.ioEn = true ∧ t.coreUp = false ∧
      t.rd Reg.powerWatchCount = w32 (min 0xFFFFFFFF ((s.rd Reg.powerWatchCount).toNat + 1)) := by
  refine .of_up hup rfl ?_
  rw [hentry]
  dsimp only
  rw [if_neg (by simp [hready]), State.entryReply_none hwait, if_pos hout]
  unfold State.enterStandby
  dsimp only
  rw [htarget, hlatch, if_neg (by decide)]
  generalize hu : ({ (s.cnt (entryCounter .watch) 1).closeWindow with pwr := _ } : State) = u
  have hv : u.reg.vals = (s.cnt Reg.powerWatchCount 1).reg.vals := by rw [← hu]; rfl
  have hnone : u.pwr.entry = none := by rw [← hu]
  obtain ⟨v, h⟩ := u.setPower_eq .watch
  rw [Option.elim_none, State.rd_after, State.rd_of_vals (s := s.cnt Reg.powerWatchCount 1) (by rw [h, ← hv]), State.rd_cnt_one, h]
  exact ⟨rfl, hnone, rfl, rfl, rfl, rfl⟩

theorem dozeEntry_idle {s : State} (hup : s.coreUp = true) (hdoze : s.pwr.dozeOn = true) (hst : s.pwr.state = .run) (hentry : s.pwr.entry = none)
    (hf : s.sw.frames = []) (hc : s.sw.copies = []) (hcmd : s.cmdq.cmds = []) (hwork : s.boundaryWork = false) :
    Makes .dozeEntry s fun t =>
      t.pwr = { s.pwr with state := .doze } ∧ t.rd Reg.powerDozeCount = w32 (min 0xFFFFFFFF ((s.rd Reg.powerDozeCount).toNat + 1)) := by
  refine .of_up hup rfl ?_
  rw [if_pos ⟨hdoze, hst, by simp [hentry], hf, hc, hcmd, by simp [hwork]⟩]
  refine ⟨rfl, ?_⟩
  rw [State.rd_after, State.rd_cnt_one]
  rfl

theorem dozeExit_makes {s : State} (hup : s.coreUp = true) :
    Makes .dozeExit s fun t => t.pwr.state = .run ∧ t.reg = s.reg := by
  refine .of_up hup rfl ?_
  refine ⟨?_, by simp⟩
  obtain ⟨hst, -⟩ := State.coreUp_parts hup
  show s.leaveDoze.pwr.state = .run
  unfold State.leaveDoze
  split
  · rfl
  · exact hst.resolve_right ‹_›

theorem wakeInEdge_run {s : State} {n : Fin 4} (hentry : s.pwr.entry = none) (hst : s.pwr.state = .run) :
    Makes (.wakeInEdge n true) s fun t =>
      t.pwr = s.pwr ∧ (s.coreUp → nfld s.time.capture n 1 = 1 → smGet capture0 t.time.caps n = ⟨s.nsecNow, s.secNow⟩) := by
  refine .of_finishReset (exec_wakeInEdge s n true) ?_
  obtain ⟨c, h, hcap⟩ := s.edgeCaptured_eq n true
  have hget : s.coreUp = true → nfld s.time.capture n 1 = 1 → smGet capture0 c n = ⟨s.nsecNow, s.secNow⟩ := fun hup hclaim => by
    rw [hcap hup rfl hclaim, smGet_smSet_same]
    rfl
  unfold State.edgeStep
  rw [h]
  split
  · obtain ⟨v, o, e⟩ := State.wakeEvent_running (s := { s with time := { s.time with caps := c } }) (.inl hst) hentry 1 n 0
    rw [e]
    exact ⟨rfl, hget⟩
  · exact ⟨rfl, hget⟩

theorem wakeInEdge_watch {s : State} {n : Fin 4} {b : Bool} (hentry : s.pwr.entry = none) (hst : s.pwr.state = .watch)
    (hb : s.rb Reg.heathWakeCtrl (8 + n.val) = b) (hen : s.wakeEnabled 1 n = true) :
    Makes (.wakeInEdge n b) s fun t =>
      t.pwr.state = .run ∧ t.pwr.starting = true ∧ fld (t.rd Reg.heathWakeCause) 0 8 = 1 ∧ fld (t.rd Reg.heathWakeCause) 8 8 = n.val := by
  refine .of_finishReset (exec_wakeInEdge s n b) ?_
  obtain ⟨c, h, -⟩ := s.edgeCaptured_eq n b
  unfold State.edgeStep
  rw [h, if_pos (by exact hb), State.wakeEvent_wakes (by exact hentry) (by rw [hst]; rfl) (by exact hen)]
  obtain ⟨hrun, hstart, -⟩ := State.wakeNow_eq { s with time := { s.time with caps := c } } ⟨1, n, 0⟩
  have hc := State.wokenCause (s := { s with time := { s.time with caps := c } }) (w := ⟨1, n, 0⟩)
    (State.rd_of_vals (t := s.afterReset (State.wakeNow { s with time := { s.time with caps := c } } ⟨1, n, 0⟩)) rfl _) (by simp) (by simp; omega)
  exact ⟨hrun, hstart, hc⟩

theorem rtcAlarm_run {s : State} (hentry : s.pwr.entry = none) (hge : (s.rd Reg.heathRtcAlarm).toNat * 32768 ≤ s.heath.rtc)
    (hlt : s.heath.rtc < (s.rd Reg.heathRtcAlarm).toNat * 32768 + 32768) (hst : s.pwr.state = .run) (hstart : s.pwr.starting = false) :
    Makes .rtcAlarm s fun t =>
      t.pwr = s.pwr ∧ t.heath = s.heath := by
  refine .of_finishReset rfl ?_
  have hsame : s.untilRtc ((s.rd Reg.heathRtcAlarm).toNat * 32768) = s := if_pos hge
  rw [if_neg (by omega), hsame, State.wakeEvent_run hst hstart hentry]
  exact ⟨rfl, rfl⟩

theorem rtcAlarm_watch {s : State} (hentry : s.pwr.entry = none) (hge : (s.rd Reg.heathRtcAlarm).toNat * 32768 ≤ s.heath.rtc)
    (hlt : s.heath.rtc < (s.rd Reg.heathRtcAlarm).toNat * 32768 + 32768) (hst : s.pwr.state = .watch) (hen : s.rb Reg.heathWakeCtrl 13 = true) :
    Makes .rtcAlarm s fun t =>
      t.pwr.state = .run ∧ t.heath.rtc = s.heath.rtc ∧ fld (t.rd Reg.heathWakeCause) 0 8 = 4 := by
  refine .of_finishReset rfl ?_
  have hsame : s.untilRtc ((s.rd Reg.heathRtcAlarm).toNat * 32768) = s := if_pos hge
  rw [if_neg (by omega), hsame, State.wakeEvent_wakes (c := 4) (d := 0) hentry (by rw [hst]; rfl) hen]
  obtain ⟨hrun, -, hrtc, -⟩ := s.wakeNow_eq ⟨4, 0, 0⟩
  exact ⟨hrun, hrtc, (State.wokenCause (s := s) (w := ⟨4, 0, 0⟩) (State.rd_of_vals rfl _) (by decide) (by decide)).1⟩

theorem heathWakeReq_run {s : State} (hentry : s.pwr.entry = none) (hspi : s.spiUp = true) (hst : s.pwr.state = .run) (hstart : s.pwr.starting = false) :
    Makes .heathWakeReq s fun t =>
      t.pwr = s.pwr ∧ t.reg = s.reg := by
  refine .of_finishReset rfl ?_
  rw [if_pos hspi, State.wakeEvent_run hst hstart hentry]
  exact ⟨rfl, rfl⟩

theorem heathWakeReq_watch {s : State} (hentry : s.pwr.entry = none) (hspi : s.spiUp = true) (hst : s.pwr.state = .watch)
    (hen : s.rb Reg.heathWakeCtrl 14 = true) :
    Makes .heathWakeReq s fun t => t.pwr.state = .run ∧ fld (t.rd Reg.heathWakeCause) 0 8 = 5 := by
  refine .of_finishReset rfl ?_
  rw [if_pos hspi, State.wakeEvent_wakes (c := 5) (d := 0) hentry (by rw [hst]; rfl) hen]
  obtain ⟨hrun, -⟩ := s.wakeNow_eq ⟨5, 0, 0⟩
  exact ⟨hrun, (State.wokenCause (s := s) (w := ⟨5, 0, 0⟩) (State.rd_of_vals rfl _) (by decide) (by decide)).1⟩

theorem wakeOutRelease_makes {s : State} (hout : s.heath.wakeOut ≠ none) :
    Makes .wakeOutRelease s fun t =>
      t.heath.wakeOut = none ∧ t.pwr = s.pwr := by
  refine .of_finish rfl ?_
  cases ho : s.heath.wakeOut with
  | none => exact absurd ho hout
  | some e =>
    obtain ⟨r, c, -, hpwr, -⟩ := s.untilRtc_eq e
    exact ⟨rfl, hpwr⟩

theorem wakeMatcherEdge_makes {s : State} {n : Nat} (hon : s.matcherOn = true) (hd : (s.desigOf n).isSome = true) :
    Makes (.wakeMatcherEdge n) s fun t =>
      t.heath = { s.heath with wakeRc := true } := by
  refine .of_finish rfl ?_
  rw [if_pos ⟨hon, hd⟩]
  rfl

theorem wakeMatch_makes {s : State} {n d i : Nat} {f : SlowFrame} (hon : s.matcherOn = true) (hrc : s.heath.wakeRc = true)
    (hd : s.desigOf n = some d) (hgood : f.good = true) (hrem : f.remote = false) (hrunt : f.runt = false) (hi : i < 16)
    (hpat : firstBelow 16 (fun i => patternMatches (smGet [] s.heath.patterns i) d f) = some i) :
    Makes (.wakeMatch n f) s fun t =>
      t.pwr.state = .run ∧ t.pwr.starting = true ∧ fld (t.rd Reg.heathWakeCause) 0 8 = 3 ∧ fld (t.rd Reg.heathWakeCause) 8 8 = i := by
  refine .of_finishReset rfl ?_
  rw [hd]
  dsimp only
  rw [if_neg (by simp [hon, hrc, hgood, hrem, hrunt]), hpat]
  dsimp only
  generalize hu : ({ s with heath := { s.heath with wakeRc := false } } : State) = u
  have hctrl : s.rb Reg.heathWakeCtrl 0 = true := by
    simp only [State.matcherOn, Bool.and_eq_true] at hon
    exact hon.2
  have hentry : s.pwr.entry = none := by
    simp only [State.matcherOn, Bool.and_eq_true, Option.isNone_iff_eq_none] at hon
    exact hon.1.1.2
  have hlist : wakeListed s.pwr.state 3 = true := by
    simp only [State.matcherOn, Bool.and_eq_true, Bool.or_eq_true, beq_iff_eq] at hon
    rcases hon.1.1.1 with h | h <;> rw [h] <;> rfl
  rw [State.wakeEvent_wakes (by rw [← hu]; exact hentry) (by rw [← hu]; exact hlist) (by rw [← hu]; exact hctrl)]
  obtain ⟨hrun, hstart, -⟩ := u.wakeNow_eq ⟨3, i, n⟩
  have hc := State.wokenCause (s := u) (w := ⟨3, i, n⟩) (State.rd_of_vals (t := s.afterReset (u.wakeNow ⟨3, i, n⟩)) rfl _) (by simp) (by simp; omega)
  exact ⟨hrun, hstart, hc⟩

theorem laneGate_idle {s : State} {l : Nat} (hup : s.coreUp = true) (hl : l < 8) (hon : s.laneOn l = true)
    (hmin : s.minLanes < ((List.range 8).filter s.laneOn).length) (hload : s.laneLoad l = 0) (hreads : s.agentReads l = false)
    (hlast : ∀ k, l < k → k < 8 → s.laneOn k = false) :
    Makes (.laneGate l) s fun t =>
      t.pwr.lanes = s.pwr.lanes - 2 ^ l ∧ t.agentGated l = true := by
  refine .of_up hup rfl ?_
  have hmem : ((List.range 8).filter s.laneOn).contains l = true := by simp [hl, hon]
  dsimp only
  rw [if_neg (by simp [hload, hreads, hl, hon, hmin])]
  have hpwr : (s.until (s.laneDue l)).pwr = s.pwr := by simp
  generalize s.until (s.laneDue l) = u at hpwr ⊢
  rw [if_neg]
  · obtain ⟨x, hx, e⟩ := u.gateCache_eq l
    rw [e]
    refine ⟨?_, ?_⟩
    · show x.pwr.lanes - 2 ^ l = _
      rw [hx, hpwr]
    · show (x.coh.gated ||| BitVec.ofNat 16 (2 ^ l)).getLsbD l = true
      rw [BitVec.getLsbD_or, BitVec.getLsbD_ofNat, Nat.testBit_two_pow_self, Bool.and_true, decide_eq_true (by omega), Bool.or_true]
  · simp only [List.any_eq_true, not_exists, not_and, List.mem_filter, List.mem_range]
    rintro k ⟨hk, hkon⟩
    by_cases hlk : l < k
    · rw [hlast k hlk hk] at hkon
      exact absurd hkon Bool.false_ne_true
    · simp [hlk]

theorem laneUngateDone_makes {s : State} {l : Nat} (hup : s.coreUp = true) (hl : l < 8) (hun : s.pwr.ungating = [l]) (hoff : s.laneOn l = false) :
    Makes (.laneUngateDone l) s fun t =>
      t.pwr.lanes = s.pwr.lanes + 2 ^ l ∧ t.pwr.ungating = [] ∧ t.agentGated l = false := by
  refine .of_up hup rfl ?_
  rw [if_neg (by simp [hun, hoff])]
  refine ⟨?_, ?_, ?_⟩
  · show (s.until _).pwr.lanes + 2 ^ l = _
    simp
  · show (s.until _).pwr.ungating.erase l = _
    simp [hun]
  · show ((s.until _).coh.gated &&& ~~~(BitVec.ofNat 16 (2 ^ l))).getLsbD l = false
    rw [BitVec.getLsbD_and, BitVec.getLsbD_not, BitVec.getLsbD_ofNat, Nat.testBit_two_pow_self, decide_eq_true (show l < 16 by omega)]
    simp

theorem startSequence_boots {s : State} (hup : s.coreUp = true) (hstart : s.pwr.starting = true) (hboot : s.pwr.booted = false) :
    Makes .startSequence s fun t =>
      t.pwr.booted = true := by
  refine .of_finishOtp (t := s.startUp) ?_ ?_
  · show finishOtp s (whileUp s _) = _
    rw [whileUp_up _ hup]
    rw [if_pos ⟨hstart, by simp [hboot]⟩]
  · show s.startUp.pwr.booted = true
    unfold State.startUp
    dsimp only
    split <;> rfl

theorem fwReady_makes {s : State} (hup : s.coreUp = true) (hstart : s.pwr.starting = true) (hboot : s.pwr.booted = true) (hage : s.clk.age < 2 ^ 63)
    (hclear : s.scr.clearEnd < 2 ^ 62) :
    Makes .fwReady s fun t =>
      t.pwr.fwReady = true ∧ t.pwr.starting = false ∧ t.clk.age = max s.clk.age s.scr.clearEnd ∧ t.upd.readyAt = t.clk.age ∧
      t.heath.orderPending = false ∧ t.heath.thermPending = false ∧ t.upd.bootEvents = [] := by
  refine .of_up hup rfl ?_
  rw [if_neg (by simp [hstart, hboot])]
  dsimp only
  have hclk := State.untilAge (s := s) (n := s.scr.clearEnd) (by omega) (by omega)
  generalize s.until s.scr.clearEnd = u at hclk ⊢
  obtain ⟨r, e, h⟩ := State.readyEvents_eq { u with
    pwr := { u.pwr with fwReady := true, starting := false }, upd := { u.upd with readyAt := u.clk.age } }
  rw [h]
  exact ⟨rfl, rfl, hclk, rfl, rfl, rfl, rfl⟩

/-- Settles O55: the branch of each row that its hypotheses select. -/
theorem standbyAndStartComplete : Obligations.StandbyAndStartComplete := by
  unfold Obligations.StandbyAndStartComplete
  intro s
  exact ⟨fun e hup hentry hready hwait hout htarget hlatch => powerEntryComplete_watch hup hentry hready hwait hout htarget hlatch,
    fun hup hdoze hst hentry hf hc hcmd hwork => dozeEntry_idle hup hdoze hst hentry hf hc hcmd hwork, fun hup => dozeExit_makes hup,
    fun n hentry => ⟨fun hst => wakeInEdge_run hentry hst, fun b hst hb hen => wakeInEdge_watch hentry hst hb hen⟩,
    fun hentry hge hlt => ⟨fun hst hstart => rtcAlarm_run hentry hge hlt hst hstart, fun hst hen => rtcAlarm_watch hentry hge hlt hst hen⟩,
    fun hentry hspi => ⟨fun hst hstart => heathWakeReq_run hentry hspi hst hstart, fun hst hen => heathWakeReq_watch hentry hspi hst hen⟩,
    fun hout => wakeOutRelease_makes hout, fun n hon hd => wakeMatcherEdge_makes hon hd,
    fun n d i f hon hrc hd hgood hrem hrunt _ hi hpat => wakeMatch_makes hon hrc hd hgood hrem hrunt hi hpat,
    fun l hup hl hon hmin hload hreads hlast => laneGate_idle hup hl hon hmin hload hreads hlast,
    fun l hup hl hun hoff => laneUngateDone_makes hup hl hun hoff, fun hup hstart hboot => startSequence_boots hup hstart hboot,
    fun hup hstart hboot hage hclear => fwReady_makes hup hstart hboot hage hclear⟩

end Sys2Proof.Machine


/-! Device time, its sources and the period generators (chapter 10). -/

namespace Sys2Proof.Machine

/-! ## PERIOD_CONFIG, TIME_CONFIG and TIME_READ -/

theorem w32_toNat (w : Word) : w32 w.toNat = w := by simp [w32]

theorem State.periodConfig_claim {s : State} {q : Request} (hstray : q.stray 0 0x773F = false) (hn : q.f 0 0 6 ≠ 0)
    (hfree : (s.gen (q.f 0 0 6)).owners = 0) (hclaim : q.f 0 8 3 ≠ 0) (hrel : q.f 0 12 3 = 0) (h1 : 125 ≤ (q.w 1).toNat)
    (h2 : (q.w 1).toNat ≤ 1250000000) (hphi : (q.w 2).toNat < (q.w 1).toNat) (hslot : q.f 0 8 3 % 2 = 1 → 12500 ≤ (q.w 1).toNat) :
    s.periodConfig q = (s.setGen (q.f 0 0 6) ⟨(q.w 1).toNat, (q.w 2).toNat, q.f 0 8 3, (s.dtNs : Int) - 8 * (q.w 1).toNat⟩,
      .final St.ok [w32 (q.f 0 8 3), q.w 1, q.w 2]) := by
  unfold State.periodConfig
  dsimp only
  rw [hfree, hrel, Nat.zero_and, Nat.zero_or, Nat.zero_and, if_neg (by simp [hstray, hn]), if_neg (by omega), if_neg (by simp [nfld]),
    if_neg (by simp), if_neg hclaim, if_pos rfl, w32_toNat, w32_toNat]

theorem State.periodConfig_release {s : State} {q : Request} (hstray : q.stray 0 0x773F = false) (hn : q.f 0 0 6 ≠ 0)
    (hrel : (s.gen (q.f 0 0 6)).owners &&& (7 - q.f 0 12 3) = 0) (hclaim : q.f 0 8 3 = 0)
    (hused : (List.range 3).all (fun k => !s.genUsed (q.f 0 0 6) k) = true) :
    s.periodConfig q = (s.setGen (q.f 0 0 6) gen0, .final St.ok [0, 0, 0]) := by
  have hbusy : (List.range 3).any (fun k => nfld (q.f 0 12 3) k 1 == 1 && nfld (s.gen (q.f 0 0 6)).owners k 1 == 1 &&
      s.genUsed (q.f 0 0 6) k) = false := by
    rw [List.any_eq_false]
    intro k hk
    have h := List.all_eq_true.1 hused k hk
    simp only [Bool.not_eq_true'] at h
    simp [h]
  unfold State.periodConfig
  dsimp only
  rw [hrel, hclaim, Nat.zero_or, Nat.zero_and, if_neg (by simp [hstray, hn]), if_neg (by simp), if_neg (by simp [hbusy]),
    if_neg (by simp), if_pos rfl]
  rfl

/-- What a step of device time does: the clock moves, the instants that count from it move along, and it is noted. -/
theorem State.stepTime?_eq {s t : State} {d : Int} (h : s.stepTime? d = some t) : 0 ≤ (s.clk.dt : Int) + d * dtUnit ∧
    t.clk = { s.clk with dt := ((s.clk.dt : Int) + d * dtUnit).toNat } ∧ t.pwr = s.pwr ∧
    t.time.offset = s.time.offset ∧ t.time.ppsSeen = s.time.ppsSeen := by
  unfold State.stepTime? at h
  dsimp only at h
  split at h
  · exact absurd h (by simp)
  · next hr =>
    obtain rfl := Option.some.inj h
    exact ⟨by omega, by simp, by simp, by simp, by simp⟩

theorem State.timeNs_of_dt {s : State} {n : Nat} (h : (s.clk.dt : Int) = n * dtUnit) : s.timeNs = n := by
  have h' : s.clk.dt = n * dtUnit := by exact_mod_cast h
  rw [State.timeNs, h', Nat.mul_div_cancel _ (by decide)]

/-- What TIME_CONFIG makes of the clock before it sets the rate. -/
theorem State.timeSet_eq {s t : State} {q : Request} (h : s.timeSet q = some t) : t.clk.age = s.clk.age ∧ t.clk.rate = s.clk.rate ∧
    (q.f 0 0 2 = 0 → t.clk.dt = s.clk.dt) ∧
    (q.f 0 0 2 = 2 → (t.clk.dt : Int) = s.clk.dt + signed 64 ((q.w 1).toNat + 2 ^ 32 * (q.w 2).toNat) * dtUnit) ∧
    (q.f 0 0 2 = 1 → t.timeNs = (q.w 1).toNat + 10 ^ 9 * ((q.w 2).toNat + 2 ^ 32 * q.f 3 0 16)) := by
  unfold State.timeSet at h
  dsimp only at h
  split at h
  · next h0 =>
    obtain rfl := Option.some.inj h
    exact ⟨rfl, rfl, fun _ => rfl, fun h2 => absurd (h0.symm.trans h2) (by decide), fun h1 => absurd (h0.symm.trans h1) (by decide)⟩
  · next h0 =>
    split at h
    · next h1 =>
      obtain ⟨hpos, hclk, -⟩ := State.stepTime?_eq h
      rw [hclk]
      refine ⟨rfl, rfl, fun h => absurd h h0, fun h2 => absurd (h1.symm.trans h2) (by decide), fun _ => State.timeNs_of_dt ?_⟩
      rw [hclk]
      simp only [State.timeChange, h1] at hpos ⊢
      rw [Int.toNat_of_nonneg hpos]
      rw [Int.sub_mul]
      omega
    · next h1 =>
      obtain ⟨hpos, hclk, -⟩ := State.stepTime?_eq h
      rw [hclk]
      refine ⟨rfl, rfl, fun h => absurd h h0, fun h2 => ?_, fun h => absurd h h1⟩
      simp only [State.timeChange, h2] at hpos ⊢
      rw [Int.toNat_of_nonneg hpos]

/-- The settings of TIME_CONFIG on the state whose clock is set. -/
def State.timeSettings (s : State) (q : Request) : State :=
  let keep := q.f 0 9 2 == s.time.ppsInMode
  { s with time := { s.time with
      ppsOutEn := q.b 0 8, ppsInMode := q.f 0 9 2, timerGen := q.f 0 16 6, capture := q.f 0 24 4
      ppsOut := s.time.ppsOut && q.b 0 8, timerOut := if q.f 0 16 6 = s.time.timerGen then s.time.timerOut else none
      ppsSeen := keep && s.time.ppsSeen, holdover := keep && s.time.holdover
      ppsLast := if keep then s.time.ppsLast else none, ppsWait := if keep then s.time.ppsWait else s.clk.age
      ptpState := s.ptpRestart q, ptp := q.w 5, ptpPorts := [q.w 6, q.w 7, q.w 8] } }

theorem State.timeConfig_good {s t : State} {q : Request} (hbad : s.badTime q = false) (hfab : s.fabricTimed = false)
    (hgen : q.f 0 16 6 = 0 ∨ s.genHas (q.f 0 16 6) 2 = true) (hcon : s.timeConflict q = none) (ht : s.timeSet q = some t) :
    s.timeConfig q = ((if q.b 0 2 then t.setRate (signed 32 (q.w 4).toNat) else t).timeSettings q, fin St.ok) := by
  unfold State.timeConfig
  dsimp only
  rw [if_neg (by simp [hbad]), if_neg (by simp [hfab]), if_neg (by rcases hgen with h | h <;> simp [h]), hcon, ht]
  rfl

/-- Settles O40: PERIOD_CONFIG by its two arms, TIME_CONFIG through the state whose clock is set. -/
theorem timeCommandsComplete : Obligations.TimeCommandsComplete := by
  unfold Obligations.TimeCommandsComplete
  refine ⟨fun q s ht hstray hn => ⟨fun hfree hclaim hrel h1 h2 hphi hslot =>
      finish_final ht (State.periodConfig_claim hstray hn hfree hclaim hrel h1 h2 hphi hslot),
      fun hrel hclaim hused => finish_final ht (State.periodConfig_release hstray hn hrel hclaim hused)⟩,
    fun q s ht hbad hfab hgen hcon => ?_, fun q s ht => finish_final ht rfl⟩
  have hparams := hbad
  simp only [State.badTime, Bool.or_eq_false_iff] at hparams
  obtain ⟨⟨⟨⟨⟨-, hset⟩, -⟩, -⟩, -⟩, hsome⟩ := hparams
  obtain ⟨t, hts⟩ := Option.isSome_iff_exists.1 (Option.isNone_eq_false_iff.1 hsome)
  obtain ⟨hage, hrate, hkeep, hstep, hto⟩ := State.timeSet_eq hts
  refine ⟨_, finish_final ht (State.timeConfig_good hbad hfab hgen hcon hts), rfl, rfl, rfl, rfl, rfl, ?_⟩
  generalize hr : (if q.b 0 2 = true then t.setRate (signed 32 (q.w 4).toNat) else t) = r
  have hclk : r.clk.age = t.clk.age ∧ r.clk.dt = t.clk.dt := by
    rw [← hr]
    split <;> exact ⟨rfl, rfl⟩
  have hns : (r.timeSettings q).timeNs = t.timeNs := congrArg (· / dtUnit) hclk.2
  refine ⟨hclk.1.trans hage, fun h => ?_, fun h => ?_, fun h => hclk.2.trans (hkeep h), fun h => ?_, fun h => ?_⟩
  · rw [← hr, if_pos h]
    rfl
  · rw [← hr, if_neg (by simp [h])]
    exact hrate
  · rw [← hstep h, ← hclk.2]
    rfl
  · have hns' := hns.trans (hto h)
    simp [h] at hset
    rw [State.secNow, State.nsecNow, hns']
    omega

/-! ## Ticks, PTP and the pulse pins -/

theorem State.advance_rate (s : State) (k : Nat) : (s.advance k).clk.rate = s.clk.rate := by
  obtain ⟨v, r, c, e, -⟩ := s.advance_eq k
  rw [e]

theorem State.untilNs_rate (s : State) (n : Nat) : (s.untilNs n).clk.rate = s.clk.rate := by
  unfold State.untilNs
  split
  · rfl
  · exact s.advance_rate _

/-- A frame of the device's own is queued at a port that is up, or dropped. -/
def State.Queued (s t : State) (p : Nat) : Prop := t.time = s.time ∧ t.clk = s.clk ∧
  (t.sw.copies = s.sw.copies ∨ s.egressUp p = true ∧ ∃ c, t.sw.copies = s.sw.copies ++ [c] ∧ c.port = p)

theorem State.queueOwn_queued (s : State) (p q : Nat) (b : List Byte) : s.Queued (s.queueOwn p q b) p := by
  unfold State.queueOwn
  dsimp only
  split
  · exact ⟨rfl, rfl, .inl rfl⟩
  · next hup =>
    split
    · exact ⟨rfl, rfl, .inl rfl⟩
    · next t ht =>
      obtain ⟨x, e, -⟩ := State.chargeFrom_eq ht
      rw [e]
      exact ⟨rfl, rfl, .inr ⟨by simpa using hup, _, rfl, rfl⟩⟩

theorem State.queueImage_queued (s : State) (p : Nat) (b : List Byte) : s.Queued (s.queueImage p b) p := by
  unfold State.queueImage
  dsimp only
  split
  · exact ⟨rfl, rfl, .inl rfl⟩
  · next hup =>
    split
    · exact ⟨rfl, rfl, .inl rfl⟩
    · next t ht =>
      obtain ⟨x, e, -⟩ := State.chargeFrom_eq ht
      rw [e]
      exact ⟨rfl, rfl, .inr ⟨by simpa using hup, _, rfl, rfl⟩⟩

theorem State.delayResp_queued (s : State) (p : Nat) : s.Queued (s.delayResp p) p := by
  unfold State.delayResp
  split
  · exact State.queueImage_queued (State.freeBytes s _).2 p _
  · exact State.queueOwn_queued (State.freeBytes (State.freeBytes (State.freeN s 8).2 12).2 _).2 p _ _

/-- What PTP makes of an offset. -/
theorem State.ptpServo_eq (s : State) (ns : Int) : (s.ptpServo ns).time.offset = ns ∧
    ((s.ptpServo ns).time.ptpState = 2 ∨ (s.ptpServo ns).time.ptpState = 3) := by
  refine ⟨rfl, ?_⟩
  show (if _ then 3 else 2) = 2 ∨ (if _ then 3 else 2) = 3
  split <;> simp

/-- What a PTP message with its timestamp does. -/
def State.ptpAct (s : State) : PtpMsg → State
  | .announce receiver => { s with time := { s.time with
      ptpState := if receiver && s.mayReceive then (if s.time.ptpState = 3 then 3 else 2) else 4 } }
  | .offset ns => if (s.time.ptpState = 2 ∨ s.time.ptpState = 3) ∧ s.mayReceive then s.ptpServo ns else s
  | .delayReq port => if s.time.ptpState = 4 ∧ s.answersOn port then s.delayResp port else s

theorem exec_ptpMessage {s : State} (m : PtpMsg) (hfw : s.fwUp = true) (hon : bit s.time.ptp 0 = true) :
    exec (.ptpMessage m) s = finish s (if s.freeB.1 then s.freeB.2.cnt Reg.timeTsLostCount 1 else s.freeB.2.ptpAct m) := by
  show finish s (whileFw s _) = _
  rw [whileFw_up _ hfw, if_neg (by simp [hon])]
  cases m <;> rfl

theorem State.stepTime?_some {s : State} {d : Int} (h1 : 0 ≤ (s.clk.dt : Int) + d * dtUnit) (h2 : (s.clk.dt : Int) + d * dtUnit < dtWrap) :
    ∃ t, s.stepTime? d = some t := by
  unfold State.stepTime?
  dsimp only
  rw [if_neg (by omega)]
  exact ⟨_, rfl⟩

/-- A step moves the time of an edge of PPS_IN with device time. -/
theorem State.ppsNs_step {s t : State} {d : Int} (h : s.stepTime? d = some t) : t.ppsNs = s.ppsNs + d := by
  obtain ⟨hpos, hclk, hpwr, -⟩ := State.stepTime?_eq h
  have hcal : t.calValue 4 0 = s.calValue 4 0 := by rw [State.calValue, State.calValue, hpwr]
  have hns : (t.timeNs : Int) = s.timeNs + d := by
    rw [State.timeNs, State.timeNs, hclk]
    push_cast
    rw [Int.toNat_of_nonneg hpos, Int.add_mul_ediv_right _ _ (by decide)]
  rw [State.ppsNs, State.ppsNs, hcal, hns]
  omega

/-- The discipline of device time by an edge of PPS_IN. -/
theorem State.ppsDiscipline_eq (s : State) (first : Bool) : (s.ppsDiscipline first).time.offset = s.secOffset ∧
    (s.ppsDiscipline first).time.ppsSeen = s.time.ppsSeen ∧
    (first = false → -1000 ≤ s.secOffset → s.secOffset ≤ 1000 → (s.ppsDiscipline first).clk.dt = s.clk.dt) ∧
    (first = true → s.secOffset * dtUnit ≤ s.clk.dt → (s.clk.dt : Int) - s.secOffset * dtUnit < dtWrap →
      (s.ppsDiscipline first).ppsNs % 10 ^ 9 = 0 ∧ (s.ppsDiscipline first).clk.rate = s.clk.rate) := by
  generalize hx : ({ s with time := { s.time with offset := s.secOffset } } : State) = x
  have hclk : x.clk = s.clk := by rw [← hx]
  have hpwr : x.pwr = s.pwr := by rw [← hx]
  have hoff : x.time.offset = s.secOffset := by rw [← hx]
  have hseen : x.time.ppsSeen = s.time.ppsSeen := by rw [← hx]
  have he : s.ppsDiscipline first =
      if first ∨ s.secOffset < -1000 ∨ 1000 < s.secOffset then x.stepTime (-s.secOffset) else x.freeRate := by
    rw [← hx]
    rfl
  have hstep : (x.stepTime (-s.secOffset)).time.offset = x.time.offset ∧ (x.stepTime (-s.secOffset)).time.ppsSeen = x.time.ppsSeen := by
    unfold State.stepTime
    cases h : x.stepTime? (-s.secOffset) with
    | none => exact ⟨rfl, rfl⟩
    | some t =>
      obtain ⟨-, -, -, h1, h2⟩ := State.stepTime?_eq h
      exact ⟨h1, h2⟩
  rw [he]
  refine ⟨?_, ?_, fun hf h1 h2 => ?_, fun hf h1 h2 => ?_⟩
  · split
    · exact hstep.1.trans hoff
    · exact hoff
  · split
    · exact hstep.2.trans hseen
    · exact hseen
  · rw [if_neg (by simp [hf]; omega)]
    have hdt : x.freeRate.clk.dt = x.clk.dt := rfl
    rw [hdt, hclk]
  · have hdt : x.clk.dt = s.clk.dt := congrArg ClkSt.dt hclk
    have hns : x.ppsNs = s.ppsNs := by
      rw [State.ppsNs, State.ppsNs, State.timeNs, State.timeNs, hdt, State.calValue, State.calValue, hpwr]
    obtain ⟨t, ht⟩ := State.stepTime?_some (s := x) (d := -s.secOffset) (by rw [hdt, Int.neg_mul]; omega) (by rw [hdt, Int.neg_mul]; omega)
    obtain ⟨-, hclk', -⟩ := State.stepTime?_eq ht
    have hrate : t.clk.rate = s.clk.rate := by rw [hclk', hclk]
    have hoff : (s.ppsNs - s.secOffset) % 1000000000 = 0 := by
      unfold State.secOffset
      dsimp only
      split <;> omega
    rw [if_pos (.inl hf), State.stepTime, ht, Option.getD_some, State.ppsNs_step ht, hns]
    exact ⟨hoff, hrate⟩

theorem periodGeneratorTick_makes {s : State} {g : Fin 64} (hup : s.coreUp = true) (hg : (s.gen g).owners ≠ 0) :
    Makes (.periodGeneratorTick g) s fun t =>
      (g.val ≠ 0 → (t.gen g).lastTick = (s.gen g).next ∧ (t.gen g).p = (s.gen g).p ∧
        (s.time.timerGen = g.val → t.time.timerOut.isSome = true)) ∧ (g.val = 0 → t.time = s.time) ∧ s.clk.rate = t.clk.rate := by
  refine .of_up hup rfl ?_
  have htime : (s.untilNs (s.gen g.val).next.toNat).time = s.time := by simp
  have hrate := s.untilNs_rate (s.gen g.val).next.toNat
  dsimp only
  rw [if_neg hg]
  generalize s.untilNs (s.gen g.val).next.toNat = u at htime hrate ⊢
  by_cases h0 : g.val = 0
  · rw [if_pos h0]
    exact ⟨fun h => absurd h0 h, fun _ => htime, hrate.symm⟩
  · rw [if_neg h0]
    have hgen (t : State) (ht : t.time.gens = smSet gen0 u.time.gens g.val { s.gen g.val with lastTick := (s.gen g.val).next }) :
        (t.gen g.val).lastTick = (s.gen g.val).next ∧ (t.gen g.val).p = (s.gen g.val).p := by
      rw [State.gen, if_neg h0, ht, smGet_smSet_same]
      exact ⟨rfl, rfl⟩
    have hset : (u.setGen g.val { s.gen g.val with lastTick := (s.gen g.val).next }).time.timerGen = s.time.timerGen := by
      show u.time.timerGen = _
      rw [htime]
    rw [hset]
    refine ⟨fun _ => ?_, fun h => absurd h h0, ?_⟩
    · split
      · exact ⟨(hgen _ rfl).1, (hgen _ rfl).2, fun _ => rfl⟩
      · next hne => exact ⟨(hgen _ rfl).1, (hgen _ rfl).2, fun e => absurd e hne⟩
    · split <;> exact hrate.symm

theorem ptpMessage_makes {s : State} {m : PtpMsg} (hfw : s.fwUp = true) (hon : bit s.time.ptp 0 = true) :
    Makes (.ptpMessage m) s fun t =>
      (t.time = s.time ∧ t.rd Reg.timeTsLostCount = w32 (min 0xFFFFFFFF ((s.rd Reg.timeTsLostCount).toNat + 1))) ∨
      ((∀ p, m = .delayReq p → t.time = s.time ∧ t.clk = s.clk ∧ (t.sw.copies = s.sw.copies ∨
        (s.time.ptpState = 4 ∧ s.answersOn p = true ∧ s.egressUp p = true ∧ ∃ c, t.sw.copies = s.sw.copies ++ [c] ∧ c.port = p))) ∧
       (∀ r, m = .announce r → t.time.ptpState = (if r && s.mayReceive then (if s.time.ptpState = 3 then 3 else 2) else 4)) ∧
       (∀ ns, m = .offset ns → (s.time.ptpState = 2 ∨ s.time.ptpState = 3) → s.mayReceive →
        t.time.offset = ns ∧ (t.time.ptpState = 2 ∨ t.time.ptpState = 3))) := by
  refine .of_finish (exec_ptpMessage m hfw hon) ?_
  split
  · refine .inl ⟨rfl, ?_⟩
    rw [State.rd_after, State.rd_cnt_one]
    rfl
  · refine .inr ⟨fun p hm => ?_, fun r hm => ?_, fun ns hm hst hrec => ?_⟩ <;> subst hm
    · unfold State.ptpAct
      dsimp only
      split
      · next h =>
        obtain ⟨htime, hclk, hcopies⟩ := s.freeB.2.delayResp_queued p
        exact ⟨htime, hclk, hcopies.imp id fun ⟨hegr, hc⟩ => ⟨h.1, h.2, hegr, hc⟩⟩
      · exact ⟨rfl, rfl, .inl rfl⟩
    · rfl
    · unfold State.ptpAct
      dsimp only
      rw [if_pos ⟨hst, hrec⟩]
      exact s.freeB.2.ptpServo_eq ns

theorem ppsInEdge_captured {s : State} (hup : s.coreUp = true) (hmode : s.time.ppsInMode = 1) :
    Makes .ppsInEdge s fun t =>
      t.time.ppsIn = captureOf s.ppsNs.toNat ∧ t.time.ppsSeen = true ∧ t.time.holdover = false ∧ t.time.ppsLast = some s.clk.age ∧
      t.time.ppsWait = s.clk.age ∧ t.clk = s.clk := by
  refine .of_up hup rfl ?_
  rw [if_neg (by simp [hmode])]
  dsimp only
  rw [if_neg (by simp [hmode])]
  exact ⟨rfl, rfl, rfl, rfl, rfl, rfl⟩

theorem ppsInEdge_disciplined {s : State} (hup : s.coreUp = true) (hmode : s.time.ppsInMode = 2) (hfw : s.fwUp = true) (hfab : s.fabricTimed = false) :
    Makes .ppsInEdge s fun t =>
      t.time.ppsSeen = true ∧ t.time.offset = s.secOffset ∧
      (s.time.ppsLast ≠ none → -1000 ≤ s.secOffset → s.secOffset ≤ 1000 → t.clk.dt = s.clk.dt) ∧
      (s.time.ppsLast = none → s.secOffset * dtUnit ≤ s.clk.dt → (s.clk.dt : Int) - s.secOffset * dtUnit < dtWrap →
        t.ppsNs % 10 ^ 9 = 0 ∧ t.clk.rate = s.clk.rate) := by
  refine .of_up hup rfl ?_
  rw [if_neg (by simp [hmode])]
  dsimp only
  rw [if_pos ⟨hmode, hfw, by
    rw [Bool.not_eq_true]
    exact hfab⟩]
  generalize hx : ({ s with time := _ } : State) = x
  have hoff : x.secOffset = s.secOffset := by rw [← hx]; rfl
  have hclk : x.clk = s.clk := by rw [← hx]
  have hseen : x.time.ppsSeen = true := by rw [← hx]
  obtain ⟨h1, h2, h3, h4⟩ := x.ppsDiscipline_eq s.time.ppsLast.isNone
  rw [hoff] at h1 h3 h4
  rw [hclk] at h3 h4
  exact ⟨h2.trans hseen, h1, fun hl => h3 (by simpa using Option.ne_none_iff_isSome.1 hl), fun hl => h4 (by simp [hl])⟩

theorem ppsLost_makes {s : State} (hfw : s.fwUp = true) (hmode : s.time.ppsInMode = 2) (hage : s.clk.age < 2 ^ 63) (hwait : s.time.ppsWait < 2 ^ 62) :
    Makes .ppsLost s fun t =>
      t.time.ppsSeen = false ∧ t.time.holdover = true ∧ t.clk.age = max s.clk.age (s.time.ppsWait + 1375000000) ∧
      t.rd Reg.timePpsMissCount = w32 (min 0xFFFFFFFF ((s.rd Reg.timePpsMissCount).toNat + 1)) := by
  refine .of_fw hfw rfl ?_
  rw [if_neg (by simp [hmode])]
  dsimp only
  have hclk := State.untilAge (s := s) (n := s.time.ppsWait + 1375000000) (by omega) (by omega)
  have hrd := s.until_rd (s.time.ppsWait + 1375000000) (a := Reg.timePpsMissCount) (by unfold clockCounts; decide)
  generalize s.until (s.time.ppsWait + 1375000000) = u at hclk hrd ⊢
  obtain ⟨v, e, h, hev⟩ := State.event_eq (State.cnt { u with time :=
    { u.time with ppsSeen := false, holdover := true, ppsWait := u.clk.age } } Reg.timePpsMissCount 1) 0x11 0x02 0 0 0
  have hcount := hev Reg.timePpsMissCount (by decide)
  rw [State.rd_cnt_one] at hcount
  rw [State.rd_after, hcount, h]
  refine ⟨rfl, rfl, hclk, ?_⟩
  rw [← hrd]
  rfl

theorem ppsOutEdge_makes {s : State} (hup : s.coreUp = true) (hout : s.time.ppsOutEn = true) :
    Makes .ppsOutEdge s fun t =>
      t.time.ppsOut = !s.time.ppsOut ∧ t.sw = s.sw := by
  refine .of_up hup rfl ?_
  rw [if_neg (by simp [hout])]
  exact ⟨rfl, by simp⟩

theorem timerOutFall_makes {s : State} {a : Nat} (hup : s.coreUp = true) (hout : s.time.timerOut = some a) (hage : s.clk.age < 2 ^ 63) (ha : a < 2 ^ 62) :
    Makes .timerOutFall s fun t =>
      t.time.timerOut = none ∧ t.clk.age = max s.clk.age a := by
  refine .of_up hup rfl ?_
  rw [hout]
  exact ⟨rfl, State.untilAge (by omega) (by omega)⟩

/-- Settles O41: the branch of each row that its hypotheses select. -/
theorem timeEventsComplete : Obligations.TimeEventsComplete := by
  unfold Obligations.TimeEventsComplete
  exact fun s hup => ⟨fun g hg => periodGeneratorTick_makes hup hg, fun m hfw hon => ptpMessage_makes hfw hon,
    fun hmode => ppsInEdge_captured hup hmode, fun hmode hfw hfab => ppsInEdge_disciplined hup hmode hfw hfab,
    fun hfw hmode hage hwait => ppsLost_makes hfw hmode hage hwait, fun hout => ppsOutEdge_makes hup hout,
    fun a hout hage ha => timerOutFall_makes hup hout hage ha⟩

end Sys2Proof.Machine


/-! The transports of command packets: queue pairs, the SPI slave, in-band streams and commands sent on (chapter 2). -/

namespace Sys2Proof.Machine

/-! ## Acceptance -/

theorem State.keptReply_spi (s : State) {q : Request} (h : q.stream = .spi) : s.keptReply q = none := by
  rw [State.keptReply, h]
  rfl

theorem State.keptReply_pcie (s : State) {q : Request} {n : Fin 16} (h : q.stream = .pcie n) : s.keptReply q = none := by
  rw [State.keptReply, h]
  rfl

/-- A packet of a local host that passes the checks is accepted. -/
theorem State.receive_good {s : State} {st : StreamId} {len : Nat} {p : List Byte} (buf : Option SqBuf)
    (hst : st = .spi ∨ ∃ n, st = .pcie n) (hcheck : packetChecks (parsePacket st p) len = 0) (hnew : s.cmdOf (parsePacket st p).q = none) :
    s.receive st buf none len p = s.acceptCmd (parsePacket st p).op (parsePacket st p).q buf none := by
  have hstream : (parsePacket st p).q.stream = st := rfl
  have hkept : s.keptReply (parsePacket st p).q = none := by
    rcases hst with h | ⟨n, h⟩
    · exact s.keptReply_spi (hstream.trans h)
    · exact s.keptReply_pcie (hstream.trans h)
  have htrans : s.transportCheck (parsePacket st p) = 0 := by
    rw [State.transportCheck, hstream]
    rcases hst with rfl | ⟨n, rfl⟩ <;> rfl
  have hcount : s.streamCheck st = 0 := by rcases hst with rfl | ⟨n, rfl⟩ <;> rfl
  have htouch : s.touchStream st = s := by rcases hst with rfl | ⟨n, rfl⟩ <;> rfl
  unfold State.receive
  dsimp only
  rw [if_neg (by simp [hcheck]), if_neg (by simp [htrans]), hkept]
  dsimp only
  rw [if_neg (by simp [hnew]), if_neg (by simp [hcount]), htouch]

/-! ## Queue pairs -/

/-- A pair that settles leaves its queues as they are. -/
theorem State.pairSettle_eq (s : State) (n : Nat) : (s.pairSettle n).out = s.out ∧ (s.pairSettle n).reg = s.reg ∧
    ((s.pairSettle n).pair n).held = (s.pair n).held ∧ ((s.pairSettle n).pair n).cqTail = (s.pair n).cqTail := by
  unfold State.pairSettle
  dsimp only
  split <;> simp

theorem State.repliesSent_eq (s : State) (n i : Nat) : (s.repliesSent n i).out = s.out ∧ (s.repliesSent n i).reg = s.reg ∧
    (s.repliesSent n i).pair n = s.pair n := by
  unfold State.repliesSent
  split <;> exact ⟨rfl, rfl, rfl⟩

/-- The state in which an entry and its packet have been read. -/
def State.fetched (s : State) (n : Nat) (e : SqEntry) : State :=
  let s' := s.setPair n { s.pair n with sqHead := ((s.pair n).sqHead + 1) % 2 ^ (s.pair n).sqLog2 }
  { s' with out := { s.out with fetches := s.out.fetches ++ [((s.pair n).sqAddr, 32), (e.reqAddr.toNat, e.reqLen.toNat)] } }

theorem State.fetched_pair (s : State) (n : Nat) (e : SqEntry) :
    (s.fetched n e).pair n = { s.pair n with sqHead := ((s.pair n).sqHead + 1) % 2 ^ (s.pair n).sqLog2 } :=
  State.pair_setPair_same _ _ _

/-- The reply to a packet that is too short. -/
def State.answerShort (s : State) (n : Nat) (buf : SqBuf) : State :=
  (s.cnt Reg.cmdqMalformedCount 1).setPair n { s.pair n with held := (s.pair n).held ++ [⟨0, 0, St.badLength, some buf, false, true, []⟩] }

theorem exec_submissionFetch {s : State} {n : Fin 16} {b p : List Byte} {e : SqEntry} (hup : s.coreUp = true) (he : e = SqEntry.ofBytes b)
    (hfetch : s.mayFetch n = true) : exec (.submissionFetch n b p) s = finish s
      (if e.reqLen.toNat < 16 ∨ p.length < 16 then (s.fetched n e).answerShort n ⟨(s.pair n).sqHead, e.bufAddr, e.bufLen.toNat⟩
       else (s.fetched n e).receive (.pcie n) (some ⟨(s.pair n).sqHead, e.bufAddr, e.bufLen.toNat⟩) none e.reqLen.toNat p) := by
  subst he
  show finish s (whileUp s _) = _
  rw [whileUp_up _ hup, if_neg (by simp [hfetch])]
  rfl

/-- A submission entry whose packet passes the checks is fetched and accepted. -/
theorem submissionFetch_good {s : State} {n : Fin 16} {b p : List Byte} {e : SqEntry} {h : Header} (hup : s.coreUp = true)
    (he : e = SqEntry.ofBytes b) (hh : h = parsePacket (.pcie n) p) (hfetch : s.mayFetch n = true) (hlen : 16 ≤ e.reqLen.toNat)
    (hp : 16 ≤ p.length) (hcheck : packetChecks h e.reqLen.toNat = 0) (hnew : s.cmdOf h.q = none) :
    Makes (.submissionFetch n b p) s fun t =>
      (t.pair n).sqHead = ((s.pair n).sqHead + 1) % 2 ^ (s.pair n).sqLog2 ∧
      t.cmdq.cmds = s.cmdq.cmds ++ [Cmd.fresh s.cmdq.nextId h.op h.q (some ⟨(s.pair n).sqHead, e.bufAddr, e.bufLen.toNat⟩) none] ∧
      t.out.fetches = s.out.fetches ++
        [((s.pair n).sqBase + 32 * (s.pair n).sqHead, 32), (e.reqAddr.toNat, e.reqLen.toNat)] ∧
      t.reg = s.reg ∧ t.evt = s.evt := by
  subst hh
  refine .of_finish (exec_submissionFetch hup he hfetch) ?_
  rw [if_neg (by omega), State.receive_good (s := s.fetched n e) _ (.inr ⟨n, rfl⟩) hcheck hnew]
  refine ⟨?_, rfl, rfl, rfl, rfl⟩
  show ((s.fetched n e).pair n).sqHead = _
  rw [s.fetched_pair]

/-- One too short is answered under tag 0 and counted. -/
theorem submissionFetch_short {s : State} {n : Fin 16} {b p : List Byte} {e : SqEntry} (hup : s.coreUp = true)
    (he : e = SqEntry.ofBytes b) (hfetch : s.mayFetch n = true) (hlen : e.reqLen.toNat < 16 ∨ p.length < 16) :
    Makes (.submissionFetch n b p) s fun t =>
      t.cmdq.cmds = s.cmdq.cmds ∧
      t.rd Reg.cmdqMalformedCount = w32 (min 0xFFFFFFFF ((s.rd Reg.cmdqMalformedCount).toNat + 1)) ∧
      (t.pair n).held = (s.pair n).held ++ [⟨0, 0, 0x0104, some ⟨(s.pair n).sqHead, e.bufAddr, e.bufLen.toNat⟩, false, true, []⟩] := by
  refine .of_finish (exec_submissionFetch hup he hfetch) ?_
  rw [if_pos hlen]
  refine ⟨rfl, ?_, ?_⟩
  · rw [State.rd_of_vals (s := (s.fetched n e).cnt Reg.cmdqMalformedCount 1) (t := s.after _) rfl, State.rd_cnt_one,
      State.rd_of_vals (s := s) (t := s.fetched n e) rfl]
  · rw [State.pair_after, State.answerShort, State.pair_setPair_same, s.fetched_pair]

/-- A command for this device alone, of a local stream, runs here. -/
theorem State.startCmd_here {s : State} {c : Cmd} (hfwd : c.q.fwd = false ∨ c.q.stream.isEntry = true)
    (hpartner : c.q.stream.fromPartner = false) (hside : c.q.side = 0) : s.startCmd c = s.runHere c := by
  unfold State.startCmd State.deliverSide
  dsimp only
  rw [if_neg (by simp [hpartner]), if_pos (by rcases hfwd with h | h <;> simp [h]), if_pos hside]

theorem State.runHere_eq {s : State} {c : Cmd} {rest : List Cmd} (hcmds : s.cmdq.cmds = c :: rest)
    (hrest : rest.all (fun d => d.id != c.id) = true) (hside : c.q.side = 0) (hseal : s.sealedRefused c.op = false) :
    s.runHere c = { s with cmdq := { s.cmdq with cmds := { c with phase := .running, side := false } :: rest } } := by
  have hkeep : rest.map (fun d => if d.id = c.id then { d with phase := .running, side := d.q.side == 2 && s.isFollow } else d) = rest := by
    rw [List.map_congr_left (g := id), List.map_id]
    intro d hd
    have h := List.all_eq_true.1 hrest d hd
    exact if_neg (by simpa using h)
  unfold State.runHere State.updCmd
  rw [if_neg (by simp [hseal]), hcmds, List.map_cons, hkeep, if_pos rfl]
  dsimp only
  rw [hside]
  rfl

theorem commandStart_eq {s : State} {c : Cmd} {rest : List Cmd} (hup : s.coreUp = true) (hcmds : s.cmdq.cmds = c :: rest)
    (hstart : s.mayStart c = true) : exec (.commandStart c.id) s = finish s (s.startCmd c) := by
  show finish s (whileUp s _) = _
  have hfind : s.cmdq.cmds.find? (fun d => d.id == c.id) = some c := by rw [hcmds, List.find?_cons_of_pos (by simp)]
  rw [whileUp_up _ hup, hfind]
  exact congrArg (finish s) (if_pos hstart)

/-- A pair whose oldest reply has been posted. -/
def QPair.posted (p : QPair) (rest : List HeldReply) : QPair :=
  { p with held := rest, cqTail := (p.cqTail + 1) % 2 ^ p.cqLog2, phase := p.phase != decide (p.cqTail + 1 = 2 ^ p.cqLog2) }

/-- The oldest reply of a pair with room in its completion queue is posted. -/
theorem State.postNext_eq {s : State} {n : Fin 16} {r : HeldReply} {rest : List HeldReply} (hheld : (s.pair n).held = r :: rest)
    (hfree : 2 ≤ (s.pair n).cqFree) :
    (s.postNext n).out.msi = s.out.msi ++ [s.rf (Reg.cmdqQCfg n) 8 6] ∧ ((s.postNext n).pair n).held = rest ∧
    ((s.postNext n).pair n).cqTail = ((s.pair n).cqTail + 1) % 2 ^ (s.pair n).cqLog2 ∧
    (r.final = true → (s.postNext n).rd (Reg.cmdqQDoneCount n) = w32 (min 0xFFFFFFFF ((s.rd (Reg.cmdqQDoneCount n)).toNat + 1))) ∧
    ∃ c : PostedCompletion, (s.postNext n).out.completions = s.out.completions ++ [c] ∧ c.tag = r.tag ∧ c.status = r.status ∧
      c.slot = (s.pair n).cqTail ∧ c.phase = (s.pair n).phase ∧ c.trunc = r.trunc ∧ c.packet = r.packet ∧
      c.addr = (s.pair n).cqBase + 16 * (s.pair n).cqTail ∧
      c.bytes = completionBytes c.tag c.status c.sqHead c.replyLen c.index c.phase c.trunc := by
  unfold State.postNext
  dsimp only
  rw [hheld]
  dsimp only
  rw [if_neg (by omega)]
  generalize hx : (if r.final = true then State.cnt _ _ 1 else _ : State) = x
  have hxout : x.out = s.out := by rw [← hx]; split <;> rfl
  have hxpair : (x.pair n).held = rest ∧ (x.pair n).cqTail = ((s.pair n).cqTail + 1) % 2 ^ (s.pair n).cqLog2 := by
    have h : x.pair n = (s.setPair n ((s.pair n).posted rest)).pair n := by
      rw [← hx]
      split <;> rfl
    rw [h, State.pair_setPair_same]
    exact ⟨rfl, rfl⟩
  have hxrd : r.final = true → x.rd (Reg.cmdqQDoneCount n) = w32 (min 0xFFFFFFFF ((s.rd (Reg.cmdqQDoneCount n)).toNat + 1)) := by
    intro hf
    rw [← hx, if_pos hf, State.rd_cnt_one]
    rfl
  generalize hy : ({ x with out := _ } : State) = y
  have hyreg : y.reg = x.reg := by rw [← hy]
  have hypair : y.pair n = x.pair n := by rw [← hy]; rfl
  generalize hz : (if r.final = true then y.repliesSent n r.cmd else y) = z
  have hzeq : z.out = y.out ∧ z.reg = y.reg ∧ z.pair n = y.pair n := by
    rw [← hz]
    split
    · exact y.repliesSent_eq _ _
    · exact ⟨rfl, rfl, rfl⟩
  obtain ⟨hout, hreg, hh, ht⟩ := z.pairSettle_eq n
  have hfin : (z.pairSettle n).out = y.out := hout.trans hzeq.1
  rw [hfin, hh, ht, hzeq.2.2, hypair, State.rd_of_vals (s := x) (by rw [hreg, hzeq.2.1, hyreg]), ← hy]
  exact ⟨by rw [hxout], hxpair.1, hxpair.2, hxrd, _, by rw [hxout], rfl, rfl, rfl, rfl, rfl, rfl, rfl, rfl⟩

/-- Settles O8: a fetch, a start and a post, each by its own rule. -/
theorem pcieCommandsComplete : Obligations.PcieCommandsComplete := by
  unfold Obligations.PcieCommandsComplete
  intro s n hup
  refine ⟨fun b p e h he hh hfetch hlen hp hcheck hnew => submissionFetch_good hup he hh hfetch hlen hp hcheck hnew,
    fun b p e he hfetch hlen => submissionFetch_short hup he hfetch hlen,
    fun c rest hcmds hrest hstart hfwd hside hstream => ?_, fun r rest hheld hfree => .of_up hup rfl (State.postNext_eq hheld hfree)⟩
  have hpartner : c.q.stream.fromPartner = false := by rw [hstream]; rfl
  have hexec : exec (.commandStart c.id) s = finish s (s.runHere c) := by
    rw [commandStart_eq hup hcmds hstart, State.startCmd_here (.inl hfwd) hpartner hside]
  refine ⟨fun hseal => .of_finish hexec ?_, fun hseal => .of_finish hexec ?_⟩
  · rw [State.runHere_eq hcmds hrest hside hseal]
    exact ⟨rfl, rfl, rfl⟩
  · rw [State.runHere, if_pos hseal]

/-! ## The SPI slave and in-band streams -/

theorem State.inbandEnds (s : State) (p : Fin 32) (a : BitVec 48) (v : BitVec 12) :
    (s.cmdq.inband.filter (fun j => !(j.port == p && j.src == a && j.vid == v))).find? (fun j => j.port == p && j.src == a && j.vid == v) = none := by
  rw [List.find?_eq_none]
  intro j hj
  have h := (List.mem_filter.1 hj).2
  rw [Bool.not_eq_true'] at h
  exact Bool.eq_false_iff.1 h

/-- Settles O9: the branch of each transaction that its hypotheses select. -/
theorem spiAndInbandComplete : Obligations.SpiAndInbandComplete := by
  unfold Obligations.SpiAndInbandComplete
  intro s
  refine ⟨fun p hup hst hready hlen hcheck hnew => .of_up hup rfl ?_, fun p hup hst hready => .of_up hup rfl ?_,
    fun p hup hst hready hlen => .of_up hup rfl ?_, fun n r rest hup hr => .of_up hup rfl ?_, fun hspi => .of_finish rfl ?_,
    fun port src vid i hup hi hlt hmax => .of_up hup rfl ?_⟩
  · rw [State.rouse_run hst, if_neg (by simp [hready]), if_neg (by omega), State.receive_good _ (.inl rfl) hcheck hnew]
    exact ⟨rfl, rfl⟩
  · rw [State.rouse_run hst, if_pos (by simp [hready])]
    refine ⟨rfl, rfl, ?_⟩
    rw [State.rd_of_vals (s := s.cnt Reg.cmdqSpiOverflowCount 1) (t := s.after _) rfl, State.rd_cnt_one]
  · rw [State.rouse_run hst, if_neg (by simp [hready]), if_pos hlen, State.rd_after, State.rd_cnt_one]
    exact ⟨rfl, rfl⟩
  · rw [hr]
    dsimp only
    split
    · exact ⟨rfl, rfl, rfl⟩
    · exact ⟨rfl, hr, rfl⟩
  · rw [if_pos hspi]
    exact ⟨rfl, rfl, rfl⟩
  · rw [hi]
    dsimp only
    have hclk := State.until_clk_age (s := s) (n := i.lastReq + 10 * secC) (Nat.le_of_lt hlt) hmax
    have hcmdq : (s.until (i.lastReq + 10 * secC)).cmdq = s.cmdq := by simp
    generalize s.until (i.lastReq + 10 * secC) = u at hclk hcmdq ⊢
    have hcmds : u.cmdq.cmds = s.cmdq.cmds := by rw [hcmdq]
    exact ⟨u.inbandEnds _ _ _, hclk, hcmds⟩

/-! ## Commands sent on -/

/-- The reply to a command of the SPI stream, the only one that is outstanding. -/
theorem State.replyFrom_spi {s : State} {c : Cmd} {op st : Nat} {side : Bool} {ws : List Word} (hcmds : s.cmdq.cmds = [c])
    (hfin : c.finals = 1) (hstream : c.q.stream = .spi) (hreply : c.q.flags.getLsbD 0 = false) (hop : op ≠ 0) (h1 : st ≠ St.presenceRequired)
    (h2 : st ≠ St.sealedTransport) (h3 : st ≠ St.internalFault) :
    s.replyFrom op c.q st side ws = { s with cmdq := { s.cmdq with
      cmds := [], spiReplies := s.cmdq.spiReplies ++ [(replyPacket (classOf op) op c.q st side 1020 ws).1] } } := by
  have hof : s.cmdOf c.q = some c := by
    rw [State.cmdOf, hcmds, List.find?_cons_of_pos (by simp)]
  have hclose (t : State) (ht : t.cmdq.cmds = s.cmdq.cmds) : t.closeCmd c.q = { t with cmdq := { t.cmdq with cmds := [] } } := by
    have hof' : t.cmdOf c.q = some c := by rw [State.cmdOf, ht]; exact hof
    have hheld : t.replyHeld c = false := by rw [State.replyHeld, hstream]
    unfold State.closeCmd
    rw [hof']
    dsimp only
    rw [if_neg (by omega), hheld, if_neg Bool.false_ne_true, hstream, ht, hcmds]
    simp
  have hseal : s.sealedCount st = s := if_neg (by simp [h1, h2])
  have hfault : s.noteFault st = s := if_neg h3
  unfold State.replyFrom
  rw [if_neg (fun h => hop h.1)]
  dsimp only
  rw [hseal, hfault]
  rw [if_neg (by rw [Request.noReply, hreply]; exact Bool.false_ne_true), State.toStream, hstream]
  exact hclose _ rfl

theorem State.find_one {s : State} {c : Cmd} {p : Cmd → Bool} (hcmds : s.cmdq.cmds = [c]) (hp : p c = true) : s.cmdq.cmds.find? p = some c := by
  rw [hcmds, List.find?_cons_of_pos hp]

theorem State.updCmd_one {s : State} {c : Cmd} (hcmds : s.cmdq.cmds = [c]) (f : Cmd → Cmd) : (s.updCmd c.id f).cmdq.cmds = [f c] := by
  simp [State.updCmd, hcmds]

/-- A command that arrives for this device alone, where no other is outstanding, is taken and runs at once. -/
theorem State.takeAndStart {s : State} {op : Nat} {q : Request} {src ref limit : Nat} (hcmds : s.cmdq.cmds = []) (hfw : s.pwr.fwReady = true)
    (hstream : q.stream = .entry src ref limit) (hsrc : src ≠ 1024) (hside : q.side = 0) (hseal : s.sealedRefused op = false) :
    ∃ d, (s.acceptCmd op q none none).cmdq.cmds.find? (fun d => d.id == s.cmdq.nextId) = some d ∧
      (s.acceptCmd op q none none).mayStart d = true ∧
      ((s.acceptCmd op q none none).startCmd d).cmdq.cmds = [{ Cmd.fresh s.cmdq.nextId op q none none with phase := .running }] := by
  have hall : (s.acceptCmd op q none none).cmdq.cmds = [Cmd.fresh s.cmdq.nextId op q none none] := by
    show s.cmdq.cmds ++ _ = _
    rw [hcmds]
    rfl
  refine ⟨_, State.find_one hall (by simp [Cmd.fresh]), ?_, ?_⟩
  · have hfw' : (s.acceptCmd op q none none).pwr.fwReady = true := hfw
    simp [State.mayStart, State.freeToStart, State.before, hall, State.runningCmds, State.sealedRunning, heldBack, Cmd.fresh, hfw', hstream]
  · rw [State.startCmd_here (.inr (by rw [Cmd.fresh, hstream]; rfl)) (by rw [Cmd.fresh, hstream]; exact beq_false_of_ne hsrc) hside,
      State.runHere_eq hall rfl hside hseal]
    rfl

/-- Settles O10: the branch of each message that its hypotheses select. -/
theorem forwardingCompletes : Obligations.ForwardingCompletes := by
  unfold Obligations.ForwardingCompletes
  intro s hup
  refine ⟨fun l c hdeaf => ?_, fun l c hdeaf => .of_up hup rfl ?_, fun l c hdeaf hjoin hdest hd hsrc hfw hcmds hst hseal hside => .of_up hup rfl ?_,
    fun l c k hdeaf hjoin hdest hd hroute => .of_up hup rfl ?_, fun l r c hdeaf hjoin hdest hcmds hid haway hfin hstream hreply hst hop => .of_up hup rfl ?_,
    fun c hcmds haway hfin hstream hreply hop hage hsent => .of_up hup rfl ?_⟩
  · have h (auth : Bool) : exec (.forwardedCommand l auth c) s = finish s s := by
      show finish s (whileUp s _) = _
      rw [whileUp_up _ hup]
      exact congrArg (finish s) (if_pos hdeaf)
    exact ⟨h false, h true⟩
  · rw [if_neg (by simp [hdeaf]), if_pos (by simp), State.rd_after, State.rd_cnt_one]
    exact ⟨rfl, rfl⟩
  · rw [if_neg (by simp [hdeaf]), if_neg (by simp)]
    dsimp only
    rw [if_neg (by simp [hjoin, hdest]), if_neg (by simp [hfw]), State.rouse_run hst, if_neg hd]
    obtain ⟨d, hfind, hstart, hrun⟩ := State.takeAndStart (op := c.op) (q := ⟨.entry c.src c.ref c.limit, c.tag, c.flags, c.target, c.words⟩)
      hcmds hfw rfl hsrc hside hseal
    rw [hfind]
    dsimp only
    rw [if_pos hstart]
    exact hrun
  · rw [if_neg (by simp [hdeaf]), if_neg (by simp)]
    dsimp only
    rw [if_pos (by simp [hdest, hd]), hroute]
    dsimp only
    rw [State.sendTo, hroute]
    exact ⟨rfl, rfl⟩
  · rw [if_neg (by simp [hdeaf])]
    dsimp only
    rw [if_neg (by simp [hjoin, hdest]), State.find_one hcmds (by simp [hid, haway])]
    dsimp only
    rw [if_neg (by simp [hst]), hst, State.replyFrom_spi (State.updCmd_one hcmds _) hfin hstream hreply hop (by decide) (by decide) (by decide)]
    exact ⟨rfl, rfl⟩
  · rw [State.find_one hcmds (by simp [haway])]
    dsimp only
    have hclk := State.untilAge (s := s) (n := c.sentAt + max 1 (s.rf Reg.cmdqFwdTimeout 0 16) * msC) (by omega)
      (by have := fld_lt (s.rd Reg.cmdqFwdTimeout) 0 16; unfold msC State.rf; omega)
    have hcmdq : (s.until (c.sentAt + max 1 (s.rf Reg.cmdqFwdTimeout 0 16) * msC)).cmdq = s.cmdq := by simp
    generalize s.until (c.sentAt + max 1 (s.rf Reg.cmdqFwdTimeout 0 16) * msC) = u at hclk hcmdq ⊢
    rw [hstream, haway]
    dsimp only [List.foldl]
    rw [State.replyFrom_spi (c := { c with away := [] }) (State.updCmd_one (s := u) (by rw [hcmdq, hcmds]) _) hfin hstream hreply hop
      (by decide) (by decide) (by decide)]
    have hlate : u.cmdq.late = s.cmdq.late := by rw [hcmdq]
    have hspi : u.cmdq.spiReplies = s.cmdq.spiReplies := by rw [hcmdq]
    refine ⟨rfl, ?_, hclk, ?_⟩
    · rw [← hlate]
      rfl
    · rw [← hspi]
      rfl

end Sys2Proof.Machine


/-! Operations in a named glue-up, and slot tables (chapter 10). -/

namespace Sys2Proof.Machine

/-! ## Operations in a named glue-up, outside a twin -/

theorem State.addOps_twin (s : State) (id n : Nat) : (s.addOps id n).twin = s.twin := by simp [State.addOps]

/-- An attempt that is done in a named glue-up with room for its operations. -/
theorem State.glueBody_done {s t : State} {op n : Nat} {q : Request} {mir : Bool} {w : List Word} {act : State → Nat → GlueRes} (hs : s.single)
    (hg : q.f 0 8 8 ≠ 0) (hopen : s.glueOpen? (q.f 0 8 8) = 0) (hact : act s (q.f 0 8 8) = .done t n w) (htwin : t.twin = s.twin)
    (hfull : (t.glueUp (q.f 0 8 8)).ops + n ≤ 4096) : s.glueBody op q mir act = (t.addOps (q.f 0 8 8) n, .final St.ok w) := by
  unfold State.glueBody
  dsimp only
  rw [if_pos hg, if_neg (by simp [hopen]), hact]
  dsimp only
  rw [if_neg (by omega), State.mirrorIf_off (hs.of_twin ((t.addOps_twin _ _).trans htwin))]

theorem State.glueOp_done {s t : State} {op n pre : Nat} {q : Request} {w : List Word} {act : State → Nat → GlueRes} (hs : s.single)
    (hpre : pre = 0) (hg : q.f 0 8 8 ≠ 0) (hopen : s.glueOpen? (q.f 0 8 8) = 0) (hact : act s (q.f 0 8 8) = .done t n w) (htwin : t.twin = s.twin)
    (hfull : (t.glueUp (q.f 0 8 8)).ops + n ≤ 4096) : s.glueOp op q pre act = (t.addOps (q.f 0 8 8) n, .final St.ok w) := by
  unfold State.glueOp
  rw [if_neg (by simp [State.refuses_off hs]), if_neg (by simp [hpre]), State.glueBody_done hs hg hopen hact htwin hfull]

/-- A command that is mirrored, outside a twin. -/
theorem State.mirrored_off {s t : State} {op : Nat} {q : Request} {f : State → State × CmdEnd} {w : List Word} (hs : s.single)
    (hf : f s = (t, .final St.ok w)) (htwin : t.twin = s.twin) : s.mirrored op q f = (t, .final St.ok w) := by
  unfold State.mirrored
  rw [if_neg (by simp [State.refuses_off hs]), hf]
  dsimp only
  rw [if_pos rfl, State.mirrorAt_off (hs.of_twin htwin)]

/-! ## Slot tables -/

theorem State.slotTable_set_same (s : State) (n : Nat) (x : SlotTable) : (s.setSlotTable n x).slotTable n = x := by
  simp [State.slotTable, State.setSlotTable]

theorem State.slotTable_untilNs (s : State) (k n : Nat) : (s.untilNs k).slotTable n = s.slotTable n := by simp [State.slotTable]

@[simp] theorem State.slotTable_after (s t : State) (n : Nat) : (s.after t).slotTable n = t.slotTable n := rfl

/-- A table whose copies have exchanged roles. -/
def SlotTable.switched (x : SlotTable) (t : Int) : SlotTable :=
  { x with activeB := !x.activeB, entry := 0, cycleNs := t, swapPend := false, copyBack := true }

theorem State.switchSlots_table (s : State) (n : Nat) (t : Int) : (s.switchSlots n t).slotTable n = (s.slotTable n).switched t :=
  s.slotTable_set_same _ _

/-- An entry of a copy into which words have been written. -/
theorem SlotCopy.entry_write (c : SlotCopy) (k : Nat) (ws : List Word) (j : Nat) :
    (c.write k ws).entry j = if k ≤ j ∧ j < k + ws.length then ws.getD (j - k) 0 else c.entry j := by
  induction ws generalizing c k with
  | nil =>
    rw [if_neg (by simp)]
    rfl
  | cons w ws ih =>
    rw [SlotCopy.write, ih, List.length_cons]
    by_cases hj : j = k
    · subst hj
      rw [if_neg (by omega), if_pos (by omega), SlotCopy.entry, smGet_smSet_same]
      simp
    · rw [SlotCopy.entry, smGet_smSet_ne _ _ _ _ hj]
      by_cases hin : k + 1 ≤ j ∧ j < k + 1 + ws.length
      · rw [if_pos hin, if_pos (by omega), show j - k = (j - (k + 1)) + 1 by omega, List.getD_cons_succ]
      · rw [if_neg hin, if_neg (by omega)]
        rfl

theorem SlotCopy.write_frame (c : SlotCopy) (k : Nat) (ws : List Word) : (c.write k ws).length = c.length ∧ (c.write k ws).gen = c.gen := by
  induction ws generalizing c k with
  | nil => exact ⟨rfl, rfl⟩
  | cons w ws ih => exact ih _ _

/-- SLOT_WRITE whose first checks pass names each of its entries by a word, and no table that swaps. -/
theorem State.slotPre_good {s : State} {q : Request} (h : s.slotPre q = 0) :
    q.words.length = 2 + q.f 1 8 7 ∧ (s.slotTable (q.f 0 0 8)).swapping = false := by
  unfold State.slotPre at h
  dsimp only at h
  split at h
  · exact absurd h (by decide)
  · next hlen =>
    split at h
    · exact absurd h (by decide)
    · split at h
      · exact absurd h (by decide)
      · split at h
        · exact absurd h (by decide)
        · next hsw => exact ⟨Classical.not_not.1 hlen, Bool.eq_false_iff.2 hsw⟩

theorem Request.slotEntries_get {q : Request} (hlen : q.words.length = 2 + q.f 1 8 7) : q.slotEntries.length = q.f 1 8 7 ∧
    ∀ i, i < q.f 1 8 7 → q.slotEntries.getD i 0 = q.w (2 + i) := by
  have hcount : q.slotEntries.length = q.f 1 8 7 := by
    simp only [Request.slotEntries, Request.slotCount, List.length_take, List.length_drop, hlen]
    omega
  refine ⟨hcount, fun i hi => ?_⟩
  rw [Request.slotEntries, List.getD_eq_getElem?_getD, List.getElem?_take_of_lt (by exact hi), List.getElem?_drop, ← List.getD_eq_getElem?_getD]
  rfl

/-- The entries of a copy after SLOT_WRITE. -/
theorem SlotCopy.entry_slotWrite (c : SlotCopy) {q : Request} (hlen : q.words.length = 2 + q.f 1 8 7) {i : Nat} (hi : i < q.f 1 8 7) :
    (c.write q.slotFirst q.slotEntries).entry (q.f 1 0 8 + i) = q.w (2 + i) := by
  obtain ⟨hcount, hget⟩ := Request.slotEntries_get hlen
  rw [SlotCopy.entry_write, if_pos (by rw [hcount]; exact ⟨Nat.le_add_right _ _, Nat.add_lt_add_left hi _⟩)]
  show q.slotEntries.getD (q.f 1 0 8 + i - q.f 1 0 8) 0 = _
  rw [Nat.add_sub_cancel_left, hget i hi]

/-- The standby copy that SLOT_WRITE makes. -/
def SlotTable.written (x : SlotTable) (q : Request) : SlotCopy :=
  if q.slotHdr then { x.standby.write q.slotFirst q.slotEntries with length := q.f 1 16 9, gen := q.f 1 26 6 }
  else x.standby.write q.slotFirst q.slotEntries

theorem slotWriteAct_done {s : State} {q : Request} {g : Nat} (hsw : (s.slotTable (q.f 0 0 8)).swapping = false)
    (hpend : (s.slotTable (q.f 0 0 8)).pend = none) : slotWriteAct q s g =
      .done (s.setSlotTable (q.f 0 0 8) { s.slotTable (q.f 0 0 8) with pend := some ⟨g, some ((s.slotTable (q.f 0 0 8)).written q), false⟩ })
        (q.f 1 8 7 + b2n (q.b 0 17)) [w32 (q.f 1 8 7 + b2n (q.b 0 17)), 0] := by
  have hsw' : ¬ (s.slotTable q.slotTarget).swapping = true := by
    rw [Request.slotTarget, hsw]
    exact Bool.false_ne_true
  have hpend' : (s.slotTable q.slotTarget).pend = none := hpend
  unfold slotWriteAct
  dsimp only
  rw [if_neg hsw', hpend']
  rfl

theorem State.slotWrite_standby {s : State} {q : Request} (hs : s.single) (hpre : s.slotPre q = 0) (hb : q.b 0 16 = false)
    (hg : q.f 0 8 8 ≠ 0) (hopen : s.glueOpen? (q.f 0 8 8) = 0) (hpend : (s.slotTable (q.f 0 0 8)).pend = none)
    (hfull : (s.glueUp (q.f 0 8 8)).ops + q.f 1 8 7 + b2n (q.b 0 17) ≤ 4096) :
    s.slotWrite q = ((s.setSlotTable (q.f 0 0 8) { s.slotTable (q.f 0 0 8) with
        pend := some ⟨q.f 0 8 8, some ((s.slotTable (q.f 0 0 8)).written q), false⟩ }).addOps (q.f 0 8 8) (q.f 1 8 7 + b2n (q.b 0 17)),
      .final St.ok [w32 (q.f 1 8 7 + b2n (q.b 0 17)), 0]) := by
  unfold State.slotWrite
  rw [if_pos (by rw [Request.slotActive, hb]; exact Bool.false_ne_true)]
  exact State.glueOp_done hs hpre hg hopen (slotWriteAct_done (State.slotPre_good hpre).2 hpend) rfl (by rw [← Nat.add_assoc]; exact hfull)

theorem State.slotWrite_active {s : State} {q : Request} (hs : s.single) (hpre : s.slotPre q = 0) (hb : q.b 0 16 = true)
    (hbusy : s.slotWriteBusy q = false) : s.slotWrite q = (s.slotWriteActive q, .final St.ok [0, w32 s.glue.c.toNat]) := by
  unfold State.slotWrite
  rw [if_neg (by rw [Request.slotActive, hb]; simp)]
  refine State.mirrored_off hs ?_ rfl
  rw [if_neg (by simp [hpre]), if_neg (by simp [hbusy])]

theorem SlotTable.setActive_eq (x : SlotTable) (c : SlotCopy) : (x.setActive c).active = c ∧ (x.setActive c).standby = x.standby ∧
    (x.setActive c).deferred = x.deferred := by
  cases h : x.activeB <;> simp [SlotTable.setActive, SlotTable.active, SlotTable.standby, h]

theorem SlotTable.setStandby_eq (x : SlotTable) (c : SlotCopy) : (x.setStandby c).active = x.active ∧ (x.setStandby c).standby = c := by
  cases h : x.activeB <;> simp [SlotTable.setStandby, SlotTable.active, SlotTable.standby, h]

theorem SlotTable.flip_eq (x y : SlotTable) (ha : y.copyA = x.copyA) (hb : y.copyB = x.copyB) (h : y.activeB = !x.activeB) :
    y.active = x.standby ∧ y.standby = x.active := by
  cases hx : x.activeB <;> simp [SlotTable.active, SlotTable.standby, h, ha, hb, hx]

/-- A swap of one unclaimed table in an OPEN glue-up. -/
theorem slotSwapAct_done {s : State} {q : Request} {g n : Nat} (htab : q.swapTables = [n]) (hsw : (s.slotTable n).swapping = false)
    (hpend : (s.slotTable n).pend = none) : slotSwapAct q s g =
      .done (s.setSlotTable n { s.slotTable n with pend := some ⟨g, none, true⟩ }) 1 [1, 0] := by
  unfold slotSwapAct
  dsimp only
  rw [htab, if_neg (by simp [hsw])]
  simp only [List.findSome?_cons, hpend, List.findSome?_nil, Option.filter_none, List.foldl_cons, List.foldl_nil]
  rfl

theorem State.swapPre_good {s : State} {q : Request} {n : Nat} (h : s.swapPre q = 0) (htab : q.swapTables = [n]) :
    (s.slotTable n).swapping = false := by
  unfold State.swapPre at h
  split at h
  · exact absurd h (by decide)
  · split at h
    · exact absurd h (by decide)
    · next hany => simpa [htab] using hany

theorem State.swapCmd_good {s : State} {q : Request} {n : Nat} (hs : s.single) (hpre : s.swapPre q = 0) (hg : q.f 0 8 8 ≠ 0)
    (hopen : s.glueOpen? (q.f 0 8 8) = 0) (htab : q.swapTables = [n]) (hpend : (s.slotTable n).pend = none)
    (hfull : (s.glueUp (q.f 0 8 8)).ops < 4096) : s.glueOp Op.slotSwap q (s.swapPre q) (slotSwapAct q) =
      ((s.setSlotTable n { s.slotTable n with pend := some ⟨q.f 0 8 8, none, true⟩ }).addOps (q.f 0 8 8) 1, .final St.ok [1, 0]) :=
  State.glueOp_done hs hpre hg hopen (slotSwapAct_done htab (State.swapPre_good hpre htab) hpend) rfl hfull

/-- Settles O42: SLOT_WRITE and SLOT_SWAP through their attempts, and the row of each instant of a table. -/
theorem slotsComplete : Obligations.SlotsComplete := by
  unfold Obligations.SlotsComplete
  refine ⟨fun q s ht hs hpre => ⟨fun hb hg hopen hpend hfull => ?_, fun hb hbusy => ?_⟩,
    fun q s n ht hs hpre hg hopen htab hpend hfull => finish_final ht (State.swapCmd_good hs hpre hg hopen htab hpend hfull),
    fun s n hup => ⟨fun hcyc => .of_up hup rfl ?_, fun hcyc hlen hnext => .of_up hup rfl ?_, fun hsw hgen => .of_up hup rfl ?_,
      fun hback => .of_up hup rfl ?_, fun b i w hfw hdef hbusy => .of_fw hfw rfl ?_⟩⟩
  · obtain ⟨hlen, -⟩ := State.slotPre_good hpre
    refine ⟨_, (s.slotTable (q.f 0 0 8)).written q, finish_final ht (State.slotWrite_standby hs hpre hb hg hopen hpend hfull), ?_⟩
    have htab (x : SlotTable) (g k : Nat) : ((s.setSlotTable (q.f 0 0 8) x).addOps g k).slotTable (q.f 0 0 8) = x := s.slotTable_set_same _ _
    rw [htab]
    refine ⟨rfl, fun hh => ?_, fun i hi => ?_, rfl, rfl, ?_⟩
    · rw [SlotTable.written, if_pos (by exact hh)]
      exact ⟨rfl, rfl⟩
    · unfold SlotTable.written
      split
      · exact SlotCopy.entry_slotWrite _ hlen hi
      · exact SlotCopy.entry_slotWrite _ hlen hi
    · rw [State.addOps_self, Nat.add_assoc]
      rfl
  · obtain ⟨hlen, -⟩ := State.slotPre_good hpre
    refine ⟨_, finish_final ht (State.slotWrite_active hs hpre hb hbusy), ?_⟩
    have htab : (s.slotWriteActive q).slotTable (q.f 0 0 8) = (s.slotTable (q.f 0 0 8)).setActive
        ((s.slotTable (q.f 0 0 8)).active.write q.slotFirst q.slotEntries) := s.slotTable_set_same _ _
    obtain ⟨hact, hstand, -⟩ := SlotTable.setActive_eq (s.slotTable (q.f 0 0 8)) ((s.slotTable (q.f 0 0 8)).active.write q.slotFirst q.slotEntries)
    rw [htab, hact, hstand]
    exact ⟨fun i hi => SlotCopy.entry_slotWrite _ hlen hi, rfl⟩
  · have htab := s.slotTable_untilNs (s.nextCycle (s.slotTable n)).toNat n
    rw [if_neg (by simp [hcyc])]
    dsimp only
    generalize s.untilNs (s.nextCycle (s.slotTable n)).toNat = u at htab ⊢
    by_cases h : (s.slotTable n).swapPend = true ∧ (s.slotTable n).swapFrom ≤ s.nextCycle (s.slotTable n)
    · rw [if_pos h, if_pos h, State.slotTable_after, State.switchSlots_table, htab]
      obtain ⟨hact, -⟩ := SlotTable.flip_eq (s.slotTable n) ((s.slotTable n).switched (s.nextCycle (s.slotTable n))) rfl rfl rfl
      exact ⟨rfl, rfl, hact, rfl, rfl⟩
    · rw [if_neg h, if_neg h, State.slotTable_after, State.slotTable_set_same]
      exact ⟨rfl, rfl, rfl, rfl⟩
  · rw [if_neg (by simp [hcyc]; omega), State.slotTable_after, State.slotTable_set_same]
  · rw [if_neg (by simp [hsw]; exact fun h => hgen.resolve_left h), State.slotTable_after, State.switchSlots_table, State.slotTable_untilNs]
    obtain ⟨hact, hstand⟩ := SlotTable.flip_eq (s.slotTable n) ((s.slotTable n).switched (s.swapInstant (s.slotTable n))) rfl rfl rfl
    exact ⟨hact, hstand, rfl, rfl, rfl, rfl⟩
  · rw [if_pos hback, State.slotTable_after, State.slotTable_set_same]
    obtain ⟨hact, hstand⟩ := SlotTable.setStandby_eq (s.slotTable n) (s.slotTable n).active
    exact ⟨hstand, hact, rfl⟩
  · dsimp only
    rw [hdef, List.partition_eq_filter_filter]
    simp only [List.filter_cons, List.filter_nil, hbusy, Function.comp, Bool.not_false, if_true, if_false, Bool.false_eq_true, List.foldl_cons, List.foldl_nil]
    rw [State.slotTable_after, State.slotTable_set_same]
    obtain ⟨hact, hstand, -⟩ := SlotTable.setActive_eq (s.slotTable n) ((s.slotTable n).active.write i [w])
    refine ⟨?_, rfl, hstand⟩
    show ((s.slotTable n).setActive ((s.slotTable n).active.write i [w])).active.entry i = w
    rw [hact, SlotCopy.entry_write, if_pos (by simp)]
    simp

end Sys2Proof.Machine


/-! The commands of the switch (R314 to R320). -/

namespace Sys2Proof.Machine

/-! ## PORT_CONFIG, QUEUE_CONFIG and the budget -/

theorem State.portConfig_good {s : State} {q : Request} (h0 : q.stray 0 0x000F171F = false) (hmode : q.f 0 8 3 ≤ 6)
    (h1 : q.stray 1 0x3FFF = false) (hlo : 64 ≤ q.f 1 0 14) (hhi : q.f 1 0 14 ≤ 9216) (hr : q.roleSet.stray = false)
    (hw : s.roleWave q.roleSet = false) (hkeep : q.f 0 8 3 = (s.ethPort (q.f 0 0 5)).mode) :
    s.portConfig q = (s.setEth (q.f 0 0 5) { s.ethPort (q.f 0 0 5) with
      mode := q.f 0 8 3, lat := q.b 0 12, defTc := q.f 0 16 3, trustPcp := q.b 0 19, maxFrame := q.f 1 0 14, portUser := q.w 2
      roles := q.roleSet }, .final St.ok []) := by
  unfold State.portConfig
  dsimp only
  rw [if_neg (by simp [h0, h1, hr]; omega), if_neg (by simp [hw]), if_pos hkeep]
  rfl

theorem Holder.over_eq (x : Holder) (o : Bool) (now : Nat) :
    (x.over o now).min = x.min ∧ (x.over o now).quota = x.quota ∧ (x.over o now).used = x.used := ⟨rfl, rfl, rfl⟩

theorem State.keepLimits_holders (s : State) : s.keepLimits.sw.holders = s.sw.holders := by
  unfold State.keepLimits
  split <;> rfl

theorem State.keepLimits_holder (s : State) (k : Nat) : s.keepLimits.holder k = s.holder k := by
  simp [State.holder, s.keepLimits_holders]

theorem State.keepLimits_setLimits (s : State) (h : HolderSet) :
    (s.keepLimits.setLimits h).sw.holders = (s.setLimits h).sw.holders := by
  have hage : s.keepLimits.clk = s.clk := by unfold State.keepLimits; split <;> rfl
  simp only [State.setLimits, State.setHolder, s.keepLimits_holder, s.keepLimits_holders, hage]

theorem State.setLimits_holder (s : State) (h : HolderSet) :
    ((s.setLimits h).holder h.holder).min = h.min ∧ ((s.setLimits h).holder h.holder).quota = h.quota ∧
    ((s.setLimits h).holder h.holder).used = (s.holder h.holder).used ∧ ∀ k, k ≠ h.holder → (s.setLimits h).holder k = s.holder k := by
  unfold State.setLimits
  dsimp only
  rw [s.holder_setHolder_same]
  exact ⟨rfl, rfl, rfl, fun k hk => s.holder_setHolder_ne _ hk⟩

theorem State.queueConfig_one {s : State} {q : Request} {h : HolderSet} (hset : q.holderSets = [h]) (hbad : h.bad = false)
    (hsum : (s.setLimits h).sumMin ≤ 98304) : ∃ w, s.queueConfig q = (s.keepLimits.setLimits h, .final St.ok w) := by
  have hsum' : ¬ 98304 < (s.keepLimits.setLimits h).sumMin := by
    rw [State.sumMin, s.keepLimits_setLimits]
    exact Nat.not_lt.mpr hsum
  unfold State.queueConfig
  dsimp only
  rw [hset, if_neg (by simp [hbad, List.eraseDups_cons]), List.foldl_cons, List.foldl_nil, if_neg hsum']
  exact ⟨_, rfl⟩

/-- A final reply of OK on the SPI port queues no frame. -/
theorem State.reply_spi_sw (s : State) {op : Nat} {q : Request} (w : List Word) (hop : op ≠ 0) (hspi : q.stream = .spi) :
    (s.reply op q 0 w).sw = s.sw := by
  have hclose (t : State) : (t.closeCmd q).sw = t.sw := by
    unfold State.closeCmd
    cases t.cmdOf q with
    | none => rfl
    | some c =>
      dsimp only
      rw [hspi]
      split
      · rfl
      · split <;> rfl
  unfold State.reply
  dsimp only
  split
  · rfl
  · rw [State.replyFrom, if_neg (fun h => hop h.1)]
    refine (hclose _).trans ?_
    simp only [State.toStream, hspi]
    split <;> rfl

theorem State.frameBudgetSet_good {s : State} {q : Request} (h0 : q.stray 0 0x3FF = false) (hlo : 2 ≤ q.f 0 0 10) (hhi : q.f 0 0 10 ≤ 1000) :
    ∃ w, s.frameBudgetSet q = (s.wr Reg.switchBudget (w32 (q.f 0 0 10)), .final St.ok w) := by
  unfold State.frameBudgetSet
  dsimp only
  rw [if_neg (by simp [h0]; omega)]
  exact ⟨_, rfl⟩

/-! ## Policers and groups -/

theorem policerAct_done {s : State} {q : Request} {g : Nat} (hpend : (s.policer (q.f 1 0 16)).pend = none) : policerAct q s g =
    .done (s.setPolicer (q.f 1 0 16) { s.policer (q.f 1 0 16) with pend := some (g, q.policer, q.b 0 18) }) 1 [] := by
  unfold policerAct
  dsimp only
  rw [hpend]

theorem mcastAct_done {s : State} {q : Request} {g : Nat} (hpend : (s.groupVers (q.f 1 0 12)).pend = none) : mcastAct q s g =
    .done (s.setGroup (q.f 1 0 12) { s.groupVers (q.f 1 0 12) with
      pend := some (g, ⟨q.w 2, q.w 3, q.w 4, q.b 0 16, q.b 0 17⟩, false) }) 1 [] := by
  unfold mcastAct
  dsimp only
  rw [hpend]
  rfl

theorem State.policerRead_good {s u : State} {q : Request} {ws : List DWord} {c : Nat} (h0 : q.stray 0 0x1FFFF = false)
    (hn : q.f 0 0 16 < s.coh.ctrLines) (hkeep : q.b 0 16 = false)
    (hread : s.atomicBy 8 (s.coh.ctrBase + q.f 0 0 16) .readLine = (u, some (ws, c))) : s.policerRead q =
      (u, .final St.ok ((u.policerAt (q.f 0 0 16) u.glue.c).words (q.f 0 0 16) ++ ws.flatMap (fun d => toWords 2 d.toNat))) := by
  unfold State.policerRead
  dsimp only
  rw [if_neg (by simp [h0]; omega), hread]
  dsimp only
  rw [if_neg (by simp [hkeep])]

theorem State.portStats_good {s : State} {q : Request} (h0 : q.stray 0 0x1FF = false) (hport : portValid (q.f 0 0 8)) :
    s.portStats q = (if q.b 0 8 then s.clearStats (q.f 0 0 8) else s, .final St.ok (s.portWords (q.f 0 0 8))) := by
  unfold State.portStats
  dsimp only
  rw [if_neg (by simp [h0, hport])]

/-- Settles O37: each command ends with a final reply after its one change of the switch. -/
theorem switchCommandsComplete : Obligations.SwitchCommandsComplete := by
  unfold Obligations.SwitchCommandsComplete
  refine ⟨fun q s ht h0 hmode h1 hlo hhi hr hw hkeep => finish_final ht (State.portConfig_good h0 hmode h1 hlo hhi hr hw hkeep),
    fun q s h ht hset hbad hsum => ?_,
    fun q s ht hs hpre hg hopen hpend hfull => finish_final ht (State.glueOp_done hs hpre hg hopen (policerAct_done hpend) rfl hfull),
    fun q s ht hs h0 h1 hg hopen hpend hfull =>
      finish_final ht (State.glueOp_done hs (if_neg (by simp [h0, h1])) hg hopen (mcastAct_done hpend) rfl hfull),
    fun q s u ws c ht h0 hn hkeep hread => finish_final ht (State.policerRead_good h0 hn hkeep hread),
    fun q s ht h0 hlo hhi => ?_, fun q s ht h0 hport => finish_final ht (State.portStats_good h0 hport)⟩
  · obtain ⟨w, hbody⟩ := State.queueConfig_one hset hbad hsum
    obtain ⟨hmin, hquota, hused, hother⟩ := s.keepLimits.setLimits_holder h
    refine .of_taken ht rfl ?_
    rw [hbody, endCmd_final]
    have hlim := (State.reply_answered (s.keepLimits.setLimits h) q w (op := Op.queueConfig) (by decide)).limits h.holder
    refine ⟨hlim.1.trans hmin, hlim.2.trans hquota, fun hspi => ?_⟩
    have hsw := (s.keepLimits.setLimits h).reply_spi_sw (op := Op.queueConfig) w (by decide) hspi
    have hholder (k : Nat) : (s.after ((s.keepLimits.setLimits h).reply Op.queueConfig q 0 w)).holder k = (s.keepLimits.setLimits h).holder k := by
      show smGet _ ((s.keepLimits.setLimits h).reply Op.queueConfig q 0 w).sw.holders k = _
      rw [hsw]
      rfl
    refine ⟨?_, fun k hk => ?_⟩
    · rw [hholder, hused, s.keepLimits_holder]
    · rw [hholder, hother k hk, s.keepLimits_holder]
  · obtain ⟨w, hbody⟩ := State.frameBudgetSet_good (s := s) h0 hlo hhi
    refine .of_final ht rfl hbody (by decide) fun u hu => ?_
    have hrf : u.rf Reg.switchBudget 0 10 = q.f 0 0 10 := by
      rw [hu.rf (.inl (by decide)), State.rf, State.rd_wr_same, fld_w32 _ _ (by decide)]
      exact Nat.mod_eq_of_lt (fld_lt _ _ _)
    show min 1000 (max 2 (u.rf Reg.switchBudget 0 10)) * 1250 = _
    rw [hrf]
    congr 1
    omega

end Sys2Proof.Machine


/-! The update and settings commands (R500 to R515). -/

namespace Sys2Proof.Machine

/-! ## The flash -/

/-- `t` is `s` but for what the boot flash holds. -/
def State.Flashed (s t : State) : Prop := ∃ f, t = { s with upd := { s.upd with flash := f } }

theorem State.Flashed.trans {s t u : State} (h : s.Flashed t) (k : t.Flashed u) : s.Flashed u := by
  obtain ⟨_, rfl⟩ := h
  obtain ⟨_, rfl⟩ := k
  exact ⟨_, rfl⟩

theorem State.flErase_flashed (s : State) (o n : Nat) : s.Flashed (s.flErase o n) := ⟨_, rfl⟩

theorem State.flProgram_flashed (s : State) (o : Nat) (b : List Byte) : s.Flashed (s.flProgram o b) := ⟨_, rfl⟩

theorem State.writePtr_flashed (s : State) (p : BootPtr) : s.Flashed (s.writePtr p) := by
  unfold State.writePtr
  exact (s.flErase_flashed _ _).trans (State.flProgram_flashed _ _ _)

theorem State.record_flashed (s : State) (kind index total : Nat) (tag check : Word) : s.Flashed (s.record kind index total tag check) := by
  unfold State.record
  exact s.flProgram_flashed _ _

/-! ## The first chunk of a session -/

theorem State.store_setStore_same (s : State) (b : Bool) (x : Store) : (s.setStore b x).store b = x := by
  cases b <;> rfl

theorem State.setStore_delivered (s : State) (b : Bool) (x : Store) : (s.setStore b x).upd.delivered = s.upd.delivered := by
  cases b <;> rfl

theorem State.setStore_frame (s : State) (b : Bool) (x : Store) :
    (s.setStore b x).inactive = s.inactive ∧ (s.setStore b x).upd.chunks = s.upd.chunks := by
  cases b <;> exact ⟨rfl, rfl⟩

theorem State.eraseBank_delivered (s : State) (b : Bool) : (s.eraseBank b).upd.delivered ≠ some b := by
  show (if s.upd.delivered = some b then none else s.upd.delivered) ≠ some b
  split
  · simp
  · assumption

/-- The journal of a new session, behind the pointer that gives up the other bank. -/
def State.newSession (s : State) (total : Nat) (tag : Word) : State :=
  ((s.writePtr { s.ptr with prevOk := false }).flErase 0x10000 0x10000).record 1 0 total tag 0

theorem State.newSession_flashed (s : State) (total : Nat) (tag : Word) : s.Flashed (s.newSession total tag) :=
  ((s.writePtr_flashed _).trans (State.flErase_flashed _ 0x10000 0x10000)).trans (State.record_flashed _ 1 0 total tag 0)

/-- The rest of the opening of a session: the other bank, its settings and what was verified are given up. -/
def State.giveUpBank (n : State) (first : Bool) : State :=
  let t := (n.eraseBank n.inactive).setStore n.inactive { store0 with valid := false }
  { t with upd := { t.upd with headerFirst := first, verified := false } }

theorem State.giveUpBank_eq (n : State) (first : Bool) :
    (n.giveUpBank first).upd.verified = false ∧ (n.giveUpBank first).upd.headerFirst = first ∧
    ((n.giveUpBank first).store n.inactive).valid = false ∧ (n.giveUpBank first).upd.delivered ≠ some n.inactive ∧
    (n.giveUpBank first).inactive = n.inactive ∧ (n.giveUpBank first).upd.chunks = n.upd.chunks := by
  obtain ⟨hin, hch⟩ := (n.eraseBank n.inactive).setStore_frame n.inactive { store0 with valid := false }
  refine ⟨rfl, rfl, congrArg Store.valid ((n.eraseBank n.inactive).store_setStore_same _ _), ?_, hin, hch⟩
  show ((n.eraseBank n.inactive).setStore n.inactive _).upd.delivered ≠ _
  rw [State.setStore_delivered]
  exact n.eraseBank_delivered _

theorem State.openDownload_eq (s : State) (total : Nat) (tag : Word) (first : Bool) :
    s.openDownload total tag first = (s.newSession total tag).giveUpBank first := rfl

/-- A first chunk opens a session and waits for its flash write. -/
theorem State.takeChunk_first {s : State} {c : ChunkWrite} (hshape : c.shapeOk = true) (htrial : s.upd.onTrial = false)
    (hheld : s.bankHeld = false) (hd : s.download = none) (hcrc : flashCrc c.data = c.check.toNat) (hrec : s.pwr.recovery = false)
    (hlink : c.link = none) (hch : s.upd.chunks = []) : ∃ u, s.takeChunk c restart false = { u with upd := { u.upd with chunks := u.upd.chunks ++ [c] } } ∧
      u = (s.newSession c.total c.tag).giveUpBank false := by
  refine ⟨_, ?_, rfl⟩
  unfold State.takeChunk
  simp only [hshape, htrial, hheld, hd, hcrc, hrec, hlink, hch, Option.isNone_none, Option.isSome_none, Bool.true_or, Bool.false_or,
    Bool.not_true, Bool.false_eq_true, not_true, false_and, if_false, if_true, ne_eq, List.length_nil,
    State.finishChunks, State.openDownload_eq]

theorem State.updateChunk_first {s : State} {q : Request} {c : ChunkWrite} (hlock : s.rb Reg.updateLock 0 = true) (h0 : q.stray 0 0x1FFF7F1F = false)
    (hc : c = ⟨q.f 0 0 5, q.f 0 8 5, q.w 1, q.w 2, (bytesOf (q.words.drop 3)).take (q.f 0 16 13), some q, none, false⟩)
    (hshape : c.shapeOk = true) (hlen : c.data.length = q.f 0 16 13) (hwords : q.words.length = 3 + ceilDiv (q.f 0 16 13) 4) :
    s.updateChunk q = (s.takeChunk c (q.b 0 13) (q.b 0 14), .quiet) := by
  have hrange : ({ c with data := List.replicate (q.f 0 16 13) (0 : Byte) } : ChunkWrite).shapeOk = true := by
    rw [ChunkWrite.shapeOk, List.length_replicate, ← hlen]
    exact hshape
  subst hc
  unfold State.updateChunk
  dsimp only
  rw [if_neg (by simp [hlock]), if_neg (by simp [h0]), if_neg (not_not_intro hrange), if_neg (by simp [hwords])]

/-! ## Activation, confirmation and fallback -/

theorem State.Flashed.upd {s t : State} (h : s.Flashed t) : t.upd = { s.upd with flash := t.upd.flash } := by
  obtain ⟨_, rfl⟩ := h
  rfl

theorem State.updateActivate_good {s : State} (q : Request) (hlock : s.rb Reg.updateLock 1 = true) (htrial : s.upd.onTrial = false)
    (hver : s.upd.verified = true) (hfloor : s.belowFloor s.inactive = false) (hrec : s.pwr.recovery = false) : ∃ u : State,
    s.updateActivate q = (u, .final St.ok [w32 (b2n s.inactive)]) ∧ u.upd.restart = q.b 0 1 ∧ u.upd.bank = s.upd.bank ∧
      u.upd.running = s.upd.running := by
  unfold State.updateActivate
  dsimp only
  rw [if_neg (by simp [hlock]), if_neg (by simp [htrial]), if_neg (by simp [hver]), if_neg (by simp [hfloor]),
    if_neg (by simp [hrec])]
  generalize ({ s.ptr with active := s.inactive, trial := true, prevOk := true, tries := 0, auto := q.b 0 0, trialStart := 0 } : BootPtr) = p
  have hptr := s.writePtr_flashed p
  generalize s.writePtr p = t at hptr ⊢
  obtain ⟨f, hf⟩ := hptr.trans (t.record_flashed 3 0 (t.download.elim 0 (·.total)) (t.download.elim 0 (·.tag)) 0)
  rw [hf]
  exact ⟨_, rfl, by simp [hrec], rfl, rfl⟩

theorem State.fallBack_eq (s : State) (reason : Nat) (left : Word) :
    ∃ f, s.fallBack reason left = { s with upd := { s.upd with flash := f, bootEvents := s.upd.bootEvents ++ [(2, w32 reason, left)] } } := by
  unfold State.fallBack
  dsimp only
  obtain ⟨f, hf⟩ := s.writePtr_flashed { s.ptr with
    active := !s.ptr.active, trial := false, tries := 0, prevOk := !s.ptr.trial, lastFallback := reason }
  rw [hf]
  exact ⟨_, rfl⟩

theorem State.fallAndRestart_eq (s : State) (reason : Nat) : (s.fallAndRestart reason).upd.restart = true ∧
    (s.fallAndRestart reason).upd.onTrial = false ∧
    (s.fallAndRestart reason).upd.bootEvents = s.upd.bootEvents ++ [(2, w32 reason, s.upd.running.version)] := by
  obtain ⟨f, hf⟩ := s.fallBack_eq reason s.upd.running.version
  refine ⟨rfl, rfl, ?_⟩
  show (s.fallBack reason s.upd.running.version).upd.bootEvents = _
  rw [hf]

/-- The fuses that a confirmation burns for the image that runs. -/
def State.fused (s : State) : State :=
  { s with upd := { s.upd with
    floor := if s.upd.running.raise then max s.upd.floor s.upd.running.svn else s.upd.floor
    revoked := s.upd.revoked ||| (s.upd.running.revoke - nfld s.upd.running.revoke s.upd.running.keyId 1 * 2 ^ s.upd.running.keyId) } }

theorem State.burnFloor_eq (s : State) : (s.burnFloor).upd.onTrial = s.upd.onTrial ∧ s.upd.floor ≤ s.burnFloor.upd.floor ∧
    s.burnFloor.upd.bank = s.upd.bank := by
  have h := (s.fused.writePtr_flashed { s.fused.ptr with floorPending := false }).upd
  change s.burnFloor.upd = _ at h
  have hfloor : s.upd.floor ≤ s.fused.upd.floor := by
    show s.upd.floor ≤ if s.upd.running.raise then max s.upd.floor s.upd.running.svn else s.upd.floor
    split
    · exact Nat.le_max_left _ _
    · exact Nat.le_refl _
  rw [h]
  exact ⟨rfl, hfloor, rfl⟩

theorem State.confirmTrial_eq (s : State) : s.confirmTrial.upd.onTrial = false ∧ s.upd.floor ≤ s.confirmTrial.upd.floor ∧
    s.confirmTrial.upd.bank = s.upd.bank := by
  unfold State.confirmTrial
  dsimp only
  generalize ((s.upd.running.raise && decide (s.upd.floor < s.upd.running.svn)) || _) = due
  obtain ⟨f, hf⟩ := s.writePtr_flashed { s.ptr with trial := false, tries := 0, floorPending := due }
  rw [hf]
  split
  · obtain ⟨ht, hfl, hb⟩ := State.burnFloor_eq { s with upd := { s.upd with flash := f, onTrial := false } }
    exact ⟨ht, hfl, hb⟩
  · exact ⟨rfl, Nat.le_refl _, rfl⟩

theorem State.healthOk_readable {s : State} (h : s.healthOk = true) : s.upd.unreadable = false := by
  simp only [State.healthOk, Bool.and_eq_true, Bool.not_eq_true'] at h
  exact h.1.1.2

theorem State.updateConfirm_keep {s : State} {q : Request} (htrial : s.upd.onTrial = true) (h0 : q.b 0 0 = false) (hok : s.healthOk = true) :
    s.updateConfirm q = (s.confirmTrial, .final St.ok [w32 s.confirmTrial.upd.floor]) := by
  unfold State.updateConfirm
  rw [if_neg (by simp [htrial]), if_neg (by simp [h0]), if_neg (by simp [State.healthOk_readable hok]), if_neg (by simp [hok])]

theorem State.updateConfirm_refuse {s : State} {q : Request} (htrial : s.upd.onTrial = true) (h0 : q.b 0 0 = true) :
    s.updateConfirm q = (s.fallAndRestart 4, .final St.ok []) := by
  unfold State.updateConfirm
  rw [if_neg (by simp [htrial]), if_pos h0]
  rfl

theorem State.forceFallback_good {s : State} (q : Request) (hlock : s.rb Reg.updateLock 1 = true)
    (h : s.upd.onTrial = true ∨ s.ptr.prevOk = true ∧ s.belowFloor (!s.upd.bank) = false) : ∃ u : State,
    s.forceFallback q = (u, .final St.ok []) ∧ u.upd.restart = true ∧
      u.upd.bootEvents = s.upd.bootEvents ++ [(2, 5, s.upd.running.version)] := by
  unfold State.forceFallback
  dsimp only
  rw [if_neg (by simp [hlock])]
  by_cases htrial : s.upd.onTrial = true
  · obtain ⟨hr, -, hev⟩ := s.fallAndRestart_eq 5
    rw [if_pos htrial]
    exact ⟨_, rfl, hr, hev⟩
  · obtain ⟨hprev, hfloor⟩ := h.resolve_left htrial
    rw [if_neg htrial, if_neg (by simp [hprev]), if_neg (by simp [hfloor])]
    obtain ⟨f, hf⟩ := s.writePtr_flashed { s.ptr with active := !s.upd.bank, prevOk := true, lastFallback := 5 }
    rw [hf]
    exact ⟨_, rfl, rfl, rfl⟩

/-! ## Relays and settings -/

theorem State.updateRelay_one {s : State} {q : Request} (h0 : q.stray 0 0x11F = false) (h1 : q.w 1 = 0) (hbusy : s.updBusy = false)
    (hsrc : q.b 0 0 = false) (hver : s.upd.verified = true) (hl : allLinks.filter (fun l => q.b 0 l.num) = [.d1]) : s.updateRelay q =
      ((s.replyPending Op.updateRelay q).startRelay s.inactive (s.download.elim 0 (·.tag)) [.d1] (q.b 0 8) (some q), .quiet) := by
  unfold State.updateRelay
  dsimp only
  rw [hl, if_neg (by simp [h0, h1]), if_neg (by simp [hbusy]), if_neg (by simp [hver])]
  simp only [hsrc, Bool.false_eq_true, if_false]

/-- A relay to one link that is up begins with its first chunk, and waits for the answer. -/
theorem State.startRelay_one (s : State) (bank : Bool) (tag : Word) {l : LinkId} (recurse : Bool) (who : Option Request)
    (hup : s.linkIsUp l = true) : (s.startRelay bank tag [l] recurse who).upd = { s.upd with
      relay := some ⟨bank, tag, [⟨l, 0, none, s.clk.age⟩], recurse, who⟩ } := by
  have hup' (r : Option Relay) : State.linkIsUp { s with upd := { s.upd with relay := r } } l = true := hup
  unfold State.startRelay
  dsimp only
  rw [List.filter_cons, if_pos (hup' _), List.filter_nil, List.foldl_cons, List.foldl_nil, List.map_cons, List.map_nil, if_pos hup]
  rfl

theorem bytesTake_length (n : Nat) (b : List Byte) : (b.take n).length ≤ n := by
  rw [List.length_take]
  exact Nat.min_le_left _ _

section
variable {s : State} {q : Request} (h0 : q.stray 0 0x03FF0003 = false) (happ : s.upd.apply = none)
include h0 happ

theorem State.settingsSave_write (hop : q.f 0 0 2 = 0) (hlen : 5 ≤ q.words.length) (hplen : q.words.length = 5 + q.packet.plen)
    (hok : recordOk q.packet = true) (hroom : s.ownStore.size + 16 + 4 * q.packet.plen ≤ 262144) : s.settingsSave q =
      ({ s with upd := { s.upd with
        settings := s.upd.settings ++ [⟨q.f 0 16 10, (bytesOf (q.words.drop 1)).take (16 + 4 * q.packet.plen), q⟩] } }, .quiet) := by
  have hsize := bytesTake_length (16 + 4 * q.packet.plen) (bytesOf (q.words.drop 1))
  unfold State.settingsSave
  dsimp only
  rw [if_neg (by simp [h0]), if_neg (by rw [hop]; omega), if_neg (by simp [happ])]
  simp only [hop]
  rw [if_neg (not_not_intro hok), if_neg (by omega)]

theorem State.settingsSave_clearNone (hop : q.f 0 0 2 = 1) (hlen : q.words.length = 1)
    (hnone : smGet [] s.ownStore.records (q.f 0 16 10) = []) : s.settingsSave q = (s, .final St.ok [w32 s.ownStore.gen]) := by
  unfold State.settingsSave
  dsimp only
  rw [if_neg (by simp [h0]), if_neg (by rw [hop]; omega), if_neg (by simp [happ])]
  simp only [hop]
  rw [if_pos hnone]

theorem State.settingsSave_read (hop : q.f 0 0 2 = 2) (hlen : q.words.length = 1) : s.settingsSave q = (s, .final St.ok
      (w32 (b2n (!(smGet [] s.ownStore.records (q.f 0 16 10)).isEmpty)) ::
        wordsOf ((smGet [] s.ownStore.records (q.f 0 16 10)).length / 4) (smGet [] s.ownStore.records (q.f 0 16 10)))) := by
  unfold State.settingsSave
  dsimp only
  rw [if_neg (by simp [h0]), if_neg (by rw [hop]; omega), if_neg (by simp [happ])]
  simp only [hop]

end

/-- Settles O58: each command's good arm, with what it leaves of the update unit. -/
theorem updateCommandsComplete : Obligations.UpdateCommandsComplete := by
  unfold Obligations.UpdateCommandsComplete
  refine ⟨fun q s c ht hlock h0 hc hshape hlen hwords htrial hheld hd hcrc hfirst hrec hch => .of_taken ht rfl ?_,
    fun q s ht hbusy hd => ?_, fun q s ht hlock htrial hver hfloor hrec => ?_, fun q s ht htrial => ⟨fun h0 hok => ?_, fun h0 => ?_⟩,
    fun q s ht hlock h => ?_, fun q s ht => ?_, fun q s ht h0 h1 hbusy hsrc hver hl hup => .of_taken ht rfl ?_,
    fun q s ht h0 happ => ⟨fun hop hlen hplen hok hroom => ?_,
      fun hop hlen hnone => finish_final ht (State.settingsSave_clearNone h0 happ hop hlen hnone),
      fun p hop hlen hp => hp ▸ finish_final ht (State.settingsSave_read h0 happ hop hlen)⟩⟩
  · have hlink : c.link = none := by rw [hc]
    obtain ⟨u, htake, hu⟩ := State.takeChunk_first (restart := q.b 0 13) hshape htrial hheld hd hcrc hrec hlink hch
    rw [State.updateChunk_first hlock h0 hc hshape hlen hwords, hfirst, htake]
    have hnew := s.newSession_flashed c.total c.tag
    obtain ⟨hver, hhf, hstore, hdel, hin, hch'⟩ := (s.newSession c.total c.tag).giveUpBank_eq false
    rw [← hu] at hver hhf hstore hdel hin hch'
    have hin' : (s.newSession c.total c.tag).inactive = s.inactive := by
      obtain ⟨f, hf⟩ := hnew
      rw [hf]
      rfl
    have hchunks : (s.newSession c.total c.tag).upd.chunks = [] := by rw [hnew.upd, hch]
    refine ⟨?_, hver, hhf, ?_, ?_, hin.trans hin'⟩
    · show u.upd.chunks ++ [c] = [c]
      rw [hch', hchunks, List.nil_append]
    · show (u.store u.inactive).valid = false
      rw [hin]
      exact hstore
    · show u.upd.delivered ≠ some u.inactive
      rw [hin]
      exact hdel
  · have hbody : s.updateVerify q = ({ s with upd := { s.upd with verifying := some (some q) } }, .pendElse) := by
      rw [State.updateVerify, if_neg (by simp [hbusy]), if_neg (by simp [hd])]
    show finish s (runCmd Op.updateVerify q State.updateVerify s) = _
    rw [runCmd_taken _ ht, hbody]
    rfl
  · obtain ⟨u, hbody, h⟩ := State.updateActivate_good q hlock htrial hver hfloor hrec
    exact ⟨u, finish_final ht hbody, h⟩
  · exact ⟨_, finish_final ht (State.updateConfirm_keep htrial h0 hok), s.confirmTrial_eq⟩
  · exact ⟨_, finish_final ht (State.updateConfirm_refuse htrial h0), s.fallAndRestart_eq 4⟩
  · obtain ⟨u, hbody, h⟩ := State.forceFallback_good q hlock h
    exact ⟨u, finish_final ht hbody, h⟩
  · refine ⟨_, finish_final ht rfl, ?_⟩
    split
    · exact .inr rfl
    · exact .inl rfl
  · rw [State.updateRelay_one h0 h1 hbusy hsrc hver hl]
    have ha := s.replyPending_answered (op := Op.updateRelay) q (by decide)
    obtain ⟨-, -, hclk, -, -, -, -, -, hfab, -⟩ := ha.frame
    have hup' : (s.replyPending Op.updateRelay q).linkIsUp .d1 = true := by
      rw [State.linkIsUp, if_neg (by decide), hfab]
      exact hup
    have hupd := State.startRelay_one _ s.inactive (s.download.elim 0 (·.tag)) (q.b 0 8) (some q) hup'
    rw [hclk] at hupd
    refine ⟨congrArg UpdSt.relay hupd, (congrArg UpdSt.verified hupd).trans ?_⟩
    show (s.replyPending Op.updateRelay q).upd.verified = true
    rw [ha.upd]
    exact hver
  · show finish s (runCmd Op.settingsSave q State.settingsSave s) = _
    rw [runCmd_taken _ ht, State.settingsSave_write h0 happ hop hlen hplen hok hroom]
    rfl

end Sys2Proof.Machine


/-! Membership of a Dovetail fabric: joins, departures, links and the transfer of time (R266, R267, R274 to R276). -/

namespace Sys2Proof.Machine

/-! ## Joins and departures -/

/-- The join that FABRIC_JOIN of an untwinned device begins. -/
def State.joinOf (s : State) (q : Request) : JoinReq :=
  ⟨q.f 0 0 9, 0, 0, q.f 0 0 9, q.f 0 16 3, false, q.f 1 0 8, s.quantum⟩

section
variable {s : State} {q : Request} (h0 : q.stray 0 0x1701FF = false) (h1 : q.stray 1 0xFF = false) (hdepth : q.f 0 16 3 ≠ 0)
  (hbase : q.f 1 0 8 = 0 ∨ 128 ≤ q.f 1 0 8 ∧ q.f 1 0 8 ≤ 254) (hout : s.fab.joined = false) (hnone : s.fab.join = none)
  (hquant : 4 ≤ s.quantum) (htwin : q.b 0 20 = false)
include h0 h1 hdepth hbase hout hnone hquant htwin

theorem State.fabricJoin_forms (hnode : q.f 0 0 9 = 0) : s.fabricJoin q = ({ s with fab := { s.fab with
    join := some ⟨⟨0, 0, 0, 0, q.f 0 16 3, false, q.f 1 0 8, s.quantum⟩, s.clk.age, false⟩, decision := none } }, .pend .join []) := by
  unfold State.fabricJoin
  dsimp only
  rw [if_neg (by simp [h0, h1]; omega), if_neg (by simp [hout, hnone]), if_neg (by simp [htwin]; omega), if_neg (by simp [hnode, htwin])]
  simp [hnode, htwin]

theorem State.fabricJoin_sends (hnode : q.f 0 0 9 ≠ 0) (hup : s.linkIsUp .d0 = true) :
    s.fabricJoin q = (({ s with fab := { s.fab with join := some ⟨s.joinOf q, s.clk.age, true⟩, decision := none } } : State).send
      .d0 (.join (s.joinOf q)), .pend .join []) := by
  unfold State.fabricJoin
  dsimp only
  rw [if_neg (by simp [h0, h1]; omega), if_neg (by simp [hout, hnone]), if_neg (by simp [htwin]; omega), if_neg (by simp [hnode, hup])]
  simp [hnode, htwin, State.sendJoin, State.joinOf]

end

theorem State.fabricLeave_own {s : State} {q : Request} (h0 : q.stray 0 0x101FF = false) (hin : s.fab.joined = true)
    (hself : q.b 0 16 = false) (hleaf : s.hasChildren = false) (hnone : s.fab.leaves = []) :
    s.fabricLeave q = ({ s with fab := { s.fab with leaves := [(s.ownAddr, 1)] } }, .pend .leave []) := by
  unfold State.fabricLeave
  dsimp only
  rw [if_neg (by simp [h0]), if_neg (by simp [hin]), if_neg (by simp [hself]), if_neg (by simp [hleaf])]
  simp [hnone]

theorem State.fabricLeave_evict {s : State} {q : Request} (h0 : q.stray 0 0x101FF = false) (hin : s.fab.joined = true)
    (hev : q.b 0 16 = true) (hco : s.coordinator = true) (hmem : s.fab.members.any (fun m => m.addr / 2 == q.f 0 0 9) = true)
    (hnone : s.fab.leaves = []) :
    s.fabricLeave q = ({ s with fab := { s.fab with leaves := [(q.f 0 0 9, 2)] } }, .pend (.evict (q.f 0 0 9)) []) := by
  unfold State.fabricLeave
  dsimp only
  rw [if_neg (by simp [h0]), if_neg (by simp [hin]), if_pos hev, if_neg (by simp [hco]), if_neg (not_not_intro hmem)]
  simp [hnone]

/-- A command that is taken and waits. -/
theorem finish_pend {op : Nat} {q : Request} {s t : State} {on : WaitOn} {w : List Word} {body : State → Request → State × CmdEnd}
    (ht : Taken op q s) (h : body s q = (t, .pend on w)) :
    finish s (runCmd op q body s) = .next (s.after ((t.replyPending op q).wait on op q 0 w)) := by
  rw [runCmd_taken body ht, h]
  rfl

/-- With no waiter a wake is the end of a list that holds none. -/
theorem State.wake_none {s : State} {on : WaitOn} (st : Nat) (w : List Word) (h : s.waits on = false) : s.wake on st w =
    { s with cmdq := { s.cmdq with waiters := s.cmdq.waiters.filter (fun x => x.on != on) } } := by
  have hnil : s.cmdq.waiters.filter (fun x => x.on == on) = [] := by
    rw [State.waits, List.any_eq_false] at h
    exact List.filter_eq_nil_iff.mpr h
  unfold State.wake State.wakeWith
  dsimp only
  rw [hnil]
  rfl

/-! ## Links and time -/

theorem State.linkIsUp_of {s t : State} (hf : t.fab.up = s.fab.up) (ht : t.twin.linkUp = s.twin.linkUp) (l : LinkId) :
    t.linkIsUp l = s.linkIsUp l := by
  simp [State.linkIsUp, hf, ht]

/-- A fabric link comes up. -/
theorem State.linkIsUp_cons {s t : State} {l : LinkId} (hl : l ≠ .mitre) (hf : t.fab.up = l :: s.fab.up.filter (· != l))
    (ht : t.twin = s.twin) : t.linkIsUp l = true ∧ ∀ k, k ≠ l → t.linkIsUp k = s.linkIsUp k := by
  refine ⟨by simp [State.linkIsUp, hl, hf], fun k hk => ?_⟩
  simp [State.linkIsUp, hf, ht, hk]

/-- A fabric link goes down. -/
theorem State.linkIsUp_filter {s t : State} {l : LinkId} (hl : l ≠ .mitre) (hf : t.fab.up = s.fab.up.filter (· != l))
    (ht : t.twin = s.twin) : t.linkIsUp l = false ∧ ∀ k, k ≠ l → t.linkIsUp k = s.linkIsUp k := by
  refine ⟨by simp [State.linkIsUp, hl, hf], fun k hk => ?_⟩
  simp [State.linkIsUp, hf, ht, hk]

/-- The mitre link changes. -/
theorem State.linkIsUp_mitre {s t : State} {b : Bool} (hf : t.fab = s.fab) (ht : t.twin.linkUp = b) :
    t.linkIsUp .mitre = b ∧ ∀ k, k ≠ .mitre → t.linkIsUp k = s.linkIsUp k :=
  ⟨by simp [State.linkIsUp, ht], fun k hk => by simp [State.linkIsUp, hk, hf]⟩

theorem State.sendJoin_frame (s : State) : s.sendJoin.fab.up = s.fab.up ∧ s.sendJoin.twin = s.twin := by
  unfold State.sendJoin
  split <;> exact ⟨rfl, rfl⟩

theorem State.linkLost_up (s : State) (l : LinkId) :
    (s.linkLost l).linkIsUp l = false ∧ ∀ k, k ≠ l → (s.linkLost l).linkIsUp k = s.linkIsUp k := by
  unfold State.linkLost
  by_cases hl : l = .mitre
  · subst hl
    exact State.linkIsUp_mitre rfl rfl
  · rw [if_neg hl]
    dsimp only
    split <;> exact State.linkIsUp_filter hl rfl rfl

/-- What the servo makes of an offset leaves the age clock and the members alone. -/
theorem State.stepTime_frame (s : State) (d : Int) : (s.stepTime d).clk.age = s.clk.age ∧ (s.stepTime d).fab = s.fab := by
  unfold State.stepTime
  cases h : s.stepTime? d with
  | none => exact ⟨rfl, rfl⟩
  | some t =>
    obtain ⟨-, hclk, -⟩ := State.stepTime?_eq h
    have hage : t.clk.age = s.clk.age := by rw [hclk]
    refine ⟨hage, ?_⟩
    unfold State.stepTime? at h
    dsimp only at h
    split at h
    · exact absurd h (by simp)
    · obtain rfl := Option.some.inj h
      simp

/-- Settles O46: each command by its body, each row by its one arm. -/
theorem fabricMembershipCompletes : Obligations.FabricMembershipCompletes := by
  unfold Obligations.FabricMembershipCompletes
  refine ⟨fun q s ht h0 h1 hdepth hbase hout hnone hquant htwin => ⟨fun hnode =>
      finish_pend ht (State.fabricJoin_forms h0 h1 hdepth hbase hout hnone hquant htwin hnode), fun hnode hup =>
      ⟨_, finish_pend ht (State.fabricJoin_sends h0 h1 hdepth hbase hout hnone hquant htwin hnode hup), rfl, rfl⟩⟩,
    fun q s ht h0 hin => ⟨fun hself hleaf hnone => finish_pend ht (State.fabricLeave_own h0 hin hself hleaf hnone),
      fun hev hco hmem hnone => finish_pend ht (State.fabricLeave_evict h0 hin hev hco hmem hnone)⟩,
    fun q s ht => ⟨fun hout => finish_final ht (by rw [if_neg (by simp [hout])]), fun hin => finish_final ht (by rw [if_pos hin]; rfl)⟩,
    fun s hup => ⟨fun l j => .of_up hup rfl ?_, fun l j hin hd0 hmitre hnone => .of_up hup rfl ?_,
      fun p hfw hjoin hwait hage hsince => .of_fw hfw rfl ?_, fun l d hd href => .of_up hup rfl ?_, fun l => .of_up hup rfl ?_,
      fun n htimed => .of_up hup rfl ?_⟩⟩
  · rw [if_pos (by simp)]
    exact ⟨rfl, s.rd_cnt_one _⟩
  · rw [if_neg (by simp), if_neg (by simp [hin, hd0, hmitre])]
    dsimp only
    rw [if_neg hmitre, if_neg (by simp [hnone])]
    simp [hnone]
  · rw [hjoin]
    dsimp only
    have hw : (s.until (p.since + 100 * msC)).waits .join = false := by simpa [State.waits] using hwait
    have hclk : (s.until (p.since + 100 * msC)).clk.age = max s.clk.age (p.since + 100 * msC) :=
      State.untilAge (by omega) (by unfold msC; omega)
    have hin : (s.until (p.since + 100 * msC)).fab.joined = s.fab.joined := by simp
    generalize s.until (p.since + 100 * msC) = u at hw hclk hin ⊢
    rw [State.wake_none _ _ (by exact hw)]
    exact ⟨rfl, hclk, hin⟩
  · rw [if_neg (by simp [href]; omega)]
    by_cases hl : l = .mitre
    · subst hl
      exact State.linkIsUp_mitre rfl rfl
    · rw [if_neg hl]
      dsimp only
      split
      · obtain ⟨hf, ht⟩ := State.sendJoin_frame { s with fab := { s.fab with up := l :: s.fab.up.filter (· != l) } }
        exact State.linkIsUp_cons hl hf ht
      · exact State.linkIsUp_cons hl rfl rfl
  · exact s.linkLost_up l
  · rw [if_neg (by simp [htimed])]
    dsimp only
    split
    · obtain ⟨hage, hfab⟩ := s.freeB.2.stepTime_frame (-n)
      have hmem : (s.freeB.2.stepTime (-n)).fab.members = s.fab.members := by rw [hfab]; rfl
      exact ⟨rfl, hage, hmem⟩
    · exact ⟨rfl, rfl, rfl⟩

end Sys2Proof.Machine


/-! Boundary reports and the coordinator's decision (R255, R256, R265). -/

namespace Sys2Proof.Machine

/-! ## Reports -/

/-- A report as a node takes it: the joins of it that are new are remembered with the link they came on. -/
def State.notedJoins (s : State) (link : LinkId) (r : FabReport) : State :=
  if link = .mitre then s else { s with fab := { s.fab with
    pendJoins := s.fab.pendJoins ++ (r.joins.filter (fun j => !s.fab.pendJoins.any (fun p => p.1 == j))).map (fun j => (j, link)) } }

theorem State.notedJoins_eq (s : State) (link : LinkId) (r : FabReport) :
    ∃ p, s.notedJoins link r = { s with fab := { s.fab with pendJoins := p } } := by
  unfold State.notedJoins
  split
  · exact ⟨_, rfl⟩
  · exact ⟨_, rfl⟩

theorem State.passReport_up {s : State} (hlevel : s.fab.level ≠ 0) (hcut : s.cutOff = false) (b : Bool) (r : FabReport) :
    s.passReport b r = s.send .d0 (.report r) := by
  have hnot : ¬ (s.fab.level = 0 ∨ s.cutOff = true) := by simp [hlevel, hcut]
  unfold State.passReport
  dsimp only
  rw [if_neg hnot, if_neg (by simp)]

/-- What a node does with a report once its joins are noted: the coordinator merges it, any other passes it on. -/
def State.mergeOrPass (s : State) (link : LinkId) (r : FabReport) : State :=
  if s.coordinator then
    match s.fab.report with
    | some own => if own.boundary = r.boundary then s.coordinate (mergeReports own r) else s
    | none => s
  else s.passReport (link == .mitre) r

theorem exec_fabricReport {s : State} {link : LinkId} (r : FabReport) (hup : s.coreUp = true) (hin : s.fab.joined = true) (hl : link ≠ .d0) :
    exec (.fabricReport link r) s = finish s ((s.notedJoins link r).mergeOrPass link r) := by
  show finish s (whileUp s _) = _
  rw [whileUp_up _ hup, if_neg (by simp [hin, hl])]
  rfl

theorem State.mergeOrPass_merges {s : State} {link : LinkId} {r own : FabReport} (hco : s.coordinator = true) (hrep : s.fab.report = some own)
    (hb : own.boundary = r.boundary) : s.mergeOrPass link r = s.coordinate (mergeReports own r) := by
  unfold State.mergeOrPass
  rw [if_pos hco, hrep]
  dsimp only
  rw [if_pos hb]

/-! ## Decisions -/

theorem sends_eq {α : Type} (f : α → LinkId × LinkMsg) (xs : List α) (s : State) :
    xs.foldl (fun s x => s.send (f x).1 (f x).2) s = { s with out := { s.out with links := s.out.links ++ xs.map f } } := by
  induction xs generalizing s with
  | nil => simp
  | cons x xs ih =>
    rw [List.foldl_cons, ih]
    simp [State.send]

/-- What a decision that is taken sends: down this plane, and to the partner in a twinned fabric. -/
def State.decisionLinks (s : State) (d : FabDecision) (inPlane : Bool) : List (LinkId × LinkMsg) :=
  s.downLinks.map (fun k => (k, .decision d (inPlane || s.fab.level == 0))) ++
    (if s.fab.twinned ∧ s.twin.linkUp then [(.mitre, .decision d false)] else [])

theorem State.takeDecision_eq (s : State) (d : FabDecision) (inPlane : Bool) : s.takeDecision d inPlane = { s with
    fab := { s.fab with decision := some d, lastDecision := s.clk.age, decidedAt := d.at_ }
    out := { s.out with links := s.out.links ++ s.decisionLinks d inPlane } } := by
  have hdown : State.downLinks { s with fab := { s.fab with decision := some d, lastDecision := s.clk.age, decidedAt := d.at_ } } = s.downLinks := rfl
  unfold State.takeDecision State.passDown State.decisionLinks
  dsimp only
  rw [hdown, sends_eq (fun l => (l, LinkMsg.decision d _))]
  dsimp only
  split
  · simp [State.send]
  · simp

/-- A device that a decision reaches notes the boundary of one that has come in its own plane all the way. -/
def State.notedPlane (s : State) (direct : Bool) (d : FabDecision) : State :=
  if direct then { s with fab := { s.fab with inPlaneAt := max s.fab.inPlaneAt d.at_ } } else s

theorem State.notedPlane_eq (s : State) (direct : Bool) (d : FabDecision) :
    ∃ n, s.notedPlane direct d = { s with fab := { s.fab with inPlaneAt := n } } := by
  unfold State.notedPlane
  split
  · exact ⟨_, rfl⟩
  · exact ⟨_, rfl⟩

theorem exec_decisionReceived {s : State} {l : LinkId} {ip : Bool} {d : FabDecision} (hup : s.coreUp = true) (hin : s.fab.joined = true)
    (hdeaf : s.deafOn l = false) (hne : s.fab.decision ≠ some d) : exec (.fabricDecisionReceived ⟨l, ip, d⟩) s =
      finish s ((s.notedPlane (l == .d0 && ip) d).takeDecision d (l == .d0 && ip)) := by
  obtain ⟨n, hn⟩ := s.notedPlane_eq (l == .d0 && ip) d
  have hne' : ¬ (s.notedPlane (l == .d0 && ip) d).fab.decision = some d := by rw [hn]; exact hne
  have hin' : (s.notedPlane (l == .d0 && ip) d).fab.joined = true := by rw [hn]; exact hin
  show finish s (whileUp s _) = _
  rw [whileUp_up _ hup]
  dsimp only
  rw [if_neg (by simp [hdeaf])]
  exact congrArg (finish s) ((if_neg hne').trans (if_pos hin'))

theorem State.decision_at (s : State) (r : FabReport) : (s.decision r).at_ = r.boundary + s.quantum := rfl

theorem State.decision_commits (s : State) (r : FabReport) : (s.decision r).commits =
    if r.members = s.fab.members.length then r.held.filter (fun i => !r.notReady.contains i) else [] := rfl

theorem State.decision_aborts (s : State) (r : FabReport) : ∃ xs : List Nat,
    (s.decision r).aborts = xs.filter (fun i => !(s.decision r).commits.contains i) := ⟨_, rfl⟩

theorem State.decision_fe (s : State) (r : FabReport) : (s.decision r).fe = s.fab.fe ∨ (s.decision r).fe = s.fab.fe + 1 := by
  have h : ∃ b, (s.decision r).fe = s.fab.fe + w32 (b2n b) := ⟨_, rfl⟩
  obtain ⟨b, hb⟩ := h
  rw [hb]
  cases b
  · exact .inl (by simp [b2n, w32])
  · exact .inr rfl

/-- A glue-up commits only if every member has reported, one of them holds it and none that holds it is not ready. -/
theorem State.mem_commits {s : State} {r : FabReport} {i : Nat} (h : i ∈ (s.decision r).commits) :
    r.members = s.fab.members.length ∧ i ∈ r.held ∧ i ∉ r.notReady := by
  rw [State.decision_commits] at h
  split at h
  · next hall => simpa [hall] using h
  · simp at h

theorem State.commits_mem {s : State} {r : FabReport} {i : Nat} (hall : r.members = s.fab.members.length) (hheld : i ∈ r.held)
    (hready : i ∉ r.notReady) : i ∈ (s.decision r).commits ∧ i ∉ (s.decision r).aborts := by
  have hc : i ∈ (s.decision r).commits := by
    rw [State.decision_commits, if_pos hall]
    simpa using ⟨hheld, hready⟩
  obtain ⟨xs, hx⟩ := s.decision_aborts r
  refine ⟨hc, ?_⟩
  rw [hx]
  simp [hc]

/-- The coordinator's decision on a report. -/
theorem State.coordinate_eq (s : State) (r : FabReport) : ∃ u : State, s.coordinate r = u.takeDecision (u.decision r) true ∧
    u.fab.report = some r ∧ u.fab.members = s.fab.members ∧ u.fab.fe = s.fab.fe ∧ u.quantum = s.quantum :=
  ⟨_, rfl, rfl, rfl, rfl, rfl⟩

/-! ## The limit of a clamp -/

theorem State.rd_setGlue (s : State) (i : Nat) (g : GlueUp) (a : Nat) : (s.setGlue i g).rd a = s.rd a := State.rd_of_vals rfl a

theorem State.abortFabric_opened {s : State} {i : Nat} (h : (s.glueUp i).st = .opened) : s.abortFabric i =
    ((s.setGlue i { s.glueUp i with st := .aborting, held := false, reason := 6, lastAbort := 6 }).cnt Reg.glueAbortCount 1).cnt
      Reg.fabricAbortCount 1 := by
  unfold State.abortFabric
  dsimp only
  rw [if_neg (by simp [h])]

theorem State.clampLimit_le (s : State) : s.clampLimit ≤ 10000 * msC := Nat.mul_le_mul_right _ (Nat.min_le_left _ _)

/-- Settles O47: reports go up or are merged, decisions are taken or discarded, and a missing one aborts. -/
theorem fabricDecisionsComplete : Obligations.FabricDecisionsComplete := by
  unfold Obligations.FabricDecisionsComplete
  refine fun s hup hin => ⟨fun l r hl hco hlevel hcut => .of_finish (exec_fabricReport r hup hin hl) ?_,
    fun l r own m hl hco hrep hb hm => .of_finish (exec_fabricReport r hup hin hl) ?_,
    fun l ip d hdeaf hne => .of_finish (exec_decisionReceived hup hin hdeaf hne) ?_, fun ip d hlevel => .of_up hup rfl ?_, fun i hids hst hentry hage hlast => .of_up hup rfl ?_⟩
  · obtain ⟨p, hp⟩ := s.notedJoins_eq l r
    rw [hp, State.mergeOrPass, if_neg (by rw [Bool.not_eq_true]; exact hco),
      State.passReport_up (s := { s with fab := { s.fab with pendJoins := p } }) hlevel hcut]
    exact ⟨rfl, rfl⟩
  · obtain ⟨p, hp⟩ := s.notedJoins_eq l r
    rw [State.mergeOrPass_merges (own := own) (by rw [hp]; exact hco) (by rw [hp]; exact hrep) hb, ← hm]
    obtain ⟨u, hu, hur, hum, huf, huq⟩ := (s.notedJoins l r).coordinate_eq m
    have hmem : u.fab.members = s.fab.members := by rw [hum, hp]
    have hfe : u.fab.fe = s.fab.fe := by rw [huf, hp]
    have hq : u.quantum = s.quantum := by rw [huq, hp]; rfl
    have hmb : m.boundary = r.boundary := by rw [hm]; exact hb
    rw [hu, State.takeDecision_eq, ← hmem, ← hfe, ← hq, ← hmb]
    exact ⟨hur, u.decision m, rfl, u.decision_at m, fun i h => State.mem_commits h, fun hall i hheld hready => State.commits_mem hall hheld hready,
      u.decision_fe m⟩
  · obtain ⟨n, hn⟩ := s.notedPlane_eq (l == .d0 && ip) d
    rw [hn, State.takeDecision_eq]
    exact ⟨rfl, rfl, rfl, rfl, by rw [List.append_assoc]; rfl⟩
  · dsimp only
    rw [if_pos (by simp [State.deafOn, hin, hlevel])]
    exact ⟨rfl, rfl⟩
  · rw [if_neg (by simp [hin])]
    have hle := s.clampLimit_le
    have hclk : (s.until (s.fab.lastDecision + s.clampLimit)).clk.age = max s.clk.age (s.fab.lastDecision + s.clampLimit) :=
      State.untilAge (by omega) (by unfold msC at hle; omega)
    have hglue (j : Nat) : (s.until (s.fab.lastDecision + s.clampLimit)).glueUp j = s.glueUp j := by simp [State.glueUp]
    have hids' : (s.until (s.fab.lastDecision + s.clampLimit)).fabricIds [.opened, .clamping] = [i] := by
      rw [← hids]
      simp [State.fabricIds, State.fabricId]
    have hpwr : (s.until (s.fab.lastDecision + s.clampLimit)).pwr.entry = none := by simpa using hentry
    have hrd : (s.until (s.fab.lastDecision + s.clampLimit)).rd Reg.fabricAbortCount = s.rd Reg.fabricAbortCount :=
      s.until_rd _ (by unfold clockCounts; decide)
    generalize s.until (s.fab.lastDecision + s.clampLimit) = u at hclk hglue hids' hpwr hrd ⊢
    dsimp only
    rw [hids', List.foldl_cons, List.foldl_nil, State.abortFabric_opened ((congrArg GlueUp.st (hglue i)).trans hst), if_neg (by simp [hpwr])]
    simp only [State.glueUp_after, State.glueUp_cnt, State.rd_after, State.after_fields, State.cnt_frame]
    refine ⟨by simp, by simp, by simpa using hclk, fun j hj => (u.glueUp_setGlue_ne _ hj).trans (hglue j), ?_⟩
    rw [State.rd_cnt_one, State.rd_cnt_ne _ _ (by decide), State.rd_setGlue, hrd]

end Sys2Proof.Machine


/-! Twins (R268 to R280): the statement fails where the boundary of a switch-over makes the device a member of a fabric. -/

namespace Sys2Proof.Machine

/-- A standalone device of a pair, the source of a resync that has copied, whose FABRIC_JOIN of node 0 waits for the next boundary. -/
def State.formsWhileResync : State :=
  { State.reset with
    pwr := { powerReset with starting := false, fwReady := true }
    twin := { twinReset with config := some false, formed := true, partnerSeen := true, linkUp := true, resync := some ⟨true, false, true, false⟩ }
    fab := { fabReset with join := some ⟨⟨0, 0, 0, 0, 1, false, 0, 4⟩, 0, false⟩ } }

/-- An image with nothing in it. -/
def emptyImage : ResyncImage where
  rows := []
  words := []
  segments := []
  tables := []
  profiles := []
  invalid := []
  slots := []
  exact := []
  mem := []
  cow := []
  policers := []
  groups := []
  routes := []
  pdus := []
  slotTables := []
  ups := []
  bytes := 0

/-- The next boundary forms the fabric, and the resync is still on. -/
theorem State.formsWhileResync_boundary :
    State.formsWhileResync.boundary.fab.joined = true ∧
    State.formsWhileResync.boundary.twin.resync = some ⟨true, false, true, false⟩ ∧
    State.formsWhileResync.boundary.waits .resync = false := by
  decide +kernel

/-- The device that has just formed a fabric waits for the coordinator's boundary: nothing switches over. -/
theorem State.formsWhileResync_waits (e : BitVec 3) (img : ResyncImage) :
    exec (.resyncSwitchover e img) State.formsWhileResync =
      .next (State.formsWhileResync.after State.formsWhileResync.boundary) := by
  obtain ⟨hjoined, hresync, -⟩ := State.formsWhileResync_boundary
  show finish State.formsWhileResync (whileUp State.formsWhileResync _) = _
  rw [whileUp_up _ (by decide), finish_eq]
  dsimp only
  rw [if_pos (show State.formsWhileResync.twin.resync.isSome ∧ ¬ State.formsWhileResync.fab.joined from by decide), hresync]
  dsimp only
  rw [if_pos (by simp [hjoined])]

/-- Refutes O49: a switch-over whose own boundary forms the device's fabric finds the device joined, and then waits for the coordinator's
boundary; the statement asks the device's membership before the boundary and says that the resync ends. -/
theorem not_twinsComplete : ¬ Obligations.TwinsComplete := by
  unfold Obligations.TwinsComplete
  intro h
  obtain ⟨-, -, -, hevents⟩ := h
  obtain ⟨-, -, -, -, -, -, -, hswitch, -⟩ := hevents State.formsWhileResync false (by decide) rfl
  obtain ⟨-, hresync, hwaits⟩ := State.formsWhileResync_boundary
  have hmakes := (hswitch State.formsWhileResync.boundary ⟨true, false, true, false⟩ 0 emptyImage rfl rfl hresync hwaits).1
    (fun hin => absurd hin (by decide)) (.inl rfl)
  obtain ⟨t, hstep, hend, -⟩ := hmakes
  rw [State.formsWhileResync_waits] at hstep
  cases hstep
  exact absurd (hend.symm.trans hresync) (by simp)

end Sys2Proof.Machine


/-! The two-phase clamp of a twin, its time limits, and the parting (R269, R272, R474). -/

namespace Sys2Proof.Machine

/-! ## Aborts of several glue-ups -/

/-- `t` is `s` but for glue-ups and the counters of their aborts. -/
def State.GlueEnded (s t : State) : Prop :=
  ∃ v g, t = { s with reg := { s.reg with vals := v }, glue := g } ∧
    ∀ a, a ≠ Reg.glueAbortCount → a ≠ Reg.glueWoundCount → a ≠ Reg.glueTimeoutCount → t.rd a = s.rd a

theorem State.GlueEnded.refl (s : State) : s.GlueEnded s := ⟨_, _, rfl, fun _ _ _ _ => rfl⟩

theorem State.GlueEnded.trans {s t u : State} (h : s.GlueEnded t) (k : t.GlueEnded u) : s.GlueEnded u := by
  obtain ⟨_, _, rfl, hr⟩ := h
  obtain ⟨_, _, rfl, kr⟩ := k
  exact ⟨_, _, rfl, fun a h1 h2 h3 => (kr a h1 h2 h3).trans (hr a h1 h2 h3)⟩

theorem State.abortGlue_ended (s : State) (id reason wounder : Nat) : s.GlueEnded (s.abortGlue id reason wounder) := by
  have hcount (t : State) {a : Nat} (ha : a = Reg.glueAbortCount ∨ a = Reg.glueWoundCount ∨ a = Reg.glueTimeoutCount) :
      t.GlueEnded (t.cnt a 1) := by
    refine ⟨_, _, rfl, fun b h1 h2 h3 => t.rd_cnt_ne 1 ?_⟩
    rintro rfl
    exact ha.elim h1 (fun h => h.elim h2 h3)
  have hif (b : Prop) [Decidable b] (t : State) {a : Nat} (ha : a = Reg.glueAbortCount ∨ a = Reg.glueWoundCount ∨ a = Reg.glueTimeoutCount) :
      t.GlueEnded (if b then t.cnt a 1 else t) := by
    split
    · exact hcount t ha
    · exact .refl t
  unfold State.abortGlue
  dsimp only
  split
  · exact .refl s
  · refine State.GlueEnded.trans ?_ ((hcount _ (.inl rfl)).trans ((hif _ _ (.inr (.inl rfl))).trans (hif _ _ (.inr (.inr rfl)))))
    exact ⟨_, _, rfl, fun a _ _ _ => s.rd_setGlue _ _ a⟩

theorem State.abortGlues_ended (ids : List Nat) (reason wounder : Nat) (s : State) :
    s.GlueEnded (ids.foldl (fun s i => s.abortGlue i reason wounder) s) := by
  induction ids generalizing s with
  | nil => exact .refl s
  | cons i ids ih => exact (s.abortGlue_ended i reason wounder).trans (ih _)

theorem State.GlueEnded.frame {s t : State} (h : s.GlueEnded t) : t.twin = s.twin ∧ t.clk = s.clk ∧ t.out = s.out ∧ t.pwr = s.pwr := by
  obtain ⟨_, _, rfl, -⟩ := h
  exact ⟨rfl, rfl, rfl, rfl⟩

/-! ## The loss of the partner -/

theorem State.rd_setTwin (s : State) (t : TwinSt) (a : Nat) : (s.setTwin t).rd a = s.rd a := State.rd_of_vals rfl a

theorem State.releaseMirrors_none {s : State} (h : s.twin.mirrors = []) : s.releaseMirrors = s.setTwin { s.twin with mirrors := [] } := by
  unfold State.releaseMirrors
  rw [h]
  rfl

/-- The twin as DIVERGED leaves it, with the clamps that go on alone. -/
def TwinSt.divergedOf (x : TwinSt) (jobs : List PrepJob) (preps : List FollowPrep) : TwinSt :=
  { x with preps := jobs, prepared := preps, diverged := true, actingLead := x.config == some true, parting := false, waitOps := [], mirrors := [] }

/-- A side that sets DIVERGED with no reply waiting for the partner. -/
theorem State.diverge_eq {s : State} (hm : s.twin.mirrors = []) : (∃ jobs preps, s.diverge.twin = s.twin.divergedOf jobs preps) ∧
    s.diverge.clk = s.clk ∧ s.diverge.rd Reg.mitrePartnerLostCount = s.rd Reg.mitrePartnerLostCount := by
  have hended : s.GlueEnded (if s.isFollow ∧ ¬ s.twin.diverged then s.mirroredOpen.foldl (fun s i => s.abortGlue i 5 0) s else s) := by
    split
    · exact State.abortGlues_ended _ _ _ _
    · exact .refl s
  obtain ⟨v, g, -, hrd⟩ := id hended
  have hrd' := hrd Reg.mitrePartnerLostCount (by decide) (by decide) (by decide)
  obtain ⟨htwin, hclk, -⟩ := hended.frame
  unfold State.diverge
  dsimp only
  generalize (if s.isFollow ∧ ¬ s.twin.diverged then s.mirroredOpen.foldl (fun s i => s.abortGlue i 5 0) s else s) = t at htwin hclk hrd' ⊢
  rw [State.releaseMirrors_none (by show t.twin.mirrors = []; rw [htwin, hm])]
  refine ⟨⟨t.clampAlone.twin.preps, t.clampAlone.twin.prepared, ?_⟩, hclk, ?_⟩
  · simp only [TwinSt.divergedOf, State.setTwin, State.clampAlone, State.isFollow, ← htwin]
  · rw [State.rd_setTwin, State.rd_setTwin, State.clampAlone, State.rd_setTwin, hrd']

/-- A side that declares its partner lost, with no reply waiting for it. -/
theorem State.declareLost_eq {s : State} (hm : s.twin.mirrors = []) :
    (∃ jobs preps, s.declareLost.twin = ({ s.twin with lostAt := some s.clk.age } : TwinSt).divergedOf jobs preps) ∧
    s.declareLost.clk = s.clk ∧
    s.declareLost.rd Reg.mitrePartnerLostCount = w32 (min 0xFFFFFFFF ((s.rd Reg.mitrePartnerLostCount).toNat + 1)) := by
  obtain ⟨v, e, -, hrd⟩ := (s.cnt Reg.mitrePartnerLostCount 1).event_eq 0x14 0x01 0 0 0
  have hcount := (hrd Reg.mitrePartnerLostCount (by decide)).trans (s.rd_cnt_one Reg.mitrePartnerLostCount)
  have htwin : ((s.cnt Reg.mitrePartnerLostCount 1).event 0x14 0x01 0 0 0).twin = s.twin := by simp
  have hclk : ((s.cnt Reg.mitrePartnerLostCount 1).event 0x14 0x01 0 0 0).clk = s.clk := by simp
  unfold State.declareLost
  dsimp only
  generalize (s.cnt Reg.mitrePartnerLostCount 1).event 0x14 0x01 0 0 0 = u at hcount htwin hclk ⊢
  obtain ⟨⟨jobs, preps, ht⟩, hc, hr⟩ := State.diverge_eq (s := u.setTwin { u.twin with lostAt := some u.clk.age })
    (by show u.twin.mirrors = []; rw [htwin, hm])
  refine ⟨⟨jobs, preps, ht.trans ?_⟩, hc.trans hclk, hr.trans ?_⟩
  · show ({ u.twin with lostAt := some u.clk.age } : TwinSt).divergedOf jobs preps = _
    rw [htwin, hclk]
  · rw [State.rd_setTwin, hcount]

/-! ## PREPARE and READY -/

theorem State.glueUp_setTwin (s : State) (t : TwinSt) (i : Nat) : (s.setTwin t).glueUp i = s.glueUp i := rfl

/-- The follow side with a PREPARE of one glue-up noted. -/
def State.prepping (s : State) (i : Nat) : State :=
  s.setTwin { s.twin with prepared := s.twin.prepared ++ [⟨[i], false, s.clk.age, none, false⟩] }

theorem exec_prepare {s : State} (i : Nat) (hup : s.coreUp = true) (href : s.followRefuses = true) :
    exec (.prepare [i]) s = finish s ((s.prepping i).settlePrepare) := by
  show finish s (whileUp s _) = _
  rw [whileUp_up _ hup, if_neg (by simp [href])]
  rfl

/-- The state as a PREPARE of one glue-up that is held whole leaves it. -/
def State.answeredPrep (s : State) (i : Nat) : State :=
  let t := s.setGlue i { s.glueUp i with st := .clamping, clampAt := s.clk.age, held := true }
  (t.setTwin { t.twin with prepared := [⟨[i], true, s.clk.age, none, false⟩] }).send .mitre (.ready [i])

theorem State.answeredPrep_self (s : State) (i : Nat) : (s.answeredPrep i).glueUp i =
    { s.glueUp i with st := .clamping, clampAt := s.clk.age, held := true } := s.glueUp_setGlue_same i _

theorem State.answeredPrep_other (s : State) {i j : Nat} (h : j ≠ i) : (s.answeredPrep i).glueUp j = s.glueUp j := s.glueUp_setGlue_ne _ h

theorem State.settlePrepare_one {s : State} {i : Nat} (hold : s.holdsAll i = true)
    (hp : s.twin.prepared = [⟨[i], false, s.clk.age, none, false⟩]) : s.settlePrepare = s.answeredPrep i := by
  unfold State.settlePrepare
  rw [hp, List.foldl_cons, List.foldl_nil]
  dsimp only
  rw [if_neg (by simp [hold])]
  simp only [List.foldl_cons, List.foldl_nil, State.setGlue_frame, hp, mapFirst, beq_self_eq_true, if_true]
  rfl

theorem State.untilNs_rd (s : State) (n : Nat) {a : Nat} (ha : ¬ clockCounts a) : (s.untilNs n).rd a = s.rd a := by
  unfold State.untilNs
  split
  · rfl
  · obtain ⟨v, r, c, -, hr⟩ := s.advance_eq (ceilDiv (n * dtUnit - s.clk.dt) s.tickUnits)
    exact hr a ha

theorem State.nextPrep_one {s : State} {p : PrepJob} (hp : s.twin.preps = [p]) (hc : p.committed = false) (ha : p.alone = false) :
    s.nextPrep = some p := by
  unfold State.nextPrep
  rw [hp, List.filter_cons, if_pos (by simp [hc, ha])]
  rfl

theorem State.lostAfter {s : State} {n : Nat} (hm : s.twin.mirrors = []) (hage : s.clk.age < 2 ^ 63) (hn : n < 2 ^ 62) :
    (s.until (n + 100 * usC)).declareLost.twin.diverged = true ∧
    (s.until (n + 100 * usC)).declareLost.twin.actingLead = s.isFollow ∧
    (s.until (n + 100 * usC)).declareLost.clk.age = max s.clk.age (n + 125000) ∧
    (s.until (n + 100 * usC)).declareLost.twin.lostAt = some (s.until (n + 100 * usC)).declareLost.clk.age ∧
    (s.until (n + 100 * usC)).declareLost.rd Reg.mitrePartnerLostCount =
      w32 (min 0xFFFFFFFF ((s.rd Reg.mitrePartnerLostCount).toNat + 1)) := by
  have hclk : (s.until (n + 100 * usC)).clk.age = max s.clk.age (n + 100 * usC) := State.untilAge (by omega) (by unfold usC; omega)
  have hrd : (s.until (n + 100 * usC)).rd Reg.mitrePartnerLostCount = s.rd Reg.mitrePartnerLostCount :=
    s.until_rd _ (by unfold clockCounts; decide)
  have htwin : (s.until (n + 100 * usC)).twin = s.twin := by simp
  generalize s.until (n + 100 * usC) = u at hclk hrd htwin ⊢
  obtain ⟨⟨jobs, preps, ht⟩, hc, hr⟩ := State.declareLost_eq (s := u) (by rw [htwin, hm])
  have hfollow : (u.twin.config == some true) = s.isFollow := by rw [htwin]; rfl
  rw [ht, hc, hr, hrd]
  exact ⟨rfl, hfollow, hclk, rfl, rfl⟩

/-- READY of the one clamp that waits for it: COMMIT goes out with its boundary. -/
def State.readied (s : State) (p : PrepJob) : State :=
  (s.setTwin { s.twin with preps := [{ p with target := max p.target (s.boundaryAfter 400), committed := true }] }).send .mitre
    (.commit p.ids (max p.target (s.boundaryAfter 400)))

theorem exec_ready {s : State} {p : PrepJob} (hup : s.coreUp = true) (hp : s.twin.preps = [p]) (hc : p.committed = false)
    (ha : p.alone = false) : exec (.ready p.ids) s = finish s (s.readied p) := by
  show finish s (whileUp s _) = _
  rw [whileUp_up _ hup]
  dsimp only
  rw [hp, List.find?_cons_of_pos (by simp [hc, ha])]
  dsimp only
  rw [mapFirst, if_pos (by simp [hc, ha])]
  rfl

/-- What a COMMIT makes of the one PREPARE that is ready: its boundary, or the next in time where that comes too late. -/
def State.committed (s : State) (p : FollowPrep) (b : Nat) : State :=
  (if b * dtUnit < s.clk.dt + 250 * s.tickUnits then s.cnt Reg.mitreLateCommitCount 1 else s).setTwin { s.twin with
    prepared := [{ p with commitAt := some (if b * dtUnit < s.clk.dt + 250 * s.tickUnits then max (b + 1) (s.boundaryAfter 250) else b) }] }

theorem exec_commit {s : State} {p : FollowPrep} (b : Nat) (hup : s.coreUp = true) (hp : s.twin.prepared = [p]) (hr : p.ready = true)
    (hc : p.commitAt = none) : exec (.commit p.ids b) s = finish s (s.committed p b) := by
  show finish s (whileUp s _) = _
  rw [whileUp_up _ hup, if_neg (by simp [hp, hr, hc])]
  by_cases hb : b * dtUnit < s.clk.dt + 250 * s.tickUnits
  · simp [State.committed, hb, hp, mapFirst, hr, hc]
  · simp [State.committed, hb, hp, mapFirst, hr, hc]

/-- A side that parts with no clamp in progress, with no reply waiting for the partner. -/
theorem State.settleParting_parts {s : State} (hp : s.twin.parting = true) (hf : s.twin.formed = true) (hd : s.twin.diverged = false)
    (hphase : s.noPhase = true) (hentry : s.pwr.entry = none) (hm : s.twin.mirrors = []) :
    s.settleParting.twin.diverged = true ∧ s.settleParting.twin.parting = false ∧ s.settleParting.twin.lost = true := by
  have hended := State.abortGlues_ended s.mirroredOpen 5 0 s
  obtain ⟨htwin, -⟩ := hended.frame
  unfold State.settleParting
  rw [if_neg (by simp [hp, hf, hd, hphase]), if_neg (by simp [hentry])]
  dsimp only
  generalize s.mirroredOpen.foldl (fun s i => s.abortGlue i 5 0) s = u at htwin ⊢
  obtain ⟨⟨jobs, preps, ht⟩, -⟩ := State.declareLost_eq (s := u.setTwin { u.twin with lost := true }) (by show u.twin.mirrors = []; rw [htwin, hm])
  rw [ht]
  exact ⟨rfl, rfl, rfl⟩

/-- Settles O50: one job at a time, each message and each limit by its one arm. -/
theorem twinClampsComplete : Obligations.TwinClampsComplete := by
  unfold Obligations.TwinClampsComplete
  refine fun s hup => ⟨fun i href hp hold => .of_finish (exec_prepare i hup href) ?_, fun p hp hc ha => ⟨.of_finish (exec_ready hup hp hc ha) ?_, .of_up hup rfl ?_,
      fun hm hage hsince => .of_up hup rfl ?_⟩, fun p hp hr hc => ⟨fun b hb => .of_finish (exec_commit b hup hp hr hc) ?_,
      fun b hb => .of_finish (exec_commit b hup hp hr hc) ?_, fun hm hage hsince => .of_up hup rfl ?_⟩,
    fun hf hd => ⟨fun hphase => .of_up hup rfl ?_, fun hphase hentry hm => .of_up hup rfl ?_⟩⟩
  · rw [State.settlePrepare_one (s := s.prepping i) hold (by simp [State.prepping, State.setTwin, hp])]
    simp only [State.glueUp_after, State.answeredPrep_self]
    exact ⟨trivial, trivial, rfl, rfl, rfl, fun j hj => (s.prepping i).answeredPrep_other hj⟩
  · exact ⟨max p.target (s.boundaryAfter 400), Nat.le_max_left _ _, rfl, rfl, fun h => Nat.max_eq_left h⟩
  · rw [State.nextPrep_one hp hc ha]
    dsimp only
    have hq : (s.untilNs (p.target - 320)).quantum = s.quantum := by
      simp only [State.quantum, State.rf, s.untilNs_rd _ (show ¬ clockCounts Reg.glueQuantum by unfold clockCounts; decide)]
    have htwin : (s.untilNs (p.target - 320)).twin = s.twin := by simp
    have hglue : (s.untilNs (p.target - 320)).glue = s.glue := by simp
    generalize s.untilNs (p.target - 320) = u at hq htwin hglue ⊢
    refine ⟨?_, hglue⟩
    show mapFirst _ _ u.twin.preps = _
    rw [htwin, hp, mapFirst, if_pos (by simp), hq]
  · rw [hp, List.find?_cons_of_pos (by simp [hc, ha])]
    obtain ⟨hd, -, hclk, hlost, hrd⟩ := State.lostAfter hm hage hsince
    exact ⟨hd, hclk, hlost, hrd⟩
  · rw [State.committed, if_neg (by omega), if_neg (by omega)]
    exact ⟨rfl, rfl⟩
  · rw [State.committed, if_pos hb, if_pos hb]
    exact ⟨_, Nat.lt_of_lt_of_le (Nat.lt_succ_self b) (Nat.le_max_left _ _), rfl, (State.rd_setTwin _ _ _).trans (s.rd_cnt_one _)⟩
  · rw [hp, List.find?_cons_of_pos (by simp [hr, hc])]
    obtain ⟨hd, hact, hclk, -⟩ := State.lostAfter hm hage hsince
    exact ⟨hd, hact, hclk⟩
  · rw [if_pos ⟨hf, by simp [hd]⟩, State.settleParting, if_pos (by simpa [State.noPhase, State.setTwin] using fun _ _ => hphase)]
    exact ⟨rfl, rfl⟩
  · rw [if_pos ⟨hf, by simp [hd]⟩]
    exact State.settleParting_parts rfl hf hd hphase hentry hm

end Sys2Proof.Machine


/-! Fabric searches: launch, root, members, merge and result (R257 to R263, R277). -/

namespace Sys2Proof.Machine

/-! ## Jobs -/

theorem State.fabJob_setJobF (s : State) (j : FabJob) : (s.setJobF j).fabJob j.req.ident = some j := by
  unfold State.fabJob State.setJobF
  rw [List.find?_append, List.find?_eq_none.mpr (by simp), Option.none_or, List.find?_cons_of_pos (by simp)]

theorem State.fabJob_dropJobF (s : State) (n : Nat) : (s.dropJobF n).fabJob n = none := by
  unfold State.fabJob State.dropJobF
  exact List.find?_eq_none.mpr (by simp)

theorem State.fabJob_of_fab {s t : State} (h : t.fab = s.fab) (n : Nat) : t.fabJob n = s.fabJob n := by
  rw [State.fabJob, State.fabJob, h]

theorem State.fabJob_ident {s : State} {n : Nat} {j : FabJob} (h : s.fabJob n = some j) : j.req.ident = n := by
  simpa using List.find?_some h

/-- A job that is set under the identifier of the one found is found. -/
theorem State.fabJob_reset {s : State} {n : Nat} {j : FabJob} (h : s.fabJob n = some j) (u : State) {k : FabJob} (hk : k.req = j.req) :
    (u.setJobF k).fabJob n = some k := by
  have hset := u.fabJob_setJobF k
  rwa [hk, State.fabJob_ident h] at hset

theorem State.untilNs_tern (s : State) (n : Nat) : ∃ g, (s.untilNs n).tern = { s.tern with govLevel := g } := by
  unfold State.untilNs
  split
  · exact ⟨_, rfl⟩
  · obtain ⟨v, r, c, e, -⟩ := s.advance_eq (ceilDiv (n * dtUnit - s.clk.dt) s.tickUnits)
    rw [e]
    exact ⟨_, rfl⟩

/-- What is sent down leaves the device as it is. -/
theorem sendsUp_frame (m : LinkMsg) (ls : List LinkId) (s : State) :
    (ls.foldl (fun s l => if s.linkIsUp l then s.send l m else s) s).fab = s.fab := by
  induction ls generalizing s with
  | nil => rfl
  | cons l ls ih =>
    rw [List.foldl_cons, ih]
    split <;> rfl

/-- A job that is open waits for its local search. -/
theorem State.fabSettle_open {s : State} {n : Nat} {j : FabJob} (hj : s.fabJob n = some j) (ho : j.open_ = true) : s.fabSettle n = s := by
  unfold State.fabSettle
  rw [hj]
  dsimp only
  rw [if_pos (.inl ho)]

/-- A job waits for the replies of its children. -/
theorem State.fabSettle_awaits {s : State} {n : Nat} {j : FabJob} (hj : s.fabJob n = some j) (hw : j.await ≠ []) : s.fabSettle n = s := by
  unfold State.fabSettle
  rw [hj]
  dsimp only
  rw [if_pos (.inr (.inr hw))]

/-! ## The launch -/

/-- The job that a launch opens at its own device. -/
def FabRequest.launchJob (r : FabRequest) (q : Request) : FabJob :=
  { req := r, own := some q, granted := none, open_ := true, sent := false, merged := fabReply0, await := [], result := none }

/-- The state with its launch counted and its identifier used up. -/
def State.launchNoted (s : State) (start : Nat) : State :=
  let u := (s.untilNs start).cnt Reg.fabricSearchCount 1
  { u with fab := { u.fab with nextIdent := u.fab.nextIdent + 1, lastLaunch := some start } }

theorem State.launch_below {s : State} (q : Request) (slot start : Nat) (hlevel : s.fab.level ≠ 0) :
    s.launch q slot start = ((s.launchNoted start).setJobF
      ((q.fabRequest s.ownAddr (s.ownAddr + 1024 * s.fab.nextIdent) slot start).launchJob q)).send .d0
        (.request (q.fabRequest s.ownAddr (s.ownAddr + 1024 * s.fab.nextIdent) slot start)) := by
  have hfab : ((s.untilNs start).cnt Reg.fabricSearchCount 1).fab = s.fab := by simp
  have hown : ((s.untilNs start).cnt Reg.fabricSearchCount 1).ownAddr = s.ownAddr := by rw [State.ownAddr, hfab]; rfl
  unfold State.launch State.launchNoted
  dsimp only
  rw [hown, hfab]
  exact if_neg hlevel

theorem State.launchNoted_eq (s : State) (start : Nat) :
    (s.launchNoted start).fab = { s.fab with nextIdent := s.fab.nextIdent + 1, lastLaunch := some start } ∧
    (s.launchNoted start).out = s.out ∧
    (s.launchNoted start).rd Reg.fabricSearchCount = w32 (min 0xFFFFFFFF ((s.rd Reg.fabricSearchCount).toNat + 1)) := by
  have hfab : (s.untilNs start).fab = s.fab := by simp
  have hout : (s.untilNs start).out = s.out := by simp
  have hrd := ((s.untilNs start).rd_cnt_one Reg.fabricSearchCount)
  rw [s.untilNs_rd start (show ¬ clockCounts Reg.fabricSearchCount by unfold clockCounts; decide)] at hrd
  unfold State.launchNoted
  generalize s.untilNs start = u at hfab hout hrd ⊢
  refine ⟨?_, hout, (State.rd_of_vals rfl _).trans hrd⟩
  show ({ u.fab with nextIdent := u.fab.nextIdent + 1, lastLaunch := some start } : FabSt) = _
  rw [hfab]

/-- The state with its oldest FABRIC_SEARCH taken off the queue. -/
def State.launchTaken (s : State) (rest : List Request) : State := { s with fab := { s.fab with launches := rest } }

/-- The request of the next launch of a device. -/
def State.nextRequest (s : State) (q : Request) (slot start : Nat) : FabRequest :=
  q.fabRequest s.ownAddr (s.ownAddr + 1024 * s.fab.nextIdent) slot start

/-- The oldest FABRIC_SEARCH that waits is launched in its slot. -/
theorem exec_fabricSearchLaunch {s : State} {q : Request} {rest : List Request} {n st : Nat} (hfw : s.fwUp = true)
    (hl : s.fab.launches = q :: rest) (hok : s.fabCheck q = 0) (hslot : s.nextOwned = some (n, st))
    (hlevel : s.fab.level ≠ 0) : exec .fabricSearchLaunch s = finish s
      ((((s.launchTaken rest).launchNoted st).setJobF ((s.nextRequest q n st).launchJob q)).send .d0 (.request (s.nextRequest q n st))) := by
  have hok' : State.fabCheck { s with fab := { s.fab with launches := rest } } q = 0 := hok
  have hslot' : State.nextOwned { s with fab := { s.fab with launches := rest } } = some (n, st) := hslot
  show finish s (whileFw s _) = _
  rw [whileFw_up _ hfw, hl]
  dsimp only
  rw [if_neg (by simp [hok']), hslot']
  exact congrArg (finish s) ((s.launchTaken rest).launch_below q n st hlevel)

/-! ## The root -/

/-- The job that the root opens for a request, and a member for one that the root has stamped. -/
def State.memberJob (s : State) (r : FabRequest) : FabJob :=
  { req := r, own := (s.fabJob r.ident).bind (·.own), granted := none, open_ := true, sent := false, merged := fabReply0
    await := s.memberLinks r, result := none }

/-- A request goes on down to the members that are up. -/
def State.searchDown (s : State) (r : FabRequest) : State :=
  (s.memberLinks r).foldl (fun s l => if s.linkIsUp l then s.send l (.search r) else s) (s.setJobF (s.memberJob r))

theorem State.searchDown_job (s : State) (r : FabRequest) : (s.searchDown r).fabJob r.ident = some (s.memberJob r) :=
  (State.fabJob_of_fab (sendsUp_frame _ _ _) _).trans (s.fabJob_setJobF (s.memberJob r))

section
variable {s : State} {r : FabRequest} (hup : s.coreUp = true) (hin : s.fab.joined = true)
include hup hin

theorem exec_requestClimbs (hlevel : s.fab.level ≠ 0) : exec (.fabricRequestAtRoot r) s = finish s (s.send .d0 (.request r)) := by
  show finish s (whileUp s _) = _
  rw [whileUp_up _ hup]
  dsimp only
  rw [if_neg (by simp [hin]), if_pos hlevel]

theorem exec_requestStamped (hlevel : s.fab.level = 0) (hdue : s.clk.dt ≤ (r.launched + 8 + 64 * s.fabJ) * dtUnit)
    (hslot : slotOf (smGet 0#32 s.fab.slots r.slot) (r.initiator / 2) = true) : exec (.fabricRequestAtRoot r) s = finish s
      ((s.untilNs (r.launched + 8 + 64 * s.fabJ)).searchDown { r with fe := (s.untilNs (r.launched + 8 + 64 * s.fabJ)).fab.fe }) := by
  show finish s (whileUp s _) = _
  rw [whileUp_up _ hup]
  dsimp only
  rw [if_neg (by simp [hin]), if_neg (by simp [hlevel]), if_neg (Nat.not_lt.mpr hdue), if_neg (not_not_intro hslot)]
  rfl

theorem exec_requestLate (hlevel : s.fab.level = 0) (hdue : (r.launched + 8 + 64 * s.fabJ) * dtUnit < s.clk.dt)
    (hmine : r.ident % 1024 = s.ownAddr) (hnone : s.fabJob r.ident = none) :
    exec (.fabricRequestAtRoot r) s = finish s (s.cnt Reg.fabricSlotLateCount 1) := by
  have hmine' : r.ident % 1024 = (s.cnt Reg.fabricSlotLateCount 1).ownAddr := hmine
  have hnone' : (s.cnt Reg.fabricSlotLateCount 1).fabJob r.ident = none := hnone
  show finish s (whileUp s _) = _
  rw [whileUp_up _ hup]
  dsimp only
  rw [if_neg (by simp [hin]), if_neg (by simp [hlevel]), if_pos (by exact hdue), State.sendDown, if_pos hmine', State.toInitiator, hnone']

end

/-! ## Members -/

theorem State.untilNs_desc (s : State) (n t : Nat) (e : BitVec 3) : (s.untilNs n).ternDesc t e = s.ternDesc t e := by
  obtain ⟨g, hg⟩ := s.untilNs_tern n
  have hglue : (s.untilNs n).glue = s.glue := by simp
  simp only [State.ternDesc, State.ternTable, State.verAt, State.ageOf, hg, hglue]
  rfl

/-- A member that searches at its instant, with no child to ask and its boundaries in step with the root's. -/
theorem exec_searchInstant {s : State} {r : FabRequest} (hup : s.coreUp = true) (hin : s.fab.joined = true) (hlevel : s.fab.level ≠ 0)
    (hstep : s.fab.fe + 1 ≠ r.fe) : exec (.fabricSearchInstant r) s = finish s
      (((s.untilNs (r.launched + 8 + 128 * s.fabJ)).searchDown r).localSearch r) := by
  have hfab : (s.untilNs (r.launched + 8 + 128 * s.fabJ)).fab = s.fab := by simp
  show finish s (whileUp s _) = _
  rw [whileUp_up _ hup]
  dsimp only
  rw [if_neg (by simp [hin])]
  generalize s.untilNs (r.launched + 8 + 128 * s.fabJ) = u at hfab ⊢
  rw [if_neg (by rw [hfab]; exact hlevel), State.catchUp, if_neg (by rw [hfab]; exact hstep)]
  rfl

/-- With no child to ask, nothing goes down. -/
theorem State.searchDown_leaf {s : State} {r : FabRequest} (hleaf : s.memberLinks r = []) :
    s.searchDown r = s.setJobF (s.memberJob r) := by
  rw [State.searchDown, hleaf]
  rfl

theorem mergeFab_noTable (multi : Bool) : mergeFab multi fabReply0 { fabReply0 with noTable := 1 } = { fabReply0 with noTable := 1 } := by
  cases multi <;> rfl

/-- A job with this member's own contribution. -/
def FabJob.contributed (j : FabJob) (x : FabReply) : FabJob :=
  { j with open_ := false, granted := none, merged := mergeFab j.req.multi j.merged x }

theorem State.contribute_eq {s : State} {n : Nat} {j : FabJob} (hj : s.fabJob n = some j) (x : FabReply) :
    s.contribute n x = (s.setJobF (j.contributed x)).fabSettle n := by
  unfold State.contribute
  rw [hj]
  rfl

/-- A member's job that has every contribution sends its merge up and ends. -/
theorem State.fabSettle_up {s : State} {n : Nat} {j : FabJob} (hj : s.fabJob n = some j) (ho : j.open_ = false) (hs : j.sent = false)
    (hw : j.await = []) (hown : j.own = none) (hlevel : s.fab.level ≠ 0) :
    s.fabSettle n = (s.send .d0 (.fabReply n j.merged)).dropJobF n := by
  unfold State.fabSettle
  rw [hj]
  dsimp only
  rw [if_neg (by simp [ho, hs, hw]), if_neg hlevel, if_neg (by simp [hown])]

/-- A leaf that contributes at once sends its contribution up and is done. -/
theorem State.contribute_leaf {s : State} {r : FabRequest} {x : FabReply} (hleaf : s.memberLinks r = []) (hnone : s.fabJob r.ident = none)
    (hlevel : s.fab.level ≠ 0) : ((s.searchDown r).contribute r.ident x).fabJob r.ident = none ∧
      ((s.searchDown r).contribute r.ident x).out.links = s.out.links ++ [(.d0, .fabReply r.ident (mergeFab r.multi fabReply0 x))] := by
  have hown : (s.memberJob r).own = none := by simp [State.memberJob, hnone]
  rw [State.searchDown_leaf hleaf, State.contribute_eq (n := r.ident) (s.fabJob_setJobF (s.memberJob r)),
    State.fabSettle_up (n := r.ident) ((s.setJobF (s.memberJob r)).fabJob_setJobF ((s.memberJob r).contributed x)) rfl rfl hleaf hown hlevel]
  exact ⟨State.fabJob_dropJobF _ _, rfl⟩

theorem State.memberLinks_of_fab {s t : State} (h : t.fab = s.fab) (r : FabRequest) : t.memberLinks r = s.memberLinks r := by
  simp only [State.memberLinks, State.nodesUnder, State.routesFor, h]

/-- The search that a member issues for a request. -/
def State.memberSearch (s : State) (r : FabRequest) (e : BitVec 3) : Search :=
  { lane := 8, frame := 0, role := r.ident, profile := 0, epoch := e, table := r.table, exact := false, key := r.key
    width := r.width, urgent := true, phase := .waiting, issued := s.nextIssue 8, at_ := s.nextIssue 8, replica := 0, port := 0
    waited := false, starved := false, blocks := [], picks := [], res := none }

theorem State.fabTernary_searches (s : State) (r : FabRequest) (e : BitVec 3) :
    (s.fabTernary r e).tern.searches = s.tern.searches ++ [s.memberSearch r e] := rfl

theorem State.fabEpoch_now {s : State} {r : FabRequest} (h : r.fe + 1 ≠ s.fab.fe) : s.fabEpoch r = s.glue.c := if_neg h

theorem State.localSearch_none {s : State} {r : FabRequest} (hex : r.exact = false) (hd : s.ternDesc r.table (s.fabEpoch r) = none) :
    s.localSearch r = s.contribute r.ident { fabReply0 with noTable := 1 } := by
  unfold State.localSearch
  dsimp only
  rw [if_neg (by simp [hex]), hd]
  rfl

theorem State.localSearch_tern {s : State} {r : FabRequest} {d : TernDesc} (hex : r.exact = false)
    (hd : s.ternDesc r.table (s.fabEpoch r) = some d) (hw : d.width = r.width) :
    s.localSearch r = (s.cnt Reg.fabricLocalCount 1).fabTernary r (s.fabEpoch r) := by
  unfold State.localSearch
  dsimp only
  rw [if_neg (by simp [hex]), hd, Option.filter_some, if_pos (by simp [hw])]

/-! ## The reply and the result -/

theorem State.untilNs_searches (s : State) (n : Nat) : (s.untilNs n).tern.searches = s.tern.searches := by
  obtain ⟨g, hg⟩ := s.untilNs_tern n
  rw [hg]

theorem exec_grantDeadline {s : State} {n : Nat} {j : FabJob} {x : Search} (hup : s.coreUp = true) (hj : s.fabJob n = some j)
    (hx : s.tern.searches.find? (fun x => x.lane == 8 && x.frame == 0 && x.role == n && x.phase != .granted) = some x) :
    exec (.fabricGrantDeadline n) s = finish s ((s.untilCycle j.req (90 + 160 * s.fabJ)).lateLocal x) := by
  show finish s (whileUp s _) = _
  rw [whileUp_up _ hup, hj, hx]

/-- The state as a local search that comes too late is dropped. -/
def State.droppedLate (s : State) (x : Search) : State :=
  { s.cnt Reg.fabricLocalLateCount 1 with tern := { s.tern with searches := s.tern.searches.erase x } }

/-- What a member whose local search comes too late contributes. -/
def lateReply : FabReply := { fabReply0 with incomplete := true, absent := 1 }

theorem State.lateLocal_awaits {s : State} {x : Search} {j : FabJob} (hj : s.fabJob x.role = some j) (hw : j.await ≠ []) :
    s.lateLocal x = (s.droppedLate x).setJobF (j.contributed lateReply) := by
  show (s.droppedLate x).contribute x.role lateReply = _
  rw [State.contribute_eq (s := s.droppedLate x) (j := j) hj]
  exact State.fabSettle_awaits (State.fabJob_reset hj _ rfl) hw

/-- A job takes a child's reply. -/
def FabJob.replied (j : FabJob) (l : LinkId) (r : FabReply) : FabJob :=
  { j with await := j.await.filter (· != l), merged := mergeFab j.req.multi j.merged r }

theorem exec_fabricReply {s : State} {n : Nat} {j : FabJob} {l : LinkId} (r : FabReply) (hup : s.coreUp = true) (hj : s.fabJob n = some j)
    (hl : l ≠ .d0) (hw : j.await.contains l = true) :
    exec (.fabricReply l n r) s = finish s ((s.setJobF (j.replied l r)).fabSettle n) := by
  show finish s (whileUp s _) = _
  rw [whileUp_up _ hup, if_neg (by simp [State.deafOn, hl]), if_neg hl, hj]
  dsimp only
  rw [if_neg (not_not_intro hw)]
  rfl

/-- What a child that does not answer contributes. -/
def State.goneReply (s : State) (j : FabJob) (l : LinkId) : FabReply :=
  { fabReply0 with incomplete := true, absent := (s.nodesUnder j.req l).length, absentNodes := [s.childOn j.req l] }

theorem exec_childTimeout {s : State} {n : Nat} {j : FabJob} {l : LinkId} (hup : s.coreUp = true) (hj : s.fabJob n = some j)
    (hw : j.await.contains l = true) : ∃ u : State, u.fab = s.fab ∧
      exec (.fabricChildTimeout n l) s = finish s ((u.setJobF (j.replied l (u.goneReply j l))).fabSettle n) := by
  refine ⟨s.untilCycle j.req (120 + 160 * s.fabJ + 90 * (s.fabJ - s.fab.level)), by simp [State.untilCycle], ?_⟩
  show finish s (whileUp s _) = _
  rw [whileUp_up _ hup, hj]
  dsimp only
  rw [if_neg (not_not_intro hw)]
  rfl

theorem exec_fabricResult {s : State} {n : Nat} {j : FabJob} {q : Request} {r : FabReply} (hup : s.coreUp = true) (hj : s.fabJob n = some j)
    (hown : j.own = some q) (hres : j.result = some r) (href : r.refused = false) (hinc : r.incomplete = false) :
    exec (.fabricResult n) s = finish s (((s.untilCycle j.req (fabTime s.fab.depth)).dropJobF n).reply Op.fabricSearch q 0 (s.fabReplyWords j r)) := by
  have hfab : (s.untilCycle j.req (fabTime s.fab.depth)).fab.side = s.fab.side := by simp [State.untilCycle]
  have hwords : ((s.untilCycle j.req (fabTime s.fab.depth)).dropJobF n).fabReplyWords j r = s.fabReplyWords j r := by
    unfold State.fabReplyWords State.dropJobF
    dsimp only
    rw [hfab]
  show finish s (whileUp s _) = _
  rw [whileUp_up _ hup, hj]
  dsimp only
  rw [hown]
  dsimp only
  rw [hres]
  dsimp only
  rw [if_neg (by simp [href]), State.noteIncomplete, if_pos (by simp [hinc]), hwords]

theorem fabricSearchLaunch_makes {s : State} {q : Request} {rest : List Request} {n st : Nat} (hfw : s.fwUp = true) (hl : s.fab.launches = q :: rest)
    (hok : s.fabCheck q = 0) (hslot : s.nextOwned = some (n, st)) (hlevel : s.fab.level ≠ 0) :
    Makes .fabricSearchLaunch s fun t =>
      t.fab.launches = rest ∧ t.fab.lastLaunch = some st ∧ t.fab.nextIdent = s.fab.nextIdent + 1 ∧
      t.rd Reg.fabricSearchCount = w32 (min 0xFFFFFFFF ((s.rd Reg.fabricSearchCount).toNat + 1)) ∧
      t.out.links = s.out.links ++ [(.d0, .request (q.fabRequest s.ownAddr (s.ownAddr + 1024 * s.fab.nextIdent) n st))] ∧
      ∃ j, t.fabJob (s.ownAddr + 1024 * s.fab.nextIdent) = some j ∧ j.own = some q ∧ j.open_ = true ∧ j.result = none := by
  refine .of_finish (exec_fabricSearchLaunch hfw hl hok hslot hlevel) ?_
  obtain ⟨hfab, hout, hrd⟩ := (s.launchTaken rest).launchNoted_eq st
  generalize (s.launchTaken rest).launchNoted st = u at hfab hout hrd ⊢
  have hl' : u.fab.launches = rest := by rw [hfab]; rfl
  have hlast : u.fab.lastLaunch = some st := by rw [hfab]
  have hnext : u.fab.nextIdent = s.fab.nextIdent + 1 := by rw [hfab]; rfl
  have hlinks : u.out.links = s.out.links := by rw [hout]; rfl
  refine ⟨hl', hlast, hnext, (State.rd_of_vals rfl _).trans hrd, ?_, _, u.fabJob_setJobF ((s.nextRequest q n st).launchJob q), rfl, rfl, rfl⟩
  show u.out.links ++ _ = _
  rw [hlinks]
  rfl

theorem requestStamped_makes {s : State} {r : FabRequest} (hup : s.coreUp = true) (hin : s.fab.joined = true) (hlevel : s.fab.level = 0)
    (hdue : s.clk.dt ≤ (r.launched + 8 + 64 * (s.fab.depth - 1)) * dtUnit)
    (hslot : slotOf (smGet 0#32 s.fab.slots r.slot) (r.initiator / 2) = true) :
    Makes (.fabricRequestAtRoot r) s fun t =>
      ∃ j, t.fabJob r.ident = some j ∧ j.req = { r with fe := s.fab.fe } ∧ j.open_ = true ∧ j.await = s.memberLinks { r with fe := s.fab.fe } := by
  refine .of_finish (exec_requestStamped hup hin hlevel hdue hslot) ?_
  have hfab : (s.untilNs (r.launched + 8 + 64 * s.fabJ)).fab = s.fab := by simp
  generalize s.untilNs (r.launched + 8 + 64 * s.fabJ) = u at hfab ⊢
  rw [hfab]
  exact ⟨_, u.searchDown_job { r with fe := s.fab.fe }, rfl, rfl, State.memberLinks_of_fab hfab { r with fe := s.fab.fe }⟩

theorem searchInstant_noTable {s : State} {r : FabRequest} (hup : s.coreUp = true) (hin : s.fab.joined = true)
    (hlevel : s.fab.level ≠ 0) (hstep : s.fab.fe + 1 ≠ r.fe) (hfe : r.fe + 1 ≠ s.fab.fe) (hleaf : s.memberLinks r = [])
    (hnone : s.fabJob r.ident = none) (hex : r.exact = false) (hdesc : s.ternDesc r.table s.glue.c = none) :
    Makes (.fabricSearchInstant r) s fun t =>
      t.fabJob r.ident = none ∧ t.out.links = s.out.links ++ [(.d0, .fabReply r.ident { fabReply0 with noTable := 1 })] := by
  refine .of_finish (exec_searchInstant hup hin hlevel hstep) ?_
  have hdesc' := s.untilNs_desc (r.launched + 8 + 128 * s.fabJ) r.table s.glue.c
  have hfab : (s.untilNs (r.launched + 8 + 128 * s.fabJ)).fab = s.fab := by simp
  have hglue : (s.untilNs (r.launched + 8 + 128 * s.fabJ)).glue = s.glue := by simp
  have hout : (s.untilNs (r.launched + 8 + 128 * s.fabJ)).out = s.out := by simp
  generalize s.untilNs (r.launched + 8 + 128 * s.fabJ) = u at hdesc' hfab hglue hout ⊢
  have hleaf' : u.memberLinks r = [] := (State.memberLinks_of_fab hfab r).trans hleaf
  have hnone' : u.fabJob r.ident = none := (State.fabJob_of_fab hfab _).trans hnone
  have hepoch : (u.setJobF (u.memberJob r)).fabEpoch r = s.glue.c := by
    rw [State.fabEpoch_now (by show r.fe + 1 ≠ u.fab.fe; rw [hfab]; exact hfe), ← hglue]
    rfl
  have hlocal : (u.searchDown r).localSearch r = (u.searchDown r).contribute r.ident { fabReply0 with noTable := 1 } := by
    rw [State.searchDown_leaf hleaf']
    exact State.localSearch_none hex (by rw [hepoch]; exact hdesc'.trans hdesc)
  obtain ⟨hend, hlinks⟩ := State.contribute_leaf (x := { fabReply0 with noTable := 1 }) hleaf' hnone' (by rw [hfab]; exact hlevel)
  rw [hlocal]
  refine ⟨hend, ?_⟩
  rw [mergeFab_noTable, hout] at hlinks
  exact hlinks

theorem searchInstant_ternary {s : State} {r : FabRequest} {d : TernDesc} (hup : s.coreUp = true) (hin : s.fab.joined = true)
    (hlevel : s.fab.level ≠ 0) (hstep : s.fab.fe + 1 ≠ r.fe) (hfe : r.fe + 1 ≠ s.fab.fe) (hleaf : s.memberLinks r = [])
    (hex : r.exact = false) (hdesc : s.ternDesc r.table s.glue.c = some d) (hwidth : d.width = r.width) :
    Makes (.fabricSearchInstant r) s fun t =>
      ∃ x, t.tern.searches = s.tern.searches ++ [x] ∧ x.lane = 8 ∧ x.role = r.ident ∧ x.urgent = true ∧ x.phase = .waiting ∧
        x.epoch = s.glue.c ∧ x.key = r.key ∧ x.table = r.table := by
  refine .of_finish (exec_searchInstant hup hin hlevel hstep) ?_
  have hdesc' := s.untilNs_desc (r.launched + 8 + 128 * s.fabJ) r.table s.glue.c
  have hsearch := s.untilNs_searches (r.launched + 8 + 128 * s.fabJ)
  have hfab : (s.untilNs (r.launched + 8 + 128 * s.fabJ)).fab = s.fab := by simp
  have hglue : (s.untilNs (r.launched + 8 + 128 * s.fabJ)).glue = s.glue := by simp
  generalize s.untilNs (r.launched + 8 + 128 * s.fabJ) = u at hdesc' hsearch hfab hglue ⊢
  have hleaf' : u.memberLinks r = [] := (State.memberLinks_of_fab hfab r).trans hleaf
  have hepoch : (u.setJobF (u.memberJob r)).fabEpoch r = s.glue.c := by
    rw [State.fabEpoch_now (by show r.fe + 1 ≠ u.fab.fe; rw [hfab]; exact hfe), ← hglue]
    rfl
  rw [State.searchDown_leaf hleaf', State.localSearch_tern (d := d) hex (by rw [hepoch]; exact hdesc'.trans hdesc) hwidth, hepoch]
  have hissued := ((u.setJobF (u.memberJob r)).cnt Reg.fabricLocalCount 1).fabTernary_searches r s.glue.c
  refine ⟨((u.setJobF (u.memberJob r)).cnt Reg.fabricLocalCount 1).memberSearch r s.glue.c, ?_, rfl, rfl, rfl, rfl, rfl, rfl, rfl⟩
  rw [← hsearch]
  exact hissued

theorem fabricGrantDeadline_late {s : State} {n : Nat} {j : FabJob} {x : Search} (hup : s.coreUp = true) (hj : s.fabJob n = some j)
    (hx : s.tern.searches.find? (fun x => x.lane == 8 && x.frame == 0 && x.role == n && x.phase != .granted) = some x) (hw : j.await ≠ []) :
    Makes (.fabricGrantDeadline n) s fun t =>
      t.tern.searches = s.tern.searches.erase x ∧
      t.rd Reg.fabricLocalLateCount = w32 (min 0xFFFFFFFF ((s.rd Reg.fabricLocalLateCount).toNat + 1)) ∧
      ∃ k, t.fabJob n = some k ∧ k.merged.incomplete = true ∧ k.open_ = false ∧ k.await = j.await := by
  refine .of_finish (exec_grantDeadline hup hj hx) ?_
  have hsearch := s.untilNs_searches (j.req.launched + ceilDiv ((90 + 160 * s.fabJ) * 4) 5)
  have hfab : (s.untilCycle j.req (90 + 160 * s.fabJ)).fab = s.fab := by simp [State.untilCycle]
  have hrd : (s.untilCycle j.req (90 + 160 * s.fabJ)).rd Reg.fabricLocalLateCount = s.rd Reg.fabricLocalLateCount :=
    s.untilNs_rd _ (by unfold clockCounts; decide)
  change (s.untilCycle j.req (90 + 160 * s.fabJ)).tern.searches = _ at hsearch
  generalize s.untilCycle j.req (90 + 160 * s.fabJ) = u at hsearch hfab hrd ⊢
  obtain rfl : x.role = n := by
    have h := List.find?_some hx
    simp only [Bool.and_eq_true, beq_iff_eq] at h
    exact h.1.2
  rw [State.lateLocal_awaits ((State.fabJob_of_fab hfab _).trans hj) hw]
  refine ⟨?_, ?_, _, State.fabJob_reset hj _ (k := j.contributed lateReply) rfl, ?_, rfl, rfl⟩
  · show u.tern.searches.erase x = _
    rw [hsearch]
  · rw [← hrd]
    exact (State.rd_of_vals rfl _).trans (u.rd_cnt_one _)
  · simp [FabJob.contributed, mergeFab, lateReply]

theorem fabricReply_merges {s : State} {n : Nat} {j : FabJob} {l : LinkId} (r : FabReply) (hup : s.coreUp = true) (hj : s.fabJob n = some j) (hl : l ≠ .d0)
    (hw : j.await.contains l = true) (ho : j.open_ = true) :
    Makes (.fabricReply l n r) s fun t =>
      t.fabJob n = some { j with await := j.await.filter (· != l), merged := mergeFab j.req.multi j.merged r } ∧ t.out.links = s.out.links := by
  refine .of_finish (exec_fabricReply r hup hj hl hw) ?_
  have hset : (s.setJobF (j.replied l r)).fabJob n = some (j.replied l r) := State.fabJob_reset hj s rfl
  rw [State.fabSettle_open hset ho]
  exact ⟨hset, rfl⟩

theorem fabricChildTimeout_makes {s : State} {n : Nat} {j : FabJob} {l : LinkId} (hup : s.coreUp = true) (hj : s.fabJob n = some j) (hw : j.await.contains l = true)
    (ho : j.open_ = true) :
    Makes (.fabricChildTimeout n l) s fun t =>
      ∃ k, t.fabJob n = some k ∧ k.await = j.await.filter (· != l) ∧ k.merged.incomplete = true ∧
        k.merged.absent = j.merged.absent + (s.nodesUnder j.req l).length := by
  obtain ⟨u, hfab, hexec⟩ := exec_childTimeout hup hj hw
  have hset : (u.setJobF (j.replied l (u.goneReply j l))).fabJob n = some (j.replied l (u.goneReply j l)) :=
    State.fabJob_reset hj u rfl
  refine .of_finish hexec ?_
  rw [State.fabSettle_open hset ho]
  refine ⟨_, hset, rfl, ?_, ?_⟩
  · simp [FabJob.replied, mergeFab, State.goneReply]
  · simp only [FabJob.replied, mergeFab, State.goneReply, State.nodesUnder, State.routesFor, hfab]

/-- Settles O48: each command and row by its one arm. -/
theorem fabricSearchesComplete : Obligations.FabricSearchesComplete := by
  unfold Obligations.FabricSearchesComplete
  refine ⟨fun q s ht hok => ?_, fun s hup hin => ⟨fun q rest n st hfw hl hok hslot hlevel => fabricSearchLaunch_makes hfw hl hok hslot hlevel,
    fun r => ⟨fun hlevel => .of_finish (exec_requestClimbs hup hin hlevel) ⟨rfl, rfl⟩,
      fun hlevel hdue hslot => requestStamped_makes hup hin hlevel hdue hslot,
      fun hlevel hdue hmine hnone => .of_finish (exec_requestLate hup hin hlevel hdue hmine hnone) ⟨rfl, s.rd_cnt_one _⟩,
      fun hlevel hstep hfe hleaf hnone => ⟨fun hex hdesc => searchInstant_noTable hup hin hlevel hstep hfe hleaf hnone hex hdesc,
        fun d hex hdesc hwidth => searchInstant_ternary hup hin hlevel hstep hfe hleaf hex hdesc hwidth⟩⟩,
    fun n j hj => ⟨fun x hx hw => fabricGrantDeadline_late hup hj hx hw, fun l r hl hw ho => fabricReply_merges r hup hj hl hw ho,
      fun l hw ho => fabricChildTimeout_makes hup hj hw ho,
      fun q r hown hres href hinc => ⟨_, (exec_fabricResult hup hj hown hres href hinc).trans (finish_eq _ _), State.fabJob_dropJobF _ _,
        s.untilNs_searches _⟩⟩⟩⟩
  have hbody : s.fabricSearch q = ({ s with fab := { s.fab with launches := s.fab.launches ++ [q] } }, .quiet) := by
    rw [State.fabricSearch, if_neg (by simp [hok])]
  show finish s (runCmd Op.fabricSearch q State.fabricSearch s) = _
  rw [runCmd_taken _ ht, hbody]
  rfl

end Sys2Proof.Machine


/-! Scratchpad accesses and the host access path (R399 to R408). -/

namespace Sys2Proof.Machine

/-! ## Words -/

/-- The bytes of a word of which the first `n` have been written. -/
def State.putBytes (s : State) (o : Nat) (v : DWord) (be n : Nat) : State :=
  (List.range n).foldl (fun s i => if nfld be i 1 = 1 then s.putByte (o + i) (BitVec.ofNat 8 (v.toNat / 256 ^ i)) else s) s

theorem State.putBytes_succ (s : State) (o : Nat) (v : DWord) (be n : Nat) : s.putBytes o v be (n + 1) =
    if nfld be n 1 = 1 then (s.putBytes o v be n).putByte (o + n) (BitVec.ofNat 8 (v.toNat / 256 ^ n)) else s.putBytes o v be n := by
  rw [State.putBytes, List.range_succ, List.foldl_append]
  rfl

theorem State.scrByte_putBytes_out (s : State) {o p n : Nat} (v : DWord) (be : Nat) (h : p < o ∨ o + n ≤ p) :
    (s.putBytes o v be n).scrByte p = s.scrByte p := by
  induction n with
  | zero => rfl
  | succ n ih =>
    rw [State.putBytes_succ]
    split
    · rw [State.scrByte_putByte_ne _ _ (by omega), ih (by omega)]
    · exact ih (by omega)

theorem State.scrByte_putBytes_in (s : State) {o i n : Nat} (v : DWord) (be : Nat) (h : i < n) : (s.putBytes o v be n).scrByte (o + i) =
    if nfld be i 1 = 1 then BitVec.ofNat 8 (v.toNat / 256 ^ i) else s.scrByte (o + i) := by
  induction n with
  | zero => omega
  | succ n ih =>
    rw [State.putBytes_succ]
    by_cases hi : i = n
    · subst hi
      split
      · exact State.scrByte_putByte_same _ _ _
      · exact s.scrByte_putBytes_out v be (.inr (Nat.le_refl _))
    · have hlt : i < n := by omega
      rw [← ih hlt]
      split
      · exact State.scrByte_putByte_ne _ _ (by omega)
      · rfl

theorem State.scrByte_putWord_out (s : State) {o p : Nat} (v : DWord) (be : Nat) (h : p < o ∨ o + 8 ≤ p) :
    (s.putWord o v be).scrByte p = s.scrByte p := s.scrByte_putBytes_out (n := 8) v be h

theorem State.scrByte_putWord_in (s : State) (o : Nat) {i : Nat} (v : DWord) (be : Nat) (h : i < 8) : (s.putWord o v be).scrByte (o + i) =
    if nfld be i 1 = 1 then BitVec.ofNat 8 (v.toNat / 256 ^ i) else s.scrByte (o + i) := s.scrByte_putBytes_in v be h

theorem State.putBytes_frame (s : State) (o : Nat) (v : DWord) (be n : Nat) :
    ∃ m b, s.putBytes o v be n = { s with scr := { s.scr with mem := m, bad := b } } := by
  induction n with
  | zero => exact ⟨_, _, rfl⟩
  | succ n ih =>
    obtain ⟨m, b, h⟩ := ih
    rw [State.putBytes_succ, h]
    split
    · exact ⟨_, _, rfl⟩
    · exact ⟨_, _, rfl⟩

theorem State.putWord_frame (s : State) (o : Nat) (v : DWord) (be : Nat) :
    ∃ m b, s.putWord o v be = { s with scr := { s.scr with mem := m, bad := b } } := s.putBytes_frame o v be 8

theorem lt_four_cases {n : Nat} (h : n < 4) : n = 0 ∨ n = 1 ∨ n = 2 ∨ n = 3 := by omega

theorem lt_eight_cases {n : Nat} (h : n < 8) : n = 0 ∨ n = 1 ∨ n = 2 ∨ n = 3 ∨ n = 4 ∨ n = 5 ∨ n = 6 ∨ n = 7 := by omega

/-- The bytes of a 64-bit word make the word. -/
theorem bytes_of_dword (v : DWord) : BitVec.ofNat 64 (ofBytesLE ((List.range 8).map (fun i => BitVec.ofNat 8 (v.toNat / 256 ^ i)))) = v := by
  apply BitVec.eq_of_toNat_eq
  have hv := v.isLt
  have hr : List.range 8 = [0, 1, 2, 3, 4, 5, 6, 7] := by decide
  rw [hr]
  simp only [List.map_cons, List.map_nil, ofBytesLE, BitVec.toNat_ofNat]
  omega

theorem State.scrWord_putWord (s : State) (o : Nat) (v : DWord) : (s.putWord o v 0xFF).scrWord o = v := by
  have hbytes : (List.range 8).map (fun i => (s.putWord o v 0xFF).scrByte (o + i)) =
      (List.range 8).map (fun i => BitVec.ofNat 8 (v.toNat / 256 ^ i)) := by
    apply List.map_congr_left
    intro i hi
    have hlt : i < 8 := List.mem_range.mp hi
    rw [s.scrByte_putWord_in o v 0xFF hlt, if_pos (by obtain rfl | rfl | rfl | rfl | rfl | rfl | rfl | rfl := lt_eight_cases hlt <;> decide)]
  rw [State.scrWord, hbytes, bytes_of_dword]

/-! ## One access -/

/-- The access with its count, before it takes effect. -/
def State.accessed (s : State) (q : ScratchReq) : State := if q.atomic then s.cnt Reg.scratchAtomicCount 1 else s

theorem State.accessed_scr (s : State) (q : ScratchReq) : (s.accessed q).scr = s.scr := by
  unfold State.accessed
  split <;> rfl

theorem State.accessed_rd (s : State) (q : ScratchReq) {a : Nat} (h : a ≠ Reg.scratchAtomicCount) : (s.accessed q).rd a = s.rd a := by
  unfold State.accessed
  split
  · exact s.rd_cnt_ne 1 h
  · rfl

/-- What an access leaves of the scratchpad. -/
def State.landed (s : State) (q : ScratchReq) : State :=
  match q.op with
  | .read => s
  | .write => s.putWord q.word q.data q.be.toNat
  | .add => s.putWord q.word (s.scrWord q.word + q.data) 0xFF
  | .swap => s.putWord q.word q.data 0xFF

theorem State.landed_frame (s : State) (q : ScratchReq) : ∃ m b, s.landed q = { s with scr := { s.scr with mem := m, bad := b } } := by
  unfold State.landed
  split
  · exact ⟨_, _, rfl⟩
  · exact s.putWord_frame _ _ _
  · exact s.putWord_frame _ _ _
  · exact s.putWord_frame _ _ _

theorem State.landed_out (s : State) (q : ScratchReq) {o : Nat} (h : o < q.word ∨ q.word + 8 ≤ o) : (s.landed q).scrByte o = s.scrByte o := by
  unfold State.landed
  split
  · rfl
  · exact s.scrByte_putWord_out _ _ h
  · exact s.scrByte_putWord_out _ _ h
  · exact s.scrByte_putWord_out _ _ h

theorem State.scrWord_of_scr {s t : State} (h : t.scr = s.scr) (o : Nat) : t.scrWord o = s.scrWord o := by
  simp only [State.scrWord, State.scrByte, h]

/-- An access that the secure region bars changes nothing. -/
theorem State.scrAccess_barred (s : State) {q : ScratchReq} (hb : q.barred = true) : s.scrAccess q = (s.accessed q, ⟨0, 0, true⟩) := by
  unfold State.scrAccess State.scrRead
  dsimp only
  cases q.op <;> simp only [hb, if_true, State.accessed]

/-- An access to a word of good parity that is not barred. -/
theorem State.scrAccess_open {s : State} {q : ScratchReq} (hb : q.barred = false) (hbad : s.badBytes q.word = 0) :
    s.scrAccess q = ((s.accessed q).landed q, ⟨if q.op = .write then 0 else s.scrWord q.word, 0, false⟩) := by
  have hbad' : (s.accessed q).badBytes q.word = 0 := by rw [State.badBytes, s.accessed_scr]; exact hbad
  have hnote : (s.accessed q).noteParity q = s.accessed q := by
    unfold State.noteParity
    dsimp only
    rw [hbad', if_pos rfl]
  have hword := State.scrWord_of_scr (s.accessed_scr q) q.word
  have hread : (s.accessed q).scrRead q = (s.accessed q, ⟨s.scrWord q.word, 0, false⟩) := by
    rw [State.scrRead, if_neg (by simp [hb]), hnote, hbad', hword]
  unfold State.scrAccess State.landed
  change (match q.op with
    | .read => (s.accessed q).scrRead q
    | .write => if q.barred then (s.accessed q, ⟨0, 0, true⟩) else ((s.accessed q).putWord q.word q.data q.be.toNat, ⟨0, 0, false⟩)
    | .add => let (t, r) := (s.accessed q).scrRead q; (if q.barred then t else t.putWord q.word (r.data + q.data) 0xFF, r)
    | .swap => let (t, r) := (s.accessed q).scrRead q; (if q.barred then t else t.putWord q.word q.data 0xFF, r)) = _
  rw [hread, hword]
  cases q.op <;> simp [hb]

theorem State.scrDone_scr (s : State) (q : ScratchReq) (r : ScratchRes) (lost refused : Bool) : (s.scrDone q r lost refused).scr =
    { s.scr with done := s.scr.done ++ [⟨q, r.data, lost, r.secure, BitVec.ofNat 8 r.bad, refused⟩] } := by
  unfold State.scrDone
  dsimp only
  split
  · rfl
  · split <;> rfl

/-! ## A grant in one MCLK of a bank -/

/-- The state with the arbiter's books changed and nothing waiting. -/
def State.granted (s : State) (a : ArbSt) : State := { s with scr := { s.scr with waits := [] }, arb := a }

theorem sortBy_one {α : Type} (k : α → Nat) (x : α) : sortBy k [x] = [x] := rfl

theorem State.pickAccess_other {s : State} {q : ScratchReq} {l : Nat} (hw : s.scr.waits = [⟨q, 0, false, false⟩]) (hl : q.letter ≠ l) :
    s.pickAccess q.bank l = none := by
  unfold State.pickAccess State.portWaits
  dsimp only
  rw [hw, List.filter_cons, if_neg (by simp [hl]), List.filter_nil, List.filter_nil]
  rfl

theorem State.refuseBroken_one {s : State} {q : ScratchReq} (hlock : q.lock = 0) (hw : s.scr.waits = [⟨q, 0, false, false⟩]) :
    s.refuseBroken q.bank = s := by
  unfold State.refuseBroken
  simp only [hw, List.filter_cons, List.filter_nil, hlock, Nat.reduceLeDiff, decide_false, Bool.and_false, Bool.false_and, Bool.false_eq_true,
    if_false, Bool.not_false, if_true, List.foldl_nil]
  rw [← hw]

theorem State.grantAccess_one {s : State} {q : ScratchReq} (hlocks : s.arb.locks = []) (hlock : q.lock = 0)
    (hw : s.scr.waits = [⟨q, 0, false, false⟩]) : ∃ a, s.grantAccess ⟨q, 0, false, false⟩ = s.granted a ∧ a.locks = [] := by
  unfold State.grantAccess
  dsimp only
  rw [if_neg (show ¬ (1 ≤ q.lock ∧ q.lock ≤ 64) by omega), if_neg (show ¬ q.lock = 66 by omega), if_neg (by simp), hw, List.erase_cons_head]
  exact ⟨_, rfl, hlocks⟩

section
variable {s : State} {q : ScratchReq} (hlocks : s.arb.locks = []) (hwin : s.glean.window = none) (hclear : s.clearing = false)
  (hlock : q.lock = 0) (hw : s.scr.waits = [⟨q, 0, false, false⟩])
include hlocks hwin hclear hlock hw

theorem State.pickAccess_one : s.pickAccess q.bank q.letter = some ⟨q, 0, false, false⟩ := by
  have hblock : s.windowBlocks q = false := by simp [State.windowBlocks, State.inWindow, hwin]
  have hheld : s.lockBlocks q = false := by simp [State.lockBlocks, State.lockOn, hlocks, hlock]
  unfold State.pickAccess State.portWaits
  dsimp only
  rw [hw, List.filter_cons, if_pos (by simp), List.filter_nil, List.filter_cons, if_pos (by simp [hblock, hheld, hclear]), List.filter_nil,
    sortBy_one, List.head?_cons]

/-- With one access waiting, it is granted and takes effect. -/
theorem State.bankCycle_one : ∃ a, s.bankCycle q.bank = (s.granted a).scrLand q := by
  obtain ⟨a, hgrant, hfree⟩ := State.grantAccess_one hlocks hlock hw
  have hage : (s.granted a).ageLocks q.bank = s.granted a := by
    have hl : (s.granted a).arb.locks = [] := hfree
    unfold State.ageLocks
    dsimp only
    rw [hl, List.map_nil, List.filter_nil, List.filter_nil, List.foldl_nil, ← hl]
  have hwaits (l : Nat) : (s.granted a).portWaits q.bank l = [] := rfl
  have hhint : (s.granted a).hostHint q.bank = s.granted a := by
    unfold State.hostHint
    rw [hwaits]
    rfl
  have hletter : q.letter = 0 ∨ q.letter = 1 := by
    unfold ScratchReq.letter
    split
    · exact .inr rfl
    · exact .inl rfl
  have hpick := State.pickAccess_one hlocks hwin hclear hlock hw
  have hnone (l : Nat) := State.pickAccess_other (l := l) hw
  refine ⟨a, ?_⟩
  unfold State.bankCycle
  dsimp only
  rw [State.refuseBroken_one hlock hw]
  rcases hletter with hl | hl
  · rw [hl] at hpick hnone
    rw [hpick, hnone 1 (by decide)]
    simp only [Option.elim_some, Option.elim_none, hgrant, hage, hwaits, List.append_nil, List.foldl_nil, hhint]
  · rw [hl] at hpick hnone
    rw [hpick, hnone 0 (by decide)]
    simp only [Option.elim_some, Option.elim_none, hgrant, hage, hwaits, List.append_nil, List.foldl_nil, hhint]

end

/-! ## SCRATCH_ACCESS_GRANT -/

theorem State.readerFaults_none {s : State} {n : Nat} (h : ∀ d ∈ s.scr.done.drop n, d.badBytes = 0) : s.readerFaults n = s := by
  have hnil : (s.scr.done.drop n).filter (fun d => d.badBytes != 0) = [] :=
    List.filter_eq_nil_iff.mpr fun d hd => by simp [h d hd]
  unfold State.readerFaults
  dsimp only
  rw [hnil]
  rfl

theorem State.hostStart_idle {s : State} (h : s.scr.hostNext = false) : s.hostStart = s := by
  rw [State.hostStart, if_pos (.inr (by simp [h]))]

/-- The state in which an access that has reached its arbiter takes effect. -/
def State.reached (s : State) (q : ScratchReq) (a : ArbSt) : State := (s.scrArrive [q]).granted a

section
variable {s : State} {q : ScratchReq} (hwaits : s.scr.waits = []) (hlocks : s.arb.locks = []) (hwin : s.glean.window = none)
  (hclear : s.clearing = false) (hlock : q.lock = 0)
include hwaits hlocks hwin hclear hlock

/-- One MCLK of the bank of the only access there is. -/
theorem State.bankCycle_arrived : ∃ a, (s.scrArrive [q]).bankCycle q.bank = (s.reached q a).scrLand q := by
  have hw : (s.scrArrive [q]).scr.waits = [⟨q, 0, false, false⟩] := by
    show s.scr.waits ++ _ = _
    rw [hwaits]
    rfl
  exact State.bankCycle_one (s := s.scrArrive [q]) hlocks hwin hclear hlock hw

theorem State.bankCycle_faultless (hland : ∀ a, ∃ d, ((s.reached q a).scrLand q).scr.done = s.scr.done ++ [d] ∧ d.badBytes = 0) :
    ∃ a, ((s.scrArrive [q]).bankCycle q.bank).readerFaults s.scr.done.length = (s.reached q a).scrLand q := by
  obtain ⟨a, ha⟩ := State.bankCycle_arrived hwaits hlocks hwin hclear hlock
  obtain ⟨d, hd, hbad⟩ := hland a
  refine ⟨a, ?_⟩
  rw [ha]
  refine State.readerFaults_none ?_
  rw [hd, List.drop_left]
  simpa using hbad

end

theorem State.scrLand_eq {s t : State} {q : ScratchReq} {r : ScratchRes} (h : s.scrAccess q = (t, r)) :
    s.scrLand q = t.scrDone q r false false := by
  rw [State.scrLand, h]

/-- An access that is barred leaves the memory alone, and its completion says so. -/
theorem State.scrLand_barred (s : State) {q : ScratchReq} (hb : q.barred = true) : (s.scrLand q).scr =
    { s.scr with done := s.scr.done ++ [⟨q, 0, false, true, 0, false⟩] } := by
  rw [State.scrLand_eq (s.scrAccess_barred hb), State.scrDone_scr, s.accessed_scr]
  rfl

/-- The completion of an access to a word of good parity. -/
def State.openDone (s : State) (q : ScratchReq) : ScratchDone := ⟨q, if q.op = .write then 0 else s.scrWord q.word, false, false, 0, false⟩

theorem State.scrLand_open {s : State} {q : ScratchReq} (hb : q.barred = false) (hbad : s.badBytes q.word = 0) :
    (s.scrLand q).scr = { ((s.accessed q).landed q).scr with done := s.scr.done ++ [s.openDone q] } := by
  have hdone : ((s.accessed q).landed q).scr.done = s.scr.done := by
    obtain ⟨m, b, h⟩ := (s.accessed q).landed_frame q
    rw [h]
    show (s.accessed q).scr.done = _
    rw [s.accessed_scr]
  rw [State.scrLand_eq (State.scrAccess_open hb hbad), State.scrDone_scr, hdone]
  rfl

theorem State.scrByte_of_scr {s t : State} (h : t.scr.mem = s.scr.mem) (o : Nat) : t.scrByte o = s.scrByte o := by
  rw [State.scrByte, State.scrByte, h]

theorem State.scrWord_of_mem {s t : State} (h : t.scr.mem = s.scr.mem) (o : Nat) : t.scrWord o = s.scrWord o := by
  simp only [State.scrWord, State.scrByte, h]

/-- What an access leaves, said of the memory before it. -/
theorem State.scrLand_word {s t : State} {q : ScratchReq} (hb : q.barred = false) (hbad : s.badBytes q.word = 0) (ht : t.scr = (s.scrLand q).scr) :
    (∀ o, o < q.word ∨ q.word + 8 ≤ o → t.scrByte o = s.scrByte o) ∧
    (match q.op with
      | .read => t.scrWord q.word = s.scrWord q.word
      | .write => ∀ i, i < 8 → t.scrByte (q.word + i) =
        if nfld q.be.toNat i 1 = 1 then BitVec.ofNat 8 (q.data.toNat / 256 ^ i) else s.scrByte (q.word + i)
      | .add => t.scrWord q.word = s.scrWord q.word + q.data
      | .swap => t.scrWord q.word = q.data) := by
  have hmem : t.scr.mem = ((s.accessed q).landed q).scr.mem := by rw [ht, State.scrLand_open hb hbad]
  have hacc := s.accessed_scr q
  refine ⟨fun o ho => ?_, ?_⟩
  · rw [State.scrByte_of_scr hmem, State.landed_out _ _ ho]
    exact State.scrByte_of_scr (congrArg ScratchSt.mem hacc) o
  · cases hop : q.op with
    | read =>
      have hland : (s.accessed q).landed q = s.accessed q := by rw [State.landed, hop]
      rw [hland, hacc] at hmem
      exact State.scrWord_of_mem hmem _
    | write =>
      have hland : (s.accessed q).landed q = (s.accessed q).putWord q.word q.data q.be.toNat := by rw [State.landed, hop]
      intro i hi
      rw [State.scrByte_of_scr hmem, hland, State.scrByte_putWord_in _ _ _ _ hi, State.scrByte_of_scr (congrArg ScratchSt.mem hacc)]
    | add =>
      have hland : (s.accessed q).landed q = (s.accessed q).putWord q.word ((s.accessed q).scrWord q.word + q.data) 0xFF := by rw [State.landed, hop]
      show t.scrWord q.word = _
      rw [State.scrWord_of_mem hmem, hland, State.scrWord_putWord, State.scrWord_of_scr hacc]
    | swap =>
      have hland : (s.accessed q).landed q = (s.accessed q).putWord q.word q.data 0xFF := by rw [State.landed, hop]
      show t.scrWord q.word = _
      rw [State.scrWord_of_mem hmem, hland, State.scrWord_putWord]

/-- The grant of one access of a master other than the host path. -/
theorem exec_scratchAccessGrant {s : State} {b : Fin 16} {q : ScratchReq} {x y : List ScratchReq} (hup : s.coreUp = true)
    (hbank : q.bank = b.val) (hm : q.master ≠ 4) (hxy : q.letter = 0 ∧ x = [q] ∧ y = [] ∨ q.letter = 1 ∧ x = [] ∧ y = [q]) :
    exec (.scratchAccessGrant b x y) s = finishScr s
      ((((s.scrArrive [q]).bankCycle q.bank).readerFaults s.scr.done.length).hostStart) := by
  show finishScr s (whileUp s _) = _
  rw [whileUp_up _ hup]
  rcases hxy with ⟨hl, rfl, rfl⟩ | ⟨hl, rfl, rfl⟩
  · simp [hbank, hl, hm]
  · simp [hbank, hl, hm]

section
variable {s : State} {q : ScratchReq} (hwaits : s.scr.waits = []) (hlocks : s.arb.locks = []) (hwin : s.glean.window = none)
  (hclear : s.clearing = false) (hnext : s.scr.hostNext = false) (hlock : q.lock = 0)
include hwaits hlocks hwin hclear hnext hlock

/-- The cycle of an access whose landing is known: nothing else follows from it. -/
theorem State.accessCycle {d : ScratchDone} (hbad : d.badBytes = 0)
    (hland : ∀ a, ∃ m b, ((s.reached q a).scrLand q).scr = { s.scr with mem := m, bad := b, waits := [], done := s.scr.done ++ [d] }) :
    ∃ a, (((s.scrArrive [q]).bankCycle q.bank).readerFaults s.scr.done.length).hostStart = (s.reached q a).scrLand q := by
  obtain ⟨a, ha⟩ := State.bankCycle_faultless (q := q) hwaits hlocks hwin hclear hlock fun a => by
    obtain ⟨m, b, h⟩ := hland a
    exact ⟨d, by rw [h], hbad⟩
  obtain ⟨m, b, h⟩ := hland a
  exact ⟨a, by rw [ha, State.hostStart_idle (by rw [h]; exact hnext)]⟩

end

/-- The landing of an open access, of the state that it reaches. -/
theorem State.reached_open {s : State} {q : ScratchReq} (hb : q.barred = false) (hbad : s.badBytes q.word = 0) (a : ArbSt) :
    ∃ m b, ((s.reached q a).scrLand q).scr = { s.scr with mem := m, bad := b, waits := [], done := s.scr.done ++ [s.openDone q] } := by
  obtain ⟨m, b, h⟩ := ((s.reached q a).accessed q).landed_frame q
  refine ⟨m, b, ?_⟩
  rw [State.scrLand_open (s := s.reached q a) hb hbad, h, State.accessed_scr]
  rfl

theorem State.reached_barred {s : State} {q : ScratchReq} (hb : q.barred = true) (a : ArbSt) :
    ((s.reached q a).scrLand q).scr = { s.scr with waits := [], done := s.scr.done ++ [⟨q, 0, false, true, 0, false⟩] } := by
  rw [State.scrLand_barred _ hb]
  rfl

/-! ## The host access path -/

/-- SCRATCH_HOST_CMD as it stands after a write with GO and the OP given. -/
def hostCmd (op : Nat) (v : Word) : Word := merge 0 (merge v (w32 (2 ^ 31 + op)) 0x80000003) 0xFF13

/-- The state in which the request of the host path reaches its arbiter. -/
def State.hostCmded (s : State) (op : Nat) (v : Word) : State :=
  { s.wr Reg.scratchHostCmd (hostCmd op v) with scr := { s.scr with hostNext := false } }

theorem hostCmd_op {op : Nat} (v : Word) (h : op < 4) : fld (hostCmd op v) 0 2 = op := by
  rw [hostCmd, fld_merge_in _ _ (by decide), fld_merge_in _ _ (by decide), fld_w32 _ _ (by decide)]
  omega

theorem hostCmd_be (op : Nat) (v : Word) : fld (hostCmd op v) 8 8 = fld v 8 8 := by
  rw [hostCmd, fld_merge_in _ _ (by decide), fld_merge_out _ _ (by decide)]

theorem hostCmd_go {op : Nat} (v : Word) (h : op < 4) : bit (merge v (w32 (2 ^ 31 + op)) 0x80000003) 31 = true := by
  rw [bit_eq, getLsbD_merge, if_pos (by decide)]
  obtain rfl | rfl | rfl | rfl := lt_four_cases h <;> decide

/-- The request of the host path. -/
theorem State.latchHost_eq (s : State) (op : Nat) (v : Word) : (s.hostCmded op v).latchHost.master = 4 ∧
    (s.hostCmded op v).latchHost.offset = BitVec.ofNat 22 (s.rf Reg.scratchHostAddr 3 19 * 8) ∧
    (s.hostCmded op v).latchHost.be = BitVec.ofNat 8 (fld v 8 8) ∧
    (s.hostCmded op v).latchHost.data = BitVec.ofNat 64 (s.rd64 Reg.scratchHostWdataLo) ∧ (s.hostCmded op v).latchHost.lock = 0 := by
  have hrd {a : Nat} (ha : a ≠ Reg.scratchHostCmd) : (s.hostCmded op v).rd a = s.rd a := (State.rd_of_vals rfl a).trans (s.rd_wr_ne _ ha)
  have hcmd : (s.hostCmded op v).rd Reg.scratchHostCmd = hostCmd op v := (State.rd_of_vals rfl _).trans (s.rd_wr_same _ _)
  unfold State.latchHost
  refine ⟨rfl, ?_, ?_, ?_, rfl⟩
  · simp only [State.rf, hrd (show Reg.scratchHostAddr ≠ Reg.scratchHostCmd by decide)]
  · simp only [hcmd, hostCmd_be]
  · simp only [State.rd64, hrd (show Reg.scratchHostWdataLo ≠ Reg.scratchHostCmd by decide),
      hrd (show Reg.scratchHostWdataLo + 4 ≠ Reg.scratchHostCmd by decide)]

/-- The operation that OP names. -/
def hostOp (op : Nat) : ScratchOp :=
  match op with
  | 0 => .read
  | 1 => .write
  | 2 => .add
  | _ => .swap

theorem State.latchHost_op (s : State) {op : Nat} (v : Word) (h : op < 4) : (s.hostCmded op v).latchHost.op = hostOp op := by
  have hcmd : (s.hostCmded op v).rd Reg.scratchHostCmd = hostCmd op v := (State.rd_of_vals rfl _).trans (s.rd_wr_same _ _)
  show (match fld ((s.hostCmded op v).rd Reg.scratchHostCmd) 0 2 with | 0 => ScratchOp.read | 1 => .write | 2 => .add | _ => .swap) = _
  rw [hcmd, hostCmd_op v h]
  obtain rfl | rfl | rfl | rfl := lt_four_cases h <;> rfl

theorem State.hostRow_eq {s : State} {op : Nat} (v : Word) (h : op < 4) (hwaits : s.scr.waits = []) : s.hostRow op v =
    (((s.hostCmded op v).scrArrive [(s.hostCmded op v).latchHost]).bankCycle (s.hostCmded op v).latchHost.bank).readerFaults
      s.scr.done.length := by
  unfold State.hostRow State.hostGo
  dsimp only
  rw [if_pos (hostCmd_go v h), State.hostStart, if_neg (by simp [State.hostBusy, hwaits])]
  rfl

theorem State.rd64_wr64 (s : State) (a : Nat) {n : Nat} (h : n < 2 ^ 64) : (s.wr64 a n).rd64 a = n := by
  unfold State.rd64 State.wr64
  rw [State.rd_wr_same, State.rd_wr_ne _ _ (by omega), State.rd_wr_same, w32, w32, BitVec.toNat_ofNat, BitVec.toNat_ofNat]
  omega

theorem be_bit (v : Word) {i : Nat} (h : i < 8) : nfld (BitVec.ofNat 8 (fld v 8 8)).toNat i 1 = 1 ↔ bit v (8 + i) = true := by
  rw [BitVec.toNat_ofNat, Nat.mod_eq_of_lt (fld_lt v 8 8), nfld, bit, beq_iff_eq, fld, fld]
  obtain rfl | rfl | rfl | rfl | rfl | rfl | rfl | rfl := lt_eight_cases h <;> omega

/-- What the registers of the host path show of a request that has been answered. -/
theorem State.scrLand_host {s : State} {q : ScratchReq} (hm : q.master = 4) (hb : q.barred = false) (hbad : s.badBytes q.word = 0) :
    fld ((s.scrLand q).rd Reg.scratchHostResult) 0 2 = 0 ∧
    (q.op ≠ .write → (s.scrLand q).rd64 Reg.scratchHostRdataLo = (s.scrWord q.word).toNat) := by
  rw [State.scrLand_eq (State.scrAccess_open hb hbad), State.scrDone]
  generalize (s.accessed q).landed q = u
  dsimp only
  rw [if_neg (by simp [hm])]
  have hresult (x : Word) : fld (merge x (w32 (b2n false + b2n false * 2 + 0 * 2 ^ 8)) 0xFF03) 0 2 = 0 := by
    rw [fld_merge_in _ _ (by decide)]
    decide
  by_cases hop : q.op = .write
  · rw [if_pos hop, State.rd_wr_same]
    exact ⟨hresult _, fun h => absurd hop h⟩
  · rw [if_neg hop, if_neg hop, State.rd64_wr64 _ _ (s.scrWord q.word).isLt]
    refine ⟨?_, fun _ => rfl⟩
    rw [State.wr64, State.rd_wr_ne _ _ (by decide), State.rd_wr_ne _ _ (by decide), State.rd_wr_same]
    exact hresult _

/-- A request of the host path with nothing in its way: it is granted in the same cycle. -/
theorem State.hostRow_lands {s : State} {op o : Nat} (v : Word) (h : op < 4) (hwaits : s.scr.waits = []) (hlocks : s.arb.locks = [])
    (hwin : s.glean.window = none) (hclear : s.clearing = false) (ho : o = s.rf Reg.scratchHostAddr 3 19 * 8) (hin : o < 0x380000)
    (hbad : s.badBytes o = 0) : ∃ (a : ArbSt) (q : ScratchReq), s.hostRow op v = ((s.hostCmded op v).reached q a).scrLand q ∧ q.master = 4 ∧
      q.op = hostOp op ∧ q.word = o ∧ q.be = BitVec.ofNat 8 (fld v 8 8) ∧ q.data = BitVec.ofNat 64 (s.rd64 Reg.scratchHostWdataLo) ∧
      q.barred = false ∧ (s.hostCmded op v).badBytes q.word = 0 := by
  obtain ⟨hm, hoff, hbe, hdata, hlock⟩ := s.latchHost_eq op v
  have hop := s.latchHost_op v h
  rw [State.hostRow_eq v h hwaits]
  generalize (s.hostCmded op v).latchHost = q at hm hoff hbe hdata hlock hop ⊢
  rw [← ho] at hoff
  have hnat : q.offset.toNat = o := by rw [hoff, BitVec.toNat_ofNat]; omega
  have hword : q.word = o := by rw [ScratchReq.word, hnat]; omega
  have hb : q.barred = false := by simp [ScratchReq.barred, hnat]; omega
  have hbad' : (s.hostCmded op v).badBytes q.word = 0 := by rw [hword]; exact hbad
  obtain ⟨a, ha⟩ := State.bankCycle_faultless (s := s.hostCmded op v) (q := q) hwaits hlocks hwin hclear hlock fun a => by
    obtain ⟨m, b, h⟩ := State.reached_open hb hbad' a
    exact ⟨_, congrArg ScratchSt.done h, rfl⟩
  exact ⟨a, q, ha, hm, hop, hword, hbe, hdata, hb, hbad'⟩

theorem State.scrLand_read {s : State} {q : ScratchReq} (hb : q.barred = false) (hbad : s.badBytes q.word = 0) (hop : q.op = .read) :
    (s.scrLand q).scr.mem = s.scr.mem := by
  have hland : (s.accessed q).landed q = s.accessed q := by rw [State.landed, hop]
  rw [State.scrLand_open hb hbad, hland, s.accessed_scr]

/-- What a request of the host path does: its OP on the word at `o`, with the registers' data. -/
structure State.HostDone (s t : State) (op : ScratchOp) (o : Nat) (v : Word) : Prop where
  result : fld (t.rd Reg.scratchHostResult) 0 2 = 0
  data : op ≠ .write → t.rd64 Reg.scratchHostRdataLo = (s.scrWord o).toNat
  other : ∀ p, p < o ∨ o + 8 ≤ p → t.scrByte p = s.scrByte p
  read : op = .read → t.scr.mem = s.scr.mem
  write : op = .write → ∀ i, i < 8 → t.scrByte (o + i) =
    if bit v (8 + i) = true then BitVec.ofNat 8 (s.rd64 Reg.scratchHostWdataLo / 256 ^ i) else s.scrByte (o + i)
  add : op = .add → t.scrWord o = s.scrWord o + BitVec.ofNat 64 (s.rd64 Reg.scratchHostWdataLo)
  swap : op = .swap → t.scrWord o = BitVec.ofNat 64 (s.rd64 Reg.scratchHostWdataLo)

theorem State.rd64_lt (s : State) (a : Nat) : s.rd64 a < 2 ^ 64 := by
  have h1 := (s.rd a).isLt
  have h2 := (s.rd (a + 4)).isLt
  unfold State.rd64
  omega

theorem State.hostRow_done {s : State} {op o : Nat} (v : Word) (h : op < 4) (hwaits : s.scr.waits = []) (hlocks : s.arb.locks = [])
    (hwin : s.glean.window = none) (hclear : s.clearing = false) (ho : o = s.rf Reg.scratchHostAddr 3 19 * 8) (hin : o < 0x380000)
    (hbad : s.badBytes o = 0) : s.HostDone (s.hostRow op v) (hostOp op) o v := by
  obtain ⟨a, q, hrow, hm, hop, rfl, hbe, hdata, hb, hbad'⟩ := State.hostRow_lands v h hwaits hlocks hwin hclear ho hin hbad
  obtain ⟨hres, hdata'⟩ := State.scrLand_host (s := (s.hostCmded op v).reached q a) hm hb hbad'
  obtain ⟨hout, hword⟩ := State.scrLand_word (s := (s.hostCmded op v).reached q a) hb hbad' rfl
  rw [hrow, ← hop]
  have hlt := s.rd64_lt Reg.scratchHostWdataLo
  refine ⟨hres, hdata', hout, fun h => State.scrLand_read hb hbad' h, fun h i hi => ?_, fun h => ?_, fun h => ?_⟩
  · rw [h] at hword
    have hbyte := hword i hi
    simp only [hbe, hdata, be_bit v hi] at hbyte
    rw [BitVec.toNat_ofNat, Nat.mod_eq_of_lt hlt] at hbyte
    exact hbyte
  · rw [h, hdata] at hword
    exact hword
  · rw [h, hdata] at hword
    exact hword

/-- A row of the host path leaves what its request leaves. -/
theorem Makes.of_host {i : Instr} {s : State} {op : Nat} {v : Word} {P : State → Prop} (hup : s.coreUp = true)
    (h : exec i s = finishScr s (whileUp s (·.hostRow op v))) (hp : P (s.afterScr (s.hostRow op v))) : Makes i s P := by
  rw [whileUp_up _ hup] at h
  exact .of_finishScr h hp

/-- Settles O56: one access at a time lands as `State.landed` says, through a bank port or the host path. -/
theorem scratchAccessesComplete : Obligations.ScratchAccessesComplete := by
  unfold Obligations.ScratchAccessesComplete
  refine fun s hup hwaits hlocks hwin hnext hclear => ⟨fun b q x y hbank hm hlock hxy => ⟨fun hb => ?_, fun hb hbad => ?_⟩,
    fun v o ho hin hbad => ⟨?_, ?_, ?_, ?_⟩⟩
  · obtain ⟨a, ha⟩ := State.accessCycle (q := q) hwaits hlocks hwin hclear hnext hlock (d := ⟨q, 0, false, true, 0, false⟩) rfl
      fun a => ⟨_, _, State.reached_barred hb a⟩
    refine .of_finishScr (exec_scratchAccessGrant hup hbank hm hxy) ?_
    have hscr := State.reached_barred (s := s) hb a
    rw [ha]
    generalize (s.reached q a).scrLand q = t at hscr
    have hmem : t.scr.mem = s.scr.mem := by rw [hscr]
    have hdone : t.scr.done = s.scr.done ++ [⟨q, 0, false, true, 0, false⟩] := by rw [hscr]
    exact ⟨hmem, _, hdone, rfl, rfl, rfl⟩
  · obtain ⟨a, ha⟩ := State.accessCycle (q := q) hwaits hlocks hwin hclear hnext hlock (d := s.openDone q) rfl
      fun a => State.reached_open hb hbad a
    refine .of_finishScr (exec_scratchAccessGrant hup hbank hm hxy) ?_
    obtain ⟨m, b, hscr⟩ := State.reached_open hb hbad a
    obtain ⟨hout, hword⟩ := State.scrLand_word (s := s.reached q a) (t := s.afterScr ((s.reached q a).scrLand q)) hb hbad rfl
    rw [ha]
    refine ⟨hout, ?_, hword⟩
    exact congrArg ScratchSt.done hscr
  · have h := State.hostRow_done (op := 0) v (by decide) hwaits hlocks hwin hclear ho hin hbad
    exact .of_host hup rfl ⟨h.data (by decide), h.read rfl, h.result⟩
  · have h := State.hostRow_done (op := 1) v (by decide) hwaits hlocks hwin hclear ho hin hbad
    exact .of_host hup rfl ⟨h.write rfl, h.other⟩
  · have h := State.hostRow_done (op := 2) v (by decide) hwaits hlocks hwin hclear ho hin hbad
    exact .of_host hup rfl ⟨h.data (by decide), h.add rfl, h.other⟩
  · have h := State.hostRow_done (op := 3) v (by decide) hwaits hlocks hwin hclear ho hin hbad
    exact .of_host hup rfl ⟨h.data (by decide), h.swap rfl, h.other⟩

end Sys2Proof.Machine


/-! The gleaner: walks, failures, repairs between partners, and borrowed windows (R137 to R141, R210 to R212, R409 to R414). -/

namespace Sys2Proof.Machine

/-! ## What leaves the gleaner as it is -/

/-- The gleaner's counts that its commands change by themselves alone. -/
def gleanCounts : List Nat :=
  [Reg.gleanerScrubErrCount, Reg.gleanerInvalidateCount, Reg.gleanerRepairCount, Reg.gleanerWinCount, Reg.gleanerWinAbortCount, Reg.gleanerWinFaultCount]

/-- `t` has the gleaner of `s` and its counts. -/
def State.SameGlean (s t : State) : Prop := t.glean = s.glean ∧ ∀ a ∈ gleanCounts, t.rd a = s.rd a

theorem State.SameGlean.refl (s : State) : s.SameGlean s := ⟨rfl, fun _ _ => rfl⟩

theorem State.SameGlean.trans {s t u : State} (h : s.SameGlean t) (k : t.SameGlean u) : s.SameGlean u :=
  ⟨k.1.trans h.1, fun a ha => (k.2 a ha).trans (h.2 a ha)⟩

theorem State.SameGlean.of_reg {s t : State} (hg : t.glean = s.glean) (hr : t.reg = s.reg) : s.SameGlean t :=
  ⟨hg, fun _ _ => State.rd_of_reg hr _⟩

theorem State.SameGlean.foldl {α : Type} {f : State → α → State} (hf : ∀ t a, State.SameGlean t (f t a)) (l : List α) (s : State) :
    s.SameGlean (l.foldl f s) := by
  induction l generalizing s with
  | nil => exact .refl s
  | cons a l ih => exact (hf s a).trans (ih _)

theorem State.SameGlean.ite {b : Prop} [Decidable b] {s t u : State} (ht : s.SameGlean t) (hu : s.SameGlean u) : s.SameGlean (if b then t else u) := by
  split
  · exact ht
  · exact hu

theorem State.cnt_sameGlean (s : State) {a : Nat} (n : Nat) (h : a ∉ gleanCounts) : s.SameGlean (s.cnt a n) :=
  ⟨rfl, fun _ hb => s.rd_cnt_ne n (fun e => h (e ▸ hb))⟩

theorem State.wr_sameGlean (s : State) {a : Nat} (v : Word) (h : a ∉ gleanCounts) : s.SameGlean (s.wr a v) :=
  ⟨rfl, fun _ hb => s.rd_wr_ne v (fun e => h (e ▸ hb))⟩

theorem not_mem_gleanCounts {a : Nat} (h : a < Reg.gleanerScrubErrCount) : a ∉ gleanCounts := by
  intro hm
  have hge : ∀ b ∈ gleanCounts, Reg.gleanerScrubErrCount ≤ b := by decide
  exact absurd (hge a hm) (by omega)

theorem State.advance_sameGlean (s : State) (k : Nat) : s.SameGlean (s.advance k) := by
  obtain ⟨v, r, c, e, hrd⟩ := s.advance_eq k
  have hclock : ∀ a ∈ gleanCounts, ¬ clockCounts a := by unfold clockCounts; decide
  exact ⟨by rw [e], fun a ha => hrd a (hclock a ha)⟩

theorem State.until_sameGlean (s : State) (n : Nat) : s.SameGlean (s.until n) := s.advance_sameGlean _

theorem State.putEvent_sameGlean (s : State) (b c i : Nat) (x y : Word) : s.SameGlean (s.putEvent b c i x y) := by
  unfold State.putEvent
  split
  · exact (s.cnt_sameGlean 1 (by decide)).trans (.of_reg rfl rfl)
  · exact .of_reg rfl rfl

theorem State.event_sameGlean (s : State) (b c i : Nat) (x y : Word) : s.SameGlean (s.event b c i x y) :=
  .ite (s.putEvent_sameGlean b c i x y) (.refl s)

theorem State.eventSup_sameGlean (s : State) (b c i : Nat) (x y : Word) (k : List Nat) {p : Nat} (h : p ∉ gleanCounts) :
    s.SameGlean (s.eventSup b c i x y k p) :=
  .ite (.refl s) (.ite (s.cnt_sameGlean 1 h) (.ite (s.putEvent_sameGlean b c i x y) ((s.putEvent_sameGlean b c i x y).trans (.of_reg rfl rfl))))

theorem State.breakLock_sameGlean (s : State) (k : ArbLock) : s.SameGlean (s.breakLock k) := by
  unfold State.breakLock
  exact (State.SameGlean.of_reg rfl rfl).trans ((State.cnt_sameGlean _ 1 (by decide)).trans (State.event_sameGlean _ _ _ _ _ _))

theorem State.conflict_sameGlean (s : State) (q : ScratchReq) : s.SameGlean (s.conflict q) :=
  s.cnt_sameGlean 1 (not_mem_gleanCounts (by have h := q.master.isLt; unfold Reg.scratchConflictCount Reg.gleanerScrubErrCount; omega))

theorem State.putWord_sameGlean (s : State) (o : Nat) (v : DWord) (be : Nat) : s.SameGlean (s.putWord o v be) := by
  obtain ⟨m, b, h⟩ := s.putWord_frame o v be
  rw [h]
  exact .of_reg rfl rfl

theorem State.scrRead_sameGlean (s : State) (q : ScratchReq) : s.SameGlean (s.scrRead q).1 := by
  unfold State.scrRead State.noteParity
  split
  · exact .refl s
  · exact .ite (.refl s) ((s.cnt_sameGlean 1 (by decide)).trans (State.eventSup_sameGlean _ _ _ _ _ _ _ (by decide)))

theorem State.scrAccess_sameGlean (s : State) (q : ScratchReq) : s.SameGlean (s.scrAccess q).1 := by
  have hcount : s.SameGlean (s.accessed q) := .ite (s.cnt_sameGlean 1 (by decide)) (.refl s)
  refine hcount.trans ?_
  unfold State.scrAccess
  change (s.accessed q).SameGlean (match q.op with
    | .read => (s.accessed q).scrRead q
    | .write => if q.barred then (s.accessed q, ⟨0, 0, true⟩) else ((s.accessed q).putWord q.word q.data q.be.toNat, ⟨0, 0, false⟩)
    | .add => let (t, r) := (s.accessed q).scrRead q; (if q.barred then t else t.putWord q.word (r.data + q.data) 0xFF, r)
    | .swap => let (t, r) := (s.accessed q).scrRead q; (if q.barred then t else t.putWord q.word q.data 0xFF, r)).1
  have hread := (s.accessed q).scrRead_sameGlean q
  cases q.op with
  | read => exact hread
  | write =>
    dsimp only
    split
    · exact .refl _
    · exact State.putWord_sameGlean _ _ _ _
  | add => exact .ite hread (hread.trans (State.putWord_sameGlean _ _ _ _))
  | swap => exact .ite hread (hread.trans (State.putWord_sameGlean _ _ _ _))

theorem State.wr64_sameGlean (s : State) {a : Nat} (n : Nat) (h : a ∉ gleanCounts) (h' : a + 4 ∉ gleanCounts) : s.SameGlean (s.wr64 a n) :=
  (s.wr_sameGlean _ h).trans (State.wr_sameGlean _ _ h')

theorem State.scrDone_sameGlean (s : State) (q : ScratchReq) (r : ScratchRes) (lost refused : Bool) : s.SameGlean (s.scrDone q r lost refused) := by
  have hresult (t : State) (v : Word) (ht : t.glean = s.glean) (hr : t.reg = s.reg) : s.SameGlean (t.wr Reg.scratchHostResult v) :=
    (State.SameGlean.of_reg ht hr).trans (State.wr_sameGlean _ _ (by decide))
  unfold State.scrDone
  exact .ite (.of_reg rfl rfl) (.ite (hresult _ _ rfl rfl) ((hresult _ _ rfl rfl).trans (State.wr64_sameGlean _ _ (by decide) (by decide))))

theorem State.scrLand_sameGlean (s : State) (q : ScratchReq) : s.SameGlean (s.scrLand q) :=
  (s.scrAccess_sameGlean q).trans (State.scrDone_sameGlean _ _ _ _ _)

theorem State.scrLose_sameGlean (s : State) (w : ScratchWait) : s.SameGlean (s.scrLose w) := by
  have hread : s.SameGlean (if w.req.atomic then (s.cnt Reg.scratchAtomicCount 1).scrRead w.req else (s, ⟨0, 0, w.req.barred⟩)).1 := by
    split
    · exact (s.cnt_sameGlean 1 (by decide)).trans (State.scrRead_sameGlean _ _)
    · exact .refl s
  unfold State.scrLose
  dsimp only
  exact (hread.trans (.ite (State.conflict_sameGlean _ _) (.refl _))).trans
    ((State.cnt_sameGlean _ 1 (by decide)).trans (State.scrDone_sameGlean _ _ _ _ _))

theorem State.scrPair_sameGlean (s : State) (a b : ScratchWait) : s.SameGlean (s.scrPair a b) := by
  have hland (x y : ScratchReq) : s.SameGlean ((s.scrLand x).scrLand y) := (s.scrLand_sameGlean x).trans (State.scrLand_sameGlean _ y)
  exact .ite (hland _ _) (.ite ((s.scrLand_sameGlean _).trans (State.scrLose_sameGlean _ _)) (.ite (hland _ _) (hland _ _)))

theorem State.grantAccess_sameGlean (s : State) (w : ScratchWait) : s.SameGlean (s.grantAccess w) := by
  have hcharged (b : Prop) [Decidable b] (t u : State) (ht : s.SameGlean t) (hu : t.glean = u.glean) (hr : t.reg = u.reg) :
      s.SameGlean (if b then u else t) := .ite (ht.trans (.of_reg hu.symm hr.symm)) ht
  unfold State.grantAccess
  refine .ite ?_ (.ite ?_ ?_)
  · refine State.SameGlean.trans ?_ (State.cnt_sameGlean _ 1 (by decide))
    refine State.SameGlean.trans ?_ (.of_reg rfl rfl)
    exact hcharged _ _ _ (.of_reg rfl rfl) rfl rfl
  · refine State.SameGlean.trans ?_ (.of_reg rfl rfl)
    exact hcharged _ _ _ (.of_reg rfl rfl) rfl rfl
  · exact hcharged _ _ _ (.of_reg rfl rfl) rfl rfl

theorem State.ageLocks_sameGlean (s : State) (bank : Nat) : s.SameGlean (s.ageLocks bank) :=
  (State.SameGlean.of_reg rfl rfl).trans (.foldl State.breakLock_sameGlean _ _)

theorem State.waitMore_sameGlean (s : State) (w : ScratchWait) : s.SameGlean (s.waitMore w) := by
  have hconflict : s.SameGlean (if w.waited = 0 then s.conflict w.req else s) := .ite (s.conflict_sameGlean _) (.refl s)
  have hstall (t : State) (b : Prop) [Decidable b] (ht : s.SameGlean t) : s.SameGlean (if b then t.cnt Reg.gleanerWinStallCount 1 else t) :=
    .ite (ht.trans (State.cnt_sameGlean _ 1 (by decide))) ht
  exact (hstall _ _ hconflict).trans (.of_reg rfl rfl)

theorem State.hostHint_sameGlean (s : State) (bank : Nat) : s.SameGlean (s.hostHint bank) := by
  unfold State.hostHint
  dsimp only
  split
  · exact .refl s
  · exact s.wr_sameGlean _ (by decide)

theorem State.refuseBroken_sameGlean (s : State) (bank : Nat) : s.SameGlean (s.refuseBroken bank) :=
  (State.SameGlean.of_reg rfl rfl).trans (.foldl (fun t (w : ScratchWait) => t.scrDone_sameGlean w.req _ _ _) _ _)

theorem State.bankCycle_sameGlean (s : State) (bank : Nat) : s.SameGlean (s.bankCycle bank) := by
  have helim (t : State) (a : Option ScratchWait) : t.SameGlean (a.elim t t.grantAccess) := by
    cases a with
    | none => exact .refl t
    | some a => exact t.grantAccess_sameGlean a
  have hgrants (t : State) (a b : Option ScratchWait) : t.SameGlean (b.elim (a.elim t t.grantAccess) (a.elim t t.grantAccess).grantAccess) :=
    (helim t a).trans (helim _ b)
  have hcycle (a b : Option ScratchWait) (t : State) (ht : s.SameGlean t) : s.SameGlean (match a, b with
      | some a, some b => t.scrPair a b
      | some a, none => t.scrLand a.req
      | none, some b => t.scrLand b.req
      | none, none => t) := by
    cases a <;> cases b
    · exact ht
    · exact ht.trans (t.scrLand_sameGlean _)
    · exact ht.trans (t.scrLand_sameGlean _)
    · exact ht.trans (t.scrPair_sameGlean _ _)
  have hbefore := ((s.refuseBroken_sameGlean bank).trans (hgrants _ ((s.refuseBroken bank).pickAccess bank 0) ((s.refuseBroken bank).pickAccess bank 1))).trans
    (State.ageLocks_sameGlean _ bank)
  exact hcycle _ _ _ ((hbefore.trans (.foldl State.waitMore_sameGlean _ _)).trans (State.hostHint_sameGlean _ bank))

/-! ## The walks (R409) -/

theorem State.until_row (s : State) (n a : Nat) : (s.until n).row a = s.row a := by
  obtain ⟨_, _, _, e, -⟩ := s.advance_eq (n - s.clk.age)
  rw [State.until, e]
  rfl

theorem State.until_word (s : State) (n a : Nat) : (s.until n).word a = s.word a := by
  obtain ⟨_, _, _, e, -⟩ := s.advance_eq (n - s.clk.age)
  rw [State.until, e]
  rfl

theorem State.until_scr (s : State) (n : Nat) : (s.until n).scr = s.scr := by
  obtain ⟨_, _, _, e, -⟩ := s.advance_eq (n - s.clk.age)
  rw [State.until, e]

theorem State.until_exm (s : State) (n : Nat) : (s.until n).exm = s.exm := by
  obtain ⟨_, _, _, e, -⟩ := s.advance_eq (n - s.clk.age)
  rw [State.until, e]

theorem State.until_glean (s : State) (n : Nat) : (s.until n).glean = s.glean := (s.until_sameGlean n).1

theorem State.readTern_ok {s : State} {a : Nat} (hrow : (s.row a).ok = true) (hword : (s.word a).ok = true) : s.readTern a = s := by
  unfold State.readTern
  dsimp only
  split
  · rfl
  · next d p r n _ =>
    have hgood : ¬ (!(s.row a).ok || (a == d.rowAt p r n && !(s.word (d.rowAt p r n)).ok)) = true := by
      rw [hrow]
      by_cases h : a = d.rowAt p r n
      · rw [← h, hword]
        simp
      · simp [h]
    rw [if_pos hgood]

/-- `t` has the ternary store of `s` and its queue of failures. -/
def State.SameTern (s t : State) : Prop :=
  t.tern.rows = s.tern.rows ∧ t.tern.words = s.tern.words ∧ t.tern.gleanQ = s.tern.gleanQ

theorem State.SameTern.trans {s t u : State} (h : s.SameTern t) (k : t.SameTern u) : s.SameTern u :=
  ⟨k.1.trans h.1, k.2.1.trans h.2.1, k.2.2.trans h.2.2⟩

theorem State.until_sameTern (s : State) (n : Nat) : s.SameTern (s.until n) := by
  obtain ⟨_, _, _, e, -⟩ := s.advance_eq (n - s.clk.age)
  rw [State.until, e]
  exact ⟨rfl, rfl, rfl⟩

/-- The state in which the walk of the ternary store reads row `a`. -/
def State.ternDue (s : State) (a : Nat) : State :=
  let s := s.paced s.glean.ternAt
  let s := s.until (s.pastRewrite (max s.clk.age (min (s.portFreeAt [a / 1024] 0) (s.portFreeAt [a / 1024] 1))))
  s.setGlean { s.glean with ternAt := s.nextRead s.glean.ternAt Reg.gleanerTernRate }

/-- The walk of the ternary store goes on from row `a`. -/
def State.ternOn (s : State) (a : Nat) : State :=
  match (if a + 1 < 2097152 then s.nextAssigned (a + 1) else none) with
  | some b => s.setGlean { s.glean with ternNext := b }
  | none => (s.setGlean { s.glean with ternNext := 0 }).cnt Reg.gleanerTernPassCount 1

theorem State.until_nextAssigned (s : State) (n k : Nat) : (s.until n).nextAssigned k = s.nextAssigned k := by
  obtain ⟨_, _, _, e, -⟩ := s.advance_eq (n - s.clk.age)
  rw [State.until, e]
  rfl

theorem State.ternDue_eq (s : State) (a : Nat) : ∃ n m g, s.ternDue a = ((s.until n).until m).setGlean g ∧ g.exactNext = s.glean.exactNext :=
  have h (n m : Nat) : ((s.until n).until m).glean.exactNext = s.glean.exactNext := by rw [State.until_glean, State.until_glean]
  ⟨_, _, _, rfl, h _ _⟩

theorem State.ternOn_some {s : State} {a b : Nat} (h : (if a + 1 < 2097152 then s.nextAssigned (a + 1) else none) = some b) :
    s.ternOn a = s.setGlean { s.glean with ternNext := b } := by
  unfold State.ternOn
  rw [h]

theorem exec_ternRead {s : State} {a : Nat} (hup : s.coreUp = true) (hon : s.rb Reg.gleanerCtrl 0 = true)
    (ha : s.nextAssigned s.glean.ternNext = some a) : exec .gleanerTernRead s = finish s (((s.ternDue a).readTern a).ternOn a) := by
  show finish s (whileUp s _) = _
  rw [whileUp_up _ hup]
  dsimp only
  rw [if_neg (not_not_intro hon), ha, Option.some_or]
  rfl

theorem ternRead_makes {s : State} {a b : Nat} (hup : s.coreUp = true) (hon : s.rb Reg.gleanerCtrl 0 = true)
    (ha : s.nextAssigned s.glean.ternNext = some a) (hrow : (s.row a).ok = true) (hword : (s.word a).ok = true)
    (hb : (if a + 1 < 2097152 then s.nextAssigned (a + 1) else none) = some b) :
    Makes .gleanerTernRead s fun t => t.tern.rows = s.tern.rows ∧ t.tern.words = s.tern.words ∧ t.tern.gleanQ = s.tern.gleanQ ∧
      t.glean.ternNext = b ∧ t.glean.exactNext = s.glean.exactNext := by
  obtain ⟨n, m, g, hdue, hexact⟩ := s.ternDue_eq a
  obtain ⟨hrows, hwords, hq⟩ := (s.until_sameTern n).trans ((s.until n).until_sameTern m)
  have hread : (((s.until n).until m).setGlean g).readTern a = ((s.until n).until m).setGlean g :=
    State.readTern_ok (show (((s.until n).until m).row a).ok = true by rw [State.until_row, State.until_row, hrow])
      (show (((s.until n).until m).word a).ok = true by rw [State.until_word, State.until_word, hword])
  have hnext : (((s.until n).until m).setGlean g).nextAssigned (a + 1) = s.nextAssigned (a + 1) :=
    ((s.until n).until_nextAssigned m _).trans (s.until_nextAssigned n _)
  refine .of_finish (exec_ternRead hup hon ha) ?_
  rw [hdue, hread, State.ternOn_some (by rw [hnext, hb])]
  exact ⟨hrows, hwords, hq, rfl, hexact⟩

/-- The state in which the walk of the exact-match store reads its next slot. -/
def State.exactDue (s : State) : State :=
  let s := s.paced s.glean.exactAt
  s.setGlean { s.glean with exactAt := s.nextRead s.glean.exactAt Reg.gleanerExactRate }

/-- What the walk of the exact-match store does with slot `p`. -/
def State.exactFound (s : State) (p : Nat) : State :=
  let t := ((s.ownerAt p).map (·.1)).getD 0
  if (s.slot p).ok ∨ s.exm.gleanQ.any (fun f => f.row == p) then s
  else (s.parityEvent t s.glue.c p).actExact ⟨t, p, false⟩

theorem State.exactFound_ok {s : State} {p : Nat} (h : (s.slot p).ok = true) : s.exactFound p = s := if_pos (.inl h)

/-- The walk of the exact-match store goes on from slot `p`. -/
def State.exactOn (s : State) (p : Nat) : State :=
  if p + 1 < exactSlots then s.setGlean { s.glean with exactNext := p + 1 }
  else (s.setGlean { s.glean with exactNext := 0 }).cnt Reg.gleanerExactPassCount 1

theorem State.exactOn_exm (s : State) (p : Nat) : (s.exactOn p).exm = s.exm := by
  unfold State.exactOn
  split <;> rfl

theorem State.exactOn_next (s : State) (p : Nat) : (s.exactOn p).glean.exactNext = if p + 1 < 1056768 then p + 1 else 0 := by
  unfold State.exactOn
  split <;> rfl

theorem exec_exactRead {s : State} (hup : s.coreUp = true) (hon : s.rb Reg.gleanerCtrl 1 = true) (hslot : (s.exactDue.slot s.glean.exactNext).ok = true) :
    exec .gleanerExactRead s = finish s (s.exactDue.exactOn s.glean.exactNext) := by
  show finish s (whileUp s _) = _
  rw [whileUp_up _ hup]
  dsimp only
  rw [if_neg (not_not_intro hon)]
  change finish s ((s.exactDue.exactFound s.glean.exactNext).exactOn s.glean.exactNext) = _
  rw [State.exactFound_ok hslot]

theorem exactRead_makes {s : State} (hup : s.coreUp = true) (hon : s.rb Reg.gleanerCtrl 1 = true) (hslot : (s.slot s.glean.exactNext).ok = true) :
    Makes .gleanerExactRead s fun t => t.exm = s.exm ∧
      t.glean.exactNext = if s.glean.exactNext + 1 < 1056768 then s.glean.exactNext + 1 else 0 := by
  have hexm : s.exactDue.exm = s.exm := s.until_exm _
  have hslot' : (s.exactDue.slot s.glean.exactNext).ok = true := by
    rw [State.slot, hexm]
    exact hslot
  refine .of_finish (exec_exactRead hup hon hslot') ⟨?_, ?_⟩
  · exact (State.exactOn_exm _ _).trans hexm
  · exact State.exactOn_next _ _

/-- The state in which the scrub reads its next word. -/
def State.scrubDue (s : State) : State :=
  let s := s.paced s.glean.scrubAt
  s.setGlean { s.glean with scrubAt := s.nextRead s.glean.scrubAt Reg.gleanerScrubRate }

/-- The scrub notes a word with bad bytes. -/
def State.scrubNote (s : State) (o : Nat) : State :=
  if s.badBytes o = 0 then s
  else (s.cnt Reg.gleanerScrubErrCount 1).eventSup 0x17 0x03 0 (w32 o) (w32 (s.badBytes o * 2 ^ 8)) [o] Reg.gleanerEventSuppressCount

/-- The scrub goes on to its next word. -/
def State.scrubOn (s : State) : State :=
  if s.glean.scrubNext + 1 < 524288 then s.setGlean { s.glean with scrubNext := s.glean.scrubNext + 1 }
  else (s.setGlean { s.glean with scrubNext := 0 }).cnt Reg.gleanerScrubPassCount 1

theorem State.scrubOn_next (s : State) : s.scrubOn.glean.scrubNext = if s.glean.scrubNext + 1 < 524288 then s.glean.scrubNext + 1 else 0 := by
  unfold State.scrubOn
  split <;> rfl

theorem State.scrubOn_rd (s : State) : s.scrubOn.rd Reg.gleanerScrubErrCount = s.rd Reg.gleanerScrubErrCount := by
  unfold State.scrubOn
  split
  · exact State.rd_of_vals (s := s) rfl _
  · exact (State.rd_cnt_ne _ 1 (by decide)).trans (State.rd_of_vals (s := s) rfl _)

theorem State.scrubNote_glean (s : State) (o : Nat) : (s.scrubNote o).glean = s.glean := by
  unfold State.scrubNote
  split
  · rfl
  · exact (State.eventSup_sameGlean _ _ _ _ _ _ _ (by decide)).1

theorem State.scrubNote_counts {s : State} {o : Nat} (h : s.badBytes o ≠ 0) : (s.scrubNote o).rd Reg.gleanerScrubErrCount =
    w32 (min 0xFFFFFFFF ((s.rd Reg.gleanerScrubErrCount).toNat + 1)) := by
  unfold State.scrubNote
  rw [if_neg h]
  exact ((State.eventSup_sameGlean _ _ _ _ _ _ _ (by decide)).2 _ (by decide)).trans (s.rd_cnt_one _)

theorem exec_scrubRead {s : State} (hup : s.coreUp = true) (hon : s.rb Reg.gleanerCtrl 2 = true)
    (hwin : s.glean.window.all (fun w => w.bank != s.glean.scrubNext % 16) = true) :
    exec .gleanerScrubRead s = finish s (s.scrubDue.scrubNote (8 * s.glean.scrubNext)).scrubOn := by
  have hfree : ¬ (s.glean.window.any (fun w => w.bank == s.glean.scrubNext % 16) = true) := by
    cases h : s.glean.window with
    | none => simp
    | some w =>
      rw [h] at hwin
      simpa using hwin
  show finish s (whileUp s _) = _
  rw [whileUp_up _ hup]
  dsimp only
  rw [if_neg (not_or.mpr ⟨not_not_intro hon, hfree⟩)]
  rfl

theorem scrubRead_makes {s : State} (hup : s.coreUp = true) (hon : s.rb Reg.gleanerCtrl 2 = true)
    (hwin : s.glean.window.all (fun w => w.bank != s.glean.scrubNext % 16) = true) :
    Makes .gleanerScrubRead s fun t => t.scr.mem = s.scr.mem ∧
      t.glean.scrubNext = (if s.glean.scrubNext + 1 < 524288 then s.glean.scrubNext + 1 else 0) ∧
      (s.badBytes (8 * s.glean.scrubNext) ≠ 0 → t.rd Reg.gleanerScrubErrCount =
        w32 (min 0xFFFFFFFF ((s.rd Reg.gleanerScrubErrCount).toNat + 1))) := by
  have hscr : s.scrubDue.scr = s.scr := s.until_scr _
  have hnext : s.scrubDue.glean.scrubNext = s.glean.scrubNext :=
    (congrArg GleanSt.scrubNext (s.until_glean (ceilDiv s.glean.scrubAt 800)) :)
  refine .of_finish (exec_scrubRead hup hon hwin) ⟨?_, ?_, fun hbad => ?_⟩
  · rfl
  · refine (State.scrubOn_next _).trans ?_
    rw [State.scrubNote_glean, hnext]
  · have hbad' : s.scrubDue.badBytes (8 * s.glean.scrubNext) ≠ 0 := by
      rw [State.badBytes, hscr]
      exact hbad
    rw [State.rd_after, State.scrubOn_rd, State.scrubNote_counts hbad']
    have hrd : s.scrubDue.rd Reg.gleanerScrubErrCount = s.rd Reg.gleanerScrubErrCount := (s.until_sameGlean _).2 _ (by decide)
    rw [hrd]

/-! ## Failures (R137 to R139, R210, R211) -/

theorem exec_failureExact {s : State} {f : GleanFail} {rest : List GleanFail} (hup : s.coreUp = true) (hq : s.exm.gleanQ = f :: rest) :
    exec (.gleanerFailureAction true) s = finish s (State.actExact { s with exm := { s.exm with gleanQ := rest } } f) := by
  show finish s (whileUp s _) = _
  rw [whileUp_up _ hup]
  dsimp only
  rw [if_pos rfl, hq]

theorem exec_failureTern {s : State} {f : GleanFail} {rest : List GleanFail} (hup : s.coreUp = true) (hq : s.tern.gleanQ = f :: rest) :
    exec (.gleanerFailureAction false) s = finish s (State.actTern { s with tern := { s.tern with gleanQ := rest } } f) := by
  show finish s (whileUp s _) = _
  rw [whileUp_up _ hup]
  dsimp only
  rw [if_neg (by decide), hq]

theorem State.actExact_ok {s : State} {f : GleanFail} (h : (s.slot f.row).ok = true) : s.actExact f = s := if_pos h

theorem State.actTern_gone {s : State} {f : GleanFail} (h : s.findSlot f.table f.row = none) : s.actTern f = s := by
  unfold State.actTern
  rw [h]

theorem State.hideExact_same (s : State) (p : Nat) : ((s.hideExact p).slot p).state = .veneer ∧ ((s.hideExact p).slot p).tag = 0 ∧
    ((s.hideExact p).slot p).death = s.glue.c := by
  have h : (s.hideExact p).slot p = (s.slot p).retag { s.slot p with state := .veneer, tag := 0, death := s.glue.c } := smGet_smSet_same _ _ _ _
  rw [h]
  exact ⟨rfl, rfl, rfl⟩

theorem State.hideExact_other (s : State) {p p' : Nat} (h : p ≠ p') : (s.hideExact p').slot p = s.slot p := smGet_smSet_ne _ _ _ _ h

/-- What hiding slots leaves as it is. -/
def State.HidesExact (s t : State) : Prop :=
  ∃ m, t = { s with exm := { s.exm with slots := m } }

theorem State.hideExacts_hides (l : List Nat) (s : State) : s.HidesExact (l.foldl State.hideExact s) := by
  induction l generalizing s with
  | nil => exact ⟨_, rfl⟩
  | cons p l ih =>
    obtain ⟨m, h⟩ := ih (s.hideExact p)
    exact ⟨m, h⟩

theorem State.hideExacts_other {l : List Nat} {p : Nat} (h : p ∉ l) (s : State) : (l.foldl State.hideExact s).slot p = s.slot p := by
  induction l generalizing s with
  | nil => rfl
  | cons q l ih =>
    obtain ⟨hq, hl⟩ := not_or.mp (fun hm => h (List.mem_cons.mpr hm))
    exact (ih hl _).trans (s.hideExact_other hq)

/-- The copies of an entry but the one given stand elsewhere. -/
theorem State.bothCopies_cons (s : State) (t : Nat) (d : ExactDesc) (p : Nat) : ∃ l, s.bothCopies t d p = p :: l ∧ p ∉ l := by
  refine ⟨_, rfl, ?_⟩
  rw [List.mem_filterMap]
  rintro ⟨c, -, hfind⟩
  have h := List.find?_some hfind
  simp at h

theorem unit_one (p : Nat) : unit 1 p = [p] := rfl

theorem flatMap_unit_one (l : List Nat) : l.flatMap (unit 1) = l := by
  induction l with
  | nil => rfl
  | cons p l ih => rw [List.flatMap_cons, ih, unit_one, List.singleton_append]

/-- An entry of one slot that is dropped, with no partner to ask: its slot is hidden, and the drop is counted. -/
theorem State.dropExact_narrow {s : State} {t p : Nat} {d : ExactDesc} (hw : d.w = 1) (hask : s.canAsk = false) :
    (s.dropExact t d p).exm.gleanQ = s.exm.gleanQ ∧ ((s.dropExact t d p).slot p).state = .veneer ∧ ((s.dropExact t d p).slot p).tag = 0 ∧
    ((s.dropExact t d p).slot p).death = s.glue.c ∧
    (s.dropExact t d p).rd Reg.gleanerInvalidateCount = w32 (min 0xFFFFFFFF ((s.rd Reg.gleanerInvalidateCount).toNat + 1)) := by
  obtain ⟨l, hl, hp⟩ := s.bothCopies_cons t d p
  obtain ⟨m, hm⟩ := State.hideExacts_hides (p :: l) s
  have hslot : ((p :: l).foldl State.hideExact s).slot p = (s.hideExact p).slot p := State.hideExacts_other hp _
  obtain ⟨hst, htag, hdeath⟩ := s.hideExact_same p
  have hdrop : ∃ u : State, s.dropExact t d p = ((u.cnt Reg.gleanerInvalidateCount 1).exactEvent 0x02 t p 0) ∧ u.slot p = (s.hideExact p).slot p ∧
      u.exm.gleanQ = s.exm.gleanQ ∧ u.rd Reg.gleanerInvalidateCount = s.rd Reg.gleanerInvalidateCount := by
    refine ⟨((((p :: l).foldl State.hideExact s).dropQueued (p :: l)).exactGen t), ?_, ?_, ?_, ?_⟩
    · have hno : ((((((p :: l).foldl State.hideExact s).dropQueued (p :: l)).exactGen t).cnt Reg.gleanerInvalidateCount 1).exactEvent 0x02 t p 0).canAsk = false := by
        obtain ⟨v, e, hev⟩ := State.event_eq (((((p :: l).foldl State.hideExact s).dropQueued (p :: l)).exactGen t).cnt Reg.gleanerInvalidateCount 1)
          0x05 0x02 0 (w32 (p % 2 ^ 21 + t * 2 ^ 24)) (w32 0)
        rw [State.exactEvent, hev.1, hm]
        exact hask
      unfold State.dropExact
      rw [hl, hw, flatMap_unit_one]
      exact if_neg (by rw [hno]; decide)
    · exact hslot
    · rw [hm]
      rfl
    · rw [hm]
      exact State.rd_of_vals (s := s) rfl _
  obtain ⟨u, e, hslotU, hqU, hrdU⟩ := hdrop
  have hexm : (s.dropExact t d p).exm = u.exm := by
    obtain ⟨v, x, hev⟩ := State.event_eq (u.cnt Reg.gleanerInvalidateCount 1) 0x05 0x02 0 (w32 (p % 2 ^ 21 + t * 2 ^ 24)) (w32 0)
    rw [e, State.exactEvent, hev.1]
    rfl
  have hslot' : (s.dropExact t d p).slot p = (s.hideExact p).slot p := by
    rw [State.slot, hexm]
    exact hslotU
  rw [hslot', hexm, hqU]
  refine ⟨rfl, hst, htag, hdeath, ?_⟩
  rw [e, State.exactEvent]
  rw [(State.event_sameGlean _ _ _ _ _ _).2 _ (by decide), u.rd_cnt_one, hrdU]

theorem State.actExact_drops {s : State} {f : GleanFail} {tb : Nat} {d : ExactDesc} (hbad : (s.slot f.row).ok = false)
    (htag : (s.slot f.row).tag = 0) (hins : s.exm.inserts = []) (howner : s.ownerAt f.row = some (tb, d))
    (hlive : (s.slot f.row).state = .live) : s.actExact f =
      (if f.counted then s else s.cnt Reg.gleanerExactErrCount 1).dropExact tb d (f.row - f.row % d.w) := by
  have hclaim : ¬ ((s.slot f.row).tag != 0 || s.exm.inserts.any (fun i => i.slots.contains f.row)) = true := by simp [htag, hins]
  have hstate : ¬ ((s.slot f.row).state = .free ∨ (s.slot f.row).state = .veneer) := by simp [hlive]
  have howner' : (if f.counted then s else s.cnt Reg.gleanerExactErrCount 1).ownerAt f.row = some (tb, d) := by
    split
    · exact howner
    · exact howner
  have hslot' : (if f.counted then s else s.cnt Reg.gleanerExactErrCount 1).slot f.row = s.slot f.row := by
    split <;> rfl
  unfold State.actExact
  dsimp only
  rw [if_neg (by rw [hbad]; decide), if_neg hclaim, howner']
  dsimp only
  rw [if_neg hstate]

theorem failureExact_makes {s : State} {f : GleanFail} {rest : List GleanFail} {tb : Nat} {d : ExactDesc} (hup : s.coreUp = true)
    (hq : s.exm.gleanQ = f :: rest) (hbad : (s.slot f.row).ok = false) (htag : (s.slot f.row).tag = 0) (hins : s.exm.inserts = [])
    (howner : s.ownerAt f.row = some (tb, d)) (hw : d.w = 1) (hlive : (s.slot f.row).state = .live) (hask : s.canAsk = false) :
    Makes (.gleanerFailureAction true) s fun t => t.exm.gleanQ = rest ∧ (t.slot f.row).state = .veneer ∧ (t.slot f.row).tag = 0 ∧
      (t.slot f.row).death = s.glue.c ∧
      t.rd Reg.gleanerInvalidateCount = w32 (min 0xFFFFFFFF ((s.rd Reg.gleanerInvalidateCount).toNat + 1)) := by
  have hcounted (u : State) (b : Bool) : u.SameGlean (if b then u else u.cnt Reg.gleanerExactErrCount 1) :=
    .ite (.refl u) (u.cnt_sameGlean 1 (by decide))
  refine .of_finish (exec_failureExact hup hq) ?_
  rw [State.actExact_drops (s := { s with exm := { s.exm with gleanQ := rest } }) (tb := tb) (d := d) hbad htag hins howner hlive, hw, Nat.mod_one,
    Nat.sub_zero]
  have hrd := (hcounted { s with exm := { s.exm with gleanQ := rest } } f.counted).2 Reg.gleanerInvalidateCount (by decide)
  have hasks : (if f.counted then ({ s with exm := { s.exm with gleanQ := rest } } : State)
      else State.cnt { s with exm := { s.exm with gleanQ := rest } } Reg.gleanerExactErrCount 1).canAsk = false := by
    split
    · exact hask
    · exact hask
  have hkeep : (if f.counted then ({ s with exm := { s.exm with gleanQ := rest } } : State)
      else State.cnt { s with exm := { s.exm with gleanQ := rest } } Reg.gleanerExactErrCount 1).exm.gleanQ = rest := by
    split <;> rfl
  have hepoch : (if f.counted then ({ s with exm := { s.exm with gleanQ := rest } } : State)
      else State.cnt { s with exm := { s.exm with gleanQ := rest } } Reg.gleanerExactErrCount 1).glue.c = s.glue.c := by
    split <;> rfl
  obtain ⟨h1, h2, h3, h4, h5⟩ := State.dropExact_narrow (t := tb) (p := f.row) hw hasks
  refine ⟨h1.trans hkeep, h2, h3, h4.trans hepoch, ?_⟩
  rw [State.rd_after, h5, hrd]
  rfl

/-! ## Repairs (R140, R212) -/

theorem exec_repairRequest {s : State} (e : Bool) (tb k : Nat) (hup : s.coreUp = true) (hask : s.canAsk = true) :
    exec (.gleanerRepairRequest e tb k) s =
      finish s (s.send .mitre (.repairReply e tb k (if e then s.bucketCopy tb k else s.ternCopy tb k))) := by
  show finish s (whileUp s _) = _
  rw [whileUp_up _ hup, if_neg (not_not_intro hask)]

theorem find_repair (r : Repair) : [r].find? (fun x => x.exact == r.exact && x.table == r.table && x.key == r.key) = some r := by
  simp

theorem erase_repair (r : Repair) : [r].erase r = [] := List.erase_cons_head r []

/-- What a reply of the partner does with the request `r` that it answers. -/
def State.repairEnd (s : State) (r : Repair) (d : RepairData) : State :=
  match r.exact, d with
  | true, .exact es => s.takeEntries r.table r.pos es
  | false, .ternary rows tag birth dying index action => s.takeRows r.table r.key rows tag birth dying index action
  | true, _ => s
  | false, _ => s.giveUp r.table r.key

theorem exec_repairReply {s : State} {r : Repair} (d : RepairData) (hup : s.coreUp = true) (hr : s.glean.repairs = [r]) :
    exec (.gleanerRepairReply r.exact r.table r.key d) s = finish s ((s.endRepair r).repairEnd r d) := by
  show finish s (whileUp s _) = _
  rw [whileUp_up _ hup]
  dsimp only
  rw [hr, find_repair]
  rfl

theorem exec_repairTimeout {s : State} {r : Repair} (hup : s.coreUp = true) (hr : s.glean.repairs = [r]) (hexact : r.exact = true) :
    exec (.gleanerRepairTimeout true r.table r.key) s = finish s ((s.until (r.since + 20 * usC)).endRepair r) := by
  have hfind := find_repair r
  rw [hexact] at hfind
  show finish s (whileUp s _) = _
  rw [whileUp_up _ hup]
  dsimp only
  rw [hr, hfind]
  exact congrArg (finish s) (if_pos rfl)

theorem State.endRepair_repairs {s : State} {r : Repair} (hr : s.glean.repairs = [r]) : (s.endRepair r).glean.repairs = [] :=
  (congrArg (List.erase · r) hr).trans (erase_repair r)

theorem State.chargeReq_frame (s : State) (a n len : Nat) : ∃ x, s.chargeReq a n len = { s with arb := x } := ⟨_, rfl⟩

theorem State.takePort_sameGlean (s : State) (block n : Nat) (lock : Bool) : s.SameGlean (s.takePort block n lock) := by
  unfold State.takePort
  dsimp only
  split
  · refine State.SameGlean.trans ?_ (State.cnt_sameGlean _ _ (by decide))
    refine State.SameGlean.trans ?_ (.of_reg rfl rfl)
    refine State.SameGlean.trans ?_ (.foldl (fun t _ => t.breakLock_sameGlean _) _ _)
    exact (s.advance_sameGlean _).trans ((State.cnt_sameGlean _ _ (by decide)).trans (.of_reg rfl rfl))
  · exact (s.advance_sameGlean _).trans ((State.cnt_sameGlean _ _ (by decide)).trans (.of_reg rfl rfl))

theorem State.setRows_sameGlean (rows : List Row) (s : State) (a : Nat) : s.SameGlean (s.setRows a rows) := by
  induction rows generalizing s a with
  | nil => exact .refl s
  | cons r rows ih => exact (State.SameGlean.of_reg rfl rfl).trans (ih _ (a + 1))

theorem State.lsWrite_sameGlean (s : State) (a : Nat) (rows : List Row) (w : ResultWord) (lock : Bool) : s.SameGlean (s.lsWrite a rows w lock) := by
  have hread : s.SameGlean (s.takePort (a / 1024) rows.length lock).readBacks := (s.takePort_sameGlean _ _ _).trans (.of_reg rfl rfl)
  have hrows : s.SameGlean ((s.takePort (a / 1024) rows.length lock).readBacks.setRows a rows) := hread.trans (State.setRows_sameGlean rows _ a)
  exact hrows.trans (.of_reg rfl rfl)

/-- Rows taken from the partner are counted, and no request changes. -/
theorem State.takeRows_repairs {s : State} {t a p c n : Nat} {d : TernDesc} (hfind : s.findSlot t a = some (d, p, c, n))
    (hfree : s.slotClaimed t p n (s.placeAt d p n).tag = false) (rows : List (BitVec 80 × BitVec 80 × BitVec 2 × BitVec 16)) (tag : BitVec 8)
    (birth : BitVec 3) (dying : Option (BitVec 3)) (index : BitVec 21) (action : BitVec 20) :
    (s.takeRows t a rows tag birth dying index action).glean = s.glean ∧
    (s.takeRows t a rows tag birth dying index action).rd Reg.gleanerRepairCount =
      w32 (min 0xFFFFFFFF ((s.rd Reg.gleanerRepairCount).toNat + 1)) := by
  have hwrites (new : List Row) (w : ResultWord) : s.SameGlean ((List.range d.replicas).foldl (fun s r =>
      if s.entryOk d (d.rowAt p r n) then s else s.lsWrite (d.rowAt p r n) new w true) s) :=
    .foldl (fun u r => .ite (.refl u) (u.lsWrite_sameGlean _ _ _ _)) _ _
  unfold State.takeRows
  rw [hfind]
  dsimp only
  rw [if_neg (by rw [hfree]; decide)]
  have hw := hwrites (rows.map (fun x => Row.sealed {
        value := x.1, care := x.2.1, rangeEn := x.2.2.1, tag := tag, birth := birth, death := dying.getD 0
        state := if dying.isSome then .dying else .live, pri := x.2.2.2, parity := 0 })) (mkWord index.toNat action.toNat)
  generalize List.foldl _ s _ = u at hw ⊢
  obtain ⟨hg, hrd⟩ := State.event_sameGlean (u.cnt Reg.gleanerRepairCount 1) 0x17 0x02 0 (w32 (index.toNat % 2 ^ 21 + t * 2 ^ 24)) (w32 1)
  refine ⟨hg.trans hw.1, ?_⟩
  rw [State.gleanEvent, hrd _ (by decide), u.rd_cnt_one, hw.2 _ (by decide)]

theorem repairReply_makes {s : State} {r : Repair} {d : TernDesc} {p c n : Nat} (hup : s.coreUp = true) (hr : s.glean.repairs = [r])
    (htern : r.exact = false) (hfind : s.findSlot r.table r.key = some (d, p, c, n))
    (hfree : s.slotClaimed r.table p n (s.placeAt d p n).tag = false) (rows : List (BitVec 80 × BitVec 80 × BitVec 2 × BitVec 16)) (tag : BitVec 8)
    (birth : BitVec 3) (dying : Option (BitVec 3)) (index : BitVec 21) (action : BitVec 20) :
    Makes (.gleanerRepairReply false r.table r.key (.ternary rows tag birth dying index action)) s fun t => t.glean.repairs = [] ∧
      t.rd Reg.gleanerRepairCount = w32 (min 0xFFFFFFFF ((s.rd Reg.gleanerRepairCount).toNat + 1)) := by
  have hexec := exec_repairReply (.ternary rows tag birth dying index action) hup hr
  unfold State.repairEnd at hexec
  rw [htern] at hexec
  obtain ⟨hg, hrd⟩ := State.takeRows_repairs (s := s.endRepair r) hfind hfree rows tag birth dying index action
  refine .of_finish hexec ⟨?_, ?_⟩
  · exact (congrArg GleanSt.repairs hg).trans (State.endRepair_repairs hr)
  · exact hrd.trans (congrArg (fun v : Word => w32 (min 0xFFFFFFFF (v.toNat + 1))) (State.rd_of_vals (s := s) rfl _))

theorem repairTimeout_makes {s : State} {r : Repair} (hup : s.coreUp = true) (hr : s.glean.repairs = [r]) (hexact : r.exact = true)
    (hage : s.clk.age < 2 ^ 63) (hsince : r.since < 2 ^ 62) : Makes (.gleanerRepairTimeout true r.table r.key) s fun t =>
      t.glean.repairs = [] ∧ t.exm = s.exm ∧ t.clk.age = max s.clk.age (r.since + 25000) := by
  refine .of_finish (exec_repairTimeout hup hr hexact) ⟨?_, ?_, ?_⟩
  · exact State.endRepair_repairs (by rw [State.until_glean, hr])
  · exact s.until_exm _
  · exact s.untilAge (by omega) (by unfold usC; omega)

/-! ## Borrowed windows (R411 to R414) -/

theorem exec_windowStart {s : State} (hup : s.coreUp = true) (hon : s.rb Reg.gleanerCtrl 3 = true) (hwin : s.glean.window = none)
    (hlocks : s.arb.locks = []) : exec .gleanerWindowStart s = finish s ((s.until (s.glean.lastWindow + s.winInterval)).setGlean
      { (s.until (s.glean.lastWindow + s.winInterval)).glean with
        window := some ⟨s.glean.nextWindow % 16, s.glean.nextWindow / 16, (s.until (s.glean.lastWindow + s.winInterval)).clk.age⟩,
        lastWindow := (s.until (s.glean.lastWindow + s.winInterval)).clk.age }) := by
  have hopen : ¬ (¬ s.rb Reg.gleanerCtrl 3 = true ∨ s.glean.window.isSome = true ∨ (s.lockOn (s.glean.nextWindow % 16) 0).isSome = true ∨
      (s.lockOn (s.glean.nextWindow % 16) 1).isSome = true) := by simp [hon, hwin, State.lockOn, hlocks]
  show finish s (whileUp s _) = _
  rw [whileUp_up _ hup]
  dsimp only
  rw [if_neg hopen, State.until_glean]

theorem State.winInterval_lt (s : State) : s.winInterval < 2 ^ 32 := by
  have h : s.rf Reg.gleanerWinInterval 0 16 < 2 ^ 16 := Nat.mod_lt _ (by decide)
  unfold State.winInterval usC
  omega

/-- A fault of a window (R413). -/
theorem State.winFault_fault (s : State) (w : Window) : (s.winFault w).glean = { s.glean with fault := true } ∧
    (s.winFault w).rd Reg.gleanerWinFaultCount = w32 (min 0xFFFFFFFF ((s.rd Reg.gleanerWinFaultCount).toNat + 1)) := by
  unfold State.winFault
  dsimp only
  refine ⟨(State.event_sameGlean _ _ _ _ _ _).1, ?_⟩
  rw [(State.event_sameGlean _ _ _ _ _ _).2 _ (by decide), State.rd_cnt_one, State.rd_wr_ne _ _ (by decide)]
  exact congrArg (fun v : Word => w32 (min 0xFFFFFFFF (v.toNat + 1))) (State.rd_of_vals (s := s) rfl _)

/-- A window ends, and the order goes on. -/
def State.endWindow (s : State) : State :=
  (s.setGlean { s.glean with window := none, nextWindow := (s.glean.nextWindow + 1) % 1792 }).cnt Reg.gleanerWinCount 1

theorem exec_windowEnd {s : State} {w : Window} (ok : Bool) (hup : s.coreUp = true) (hwin : s.glean.window = some w) :
    exec (.gleanerWindowEnd ok true) s =
      finishScr s (if ok then s.until (w.since + 1075) else (s.until (w.since + 1075)).winFault w).endWindow := by
  show finishScr s (whileUp s _) = _
  rw [whileUp_up _ hup]
  dsimp only
  rw [hwin]
  dsimp only
  rw [if_pos rfl]
  rfl

theorem windowEnd_good {s : State} {w : Window} (hup : s.coreUp = true) (hwin : s.glean.window = some w) :
    Makes (.gleanerWindowEnd true true) s fun t => t.glean.window = none ∧ t.scr.mem = s.scr.mem ∧ t.glean.fault = s.glean.fault ∧
      t.glean.nextWindow = (s.glean.nextWindow + 1) % 1792 ∧
      t.rd Reg.gleanerWinCount = w32 (min 0xFFFFFFFF ((s.rd Reg.gleanerWinCount).toNat + 1)) := by
  have h := exec_windowEnd true hup hwin
  rw [if_pos rfl] at h
  obtain ⟨hg, hrd⟩ := s.until_sameGlean (w.since + 1075)
  have hscr := s.until_scr (w.since + 1075)
  generalize s.until (w.since + 1075) = u at h hg hrd hscr
  have hcount : u.endWindow.rd Reg.gleanerWinCount = w32 (min 0xFFFFFFFF ((u.rd Reg.gleanerWinCount).toNat + 1)) :=
    (State.rd_cnt_one _ _).trans (congrArg (fun v : Word => w32 (min 0xFFFFFFFF (v.toNat + 1))) (State.rd_of_vals (s := u) rfl _))
  refine .of_finishScr h ⟨rfl, (congrArg ScratchSt.mem hscr :), (congrArg GleanSt.fault hg :),
    (congrArg (fun g : GleanSt => (g.nextWindow + 1) % 1792) hg :), ?_⟩
  rw [← hrd _ (by decide)]
  exact hcount

theorem windowEnd_fault {s : State} {w : Window} (hup : s.coreUp = true) (hwin : s.glean.window = some w) :
    Makes (.gleanerWindowEnd false true) s fun t => t.glean.window = none ∧ t.scr.mem = s.scr.mem ∧ t.glean.fault = true ∧
      t.rd Reg.gleanerWinFaultCount = w32 (min 0xFFFFFFFF ((s.rd Reg.gleanerWinFaultCount).toNat + 1)) := by
  have h := exec_windowEnd false hup hwin
  rw [if_neg (by decide)] at h
  have hrd := (s.until_sameGlean (w.since + 1075)).2 Reg.gleanerWinFaultCount (by decide)
  have hscr := ((s.until (w.since + 1075)).winFault_scr w).trans (s.until_scr _)
  obtain ⟨hg, hf⟩ := (s.until (w.since + 1075)).winFault_fault w
  rw [hrd] at hf
  generalize (s.until (w.since + 1075)).winFault w = u at h hg hf hscr
  refine .of_finishScr h ⟨rfl, (congrArg ScratchSt.mem hscr :), (congrArg GleanSt.fault hg :), ?_⟩
  rw [← hf]
  exact (State.rd_cnt_ne _ 1 (by decide)).trans (State.rd_of_vals (s := u) rfl _)

theorem State.bankWait_sameGlean (s : State) (bank k : Nat) : s.SameGlean (s.bankWait bank k) :=
  (s.until_sameGlean _).trans (.of_reg rfl rfl)

/-- The window of bank `bank` is given up after `k` MCLK. -/
def State.giveWindow (s : State) (bank k : Nat) : State :=
  ((s.bankWait bank k).setGlean { s.glean with window := none }).cnt Reg.gleanerWinAbortCount 1

theorem exec_urgent {s : State} {w : Window} {x : ScratchWait} (hup : s.coreUp = true) (hwin : s.glean.window = some w)
    (hwaits : s.scr.waits = [x]) (hin : s.inWindow x.req = true) (hurgent : s.isUrgent x.req = true) :
    exec .urgentWindowAccess s = finishScr s (((s.freeN 9).2.giveWindow w.bank ((s.freeN 9).1 + 16)).bankCycle w.bank) := by
  show finishScr s (whileUp s _) = _
  rw [whileUp_up _ hup]
  dsimp only
  rw [hwin]
  dsimp only
  rw [hwaits]
  have hany : [x].any (fun x => s.inWindow x.req && s.isUrgent x.req) = true := by simp [hin, hurgent]
  rw [if_pos hany]
  unfold State.giveWindow
  generalize s.freeN 9 = p
  obtain ⟨k, u⟩ := p
  rfl

theorem urgent_makes {s : State} {w : Window} {x : ScratchWait} (hup : s.coreUp = true) (hwin : s.glean.window = some w)
    (hwaits : s.scr.waits = [x]) (hin : s.inWindow x.req = true) (hurgent : s.isUrgent x.req = true) :
    Makes .urgentWindowAccess s fun t => t.glean.window = none ∧ t.glean.nextWindow = s.glean.nextWindow ∧
      t.rd Reg.gleanerWinAbortCount = w32 (min 0xFFFFFFFF ((s.rd Reg.gleanerWinAbortCount).toNat + 1)) := by
  have hwait := State.bankWait_sameGlean (s.freeN 9).2 w.bank ((s.freeN 9).1 + 16)
  have hgive : ((s.freeN 9).2.giveWindow w.bank ((s.freeN 9).1 + 16)).glean = { s.glean with window := none } :=
    rfl
  have hcount : ((s.freeN 9).2.giveWindow w.bank ((s.freeN 9).1 + 16)).rd Reg.gleanerWinAbortCount =
      w32 (min 0xFFFFFFFF ((s.rd Reg.gleanerWinAbortCount).toNat + 1)) := by
    rw [State.giveWindow, State.rd_cnt_one]
    refine congrArg (fun v : Word => w32 (min 0xFFFFFFFF (v.toNat + 1))) ?_
    exact ((State.rd_of_vals (s := State.bankWait _ _ _) rfl _).trans (hwait.2 _ (by decide))).trans (State.rd_of_vals (s := s) rfl _)
  obtain ⟨hg, hrd⟩ := State.bankCycle_sameGlean ((s.freeN 9).2.giveWindow w.bank ((s.freeN 9).1 + 16)) w.bank
  refine .of_finishScr (exec_urgent hup hwin hwaits hin hurgent) ⟨?_, ?_, ?_⟩
  · exact (congrArg GleanSt.window (hg.trans hgive) :)
  · exact (congrArg GleanSt.nextWindow (hg.trans hgive) :)
  · exact (hrd _ (by decide)).trans hcount

/-- Settles O57: the walks, the failures, the repairs and the windows, each by what its command does. -/
theorem gleanerCompletes : Obligations.GleanerCompletes := by
  unfold Obligations.GleanerCompletes
  intro s hup
  refine ⟨?_, ?_, ?_, ?_, ?_, ?_, ?_, ?_, ?_, ?_⟩
  · intro a b hon ha hrow hword hb
    exact ternRead_makes hup hon ha hrow hword hb
  · exact fun hon hslot => exactRead_makes hup hon hslot
  · exact fun hon hwin => scrubRead_makes hup hon hwin
  · intro f rest hq
    refine ⟨fun hok => ?_, fun tb d hbad htag hins howner hw hlive hask => failureExact_makes hup hq hbad htag hins howner hw hlive hask⟩
    refine .of_finish (exec_failureExact hup hq) ?_
    rw [State.actExact_ok (s := { s with exm := { s.exm with gleanQ := rest } }) hok]
    rfl
  · intro f rest hq hgone
    refine .of_finish (exec_failureTern hup hq) ?_
    rw [State.actTern_gone (s := { s with tern := { s.tern with gleanQ := rest } }) hgone]
    rfl
  · exact fun tb k hask => ⟨.of_finish (exec_repairRequest true tb k hup hask) rfl, .of_finish (exec_repairRequest false tb k hup hask) rfl⟩
  · intro r hr
    refine ⟨fun hexact => ?_, ?_, fun hexact hage hsince => repairTimeout_makes hup hr hexact hage hsince⟩
    · have h := exec_repairReply .failed hup hr
      unfold State.repairEnd at h
      rw [hexact] at h
      exact .of_finish h ⟨State.endRepair_repairs hr, rfl⟩
    · intro d p c n rows tag birth dying index action htern hfind hfree
      exact repairReply_makes hup hr htern hfind hfree rows tag birth dying index action
  · intro hon hwin hlocks hage hlast
    refine .of_finish (exec_windowStart hup hon hwin hlocks) ⟨rfl, rfl, ?_⟩
    have hlt := s.winInterval_lt
    exact s.untilAge (by omega) (by omega)
  · exact fun w hwin => ⟨windowEnd_good hup hwin, windowEnd_fault hup hwin, fun x hwaits hin hurgent => urgent_makes hup hwin hwaits hin hurgent⟩
  · refine .of_up hup rfl ⟨rfl, ?_, rfl⟩
    exact State.rd_wr_same _ _ _

end Sys2Proof.Machine


/-! Frames that come in: the stamp of an accepted frame, its first wave, and the reception on a port (R56, R286 to R290). -/

namespace Sys2Proof.Machine

/-! ## The first wave of a frame -/

/-- `f` stands among the frames under its number, with whatever results. -/
def State.FrameIn (s : State) (f : Frame) : Prop :=
  (∃ g ∈ s.sw.frames, g.num = f.num) ∧ ∀ g ∈ s.sw.frames, g.num = f.num → ∃ r, g = { f with results := r }

/-- `t` has the frames of `s` but for their results, and its stores. -/
def State.SameStores (s t : State) : Prop :=
  t.sw.frames.length = s.sw.frames.length ∧ t.tern.rows = s.tern.rows ∧ t.exm = s.exm

theorem State.SameStores.refl (s : State) : s.SameStores s := ⟨rfl, rfl, rfl⟩

theorem State.SameStores.trans {s t u : State} (h : s.SameStores t) (k : t.SameStores u) : s.SameStores u :=
  ⟨k.1.trans h.1, k.2.1.trans h.2.1, k.2.2.trans h.2.2⟩

theorem State.FrameIn.of_eq {s t : State} {f : Frame} (h : s.FrameIn f) (e : t.sw.frames = s.sw.frames) : t.FrameIn f := by
  unfold State.FrameIn
  rw [e]
  exact h

theorem State.frame_mem {s : State} {n : Nat} {f : Frame} (h : s.frame n = some f) : f ∈ s.sw.frames ∧ f.num = n := by
  refine ⟨List.mem_of_find?_eq_some h, ?_⟩
  have hn := List.find?_some h
  exact beq_iff_eq.mp hn

/-- A frame whose results change stays in its place. -/
theorem State.FrameIn.setResults {s : State} {f g : Frame} (h : s.FrameIn f) (hg : s.frame f.num = some g) (r : List RoleRes) :
    (s.setFrame { g with results := r }).FrameIn f := by
  obtain ⟨hmem, hnum⟩ := State.frame_mem hg
  obtain ⟨r0, rfl⟩ := h.2 g hmem hnum
  refine ⟨⟨{ f with results := r }, List.mem_map.mpr ⟨_, hmem, if_pos rfl⟩, rfl⟩, fun x hx hxn => ?_⟩
  obtain ⟨y, hy, rfl⟩ := List.mem_map.mp hx
  by_cases hyn : y.num = f.num
  · exact ⟨r, if_pos hyn⟩
  · rw [if_neg hyn] at hxn
    exact absurd hxn hyn

/-- The lane of a frame issues the search of a role: the frame stays in its place, and no store changes. -/
theorem State.issueRole_frame {s : State} {f : Frame} (h : s.FrameIn f) (role : Nat) :
    (s.issueRole f.num role).FrameIn f ∧ s.SameStores (s.issueRole f.num role) := by
  unfold State.issueRole
  dsimp only
  split
  · exact ⟨h, .refl s⟩
  next g hg =>
    split
    · exact ⟨h, .refl s⟩
    next p _ =>
      split
      · exact ⟨h.of_eq rfl, rfl, rfl, rfl⟩
      · split
        · exact ⟨h, .refl s⟩
        · split
          · exact ⟨h.of_eq rfl, rfl, rfl, rfl⟩
          · exact ⟨(h.setResults hg _).of_eq rfl, List.length_map _, rfl, rfl⟩

theorem State.issueRoles_frame {f : Frame} (roles : List Nat) {s : State} (h : s.FrameIn f) :
    (roles.foldl (fun s r => s.issueRole f.num r) s).FrameIn f ∧ s.SameStores (roles.foldl (fun s r => s.issueRole f.num r) s) := by
  induction roles generalizing s with
  | nil => exact ⟨h, .refl s⟩
  | cons r roles ih =>
    obtain ⟨h1, h2⟩ := State.issueRole_frame h r
    obtain ⟨h3, h4⟩ := ih h1
    exact ⟨h3, h2.trans h4⟩

/-- The model's number for the next frame is above those of the frames in the device. -/
theorem freshFrame_above (l : List Frame) (n : Nat) : n ≤ l.foldl (fun n f => max n (f.num + 1)) n ∧
    ∀ g ∈ l, g.num < l.foldl (fun n f => max n (f.num + 1)) n := by
  induction l generalizing n with
  | nil => exact ⟨Nat.le_refl n, fun g hg => absurd hg (List.not_mem_nil)⟩
  | cons f l ih =>
    obtain ⟨hn, hl⟩ := ih (max n (f.num + 1))
    refine ⟨Nat.le_trans (Nat.le_max_left _ _) hn, fun g hg => ?_⟩
    rcases List.mem_cons.mp hg with rfl | hg
    · exact Nat.lt_of_lt_of_le (Nat.lt_succ_self _) (Nat.le_trans (Nat.le_max_right _ _) hn)
    · exact hl g hg

theorem State.freshFrame_new {s : State} {g : Frame} (h : g ∈ s.sw.frames) : g.num ≠ s.freshFrame :=
  Nat.ne_of_lt ((freshFrame_above s.sw.frames s.sw.nextFrame).2 g h)

/-! ## The stamp (R287) -/

/-- The frame that an ingress stamps. -/
def State.stamped (s : State) (i kind length cells : Nat) (bytes : List Byte) (rxAge rxNs late : Nat) : Frame :=
  let t := (s.nextSeq i).2
  { num := t.freshFrame, ingress := i, seq := (s.nextSeq i).1, epoch := t.glue.c, deadline := t.clk.age + t.budget
    relAt := t.clk.age + 660 - late, rxAge := rxAge, rxNs := rxNs, roles := (t.ingressRoles i).1, portUser := (t.ingressRoles i).2, kind := kind
    bytes := bytes, length := length, cells := cells, lane := t.pickLane, stage := .wave1
    results := List.replicate 5 roleRes0, entries := List.replicate 5 none, actionErr := false
    group := none, gi := false, sent := 0, drops := [], counted := true }

/-- The state with a frame more. -/
def State.addFrame (s : State) (f : Frame) : State := { s with sw := { s.sw with frames := s.sw.frames ++ [f], nextFrame := f.num + 1 } }

/-- An accepted frame stands behind the others, and its lane has begun with it. -/
def State.laneBegun (s : State) (i length : Nat) (f : Frame) : State :=
  let s := ((s.addFrame f).countRx i length).ungateFor
  { s with pwr := { s.pwr with laneIdle := smSet 0 s.pwr.laneIdle f.lane s.clk.age } }

theorem State.acceptFrame_eq (s : State) (i kind length cells : Nat) (bytes : List Byte) (rxAge rxNs late : Nat) :
    s.acceptFrame i kind length cells bytes rxAge rxNs late =
      [0, 1, 2].foldl (fun t r => t.issueRole (s.stamped i kind length cells bytes rxAge rxNs late).num r)
        ((s.nextSeq i).2.laneBegun i length (s.stamped i kind length cells bytes rxAge rxNs late)) := rfl

/-- `t` has the frames and the stores of `s`, and its clock, epoch and budget. -/
def State.SameFrames (s t : State) : Prop :=
  t.sw.frames = s.sw.frames ∧ t.sw.nextFrame = s.sw.nextFrame ∧ t.tern.rows = s.tern.rows ∧ t.exm = s.exm ∧ t.glue = s.glue ∧ t.clk = s.clk ∧
    t.budget = s.budget

theorem State.SameFrames.refl (s : State) : s.SameFrames s := ⟨rfl, rfl, rfl, rfl, rfl, rfl, rfl⟩

theorem State.SameFrames.trans {s t u : State} (h : s.SameFrames t) (k : t.SameFrames u) : s.SameFrames u := by
  obtain ⟨h1, h2, h3, h4, h5, h6, h7⟩ := h
  obtain ⟨k1, k2, k3, k4, k5, k6, k7⟩ := k
  exact ⟨k1.trans h1, k2.trans h2, k3.trans h3, k4.trans h4, k5.trans h5, k6.trans h6, k7.trans h7⟩

theorem State.SameFrames.fresh {s t : State} (h : s.SameFrames t) : t.freshFrame = s.freshFrame := by
  obtain ⟨h1, h2, -⟩ := h
  rw [State.freshFrame, h1, h2]
  rfl

theorem State.nextSeq_sameFrames (s : State) (i : Nat) : s.SameFrames (s.nextSeq i).2 := by
  unfold State.nextSeq
  split
  · exact .refl _
  · exact .refl _

theorem State.setHolder_sameFrames (s : State) (h : Nat) (x : Holder) : s.SameFrames (s.setHolder h x) := ⟨rfl, rfl, rfl, rfl, rfl, rfl, rfl⟩

/-- What counting a frame in and ungating a lane leave as they are. -/
theorem State.laneBegun_frames (s : State) (i length : Nat) (f : Frame) :
    (s.laneBegun i length f).sw.frames = s.sw.frames ++ [f] ∧ (s.laneBegun i length f).tern = s.tern ∧ (s.laneBegun i length f).exm = s.exm := by
  have hcount (t : State) : (t.countRx i length).sw = t.sw ∧ (t.countRx i length).tern = t.tern ∧ (t.countRx i length).exm = t.exm := by
    unfold State.countRx
    split
    · exact ⟨rfl, rfl, rfl⟩
    · exact ⟨rfl, rfl, rfl⟩
  have hungate (t : State) : t.ungateFor.sw = t.sw ∧ t.ungateFor.tern = t.tern ∧ t.ungateFor.exm = t.exm := by
    unfold State.ungateFor
    dsimp only
    split
    · split
      · exact ⟨rfl, rfl, rfl⟩
      · exact ⟨rfl, rfl, rfl⟩
    · exact ⟨rfl, rfl, rfl⟩
  obtain ⟨c1, c2, c3⟩ := hcount (s.addFrame f)
  obtain ⟨u1, u2, u3⟩ := hungate ((s.addFrame f).countRx i length)
  exact ⟨(congrArg SwitchSt.frames (u1.trans c1) :), u2.trans c2, u3.trans c3⟩

/-- An accepted frame is stamped with the current epoch and its deadline, and enters wave 1. -/
theorem State.acceptFrame_enters (s : State) (i kind length cells : Nat) (bytes : List Byte) (rxAge rxNs late : Nat) :
    ∃ g ∈ (s.acceptFrame i kind length cells bytes rxAge rxNs late).sw.frames,
      (∃ r, g = { s.stamped i kind length cells bytes rxAge rxNs late with results := r }) ∧
      (s.acceptFrame i kind length cells bytes rxAge rxNs late).sw.frames.length = s.sw.frames.length + 1 ∧
      (s.acceptFrame i kind length cells bytes rxAge rxNs late).tern.rows = s.tern.rows ∧
      (s.acceptFrame i kind length cells bytes rxAge rxNs late).exm = s.exm := by
  obtain ⟨q1, q2, q3, q4, -⟩ := s.nextSeq_sameFrames i
  rw [s.acceptFrame_eq]
  have hnum : (s.stamped i kind length cells bytes rxAge rxNs late).num = (s.nextSeq i).2.freshFrame := rfl
  generalize s.stamped i kind length cells bytes rxAge rxNs late = f at hnum ⊢
  obtain ⟨b1, b2, b3⟩ := (s.nextSeq i).2.laneBegun_frames i length f
  have hin : ((s.nextSeq i).2.laneBegun i length f).FrameIn f := by
    unfold State.FrameIn
    rw [b1]
    refine ⟨⟨f, by simp, rfl⟩, fun g hg hgn => ?_⟩
    rcases List.mem_append.mp hg with hg | hg
    · exact absurd (hgn.trans hnum) (State.freshFrame_new hg)
    · exact ⟨f.results, List.mem_singleton.mp hg⟩
  obtain ⟨⟨⟨g, hg, hgn⟩, hall⟩, hlen, hrows, hexm⟩ := State.issueRoles_frame [0, 1, 2] hin
  refine ⟨g, hg, hall g hg hgn, ?_, ?_, ?_⟩
  · rw [hlen, b1, List.length_append, q1]
    rfl
  · rw [hrows, b2, q3]
  · rw [hexm, b3, q4]

/-- A frame for which there is room is accepted. -/
theorem State.admitFrame_enters {s v : State} {i kind length : Nat} {bytes : List Byte} {rxAge rxNs late : Nat}
    (h : s.chargeFrom (ingHolder i) (cellsOf length) rxAge = some v) : ∃ g ∈ (s.admitFrame i kind length bytes rxAge rxNs late).sw.frames,
      g.num = s.freshFrame ∧ g.ingress = i ∧ g.kind = kind ∧ g.length = length ∧ g.bytes = bytes ∧ g.epoch = s.glue.c ∧ g.stage = .wave1 ∧
      g.deadline = s.clk.age + s.budget ∧ g.relAt = s.clk.age + 660 - late ∧
      (s.admitFrame i kind length bytes rxAge rxNs late).sw.frames.length = s.sw.frames.length + 1 ∧
      (s.admitFrame i kind length bytes rxAge rxNs late).tern.rows = s.tern.rows ∧
      (s.admitFrame i kind length bytes rxAge rxNs late).exm = s.exm := by
  obtain ⟨x, rfl, -⟩ := State.chargeFrom_eq h
  have hadmit : s.admitFrame i kind length bytes rxAge rxNs late =
      (s.setHolder (ingHolder i) x).acceptFrame i kind length (cellsOf length) bytes rxAge rxNs late := by
    unfold State.admitFrame
    rw [h]
  have hsame : s.SameFrames ((s.setHolder (ingHolder i) x).nextSeq i).2 := (s.setHolder_sameFrames _ x).trans (State.nextSeq_sameFrames _ i)
  have hnum := hsame.fresh
  obtain ⟨-, -, -, -, hglue, hclk, hbudget⟩ := hsame
  obtain ⟨g, hg, ⟨r, rfl⟩, hlen, hrows, hexm⟩ :=
    (s.setHolder (ingHolder i) x).acceptFrame_enters i kind length (cellsOf length) bytes rxAge rxNs late
  rw [hadmit]
  refine ⟨_, hg, hnum, rfl, rfl, rfl, rfl, ?_, rfl, ?_, ?_, hlen, hrows, hexm⟩
  · rw [← hglue]
    rfl
  · rw [← hclk, ← hbudget]
    rfl
  · rw [← hclk]
    rfl

/-! ## Reception on a port (R56, R286) -/

theorem State.countFec_eq (s : State) (n : Nat) (f : EthFrame) : ∃ v, s.countFec n f = { s with reg := { s.reg with vals := v } } ∧
    ∀ a, a ≠ portBase n + 0x120 → a ≠ portBase n + 0x124 → (s.countFec n f).rd a = s.rd a := by
  unfold State.countFec
  split
  · exact ⟨_, rfl, fun a h1 h2 => (State.rd_cnt_ne _ _ h2).trans (State.rd_cnt_ne _ _ h1)⟩
  · exact ⟨_, rfl, fun _ _ _ => rfl⟩

/-- What a port does with a frame that has passed into it. -/
def State.ethSort (u : State) (port : Fin 32) (f : EthFrame) (maxFrame back : Nat) : State :=
  if f.bytes.length + 4 < 64 then u.drop port 2
  else if maxFrame < f.bytes.length + 4 then u.drop port 3
  else if ¬ f.fcsOk then u.drop port 1
  else if etherType f.bytes = 0x8808 then u.drop port 4
  else if u.isCommandFrame port f.bytes then u.takeCommand port f.bytes true false
  else match u.mapperTake port f.bytes (u.clk.age - back) with
    | some t => t
    | none => u.admitFrame port 0 (f.bytes.length + 4) f.bytes (u.clk.age - back) (u.nsAgo back) 0

theorem State.fifoWait_run {s : State} (h : s.pwr.state = .run) (back : Nat) : s.fifoWait back = 0 := if_neg (by rw [h]; decide)

theorem State.leaveDozeIn_run {s : State} (h : s.pwr.state = .run) (k : Nat) : s.leaveDozeIn k = s := if_neg (by rw [h]; decide)

theorem State.ingressOpen_of {s : State} (hheld : s.twin.ingressHeld = false) (hentry : s.pwr.entry = none) (hcycle : s.lifeCycle ≠ 5) :
    s.ingressOpen = true := by
  simp [State.ingressOpen, hheld, hentry, hcycle]

theorem State.macsecRx_off {s : State} {n : Nat} (h : (s.secCfg n).en = false) (b : List Byte) : s.macsecRx n b = (s, some (b, true)) :=
  if_pos (by rw [h]; decide)

theorem State.ethReceive_open {s : State} {port : Fin 32} {f : EthFrame} (hmode : (s.ethPort port).mode ≠ 0) (hlink : (s.ethPort port).linkUp = true)
    (hdown : (s.ethPort port).downAt ≠ some s.clk.age) (hheld : s.twin.ingressHeld = false) (hentry : s.pwr.entry = none) (hcycle : s.lifeCycle ≠ 5)
    (hrun : s.pwr.state = .run) (hsec : (s.secCfg port).en = false) : s.ethReceive port f =
      (s.countFec port f).ethSort port f (s.ethPort port).maxFrame (140 + rxCclk (f.bytes.length + 4) (s.ethPort port).rate) := by
  obtain ⟨v, e, -⟩ := s.countFec_eq port f
  have hopen : (s.countFec port f).ingressOpen = true := by
    rw [e]
    exact s.ingressOpen_of hheld hentry hcycle
  have hdown' : (s.ethPort port).downAt ≠ some (s.countFec port f).clk.age := by rw [e]; exact hdown
  have hheld' : (s.countFec port f).twin.ingressHeld = false := by rw [e]; exact hheld
  have hentry' : (s.countFec port f).pwr.entry = none := by rw [e]; exact hentry
  have hrun' : (s.countFec port f).pwr.state = .run := by rw [e]; exact hrun
  have hsec' : ((s.countFec port f).secCfg port).en = false := by rw [e]; exact hsec
  unfold State.ethReceive State.ethSort
  dsimp only
  generalize s.countFec port f = u at hopen hdown' hheld' hentry' hrun' hsec' ⊢
  rw [if_neg hdown', if_neg (by simp [hmode, hlink]), if_neg (by simp [hheld']), if_neg (by simp [hentry']), if_neg (not_not_intro hopen),
    State.fifoWait_run hrun', State.leaveDozeIn_run hrun', hrun', State.macsecRx_off hsec']
  rfl

/-- A frame for which there is room enters wave 1. -/
theorem State.ethSort_ordinary {u : State} {port : Fin 32} {f : EthFrame} {maxFrame back : Nat} (hmin : 60 ≤ f.bytes.length)
    (hmax : f.bytes.length + 4 ≤ maxFrame) (hfcs : f.fcsOk = true) (htype : etherType f.bytes ≠ 0x8808)
    (hcmd : u.isCommandFrame port f.bytes = false) (hmap : ∀ at_, u.mapperTake port f.bytes at_ = none) :
    u.ethSort port f maxFrame back = u.admitFrame port 0 (f.bytes.length + 4) f.bytes (u.clk.age - back) (u.nsAgo back) 0 := by
  unfold State.ethSort
  rw [if_neg (by omega), if_neg (by omega), if_neg (by simp [hfcs]), if_neg htype, if_neg (by simp [hcmd]), hmap]

theorem State.ethSort_command {u : State} {port : Fin 32} {f : EthFrame} {maxFrame back : Nat} (hmin : 60 ≤ f.bytes.length)
    (hmax : f.bytes.length + 4 ≤ maxFrame) (hfcs : f.fcsOk = true) (htype : etherType f.bytes ≠ 0x8808)
    (hcmd : u.isCommandFrame port f.bytes = true) : u.ethSort port f maxFrame back = u.takeCommand port f.bytes true false := by
  unfold State.ethSort
  rw [if_neg (by omega), if_neg (by omega), if_neg (by simp [hfcs]), if_neg htype, if_pos hcmd]

/-- The first reason to drop a frame that applies (R286). -/
theorem State.ethSort_drop {u : State} {port : Fin 32} {f : EthFrame} {maxFrame back : Nat}
    (h : f.bytes.length < 60 ∨ maxFrame < f.bytes.length + 4 ∨ f.fcsOk = false ∨ etherType f.bytes = 0x8808) :
    u.ethSort port f maxFrame back = u.drop port (if f.bytes.length < 60 then 2 else if maxFrame < f.bytes.length + 4 then 3
      else if f.fcsOk = false then 1 else 4) := by
  unfold State.ethSort
  by_cases hmin : f.bytes.length < 60
  · rw [if_pos (by omega), if_pos hmin]
  rw [if_neg (by omega), if_neg hmin]
  by_cases hmax : maxFrame < f.bytes.length + 4
  · rw [if_pos hmax, if_pos hmax]
  rw [if_neg hmax, if_neg hmax]
  by_cases hfcs : f.fcsOk = false
  · rw [if_pos (by simp [hfcs]), if_pos hfcs]
  have htype : etherType f.bytes = 0x8808 := by
    rcases h with h | h | h | h
    · exact absurd h hmin
    · exact absurd h hmax
    · exact absurd h hfcs
    · exact h
  rw [if_neg (by simp [hfcs]), if_neg hfcs, if_pos htype]

/-- A command frame of a stream that has its eight commands waiting, or before the firmware takes any, is counted as dropped. -/
theorem State.takeCommand_drops {u : State} {port : Fin 32} {f p : List Byte} {tag : Nat} (hp : behindEtype 0x88B5 f = some p)
    (hvlan : half f 12 = 0x8100) (htag : tag = half f 14) (hlen : 16 ≤ p.length)
    (h : 8 ≤ u.unstarted (.inband port (BitVec.ofNat 48 (ofBytesBE ((f.drop 6).take 6))) (BitVec.ofNat 12 tag)) ∨
      u.pwr.fwReady = false ∨ u.pwr.recovery = true) : u.takeCommand port f true false = u.cnt Reg.cmdqInbandDropCount 1 := by
  unfold State.takeCommand
  rw [hp]
  dsimp only
  rw [if_pos hvlan, Option.getD_some, ← htag]
  by_cases hready : ¬ true = true ∨ ¬ u.pwr.fwReady = true ∨ u.pwr.recovery = true
  · rw [if_pos hready]
  · have hfull : 8 ≤ u.unstarted (.inband port (BitVec.ofNat 48 (ofBytesBE ((f.drop 6).take 6))) (BitVec.ofNat 12 tag)) := by
      rcases h with h | h | h
      · exact h
      · exact absurd (Or.inr (Or.inl (by simp [h]))) hready
      · exact absurd (Or.inr (Or.inr h)) hready
    rw [if_neg hready, if_neg (by omega), if_pos hfull]

theorem State.takeCommand_takes {u : State} {port : Fin 32} {f p : List Byte} {tag : Nat} {st : StreamId} (hp : behindEtype 0x88B5 f = some p)
    (hvlan : half f 12 = 0x8100) (htag : tag = half f 14) (hlen : 16 ≤ p.length)
    (hst : st = .inband port (BitVec.ofNat 48 (ofBytesBE ((f.drop 6).take 6))) (BitVec.ofNat 12 tag))
    (hfew : u.unstarted st < 8) (hready : u.pwr.fwReady = true) (hrec : u.pwr.recovery = false) :
    u.takeCommand port f true false =
      u.receive st none (some tag) (p.take (16 + 4 * ofBytesLE ((p.drop 8).take 2))).length (p.take (16 + 4 * ofBytesLE ((p.drop 8).take 2))) := by
  unfold State.takeCommand
  rw [hp]
  dsimp only
  rw [if_pos hvlan, Option.getD_some, ← htag, ← hst, if_neg (by simp [hready, hrec]), if_neg (by omega), if_neg (by omega)]
  rfl

/-- A packet of an in-band stream that passes the checks is accepted behind the others. -/
theorem State.receive_inband {u : State} {st : StreamId} {len : Nat} {p : List Byte} {tag : Nat} (hcheck : packetChecks (parsePacket st p) len = 0)
    (htrans : u.transportCheck (parsePacket st p) = 0) (hstream : u.streamCheck st = 0) (hkept : u.keptReply (parsePacket st p).q = none)
    (hnew : u.cmdOf (parsePacket st p).q = none) : u.receive st none (some tag) len p =
      (u.touchStream st).acceptCmd (parsePacket st p).op (parsePacket st p).q none (some tag) := by
  unfold State.receive
  dsimp only
  rw [if_neg (by simp [hcheck]), if_neg (by simp [htrans]), hkept]
  dsimp only
  rw [if_neg (by simp [hnew]), if_neg (by simp [hstream])]

theorem State.touchStream_keeps (s : State) (st : StreamId) : (s.touchStream st).cmdq.cmds = s.cmdq.cmds ∧
    (s.touchStream st).cmdq.nextId = s.cmdq.nextId ∧ (s.touchStream st).sw = s.sw := by
  unfold State.touchStream
  dsimp only
  split
  · split
    · exact ⟨rfl, rfl, rfl⟩
    · exact ⟨rfl, rfl, rfl⟩
  · exact ⟨rfl, rfl, rfl⟩

theorem portRegs_ne (port : Fin 32) {a : Nat} (h : a < 0xA0000) (k : Nat) : a ≠ portBase port + k := by
  have hp := port.isLt
  unfold portBase
  rw [if_pos (by omega)]
  omega

/-- Settles O33: the frame is dropped for the first reason that applies, taken as a command, or admitted. -/
theorem receptionCompletes : Obligations.ReceptionCompletes := by
  unfold Obligations.ReceptionCompletes
  rintro s u port f hup hmode hlink hdown hheld hentry hcycle hrun hsec rfl
  have hrecv := State.ethReceive_open (f := f) hmode hlink hdown hheld hentry hcycle hrun hsec
  obtain ⟨v, e, hrd⟩ := s.countFec_eq port f
  have hlow {a : Nat} (h : a < 0xA0000) : (s.countFec port f).rd a = s.rd a := hrd a (portRegs_ne port h _) (portRegs_ne port h _)
  have hcmdFrame : (s.countFec port f).isCommandFrame port f.bytes = s.isCommandFrame port f.bytes := by
    simp only [State.isCommandFrame, State.inbandPort, State.rb, State.rf, hlow (show Reg.cmdqCtrl < 0xA0000 by decide),
      hlow (show Reg.cmdqInbandPorts < 0xA0000 by decide), hlow (show Reg.cmdqInbandMacLo < 0xA0000 by decide),
      hlow (show Reg.cmdqInbandMacHi < 0xA0000 by decide)]
  have hbudget : (s.countFec port f).budget = s.budget := by
    simp only [State.budget, State.rf, hrd Reg.switchBudget (by have := port.isLt; unfold portBase Reg.switchBudget; split <;> omega)
      (by have := port.isLt; unfold portBase Reg.switchBudget; split <;> omega)]
  have htranscheck (pk : Header) : (s.countFec port f).transportCheck pk = s.transportCheck pk := by
    unfold State.transportCheck State.rb
    rw [hlow (show Reg.cmdqCtrl < 0xA0000 by decide)]
  refine ⟨fun hmin hmax hfcs htype => ⟨fun hcmd hmap ⟨w, hw⟩ => ?_, fun p tag st hcmd hp hvlan htag hlen hst => ⟨fun hfull => ?_, ?_⟩⟩, fun r h hr => ?_⟩
  · refine .of_up hup rfl ?_
    rw [hrecv, State.ethSort_ordinary hmin hmax hfcs htype (hcmdFrame.trans hcmd) hmap]
    have hage : (s.countFec port f).clk = s.clk := by rw [e]
    rw [hage]
    obtain ⟨g, hg, h1, h2, -, h4, h5, h6, h7, h8, h9, h10, h11, h12⟩ := State.admitFrame_enters (kind := 0) (bytes := f.bytes)
      (rxNs := (s.countFec port f).nsAgo (140 + rxCclk (f.bytes.length + 4) (s.ethPort port).rate)) (late := 0) hw
    rw [hage, hbudget] at h8
    rw [hage] at h9
    have hsame : (s.countFec port f).sw = s.sw ∧ (s.countFec port f).glue = s.glue ∧ (s.countFec port f).tern = s.tern ∧
      (s.countFec port f).exm = s.exm ∧ (s.countFec port f).freshFrame = s.freshFrame := by
      rw [e]
      exact ⟨rfl, rfl, rfl, rfl, rfl⟩
    obtain ⟨k1, k2, k3, k4, k5⟩ := hsame
    exact ⟨g, hg, h1.trans k5, h2, h6.trans (by rw [k2]), h8, h9, h5, h4, h7, h10.trans (by rw [k1]), h11.trans (by rw [k3]), h12.trans k4⟩
  · refine .of_up hup rfl ?_
    have hfull' : 8 ≤ (s.countFec port f).unstarted st ∨ (s.countFec port f).pwr.fwReady = false ∨ (s.countFec port f).pwr.recovery = true := by
      rw [e]
      exact hfull
    subst hst
    rw [hrecv, State.ethSort_command hmin hmax hfcs htype (hcmdFrame.trans hcmd), State.takeCommand_drops hp hvlan htag hlen hfull']
    refine ⟨?_, ?_⟩
    · rw [State.rd_after, State.rd_cnt_one, hlow (by decide)]
    · rw [e]
      rfl
  · rintro hfew hready hrec r pk rfl rfl hcheck htrans hstream hkept hnew
    refine .of_up hup rfl ?_
    have hfew' : (s.countFec port f).unstarted st < 8 := by rw [e]; exact hfew
    have hready' : (s.countFec port f).pwr.fwReady = true := by rw [e]; exact hready
    have hrec' : (s.countFec port f).pwr.recovery = false := by rw [e]; exact hrec
    have hstream' : (s.countFec port f).streamCheck st = 0 := by rw [e]; exact hstream
    have hkept' (q : Request) : (s.countFec port f).keptReply q = s.keptReply q := by rw [e]; rfl
    have hnew' (q : Request) : (s.countFec port f).cmdOf q = s.cmdOf q := by rw [e]; rfl
    rw [hrecv, State.ethSort_command hmin hmax hfcs htype (hcmdFrame.trans hcmd), State.takeCommand_takes hp hvlan htag hlen hst hfew' hready' hrec',
      State.receive_inband hcheck ((htranscheck _).trans htrans) hstream' ((hkept' _).trans hkept) ((hnew' _).trans hnew)]
    obtain ⟨h1, h2, h3⟩ := (s.countFec port f).touchStream_keeps st
    have hsame : (s.countFec port f).sw = s.sw ∧ (s.countFec port f).cmdq = s.cmdq := by
      rw [e]
      exact ⟨rfl, rfl⟩
    obtain ⟨k1, k2⟩ := hsame
    generalize (s.countFec port f).touchStream st = w at h1 h2 h3 ⊢
    rw [k2] at h1 h2
    refine ⟨?_, (congrArg SwitchSt.frames (h3.trans k1) :)⟩
    rw [← h1, ← h2]
    rfl
  · subst hr
    have hexec : exec (.frameReceived port f) s = finish s (s.ethReceive port f) := by
      show finish s (whileUp s _) = _
      rw [whileUp_up _ hup]
    rw [hexec, hrecv, State.ethSort_drop h, finish_eq]

end Sys2Proof.Machine


/-! Slow channels: configuration, bus state, reception and the wake patterns (R323 to R328, R350, R354, R362). -/

namespace Sys2Proof.Machine

/-! ## CHANNEL_CONFIG and WAKE_PATTERN_WRITE (R354, R362) -/

@[simp] theorem State.chan_setChan_same (s : State) (n : Nat) (c : SlowCh) : (s.setChan n c).chan n = c := smGet_smSet_same _ _ _ _

theorem State.chan_event (s : State) (b c i : Nat) (x y : Word) (n : Nat) : (s.event b c i x y).chan n = s.chan n := by
  obtain ⟨_, _, e, -⟩ := s.event_eq b c i x y
  rw [e]
  rfl

theorem State.sw_event (s : State) (b c i : Nat) (x y : Word) : (s.event b c i x y).sw = s.sw := by
  obtain ⟨_, _, e, -⟩ := s.event_eq b c i x y
  rw [e]

/-- The settings of CHANNEL_CONFIG are in range. -/
def Request.channelGood (q : Request) : Prop :=
  q.stray 0 0x0F0F773F = false ∧ q.f 0 8 3 ≤ 4 ∧ (q.f 0 8 3 = 4 → 2 ≤ q.f 0 24 4) ∧ q.roleSet.stray = false ∧ q.stray 11 0x03FF03FF = false ∧
    q.stray 12 0xFFFF = false ∧ q.stray 14 0xFFFF = false ∧ q.ratesOk = true

/-- The channel starts anew with these settings. -/
def Request.channelFresh (q : Request) (c : SlowCh) : Prop :=
  q.f 0 8 3 ≠ c.mode ∨ (q.w 1).toNat ≠ c.nomRate ∨ (q.w 2).toNat ≠ c.dataRate ∨ bit (q.w 0) 12 ≠ bit c.w0 12

/-- Good settings are taken: the channel has them, and starts anew where its mode or a rate changes. -/
theorem State.channelConfig_good {s : State} {q : Request} (h : q.channelGood) (hroles : s.roleWave q.roleSet = false)
    (hdesig : s.designated (q.f 0 0 6) = true → q.f 0 8 3 = 1 ∨ q.f 0 8 3 = 2)
    (hfit : q.f 0 8 3 = (s.chan (q.f 0 0 6)).mode ∨ s.mapper.pdus = []) :
    (¬ q.channelFresh (s.chan (q.f 0 0 6)) →
      s.channelConfig q = (s.setChan (q.f 0 0 6) (q.channel (s.chan (q.f 0 0 6))), .final St.ok [])) ∧
    (q.channelFresh (s.chan (q.f 0 0 6)) →
      s.channelConfig q = ((s.setChan (q.f 0 0 6) (q.channel (s.chan (q.f 0 0 6)))).restartChan (q.f 0 0 6), .final St.ok [])) := by
  obtain ⟨h1, h2, h3, h4, h5, h6, h7, h8⟩ := h
  have hgood : ¬ (q.stray 0 0x0F0F773F = true ∨ 4 < q.f 0 8 3 ∨ (q.f 0 8 3 = 4 ∧ q.f 0 24 4 < 2) ∨ q.roleSet.stray = true ∨
      q.stray 11 0x03FF03FF = true ∨ q.stray 12 0xFFFF = true ∨ q.stray 14 0xFFFF = true) := by
    rintro (h | h | h | h | h | h | h)
    · exact absurd h (by rw [h1]; decide)
    · omega
    · have := h3 h.1
      omega
    · exact absurd h (by rw [h4]; decide)
    · exact absurd h (by rw [h5]; decide)
    · exact absurd h (by rw [h6]; decide)
    · exact absurd h (by rw [h7]; decide)
  have hunfit : ¬ (q.f 0 8 3 ≠ (s.chan (q.f 0 0 6)).mode ∧ s.mapper.pdus.any (fun x => x.2.en && x.2.slow && x.2.port == 64 + q.f 0 0 6 &&
      !x.2.fits (q.channel (s.chan (q.f 0 0 6)))) = true) := by
    rintro ⟨hne, hany⟩
    rcases hfit with h | h
    · exact hne h
    · rw [h] at hany
      cases hany
  have hdes : ¬ (s.designated (q.f 0 0 6) = true ∧ q.f 0 8 3 ≠ 1 ∧ q.f 0 8 3 ≠ 2) := fun ⟨hd, hne⟩ => (hdesig hd).elim hne.1 hne.2
  unfold State.channelConfig
  dsimp only
  rw [if_neg hgood, if_neg (not_not_intro h8), if_neg (by simp [hroles]), if_neg hunfit, if_neg hdes]
  exact ⟨fun hf => congrArg (fun t : State => (t, CmdEnd.final St.ok [])) (if_neg hf), fun hf => congrArg (fun t : State => (t, CmdEnd.final St.ok [])) (if_pos hf)⟩

/-- A channel that starts anew has its settings and no copies. -/
theorem State.restartChan_eq (s : State) (n : Nat) : (s.restartChan n).chan n =
      { s.chan n with active := false, busOff := false, recessive := false, recover := false, tec := 0, rec_ := 0 } ∧
    (s.restartChan n).sw.copies.all (fun c => c.port != 64 + n) = true := by
  obtain ⟨r, e, h, f, hflush⟩ := s.flushPort_copies (64 + n)
  unfold State.restartChan
  dsimp only
  rw [hflush]
  refine ⟨State.chan_setChan_same _ _ _, ?_⟩
  show (s.sw.copies.filter (fun c => !(c.port == 64 + n))).all (fun c => c.port != 64 + n) = true
  rw [List.all_eq_true]
  intro c hc
  exact (List.mem_filter.mp hc).2

/-- WAKE_PATTERN_WRITE of designated channels and patterns that are good. -/
theorem State.wakePatternWrite_good {s : State} {q : Request} (hstray : q.stray 0 0x7F7F7F7F = false)
    (hds : (q.desigs.filter (· != 0x7F)).all (fun d => decide (d < 64) && [125000, 250000, 500000].contains (s.chan d).nomRate &&
      ((s.chan d).mode == 1 || (s.chan d).mode == 2)) = true)
    (honce : (q.desigs.filter (· != 0x7F)).eraseDups.length = (q.desigs.filter (· != 0x7F)).length)
    (hidx : (q.patterns.map (fun p => fld (wd p 0) 0 4)).eraseDups.length = q.patterns.length) (hpats : q.patterns.any patternStray = false) :
    s.wakePatternWrite q = ({ s with heath := { s.heath with
      desig := q.desigs, patterns := q.patterns.foldl (fun m p => smSet [] m (fld (wd p 0) 0 4) p) s.heath.patterns } }, .final St.ok []) := by
  have hd (d : Nat) (h : d ∈ q.desigs.filter (· != 0x7F)) : d < 64 ∧ [125000, 250000, 500000].contains (s.chan d).nomRate = true ∧
      ((s.chan d).mode = 1 ∨ (s.chan d).mode = 2) := by
    have := List.all_eq_true.mp hds d h
    simpa [Bool.and_eq_true, and_assoc] using this
  have hslow : (q.desigs.filter (· != 0x7F)).any (fun d => decide (64 ≤ d) || !([125000, 250000, 500000].contains (s.chan d).nomRate)) = false := by
    rw [List.any_eq_false]
    intro d h
    obtain ⟨h1, h2, -⟩ := hd d h
    rw [h2]
    simp
    omega
  have hcan : (q.desigs.filter (· != 0x7F)).find? (fun d => (s.chan d).mode != 1 && (s.chan d).mode != 2) = none := by
    rw [List.find?_eq_none]
    intro d h
    obtain ⟨-, -, h3⟩ := hd d h
    rcases h3 with h3 | h3
    · simp [h3]
    · simp [h3]
  unfold State.wakePatternWrite
  dsimp only
  rw [if_neg (by rw [hstray, hslow, hpats]; simp [honce, hidx]), hcan]
  rfl

/-! ## The state of the bus (R326) -/

theorem State.chanActive_eq (s : State) (n : Nat) : (s.chanActive n).chan n =
      { s.chan n with active := true, busOff := false, recessive := false, recover := false } ∧ (s.chanActive n).sw = s.sw := by
  unfold State.chanActive
  exact ⟨(State.chan_event _ _ _ _ _ _ _).trans (State.chan_setChan_same _ _ _), State.sw_event _ _ _ _ _ _⟩

/-- Recovery of a channel that is bus-off, with `c` noted in it. -/
theorem State.tryRecover_eq (s : State) (n : Nat) (c : SlowCh) (hoff : c.busOff = true) :
    (c.recessive = true ∧ (bit c.w0 13 = true → c.recover = true) → ((s.setChan n c).tryRecover n).chan n =
      { c with active := true, busOff := false, recessive := false, recover := false, tec := 0, rec_ := 0 }) ∧
    (¬ (c.recessive = true ∧ (bit c.w0 13 = true → c.recover = true)) → ((s.setChan n c).tryRecover n).chan n = c) := by
  have hcond : (c.busOff = true ∧ c.recessive = true ∧ (¬ bit c.w0 13 = true ∨ c.recover = true)) ↔
      (c.recessive = true ∧ (bit c.w0 13 = true → c.recover = true)) := by
    rw [Decidable.imp_iff_not_or]
    exact ⟨fun h => h.2, fun h => ⟨hoff, h⟩⟩
  unfold State.tryRecover
  dsimp only
  rw [State.chan_setChan_same]
  refine ⟨fun h => ?_, fun h => ?_⟩
  · rw [if_pos (hcond.mpr h), (State.chanActive_eq _ _).1, State.chan_setChan_same]
  · rw [if_neg (fun hc => h (hcond.mp hc)), State.chan_setChan_same]

theorem State.flushPort_none {s : State} (h : s.sw.copies = []) (p : Nat) : s.flushPort p = (s, 0) := by
  unfold State.flushPort
  rw [h]
  rfl

/-- The state in which a channel has gone bus-off with the error counts `a` and `b`. -/
def State.busOffWith (s : State) (n a b : Nat) : State :=
  s.setChan n { s.chan n with active := false, busOff := true, recessive := false, recover := false, tec := 256 + a, rec_ := b }

theorem exec_busOff {s : State} {n : Nat} (hup : s.coreUp = true) (hact : (s.chan n).active = true) (hcan : (s.chan n).mode = 1 ∨ (s.chan n).mode = 2) :
    ∃ (a b : Nat) (u : State), u = (((({ s with free := s.free + 1 + 1 } : State).busOffWith n a b).flushPort (64 + n)).1) ∧
      exec (.canBusOff n) s = finish s ((u.cnt (Reg.slowchBusoffCount n) 1).event 0x0C 0x01 (64 + n) (w32 (256 + a + b * 2 ^ 16)) 0) := by
  refine ⟨(s.freeN 256).1, ((s.freeN 256).2.freeN 256).1, _, rfl, ?_⟩
  show finish s (whileUp s _) = _
  rw [whileUp_up _ hup]
  dsimp only
  rw [if_neg (not_not_intro ⟨hact, hcan⟩)]
  rfl

theorem busoffCount_ne (n : Nat) : Reg.slowchBusoffCount n ≠ Reg.globalEventLostCount := by
  unfold Reg.slowchBusoffCount Reg.globalEventLostCount
  omega

theorem busOff_makes {s : State} {n : Nat} (hup : s.coreUp = true) (hact : (s.chan n).active = true)
    (hcan : (s.chan n).mode = 1 ∨ (s.chan n).mode = 2) : Makes (.canBusOff n) s fun t =>
      (t.chan n).busOff = true ∧ (t.chan n).active = false ∧ 256 ≤ (t.chan n).tec ∧ (t.chan n).w0 = (s.chan n).w0 ∧
      t.sw.copies.all (fun c => c.port != 64 + n) = true ∧ (s.sw.copies = [] →
        t.rd (Reg.slowchBusoffCount n) = w32 (min 0xFFFFFFFF ((s.rd (Reg.slowchBusoffCount n)).toNat + 1))) := by
  obtain ⟨a, b, u, hu, hexec⟩ := exec_busOff hup hact hcan
  obtain ⟨r, e, h, f, hflush⟩ := (({ s with free := s.free + 1 + 1 } : State).busOffWith n a b).flushPort_copies (64 + n)
  rw [hflush] at hu
  have hchan : u.chan n = { s.chan n with active := false, busOff := true, recessive := false, recover := false, tec := 256 + a, rec_ := b } := by
    rw [hu]
    exact State.chan_setChan_same _ _ _
  have hsw : u.sw.copies = s.sw.copies.filter (fun c => !(c.port == 64 + n)) := by rw [hu]; rfl
  have hcount (hnone : s.sw.copies = []) : u.rd (Reg.slowchBusoffCount n) = s.rd (Reg.slowchBusoffCount n) := by
    have hkept := State.flushPort_none (s := ({ s with free := s.free + 1 + 1 } : State).busOffWith n a b) hnone (64 + n)
    rw [hkept] at hflush
    rw [hu, ← hflush]
    exact State.rd_of_vals (s := s) rfl _
  refine .of_finish hexec ?_
  have hchan' := (State.chan_event (u.cnt (Reg.slowchBusoffCount n) 1) 0x0C 0x01 (64 + n) (w32 (256 + a + b * 2 ^ 16)) 0 n).trans hchan
  have hsw' := (congrArg SwitchSt.copies (State.sw_event (u.cnt (Reg.slowchBusoffCount n) 1) 0x0C 0x01 (64 + n) (w32 (256 + a + b * 2 ^ 16)) 0) :).trans hsw
  obtain ⟨_, _, -, hev⟩ := State.event_eq (u.cnt (Reg.slowchBusoffCount n) 1) 0x0C 0x01 (64 + n) (w32 (256 + a + b * 2 ^ 16)) 0
  generalize State.event _ _ _ _ _ _ = t at hchan' hsw' hev
  refine ⟨(congrArg SlowCh.busOff hchan' :), (congrArg SlowCh.active hchan' :), ?_, (congrArg SlowCh.w0 hchan' :), ?_, fun hnone => ?_⟩
  · show 256 ≤ (t.chan n).tec
    rw [hchan']
    exact Nat.le_add_right _ _
  · show t.sw.copies.all _ = true
    rw [hsw', List.all_eq_true]
    exact fun c hc => (List.mem_filter.mp hc).2
  · rw [State.rd_after, hev _ (busoffCount_ne n), State.rd_cnt_one, hcount hnone]

theorem channelActive_makes {s : State} {n : Nat} (hup : s.coreUp = true) (hn : n < 64) (hmode : (s.chan n).mode ≠ 0)
    (hact : (s.chan n).active = false) (hoff : (s.chan n).busOff = false) (hcycle : s.lifeCycle ≠ 5) : Makes (.channelActive n) s fun t =>
      t.chan n = { s.chan n with active := true, recessive := false, recover := false } ∧ t.sw = s.sw := by
  obtain ⟨hchan, hsw⟩ := s.chanActive_eq n
  refine .of_up hup rfl ?_
  dsimp only
  rw [if_neg (by simp [hmode, hact, hoff, hcycle]; omega)]
  refine ⟨hchan.trans ?_, hsw⟩
  generalize s.chan n = c at hoff
  cases c
  simp at hoff
  simp [hoff]

theorem recovery_makes {s : State} {n : Nat} (hup : s.coreUp = true) (hoff : (s.chan n).busOff = true) : Makes (.busOffRecovery n) s fun t =>
    if bit (s.chan n).w0 13 = true ∧ (s.chan n).recover = false then t.chan n = { s.chan n with recessive := true }
    else t.chan n = { s.chan n with active := true, busOff := false, recessive := false, recover := false, tec := 0, rec_ := 0 } := by
  obtain ⟨hyes, hno⟩ := s.tryRecover_eq n { s.chan n with recessive := true } hoff
  refine .of_up hup rfl ?_
  dsimp only
  rw [if_pos hoff]
  split
  · next h => exact hno (fun ⟨_, k⟩ => absurd (k h.1) (by simp [h.2]))
  · next h => exact hyes ⟨rfl, fun hb => by simpa [hb] using h⟩

theorem recover_makes {s : State} {k : Fin 64} {v : Word} (hup : s.coreUp = true) (hv : bit v 0 = true) (hoff : (s.chan k).busOff = true) :
    Makes (.slowchRecover k v) s fun t => if (s.chan k).recessive = true
      then t.chan k = { s.chan k with active := true, busOff := false, recessive := false, recover := false, tec := 0, rec_ := 0 }
      else t.chan k = { s.chan k with recover := true } := by
  obtain ⟨hyes, hno⟩ := s.tryRecover_eq k { s.chan k with recover := true } hoff
  have hrun : s.recoverChan k v = (s.setChan k { s.chan k with recover := true }).tryRecover k := if_pos ⟨hv, hoff⟩
  refine .of_up hup rfl ?_
  dsimp only
  rw [hrun]
  by_cases h : (s.chan k).recessive = true
  · rw [if_pos h]
    exact hyes ⟨h, fun _ => rfl⟩
  · rw [if_neg h]
    exact hno (fun hc => h hc.1)

/-! ## Reception (R328) -/

theorem length_bytesLE (k n : Nat) : (bytesLE k n).length = k := by
  induction k generalizing n with
  | zero => rfl
  | succ k ih => simp [bytesLE, ih]

theorem length_bytesBE (k n : Nat) : (bytesBE k n).length = k := by rw [bytesBE, List.length_reverse, length_bytesLE]

theorem ofBytesBE_append (l : List Byte) (b : Byte) : ofBytesBE (l ++ [b]) = ofBytesBE l * 256 + b.toNat := by
  simp [ofBytesBE]

theorem ofBytesBE_bytesBE (k n : Nat) : ofBytesBE (bytesBE k n) = n % 256 ^ k := by
  induction k generalizing n with
  | zero => simp [bytesBE, bytesLE, ofBytesBE, Nat.mod_one]
  | succ k ih =>
    have hcons : bytesBE (k + 1) n = bytesBE k (n / 256) ++ [BitVec.ofNat 8 n] := by simp [bytesBE, bytesLE]
    rw [hcons, ofBytesBE_append, ih, BitVec.toNat_ofNat, Nat.pow_succ' (m := 256) (n := k), Nat.mod_mul]
    omega

theorem slowImage_id {id : Nat} (h : id < 2 ^ 32) (data : List Byte) (flags : Byte) (af ns : Nat) :
    imageId (slowImage id data flags af ns) = id := by
  have htake : (slowImage id data flags af ns).take 4 = bytesBE 4 id := by
    unfold slowImage
    simp only [List.append_assoc]
    exact List.take_left' (length_bytesBE 4 id)
  rw [imageId, htake, ofBytesBE_bytesBE, Nat.mod_eq_of_lt (Nat.lt_of_lt_of_eq h (by decide : 2 ^ 32 = 256 ^ 4))]

theorem slowImage_data (id : Nat) {data : List Byte} (h : data.length < 65536) (flags : Byte) (af ns : Nat) :
    imageData (slowImage id data flags af ns) = data := by
  have hlen : imageLen (slowImage id data flags af ns) = data.length := by
    have hdrop : ((slowImage id data flags af ns).drop 4).take 2 = bytesBE 2 data.length := by
      unfold slowImage
      simp only [List.append_assoc]
      rw [List.drop_left' (length_bytesBE 4 id), List.take_left' (length_bytesBE 2 _)]
    rw [imageLen, hdrop, ofBytesBE_bytesBE, Nat.mod_eq_of_lt (Nat.lt_of_lt_of_eq h (by decide : 65536 = 256 ^ 2))]
  have hdata : (slowImage id data flags af ns).drop 16 = data := by
    unfold slowImage
    refine List.drop_left' ?_
    simp only [List.length_append, length_bytesBE]
    rfl
  rw [imageData, hlen, hdata, List.take_length]

/-- How long ago the first bit of a frame was received. -/
def SlowCh.back (c : SlowCh) (f : SlowFrame) : Nat :=
  ceilDiv (c.wireNs (slowImage f.chanId.toNat f.data f.flags (if frameKind f.chanId.toNat = 2 then f.af.toNat else 0) 0) * 5) 4

/-- The receive error count after a frame on a CAN channel. -/
def State.recNoted (s : State) (n : Nat) (f : SlowFrame) : State :=
  if frameKind f.chanId.toNat < 3 then s.setChan n { s.chan n with rec_ := recAfter (s.chan n).rec_ f.good } else s

/-- What a channel does with a frame that has passed into it. -/
def State.slowSort (s : State) (n : Nat) (f : SlowFrame) (mode back : Nat) : State :=
  if frameKind f.chanId.toNat = 0 ∧ f.remote ∧ f.good then s.cnt (Reg.slowchRemoteCount n) 1
  else if (frameKind f.chanId.toNat = 3 ∧ f.runt) ∨ (frameKind f.chanId.toNat = 4 ∧ f.data.isEmpty) then s.drop (64 + n) 2
  else if kindMax mode (frameKind f.chanId.toNat) < f.data.length then s.drop (64 + n) 3
  else if ¬ f.good then (s.cnt (Reg.slowchRxErrCount n) 1).drop (64 + n) 1
  else s.slowAdmit n f back 0

theorem State.recNoted_eq (s : State) (n : Nat) (f : SlowFrame) : ∃ c, s.recNoted n f = { s with chans := c } := by
  unfold State.recNoted
  split
  · exact ⟨_, rfl⟩
  · exact ⟨_, rfl⟩

theorem exec_slowFrame {s : State} {n : Nat} {f : SlowFrame} (hup : s.coreUp = true) (hact : (s.chan n).active = true)
    (hfits : kindFits (s.chan n).mode (frameKind f.chanId.toNat) = true) (hheld : s.twin.ingressHeld = false) (hentry : s.pwr.entry = none)
    (hcycle : s.lifeCycle ≠ 5) (hrun : s.pwr.state = .run) : exec (.slowFrameReceived n f) s =
      finish s ((s.recNoted n f).slowSort n f (s.chan n).mode ((s.chan n).back f)) := by
  show finish s (whileUp s _) = _
  rw [whileUp_up _ hup]
  dsimp only
  rw [if_neg (by simp [hact, hfits]), if_neg (by simp [hheld]), if_neg (by simp [hentry]),
    if_neg (not_not_intro (s.ingressOpen_of hheld hentry hcycle)), State.fifoWait_run hrun, State.leaveDozeIn_run hrun]
  rfl

theorem State.slowSort_remote {s : State} {n : Nat} {f : SlowFrame} (hkind : frameKind f.chanId.toNat = 0) (hremote : f.remote = true)
    (hgood : f.good = true) (mode back : Nat) : s.slowSort n f mode back = s.cnt (Reg.slowchRemoteCount n) 1 :=
  if_pos ⟨hkind, hremote, hgood⟩

section
variable {s : State} {n : Nat} {f : SlowFrame} {mode : Nat} (hrunt : frameKind f.chanId.toNat = 3 → f.runt = false)
  (hdata : frameKind f.chanId.toNat = 4 → f.data ≠ []) (hlen : f.data.length ≤ kindMax mode (frameKind f.chanId.toNat))

include hrunt hdata hlen in
theorem State.slowSort_whole (h : ¬ (frameKind f.chanId.toNat = 0 ∧ f.remote = true ∧ f.good = true)) (back : Nat) :
    s.slowSort n f mode back = if ¬ f.good = true then (s.cnt (Reg.slowchRxErrCount n) 1).drop (64 + n) 1 else s.slowAdmit n f back 0 := by
  have hshort : ¬ ((frameKind f.chanId.toNat = 3 ∧ f.runt = true) ∨ (frameKind f.chanId.toNat = 4 ∧ f.data.isEmpty = true)) := by
    rintro (⟨hk, hr⟩ | ⟨hk, he⟩)
    · rw [hrunt hk] at hr
      cases hr
    · exact hdata hk (List.isEmpty_iff.mp he)
  unfold State.slowSort
  rw [if_neg h, if_neg hshort, if_neg (by omega)]

end

theorem State.slowAdmit_plain {s : State} {n : Nat} {f : SlowFrame} (hsec : (s.secCfg (64 + n)).en = false) (back : Nat) :
    s.slowAdmit n f back 0 = s.admitFrame (64 + n) (kindOf (frameKind f.chanId.toNat)) (16 + f.data.length)
      (slowImage f.chanId.toNat f.data f.flags (if frameKind f.chanId.toNat = 2 then f.af.toNat else 0) (s.nsAgo (back + 0))) (s.clk.age - back - 0)
      (s.nsAgo (back + 0)) 0 := by
  have hplain : s.chanRx n f.chanId.toNat f.data = (s, some f.data) := if_pos (.inl (by rw [hsec]; decide))
  unfold State.slowAdmit
  dsimp only
  rw [hplain]

/-- The state with other settings of the slow channels. -/
def State.withChans (s : State) (c : SMap SlowCh) : State := { s with chans := c }

theorem setHolders_withChans (f : Nat → Holder) (l : List Nat) (s : State) (c : SMap SlowCh) :
    l.foldl (fun r h => r.setHolder h (f h)) (s.withChans c) = (l.foldl (fun r h => r.setHolder h (f h)) s).withChans c := by
  induction l generalizing s with
  | nil => rfl
  | cons h l ih => exact ih (s.setHolder h (f h))

theorem State.chargeLimits_withChans (s : State) (c : SMap SlowCh) : (s.withChans c).chargeLimits = s.chargeLimits.withChans c := by
  have hlim : (s.withChans c).sw.limitsWas = s.sw.limitsWas := rfl
  unfold State.chargeLimits
  rw [hlim]
  cases s.sw.limitsWas with
  | none => rfl
  | some x =>
    dsimp only
    by_cases h : x.1 ≠ s.clk.age
    · exact (if_pos h).trans (congrArg (State.withChans · c) (if_pos h)).symm
    · exact ((if_neg h).trans (setHolders_withChans _ _ _ _)).trans (congrArg (State.withChans · c) (if_neg h)).symm

/-- The charge of a frame does not look at the slow channels. -/
theorem State.chargeFrom_withChans (s : State) (c : SMap SlowCh) (h n first : Nat) :
    (s.withChans c).chargeFrom h n first = (s.chargeFrom h n first).map (State.withChans · c) := by
  unfold State.chargeFrom
  dsimp only
  rw [s.chargeLimits_withChans]
  generalize s.chargeLimits = t
  simp only [apply_ite (Option.map (State.withChans · c)), Option.map_none, Option.map_some]
  rfl

theorem kindMax_le (mode kind : Nat) : kindMax mode kind ≤ 2048 := by
  unfold kindMax
  split
  · decide
  · decide
  · decide
  · split
    · exact Nat.le_refl _
    · exact Nat.zero_le _

theorem rxErrCount_ne (n : Nat) (hn : n < 64) : Reg.slowchRxErrCount n ≠ portBase (64 + n) + 0x140 := by
  unfold Reg.slowchRxErrCount portBase
  rw [if_neg (by omega)]
  omega

theorem slowFrame_bad {s : State} {n : Nat} {f : SlowFrame} (hup : s.coreUp = true) (hn : n < 64) (hact : (s.chan n).active = true)
    (hfits : kindFits (s.chan n).mode (frameKind f.chanId.toNat) = true) (hheld : s.twin.ingressHeld = false) (hentry : s.pwr.entry = none)
    (hcycle : s.lifeCycle ≠ 5) (hrun : s.pwr.state = .run) (hrunt : frameKind f.chanId.toNat = 3 → f.runt = false)
    (hdata : frameKind f.chanId.toNat = 4 → f.data ≠ []) (hlen : f.data.length ≤ kindMax (s.chan n).mode (frameKind f.chanId.toNat))
    (hbad : f.good = false) : Makes (.slowFrameReceived n f) s fun t => t.sw = s.sw ∧
      t.rd (Reg.slowchRxErrCount n) = w32 (min 0xFFFFFFFF ((s.rd (Reg.slowchRxErrCount n)).toNat + 1)) ∧
      t.rd (portBase (64 + n) + 0x140) = w32 (min 0xFFFFFFFF ((s.rd (portBase (64 + n) + 0x140)).toNat + 1)) := by
  have hexec := exec_slowFrame hup hact hfits hheld hentry hcycle hrun
  obtain ⟨c, e⟩ := s.recNoted_eq n f
  rw [State.slowSort_whole hrunt hdata hlen (by simp [hbad]), if_pos (by simp [hbad]), e, State.drop] at hexec
  have hne := rxErrCount_ne n hn
  refine .of_finish hexec ⟨rfl, ?_, ?_⟩
  · rw [State.rd_after, State.rd_cnt_ne _ _ hne, State.rd_cnt_one]
    exact congrArg (fun v : Word => w32 (min 0xFFFFFFFF (v.toNat + 1))) (State.rd_of_vals (s := s) rfl _)
  · rw [State.rd_after]
    refine (State.rd_cnt_one _ _).trans ?_
    rw [State.rd_cnt_ne _ _ hne.symm]
    exact congrArg (fun v : Word => w32 (min 0xFFFFFFFF (v.toNat + 1))) (State.rd_of_vals (s := s) rfl _)

theorem slowFrame_good {s : State} {n : Nat} {f : SlowFrame} (hup : s.coreUp = true) (hact : (s.chan n).active = true)
    (hfits : kindFits (s.chan n).mode (frameKind f.chanId.toNat) = true) (hheld : s.twin.ingressHeld = false) (hentry : s.pwr.entry = none)
    (hcycle : s.lifeCycle ≠ 5) (hrun : s.pwr.state = .run) (hrunt : frameKind f.chanId.toNat = 3 → f.runt = false)
    (hdata : frameKind f.chanId.toNat = 4 → f.data ≠ []) (hlen : f.data.length ≤ kindMax (s.chan n).mode (frameKind f.chanId.toNat))
    (hremote : frameKind f.chanId.toNat = 0 → f.remote = false) (hgood : f.good = true) (hsec : (s.secCfg (64 + n)).en = false)
    (hroom : (s.chargeFrom (ingHolder (64 + n)) (cellsOf (16 + f.data.length)) (s.clk.age - (s.chan n).back f)).isSome = true) :
    Makes (.slowFrameReceived n f) s fun t => t.sw.frames.length = s.sw.frames.length + 1 ∧ ∃ g ∈ t.sw.frames, g.num = s.freshFrame ∧
      g.ingress = 64 + n ∧ g.kind = kindOf (frameKind f.chanId.toNat) ∧ g.length = 16 + f.data.length ∧ g.epoch = s.glue.c ∧ g.stage = .wave1 ∧
      imageId g.bytes = f.chanId.toNat ∧ imageData g.bytes = f.data ∧ g.deadline = s.clk.age + s.budget := by
  have hexec := exec_slowFrame hup hact hfits hheld hentry hcycle hrun
  obtain ⟨c, e⟩ := s.recNoted_eq n f
  have hsec' : ((s.recNoted n f).secCfg (64 + n)).en = false := by rw [e]; exact hsec
  have hnot : ¬ (frameKind f.chanId.toNat = 0 ∧ f.remote = true ∧ f.good = true) := by
    rintro ⟨hk, hr, -⟩
    rw [hremote hk] at hr
    cases hr
  rw [State.slowSort_whole hrunt hdata hlen hnot, if_neg (not_not_intro hgood), State.slowAdmit_plain hsec'] at hexec
  have hroom' : ((s.recNoted n f).chargeFrom (ingHolder (64 + n)) (cellsOf (16 + f.data.length)) ((s.recNoted n f).clk.age - (s.chan n).back f - 0)).isSome = true := by
    have hc : s.recNoted n f = s.withChans c := e
    rw [hc, State.chargeFrom_withChans, Option.isSome_map]
    exact hroom
  obtain ⟨v, hv⟩ := Option.isSome_iff_exists.mp hroom'
  obtain ⟨g, hg, h1, h2, h3, h4, h5, h6, h7, h8, -, h10, -⟩ := State.admitFrame_enters (kind := kindOf (frameKind f.chanId.toNat))
    (bytes := slowImage f.chanId.toNat f.data f.flags (if frameKind f.chanId.toNat = 2 then f.af.toNat else 0) ((s.recNoted n f).nsAgo ((s.chan n).back f + 0)))
    (rxNs := (s.recNoted n f).nsAgo ((s.chan n).back f + 0)) (late := 0) hv
  have hsame : (s.recNoted n f).freshFrame = s.freshFrame ∧ (s.recNoted n f).glue = s.glue ∧ (s.recNoted n f).clk.age + (s.recNoted n f).budget = s.clk.age + s.budget ∧
      (s.recNoted n f).sw = s.sw := by
    rw [e]
    exact ⟨rfl, rfl, rfl, rfl⟩
  obtain ⟨k1, k2, k3, k4⟩ := hsame
  refine .of_finish hexec ⟨h10.trans (by rw [k4]), g, hg, h1.trans k1, h2, h3, h4, h6.trans (by rw [k2]), h7, ?_, ?_, h8.trans k3⟩
  · rw [h5]
    exact slowImage_id f.chanId.isLt _ _ _ _
  · rw [h5]
    exact slowImage_data _ (by have := kindMax_le (s.chan n).mode (frameKind f.chanId.toNat); omega) _ _ _

/-- The clause of CHANNEL_CONFIG. -/
theorem channelConfig_takes {q : Request} {s : State} (ht : Taken Op.channelConfig q s) (hgood : q.channelGood) (hroles : s.roleWave q.roleSet = false)
    (hdesig : s.designated (q.f 0 0 6) = true → q.f 0 8 3 = 1 ∨ q.f 0 8 3 = 2) :
    (q.f 0 8 3 = (s.chan (q.f 0 0 6)).mode → (q.w 1).toNat = (s.chan (q.f 0 0 6)).nomRate → (q.w 2).toNat = (s.chan (q.f 0 0 6)).dataRate →
      bit (q.w 0) 12 = bit (s.chan (q.f 0 0 6)).w0 12 →
      exec (.channelConfig q) s = .next (s.after ((s.setChan (q.f 0 0 6) (q.channel (s.chan (q.f 0 0 6)))).reply Op.channelConfig q 0 []))) ∧
    (q.f 0 8 3 ≠ (s.chan (q.f 0 0 6)).mode → s.mapper.pdus = [] →
      ∃ u : State, exec (.channelConfig q) s = .next (s.after (u.reply Op.channelConfig q 0 [])) ∧
        u.chan (q.f 0 0 6) = { q.channel (s.chan (q.f 0 0 6)) with
          active := false, busOff := false, recessive := false, recover := false, tec := 0, rec_ := 0 } ∧
        u.sw.copies.all (fun c => c.port != 64 + q.f 0 0 6) = true) := by
  refine ⟨fun hmode hnom hdata hbrs => ?_, fun hmode hpdus => ?_⟩
  · have hsame : ¬ q.channelFresh (s.chan (q.f 0 0 6)) := by
      rintro (h | h | h | h)
      · exact h hmode
      · exact h hnom
      · exact h hdata
      · exact h hbrs
    exact finish_final ht ((State.channelConfig_good hgood hroles hdesig (.inl hmode)).1 hsame)
  · obtain ⟨hchan, hcopies⟩ := (s.setChan (q.f 0 0 6) (q.channel (s.chan (q.f 0 0 6)))).restartChan_eq (q.f 0 0 6)
    rw [State.chan_setChan_same] at hchan
    exact ⟨_, finish_final ht ((State.channelConfig_good hgood hroles hdesig (.inr hpdus)).2 (.inl hmode)), hchan, hcopies⟩

/-- Settles O38: the commands by their settings, the events by the state of their channel, and a frame by its kind. -/
theorem slowChannelsComplete : Obligations.SlowChannelsComplete := by
  unfold Obligations.SlowChannelsComplete
  refine ⟨fun q s ht h1 h2 h3 h4 h5 h6 h7 h8 hroles hdesig => channelConfig_takes ht ⟨h1, h2, h3, h4, h5, h6, h7, h8⟩ hroles hdesig,
    fun q s ht hstray hds honce hidx hpats => ?_, fun n s hup hn => ⟨?_, ?_, ?_, ?_, ?_⟩⟩
  · refine ⟨_, finish_final ht (State.wakePatternWrite_good hstray hds honce hidx hpats), rfl, fun p hp => ?_⟩
    rw [hp]
    exact ⟨smGet_smSet_same _ _ _ _, fun i hi => smGet_smSet_ne _ _ _ _ hi⟩
  · exact fun hmode hact hoff hcycle => channelActive_makes hup hn hmode hact hoff hcycle
  · exact fun hact hcan => busOff_makes hup hact hcan
  · exact fun hoff => recovery_makes hup hoff
  · rintro k v rfl hv hoff
    exact recover_makes hup hv hoff
  · intro f hact hfits hheld hentry hcycle hrun
    refine ⟨fun hkind hremote hgood => ?_, fun hrunt hdata hlen => ⟨fun hbad => ?_, fun hremote hgood hsec hroom => ?_⟩⟩
    · obtain ⟨c, e⟩ := s.recNoted_eq n f
      have hexec := exec_slowFrame hup hact hfits hheld hentry hcycle hrun
      rw [State.slowSort_remote hkind hremote hgood, e] at hexec
      refine .of_finish hexec ⟨rfl, (State.rd_cnt_one _ _).trans ?_⟩
      exact congrArg (fun v : Word => w32 (min 0xFFFFFFFF (v.toNat + 1))) (State.rd_of_vals (s := s) rfl _)
    · exact slowFrame_bad hup hn hact hfits hheld hentry hcycle hrun hrunt hdata hlen hbad
    · exact slowFrame_good hup hact hfits hheld hentry hcycle hrun hrunt hdata hlen hremote hgood hsec hroom

end Sys2Proof.Machine


/-! Coherence: messages of the network in their turn, and what a home sends (R230 to R236). -/

namespace Sys2Proof.Machine

/-! ## Messages in their turn (R231, R232) -/

theorem CohMsg.cls_le (m : CohMsg) : m.cls ≤ 3 := by cases m <;> simp [CohMsg.cls]

/-- A message's place in the input order is its cycle first. -/
theorem State.inputRank_bounds (s : State) (n : NetMsg) : n.due * 64 ≤ s.inputRank n ∧ s.inputRank n < (n.due + 1) * 64 := by
  have hcls := n.msg.cls_le
  unfold State.inputRank
  dsimp only
  split
  · omega
  · omega

theorem State.turn_mem {s : State} {m : CohMsg} {n : NetMsg} (h : s.turn m = some n) : n ∈ s.coh.net := by
  unfold State.turn at h
  obtain ⟨x, -, hx⟩ := Option.bind_eq_some_iff.mp h
  have hn := List.mem_of_mem_head? hx
  rw [mem_sortBy] at hn
  exact (List.mem_filter.mp hn).1

/-- A message that reaches a home for which nothing else is due is taken at once. -/
theorem State.turn_new {s t : State} {x : NetMsg} (hhome : 16 ≤ x.msg.dest) (hlate : ∀ n ∈ s.coh.net, n.msg.dest = x.msg.dest → x.due < n.due)
    (hnet : t.coh.net = s.coh.net ++ [x]) : t.turn x.msg = some x := by
  have hx : x ∈ t.coh.net := by rw [hnet]; simp
  have hcases {n : NetMsg} (hn : n ∈ t.coh.net) (hd : n.msg.dest = x.msg.dest) : n = x ∨ x.due < n.due := by
    rw [hnet] at hn
    rcases List.mem_append.mp hn with hn | hn
    · exact .inr (hlate n hn hd)
    · exact .inl (List.mem_singleton.mp hn)
  obtain ⟨n, hn⟩ : ∃ n, t.coh.net.find? (fun n => n.msg == x.msg) = some n := by
    rw [← Option.isSome_iff_exists, List.find?_isSome]
    exact ⟨x, hx, beq_self_eq_true _⟩
  have hnmsg : n.msg = x.msg := by
    have h := List.find?_some hn
    exact beq_iff_eq.mp h
  have hdue : x.due ≤ n.due := by
    rcases hcases (List.mem_of_find?_eq_some hn) (by rw [hnmsg]) with rfl | h
    · exact Nat.le_refl _
    · exact Nat.le_of_lt h
  unfold State.turn
  rw [hn, Option.bind_some]
  generalize hl : t.coh.net.filter (fun y => y.msg.dest == x.msg.dest && decide (y.due ≤ n.due) &&
    (decide (16 ≤ x.msg.dest) || (y.src == n.src && y.msg.cls == x.msg.cls))) = l
  have hxl : x ∈ sortBy t.inputRank l := by
    rw [mem_sortBy, ← hl, List.mem_filter]
    exact ⟨hx, by simp [hdue, hhome]⟩
  have hsorted := sortBy_sorted t.inputRank l
  cases hs : sortBy t.inputRank l with
  | nil => rw [hs] at hxl; cases hxl
  | cons y ys =>
    rw [hs] at hxl hsorted
    have hy : y ∈ l := (mem_sortBy t.inputRank l y).mp (by rw [hs]; exact List.mem_cons_self)
    rw [← hl, List.mem_filter] at hy
    obtain ⟨hynet, hycond⟩ := hy
    have hydest : y.msg.dest = x.msg.dest := by
      simp only [Bool.and_eq_true, beq_iff_eq] at hycond
      exact hycond.1.1
    have hrank : t.inputRank y ≤ t.inputRank x := by
      rcases List.mem_cons.mp hxl with rfl | hxy
      · exact Nat.le_refl _
      · exact (List.pairwise_cons.mp hsorted).1 x hxy
    rcases hcases hynet hydest with rfl | hlt
    · rfl
    · have hy := (t.inputRank_bounds y).1
      have hx := (t.inputRank_bounds x).2
      omega

theorem State.receiveMsg_turn {s : State} {n : NetMsg} (h : s.turn n.msg = some n) : s.receiveMsg n.msg = s.takeMsg n := by
  unfold State.receiveMsg
  rw [State.takeUntil, h]
  exact if_pos rfl

/-- A message comes off the network in its cycle. -/
def State.arrived (s : State) (n : NetMsg) : State := ((s.until n.due).noteTie n).offNet n

theorem State.noteTie_eq (s : State) (n : NetMsg) : ∃ ties, s.noteTie n = s.setCoh { s.coh with ties := ties } := by
  unfold State.noteTie
  dsimp only
  split
  · exact ⟨s.coh.ties, rfl⟩
  · exact ⟨_, rfl⟩

/-- What the arrival of a message changes: the clocks, the network and the ties. -/
theorem State.arrived_eq (s : State) (n : NetMsg) : ∃ ties, (s.arrived n).coh = { s.coh with net := s.coh.net.erase n, ties := ties } ∧
    (s.arrived n).clk = (s.until n.due).clk ∧ ∀ a, ¬ clockCounts a → (s.arrived n).rd a = s.rd a := by
  obtain ⟨v, r, c, e, hrd⟩ := s.advance_eq (n.due - s.clk.age)
  have hcoh : (s.until n.due).coh = s.coh := by rw [State.until, e]
  obtain ⟨ties, ht⟩ := (s.until n.due).noteTie_eq n
  have harr : s.arrived n = (s.until n.due).setCoh { s.coh with net := s.coh.net.erase n, ties := ties } := by
    unfold State.arrived
    rw [ht, hcoh]
    rfl
  refine ⟨ties, by rw [harr]; rfl, by rw [harr]; rfl, fun a ha => ?_⟩
  rw [harr]
  exact (State.rd_of_vals (s := s.until n.due) rfl a).trans (hrd a ha)

theorem State.takeMsg_request {s : State} {n : NetMsg} {a l : Nat} {kind : CohReqKind} (h : n.msg = .request a l kind) :
    s.takeMsg n = (s.arrived n).tookRequest a l kind := by
  unfold State.takeMsg State.arrived
  rw [h]

/-! ## What a home sends (R233, R239) -/

theorem State.homeSend_eq {s : State} {m : CohMsg} (h : s.agentFailed m.dest = false) (d : Nat) :
    s.homeSend d m = s.setCoh { s.coh with net := s.coh.net ++ [⟨16 + homeOf m.line, s.clk.age + d + 6, m⟩] } :=
  if_neg (by rw [h]; decide)

theorem State.homeSendAll_eq {s : State} {ms : List CohMsg} (h : ∀ m ∈ ms, s.agentFailed m.dest = false) :
    s.homeSendAll ms = s.setCoh { s.coh with net := s.coh.net ++ ms.map (fun m => ⟨16 + homeOf m.line, s.clk.age + 1 + 6, m⟩) } := by
  induction ms generalizing s with
  | nil =>
    rw [List.map_nil, List.append_nil]
    rfl
  | cons m ms ih =>
    have hm := State.homeSend_eq (h m List.mem_cons_self) 1
    have hms : ∀ x ∈ ms, (s.homeSend 1 m).agentFailed x.dest = false := by
      rw [hm]
      exact fun x hx => h x (List.mem_cons_of_mem _ hx)
    refine (ih hms).trans ?_
    rw [hm, List.map_cons, List.append_cons s.coh.net ⟨16 + homeOf m.line, s.clk.age + 1 + 6, m⟩ (ms.map _)]
    rfl

/-- What a home sends last in a transaction. -/
theorem State.closeWith_eq {s : State} {m : CohMsg} (h : s.agentFailed m.dest = false) (d : Nat) : ∃ cl,
    s.closeWith d m = s.setCoh { s.coh with net := s.coh.net ++ [⟨16 + homeOf m.line, s.clk.age + d + 6, m⟩], closing := cl } := by
  unfold State.closeWith
  rw [State.homeSend_eq h]
  exact ⟨_, rfl⟩

theorem State.supply_eq {s : State} {r : CohReq} (h : s.agentFailed r.agent = false) (st : Option Moesi) : ∃ cl, s.supply r st =
    s.setCoh { s.coh with closing := cl, net := s.coh.net ++ [⟨16 + homeOf r.line, s.clk.age + 11, .data r.agent r.line st (s.poisoned r.line) (s.memLine r.line)⟩] } :=
  State.closeWith_eq h 5

theorem State.giveGrant_eq {s : State} {r : CohReq} (h : s.agentFailed r.agent = false) : ∃ cl, s.giveGrant r =
    s.setCoh { s.coh with closing := cl, net := s.coh.net ++ [⟨16 + homeOf r.line, s.clk.age + 7, .grant r.agent r.line (s.poisoned r.line)⟩] } :=
  State.closeWith_eq h 1

theorem State.setBusy_eq (s : State) (l : Nat) (b : Bool) : ∃ d, s.setBusy l b = s.setCoh { s.coh with dir := d } := by
  unfold State.setBusy
  cases s.dirOf l with
  | none => exact ⟨s.coh.dir, rfl⟩
  | some x => exact ⟨_, rfl⟩

theorem State.awaitFor_eq (s : State) (r : CohReq) (acks : List Nat) (fwd : Option Nat) (grant : Bool) : ∃ d, s.awaitFor r acks fwd grant =
    s.setCoh { s.coh with dir := d, trans := s.coh.trans ++ [⟨r.line, some r, acks, fwd, none, grant, false, none, s.clk.age⟩] } := by
  obtain ⟨d, h⟩ := (s.setCoh { s.coh with trans := s.coh.trans ++ [⟨r.line, some r, acks, fwd, none, grant, false, none, s.clk.age⟩] }).setBusy_eq r.line true
  exact ⟨d, h⟩

/-! ## A request at its home (R232 to R236) -/

/-- The home of line `l` is free for a request of agent `a`. -/
def State.homeFree (s : State) (a l : Nat) : Prop :=
  s.coh.lastWb ≠ some (l, s.clk.age) ∧ s.agentFailed a = false ∧ s.lineBusy l = false ∧ s.coh.seniors = []

/-- A request ends the reservations of its agent for the line. -/
def State.unreserve (s : State) (r : CohReq) : State :=
  s.setCoh { s.coh with seniors := s.coh.seniors.filter (fun x => !(x.line == r.line && x.agent == r.agent)) }

theorem State.handleReq_free {s : State} {r : CohReq} (h : s.homeFree r.agent r.line) (hctr : s.ctrLine r.line = false ∨ r.kind = .readNa)
    (hmine : ∀ x, s.dirOf r.line = some x → x.2.owned = true → x.2.owner.toNat ≠ r.agent) (hpin : ∀ x, s.dirOf r.line = some x → x.2.pin = 0) :
    s.handleReq r = match s.dirOf r.line with
      | some (k, x) => (s.unreserve r).serveEntry r k x
      | none => if r.kind = .readNa then (s.unreserve r).supply r none else (s.unreserve r).needWay r := by
  obtain ⟨hwb, hfail, hbusy, hsen⟩ := h
  have hctr' : ¬ (s.ctrLine r.line = true ∧ r.kind ≠ .readNa) := by
    rintro ⟨h1, h2⟩
    rcases hctr with h | h
    · rw [h] at h1
      cases h1
    · exact h2 h
  have hsenior : ¬ (s.seniorOf r.line).any (fun x => x.agent != r.agent) = true := by
    rw [State.seniorOf, hsen]
    simp
  have hm : (s.dirOf r.line).any (fun x => x.2.owned && x.2.owner.toNat == r.agent && !(r.kind == .upgrade && x.2.dstate == .owned)) = false := by
    cases hd : s.dirOf r.line with
    | none => rfl
    | some x =>
      cases ho : x.2.owned with
      | false => simp [ho]
      | true => simp [ho, hmine x hd ho]
  have hp : (s.dirOf r.line).any (fun x => x.2.pin != 0 && x.2.pin.toNat != r.glue) = false := by
    cases hd : s.dirOf r.line with
    | none => rfl
    | some x => simp [hpin x hd]
  unfold State.handleReq
  dsimp only
  rw [if_neg hwb, if_neg (by rw [hfail]; decide), if_neg hctr', if_neg (by rw [hbusy]; decide), if_neg hsenior, if_neg (by rw [hm]; simp),
    if_neg (by rw [hp]; simp)]
  rfl

/-- A request for a line of which the home keeps nothing, where a way is free, is served from memory. -/
theorem State.allocate_eq {s : State} {r : CohReq} (h : s.agentFailed r.agent = false) (k : Nat) : ∃ cl d o, s.allocate r k =
    s.setCoh { s.coh with closing := cl, dir := d, order := o, net := s.coh.net ++ [⟨16 + homeOf r.line, s.clk.age + 11, .data r.agent r.line (r.granted false) (s.poisoned r.line) (s.memLine r.line)⟩] } := by
  unfold State.allocate
  dsimp only
  split
  · obtain ⟨cl, e⟩ := State.supply_eq (s := s.putDir k r.line .shared 0 (sharer r.agent) 0) (r := r) h (r.granted false)
    exact ⟨cl, _, _, e⟩
  · obtain ⟨cl, e⟩ := State.supply_eq (s := s.putDir k r.line .excl r.agent 0 r.glue) (r := r) h (r.granted false)
    exact ⟨cl, _, _, e⟩

theorem State.needWay_free {s : State} {r : CohReq} (h : (s.freeWay r.line).isSome = true) : ∃ k, s.needWay r = s.allocate r k := by
  obtain ⟨k, hk⟩ := Option.isSome_iff_exists.mp h
  refine ⟨k, ?_⟩
  unfold State.needWay
  rw [hk]

/-- The request of an agent at its home, as it comes anew. -/
def newReq (a l glue : Nat) (kind : CohReqKind) : CohReq := ⟨a, l, kind, glue % 256, 0, none⟩

/-- The home's state as it takes a new request: the request stands open, and the clock has not moved. -/
def State.Meets (s u : State) (r : CohReq) : Prop :=
  (∃ ties gated, u.coh = { s.coh with ties := ties, gated := gated, reqs := [r] }) ∧ u.clk.age = s.clk.age ∧
    (∀ a, ¬ clockCounts a → a ≠ Reg.cohereNaReadCount → u.rd a = s.rd a) ∧
    (r.kind = .readNa → u.rd Reg.cohereNaReadCount = w32 (min 0xFFFFFFFF ((s.rd Reg.cohereNaReadCount).toNat + 1)))

theorem State.arrive_new {s : State} {a l : Nat} (hreqs : s.coh.reqs = []) (hage : s.clk.age < 2 ^ 63)
    (hlate : ∀ n ∈ s.coh.net, n.msg.dest = 16 + homeOf l → s.clk.age < n.due) (glue : Nat) (kind : CohReqKind) :
    ∃ u, s.Meets u (newReq a l glue kind) ∧ s.arrive a l glue kind = u.handleReq (newReq a l glue kind) := by
  have hnone : s.reqOf a l = none := by rw [State.reqOf, hreqs]; rfl
  generalize hg : (if a < 8 then s.coh.gated else s.coh.gated &&& ~~~(BitVec.ofNat 16 (2 ^ a))) = g
  generalize hx : (⟨a, s.clk.age, .request a l kind⟩ : NetMsg) = x
  have hxmsg : x.msg = .request a l kind := by rw [← hx]
  have hxdue : x.due = s.clk.age := by rw [← hx]
  generalize hv : s.setCoh { s.coh with reqs := [newReq a l glue kind], gated := g, net := s.coh.net ++ [x] } = v
  have hvcoh : v.coh = { s.coh with reqs := [newReq a l glue kind], gated := g, net := s.coh.net ++ [x] } := by rw [← hv]; rfl
  have hvage : v.clk = s.clk := by rw [← hv]; rfl
  have harrive : s.arrive a l glue kind = v.receiveMsg x.msg := by
    unfold State.arrive
    rw [hnone, hxmsg, ← hv, ← hx, ← hg]
    dsimp only
    rw [hreqs]
    rfl
  have hdest : x.msg.dest = 16 + homeOf l := by rw [hxmsg]; rfl
  have hturn : v.turn x.msg = some x := State.turn_new (s := s) (by rw [hdest]; omega) (by rw [hdest, hxdue]; exact hlate) (by rw [hvcoh])
  have hnew : x ∉ s.coh.net := by
    intro hmem
    have := hlate x hmem hdest
    omega
  obtain ⟨ties, hcoh, hclk, hrd⟩ := v.arrived_eq x
  have herase : (s.coh.net ++ [x]).erase x = s.coh.net := by rw [List.erase_append_right _ hnew, List.erase_cons_head, List.append_nil]
  have hreq : (v.arrived x).reqOf a l = some (newReq a l glue kind) := by
    rw [State.reqOf, hcoh, hvcoh]
    exact List.find?_cons_of_pos (by simp [newReq])
  have hrdv (b : Nat) (hb : ¬ clockCounts b) : (v.arrived x).rd b = s.rd b := by
    rw [hrd b hb, ← hv]
    exact State.rd_of_vals (s := s) rfl b
  have hage' : (v.arrived x).clk.age = s.clk.age := by
    rw [hclk, State.until_past (by rw [hvage]; omega) (by rw [hvage]; omega), hvage]
  have hcoh' : (v.arrived x).coh = { s.coh with ties := ties, gated := g, reqs := [newReq a l glue kind] } := by rw [hcoh, hvcoh, herase]
  refine ⟨if kind = .readNa then (v.arrived x).cnt Reg.cohereNaReadCount 1 else v.arrived x, ?_, ?_⟩
  · by_cases hk : kind = .readNa
    · rw [if_pos hk]
      refine ⟨⟨ties, g, hcoh'⟩, hage', fun b hb hne => ?_, fun _ => ?_⟩
      · exact (State.rd_cnt_ne _ _ hne).trans (hrdv b hb)
      · rw [State.rd_cnt_one, hrdv _ (by unfold clockCounts; decide)]
    · rw [if_neg hk]
      exact ⟨⟨ties, g, hcoh'⟩, hage', fun b hb _ => hrdv b hb, fun h => absurd h hk⟩
  · rw [harrive, State.receiveMsg_turn hturn, State.takeMsg_request hxmsg]
    have hkeep : (if kind = .readNa then (v.arrived x).cnt Reg.cohereNaReadCount 1 else v.arrived x).reqOf a l = some (newReq a l glue kind) := by
      split
      · exact hreq
      · exact hreq
    unfold State.tookRequest
    dsimp only
    rw [hkeep]
    exact if_pos rfl

section
variable {s u : State} {r : CohReq} (h : s.Meets u r)

include h in
theorem State.Meets.homeFree {a l : Nat} (hs : s.homeFree a l) : u.homeFree a l := by
  obtain ⟨⟨ties, g, hcoh⟩, hage, -⟩ := h
  simpa only [State.homeFree, State.agentFailed, State.lineBusy, State.transOf, hcoh, hage] using hs

include h in
theorem State.Meets.dirOf (l : Nat) : u.dirOf l = s.dirOf l := by
  obtain ⟨⟨ties, g, hcoh⟩, -⟩ := h
  simp only [State.dirOf, State.waysOf, hcoh]

include h in
theorem State.Meets.ctrLine (l : Nat) : u.ctrLine l = s.ctrLine l := by
  obtain ⟨⟨ties, g, hcoh⟩, -⟩ := h
  simp only [State.ctrLine, hcoh]

include h in
theorem State.Meets.freeWay (l : Nat) : u.freeWay l = s.freeWay l := by
  obtain ⟨⟨ties, g, hcoh⟩, -⟩ := h
  simp only [State.freeWay, hcoh]

include h in
theorem State.Meets.poisoned (l : Nat) : u.poisoned l = s.poisoned l := by
  obtain ⟨⟨ties, g, hcoh⟩, -⟩ := h
  simp only [State.poisoned, hcoh]

include h in
theorem State.Meets.memLine (l : Nat) : u.memLine l = s.memLine l := by
  obtain ⟨⟨ties, g, hcoh⟩, -⟩ := h
  simp only [State.memLine, hcoh]

include h in
theorem State.Meets.agentFailed (a : Nat) : u.agentFailed a = s.agentFailed a := by
  obtain ⟨⟨ties, g, hcoh⟩, -⟩ := h
  simp only [State.agentFailed, hcoh]

include h in
theorem State.Meets.keeps : u.coh.net = s.coh.net ∧ u.coh.mem = s.coh.mem ∧ u.coh.trans = s.coh.trans ∧ u.coh.dir = s.coh.dir ∧ u.coh.reqs = [r] := by
  obtain ⟨⟨ties, g, hcoh⟩, -⟩ := h
  rw [hcoh]
  exact ⟨rfl, rfl, rfl, rfl, rfl⟩

end

/-! ## Requests that are served at once -/

/-- A request for a line of which the home keeps nothing: the data comes from memory. -/
theorem State.handleReq_memory {s u : State} {r : CohReq} (h : s.Meets u r) (hfree : s.homeFree r.agent r.line) (hctr : s.ctrLine r.line = false)
    (hdir : s.dirOf r.line = none) (hway : (s.freeWay r.line).isSome = true) :
    (u.handleReq r).coh.net = s.coh.net ++ [⟨16 + homeOf r.line, s.clk.age + 11, .data r.agent r.line (r.granted false) (s.poisoned r.line) (s.memLine r.line)⟩] ∧
      (u.handleReq r).coh.mem = s.coh.mem ∧ (u.handleReq r).coh.trans = s.coh.trans ∧ (u.handleReq r).coh.reqs = [r] ∧
      (r.kind = .readNa → (u.handleReq r).coh.dir = s.coh.dir ∧ (u.handleReq r).reg = u.reg) := by
  have hdir' : u.dirOf r.line = none := (h.dirOf _).trans hdir
  have hserve := State.handleReq_free (h.homeFree hfree) (.inl ((h.ctrLine _).trans hctr)) (fun x hx => by rw [hdir'] at hx; cases hx)
    (fun x hx => by rw [hdir'] at hx; cases hx)
  have hok : (u.unreserve r).agentFailed r.agent = false := (h.agentFailed _).trans hfree.2.1
  have hp : (u.unreserve r).poisoned r.line = s.poisoned r.line := h.poisoned _
  have hm : (u.unreserve r).memLine r.line = s.memLine r.line := h.memLine _
  have hpm := h.poisoned r.line
  rw [hdir'] at hserve
  dsimp only at hserve
  by_cases hk : r.kind = .readNa
  · rw [if_pos hk] at hserve
    have hgr : r.granted false = none := by rw [CohReq.granted, hk]
    obtain ⟨cl, e⟩ := State.supply_eq hok none
    obtain ⟨hnet, hmem, htrans, hd, hreqs⟩ := h.keeps
    have hage' : (u.unreserve r).clk.age = s.clk.age := h.2.1
    have hnet' : (u.unreserve r).coh.net = s.coh.net := hnet
    rw [hserve, e, hp, hm, hage', hnet', hgr]
    exact ⟨rfl, hmem, htrans, hreqs, fun _ => ⟨hd, rfl⟩⟩
  · rw [if_neg hk] at hserve
    obtain ⟨k, hneed⟩ := State.needWay_free (s := u.unreserve r) (r := r) (by rw [← hway, ← h.freeWay]; rfl)
    obtain ⟨cl, d, o, e⟩ := State.allocate_eq hok k
    obtain ⟨hnet, hmem, htrans, hd, hreqs⟩ := h.keeps
    have hage' : (u.unreserve r).clk.age = s.clk.age := h.2.1
    have hnet' : (u.unreserve r).coh.net = s.coh.net := hnet
    rw [hserve, hneed, e, hp, hm, hage', hnet']
    exact ⟨rfl, hmem, htrans, hreqs, fun hk' => absurd hk' hk⟩

/-! ## Requests that wait for other agents, and those that are refused -/

/-- The forward of a request to the line's owner. -/
def CohReq.fwd (r : CohReq) (own : Nat) : CohMsg :=
  match r.kind with
  | .getS => .fwdS own r.line r.agent
  | .readNa => .fwdNa own r.line r.agent
  | _ => .fwdM own r.line r.agent

theorem CohReq.fwd_dest (r : CohReq) (own : Nat) : (r.fwd own).dest = own ∧ (r.fwd own).line = r.line := by
  unfold CohReq.fwd
  split <;> exact ⟨rfl, rfl⟩

theorem State.serveEntry_owned {s : State} {r : CohReq} {k : Nat} {e : DirEntry} (howned : e.owned = true)
    (hkind : r.kind = .getS ∨ r.kind = .readNa ∨ (r.kind = .getM ∧ e.sharers = 0)) :
    s.serveEntry r k e = (s.homeSend 1 (r.fwd e.owner.toNat)).awaitFor r [] (some e.owner.toNat) false := by
  rcases hkind with h | h | ⟨h, hs⟩
  · simp only [State.serveEntry, CohReq.fwd, h, howned, if_true]
  · simp only [State.serveEntry, CohReq.fwd, h, howned, if_true]
  · have hnone : (sharersOf e.sharers).filter (· != r.agent) = [] := by rw [hs]; rfl
    have hgrant : (CohReqKind.getM == CohReqKind.upgrade) = false := by decide
    simp only [State.serveEntry, CohReq.fwd, h, howned, hnone, hgrant, Bool.false_and, Bool.false_eq_true, false_and, if_false, if_true, List.map_nil]
    rfl

/-- A request for a line that another agent owns goes on to the owner, and the home waits for it. -/
theorem State.handleReq_forward {s u : State} {r : CohReq} {k : Nat} {e : DirEntry} (h : s.Meets u r) (hfree : s.homeFree r.agent r.line)
    (hctr : s.ctrLine r.line = false) (hdir : s.dirOf r.line = some (k, e)) (howned : e.owned = true) (hother : e.owner.toNat ≠ r.agent)
    (hown : s.agentFailed e.owner.toNat = false) (hpin : e.pin = 0)
    (hkind : r.kind = .getS ∨ r.kind = .readNa ∨ (r.kind = .getM ∧ e.sharers = 0)) :
    (u.handleReq r).coh.net = s.coh.net ++ [⟨16 + homeOf r.line, s.clk.age + 7, r.fwd e.owner.toNat⟩] ∧
      (u.handleReq r).coh.trans = s.coh.trans ++ [⟨r.line, some r, [], some e.owner.toNat, none, false, false, none, s.clk.age⟩] := by
  have hdir' : u.dirOf r.line = some (k, e) := (h.dirOf _).trans hdir
  have hserve := State.handleReq_free (h.homeFree hfree) (.inl ((h.ctrLine _).trans hctr))
    (fun x hx => by rw [hdir'] at hx; cases hx; exact fun _ => hother) (fun x hx => by rw [hdir'] at hx; cases hx; exact hpin)
  obtain ⟨hdest, hline⟩ := r.fwd_dest e.owner.toNat
  have hok : (u.unreserve r).agentFailed (r.fwd e.owner.toNat).dest = false := by
    rw [hdest]
    exact (h.agentFailed _).trans hown
  obtain ⟨hnet, hmem, htrans, hd, hreqs⟩ := h.keeps
  have hage : (u.unreserve r).clk.age = s.clk.age := h.2.1
  have hnet' : (u.unreserve r).coh.net = s.coh.net := hnet
  rw [hdir'] at hserve
  dsimp only at hserve
  rw [hserve, State.serveEntry_owned howned hkind, State.homeSend_eq hok, hage, hnet', hline]
  obtain ⟨d, he⟩ := ((u.unreserve r).setCoh { (u.unreserve r).coh with
    net := s.coh.net ++ [⟨16 + homeOf r.line, s.clk.age + 1 + 6, r.fwd e.owner.toNat⟩] }).awaitFor_eq r [] (some e.owner.toNat) false
  rw [he]
  refine ⟨rfl, ?_⟩
  show (u.unreserve r).coh.trans ++ [⟨r.line, some r, [], some e.owner.toNat, none, false, false, none, (u.unreserve r).clk.age⟩] = _
  rw [hage, ← htrans]
  rfl

theorem sharersOf_sharer {a : Nat} (h : a < 12) : sharersOf (sharer a) = [a] ∧ (sharer a).getLsbD a = true := by
  revert a
  decide

/-- The one sharer of a line is granted its upgrade. -/
theorem State.serveEntry_sole {s : State} {r : CohReq} {k : Nat} {e : DirEntry} (hkind : r.kind = .upgrade) (hshared : e.dstate = .shared)
    (hsole : e.sharers = sharer r.agent) (ha : r.agent < 12) : s.serveEntry r k e = (s.settleDir k e r false).giveGrant r := by
  obtain ⟨hlist, hbit⟩ := sharersOf_sharer ha
  have hothers : (sharersOf e.sharers).filter (· != r.agent) = [] := by simp [hsole, hlist]
  have hgrant : (r.kind == .upgrade && ((e.dstate == .shared && e.sharers.getLsbD r.agent) ||
      (e.dstate == .owned && (e.sharers.getLsbD r.agent || e.owner.toNat == r.agent)))) = true := by
    rw [hkind, hshared, hsole, hbit]
    rfl
  have hnot : ¬ (true = true ∧ DirState.shared = DirState.owned ∧ e.owner.toNat ≠ r.agent) := fun h => DirState.noConfusion h.2.1
  unfold State.serveEntry
  dsimp only
  rw [hgrant, hothers, hkind, hshared]
  dsimp only
  rw [if_pos rfl, if_neg hnot]
  rfl

/-- A line that others share is taken from each of them. -/
theorem State.serveEntry_invs {s : State} {r : CohReq} {k : Nat} {e : DirEntry} {bs : List Nat} (hkind : r.kind = .getM) (hshared : e.dstate = .shared)
    (hbs : bs = (sharersOf e.sharers).filter (· != r.agent)) (hne : bs ≠ []) :
    s.serveEntry r k e = (s.homeSendAll (bs.map (fun b => .inv b r.line))).awaitFor r bs none false := by
  have hgrant : (CohReqKind.getM == CohReqKind.upgrade) = false := by decide
  have howned : e.owned = false := by rw [DirEntry.owned, hshared]; rfl
  have hempty : bs.isEmpty = false := by simpa using hne
  simp only [State.serveEntry, hkind, hgrant, howned, ← hbs, hempty, Bool.false_and, Bool.false_eq_true, false_and, if_false]

/-- The directory's answer to a request that the home can serve. -/
theorem State.handleReq_entry {s u : State} {r : CohReq} {k : Nat} {e : DirEntry} (h : s.Meets u r) (hfree : s.homeFree r.agent r.line)
    (hctr : s.ctrLine r.line = false) (hdir : s.dirOf r.line = some (k, e)) (hshared : e.dstate = .shared) (hpin : e.pin = 0) :
    u.handleReq r = (u.unreserve r).serveEntry r k e := by
  have howned : e.owned = false := by rw [DirEntry.owned, hshared]; rfl
  have hdir' : u.dirOf r.line = some (k, e) := (h.dirOf _).trans hdir
  have hserve := State.handleReq_free (h.homeFree hfree) (.inl ((h.ctrLine _).trans hctr))
    (fun x hx => by rw [hdir'] at hx; cases hx; rw [howned]; exact fun h => absurd h (by decide))
    (fun x hx => by rw [hdir'] at hx; cases hx; exact hpin)
  rw [hdir'] at hserve
  exact hserve

theorem State.settleDir_write (s : State) (k : Nat) (e : DirEntry) {r : CohReq} (hkind : r.kind = .upgrade) (miss : Bool) : s.settleDir k e r miss =
    s.setDir k { e with dstate := .excl, owner := BitVec.ofNat 4 r.agent, sharers := 0, pin := r.pinOf e.pin } := by
  unfold State.settleDir
  rw [hkind]

theorem State.handleReq_sole {s u : State} {r : CohReq} {k : Nat} {e : DirEntry} (h : s.Meets u r) (hfree : s.homeFree r.agent r.line)
    (hctr : s.ctrLine r.line = false) (hdir : s.dirOf r.line = some (k, e)) (hshared : e.dstate = .shared) (hpin : e.pin = 0)
    (hkind : r.kind = .upgrade) (hsole : e.sharers = sharer r.agent) (ha : r.agent < 12) :
    (u.handleReq r).coh.net = s.coh.net ++ [⟨16 + homeOf r.line, s.clk.age + 7, .grant r.agent r.line (s.poisoned r.line)⟩] ∧
      (u.handleReq r).coh.trans = s.coh.trans ∧ (smGet dir0 (u.handleReq r).coh.dir k).dstate = .excl ∧
      (smGet dir0 (u.handleReq r).coh.dir k).owner.toNat = r.agent ∧ (smGet dir0 (u.handleReq r).coh.dir k).sharers = 0 := by
  generalize hd : ({ e with dstate := .excl, owner := BitVec.ofNat 4 r.agent, sharers := 0, pin := r.pinOf e.pin } : DirEntry) = x
  have hx : x.dstate = .excl ∧ x.owner.toNat = r.agent ∧ x.sharers = 0 := by
    rw [← hd]
    exact ⟨rfl, Nat.mod_eq_of_lt (by omega), rfl⟩
  have hok : ((u.unreserve r).setDir k x).agentFailed r.agent = false := (h.agentFailed _).trans hfree.2.1
  obtain ⟨hnet, hmem, htrans, -, -⟩ := h.keeps
  have hp : ((u.unreserve r).setDir k x).poisoned r.line = s.poisoned r.line := h.poisoned _
  have hage : ((u.unreserve r).setDir k x).clk.age = s.clk.age := h.2.1
  have hnet' : ((u.unreserve r).setDir k x).coh.net = s.coh.net := hnet
  obtain ⟨cl, he⟩ := State.giveGrant_eq hok
  rw [State.handleReq_entry h hfree hctr hdir hshared hpin, State.serveEntry_sole hkind hshared hsole ha, State.settleDir_write _ _ _ hkind, hd, he, hp,
    hage, hnet']
  have hget : smGet dir0 (smSet dir0 (u.unreserve r).coh.dir k x) k = x := smGet_smSet_same _ _ _ _
  refine ⟨rfl, htrans, ?_⟩
  show (smGet dir0 (smSet dir0 (u.unreserve r).coh.dir k x) k).dstate = _ ∧ (smGet dir0 (smSet dir0 (u.unreserve r).coh.dir k x) k).owner.toNat = _ ∧
    (smGet dir0 (smSet dir0 (u.unreserve r).coh.dir k x) k).sharers = 0
  rw [hget]
  exact hx

theorem State.handleReq_invs {s u : State} {r : CohReq} {k : Nat} {e : DirEntry} {bs : List Nat} (h : s.Meets u r) (hfree : s.homeFree r.agent r.line)
    (hctr : s.ctrLine r.line = false) (hdir : s.dirOf r.line = some (k, e)) (hshared : e.dstate = .shared) (hpin : e.pin = 0)
    (hkind : r.kind = .getM) (hbs : bs = (sharersOf e.sharers).filter (· != r.agent)) (hne : bs ≠ []) (hok : ∀ b ∈ bs, s.agentFailed b = false) :
    (u.handleReq r).coh.net = s.coh.net ++ bs.map (fun b => (⟨16 + homeOf r.line, s.clk.age + 7, .inv b r.line⟩ : NetMsg)) ∧
      (u.handleReq r).coh.trans = s.coh.trans ++ [⟨r.line, some r, bs, none, none, false, false, none, s.clk.age⟩] := by
  have hok' : ∀ m ∈ bs.map (fun b => CohMsg.inv b r.line), (u.unreserve r).agentFailed m.dest = false := by
    intro m hm
    obtain ⟨b, hb, rfl⟩ := List.mem_map.mp hm
    exact (h.agentFailed _).trans (hok b hb)
  obtain ⟨hnet, hmem, htrans, -, -⟩ := h.keeps
  have hage : (u.unreserve r).clk.age = s.clk.age := h.2.1
  have hnet' : (u.unreserve r).coh.net = s.coh.net := hnet
  rw [State.handleReq_entry h hfree hctr hdir hshared hpin, State.serveEntry_invs hkind hshared hbs hne, State.homeSendAll_eq hok', hage, hnet', List.map_map]
  obtain ⟨d, he⟩ := State.awaitFor_eq ((u.unreserve r).setCoh { (u.unreserve r).coh with
    net := s.coh.net ++ bs.map ((fun m : CohMsg => (⟨16 + homeOf m.line, s.clk.age + 1 + 6, m⟩ : NetMsg)) ∘ fun b => .inv b r.line) }) r bs none false
  rw [he]
  refine ⟨rfl, ?_⟩
  show (u.unreserve r).coh.trans ++ [⟨r.line, some r, bs, none, none, false, false, none, (u.unreserve r).clk.age⟩] = _
  rw [hage, ← htrans]
  rfl

theorem State.reserve_early (s : State) (a l : Nat) : ∃ sn, s.reserve a l 1 = s.setCoh { s.coh with seniors := sn } := by
  unfold State.reserve
  split
  · exact ⟨_, rfl⟩
  · exact ⟨s.coh.seniors, if_pos (by decide)⟩

theorem homeNack_ne (l : Nat) : Reg.cohereHomeNack (homeOf l) ≠ Reg.cohereNackCount := by
  unfold Reg.cohereHomeNack Reg.cohereNackCount
  omega

/-- On a line with a transaction a request is turned away. -/
theorem State.handleReq_nack {s u : State} {r : CohReq} (h : s.Meets u r) (hwb : s.coh.lastWb ≠ some (r.line, s.clk.age))
    (hfail : s.agentFailed r.agent = false) (hctr : s.ctrLine r.line = false) (htr : (s.transOf r.line).isSome = true) (hn : r.nacks = 0) :
    (u.handleReq r).coh.net = s.coh.net ++ [⟨16 + homeOf r.line, s.clk.age + 7, .nack r.agent r.line 1 false⟩] ∧
      (u.handleReq r).coh.dir = s.coh.dir ∧ (u.handleReq r).coh.trans = s.coh.trans ∧
      (u.handleReq r).rd Reg.cohereNackCount = w32 (min 0xFFFFFFFF ((s.rd Reg.cohereNackCount).toNat + 1)) := by
  obtain ⟨⟨ties, g, hcoh⟩, hage, hrd, -⟩ := h
  have hrd' := hrd Reg.cohereNackCount (by unfold clockCounts; decide) (by decide)
  have hwb' : u.coh.lastWb ≠ some (r.line, u.clk.age) := by rw [hcoh, hage]; exact hwb
  have hbusy : u.lineBusy r.line = true := by
    simp only [State.lineBusy, State.transOf, hcoh]
    rw [State.transOf] at htr
    simp only [htr, Bool.true_or]
  have hctr' : ¬ (u.ctrLine r.line = true ∧ r.kind ≠ .readNa) := by
    have : u.ctrLine r.line = s.ctrLine r.line := by simp only [State.ctrLine, hcoh]
    rw [this, hctr]
    exact fun h => absurd h.1 (by decide)
  have hfail' : u.agentFailed r.agent = false := by rw [State.agentFailed, hcoh]; exact hfail
  have hnack : u.handleReq r = u.nackReq r false := by
    unfold State.handleReq
    dsimp only
    rw [if_neg hwb', if_neg (by rw [hfail']; decide), if_neg hctr', if_pos hbusy]
  have hform : ∃ sn rs, u.nackReq r false = ((u.cnt Reg.cohereNackCount 1).cnt (Reg.cohereHomeNack (homeOf r.line)) 1).setCoh
      { u.coh with seniors := sn, reqs := rs, net := u.coh.net ++ [⟨16 + homeOf r.line, u.clk.age + 7, .nack r.agent r.line 1 false⟩] } := by
    unfold State.nackReq State.noteNack
    rw [hn]
    dsimp only
    obtain ⟨sn, e⟩ := State.reserve_early (((u.setCoh { u.coh with
      reqs := u.coh.reqs.map (fun x => if x.agent = r.agent ∧ x.line = r.line then { x with nacks := 0 + 1 } else x) }).cnt Reg.cohereNackCount 1).cnt
        (Reg.cohereHomeNack (homeOf r.line)) 1) r.agent r.line
    rw [e]
    exact ⟨sn, _, State.homeSend_eq hfail' 1⟩
  obtain ⟨sn, rs, e⟩ := hform
  rw [hnack, e]
  refine ⟨?_, (congrArg CohSt.dir hcoh :), (congrArg CohSt.trans hcoh :), ?_⟩
  · show u.coh.net ++ [⟨16 + homeOf r.line, u.clk.age + 7, .nack r.agent r.line 1 false⟩] = _
    rw [hcoh, hage]
  · have h1 : (((u.cnt Reg.cohereNackCount 1).cnt (Reg.cohereHomeNack (homeOf r.line)) 1).setCoh
        { u.coh with seniors := sn, reqs := rs, net := u.coh.net ++ [⟨16 + homeOf r.line, u.clk.age + 7, .nack r.agent r.line 1 false⟩] }).rd
          Reg.cohereNackCount = ((u.cnt Reg.cohereNackCount 1).cnt (Reg.cohereHomeNack (homeOf r.line)) 1).rd Reg.cohereNackCount :=
      State.rd_of_vals rfl _
    rw [h1, State.rd_cnt_ne _ _ (homeNack_ne r.line).symm, State.rd_cnt_one, hrd']

/-- On a counter line a request other than READ_NA is an error. -/
theorem State.handleReq_err {s u : State} {r : CohReq} (h : s.Meets u r) (hwb : s.coh.lastWb ≠ some (r.line, s.clk.age))
    (hfail : s.agentFailed r.agent = false) (hctr : s.ctrLine r.line = true) (hkind : r.kind ≠ .readNa) :
    (u.handleReq r).coh.net = s.coh.net ++ [⟨16 + homeOf r.line, s.clk.age + 7, .err r.agent r.line⟩] ∧
      (u.handleReq r).coh.dir = s.coh.dir ∧ (u.handleReq r).coh.mem = s.coh.mem ∧
      (u.handleReq r).rd Reg.cohereCtrAccessErrCount = w32 (min 0xFFFFFFFF ((s.rd Reg.cohereCtrAccessErrCount).toNat + 1)) := by
  have hctr' := (h.ctrLine r.line).trans hctr
  have hfail' := (h.agentFailed r.agent).trans hfail
  obtain ⟨hnet, hmem, -, hd, -⟩ := h.keeps
  obtain ⟨⟨ties, g, hcoh⟩, hage, hrd, -⟩ := h
  have hrd' := hrd Reg.cohereCtrAccessErrCount (by unfold clockCounts; decide) (by decide)
  have hwb' : u.coh.lastWb ≠ some (r.line, u.clk.age) := by rw [hcoh, hage]; exact hwb
  have herr : u.handleReq r = (u.errReq r.agent r.line).cnt Reg.cohereCtrAccessErrCount 1 := by
    unfold State.handleReq
    dsimp only
    rw [if_neg hwb', if_neg (by rw [hfail']; decide), if_pos ⟨hctr', hkind⟩]
    rfl
  rw [herr]
  refine ⟨?_, hd, hmem, ?_⟩
  · show u.coh.net ++ [⟨16 + homeOf r.line, u.clk.age + 1 + 6, .err r.agent r.line⟩] = _
    rw [hnet, hage]
  · rw [State.rd_cnt_one, ← hrd']
    exact congrArg (fun v : Word => w32 (min 0xFFFFFFFF (v.toNat + 1))) (State.rd_of_vals (s := u) rfl _)

/-! ## The rows -/

theorem exec_getS {s : State} {a l : Nat} (hup : s.coreUp = true) (hl : l < 2 ^ 19) (ha : a < 12) :
    exec (.getS a l) s = finish s (s.arrive a l 0 .getS) := by
  show finish s (whileUp s _) = _
  rw [whileUp_up _ hup, if_pos ⟨decide_eq_true hl, ha⟩]

theorem exec_readNa {s : State} {a l : Nat} (hup : s.coreUp = true) (hl : l < 2 ^ 19) (ha : a < 12) :
    exec (.readNa a l) s = finish s (s.arrive a l 0 .readNa) := by
  show finish s (whileUp s _) = _
  rw [whileUp_up _ hup, if_pos ⟨decide_eq_true hl, by omega⟩]

theorem exec_getM {s : State} {a l : Nat} (g : Nat) (hup : s.coreUp = true) (hl : l < 2 ^ 19) (ha : a < 12) (hcore : 8 ≤ a) :
    exec (.getM a l g) s = finish s (s.arrive a l g .getM) := by
  show finish s (whileUp s _) = _
  rw [whileUp_up _ hup, if_pos ⟨decide_eq_true hl, hcore, ha⟩]

theorem exec_upgrade {s : State} {a l : Nat} (g : Nat) (hup : s.coreUp = true) (hl : l < 2 ^ 19) (ha : a < 12) (hcore : 8 ≤ a) :
    exec (.upgrade a l g) s = finish s (s.arrive a l g .upgrade) := by
  show finish s (whileUp s _) = _
  rw [whileUp_up _ hup, if_pos ⟨decide_eq_true hl, hcore, ha⟩]

/-- A request row that is run answers the home's state after the request. -/
theorem Makes.of_arrive {i : Instr} {s : State} {a l g : Nat} {kind : CohReqKind} {P : State → Prop} (hexec : exec i s = finish s (s.arrive a l g kind))
    (hreqs : s.coh.reqs = []) (hage : s.clk.age < 2 ^ 63) (hlate : ∀ n ∈ s.coh.net, n.msg.dest = 16 + homeOf l → s.clk.age < n.due)
    (hp : ∀ u, s.Meets u (newReq a l g kind) → P (s.after (u.handleReq (newReq a l g kind)))) : Makes i s P := by
  obtain ⟨u, hmeets, he⟩ := State.arrive_new hreqs hage hlate g kind
  rw [he] at hexec
  exact .of_finish hexec (hp u hmeets)

/-- The request rows of the kinds that an agent may send, with their kinds. -/
theorem arrive_rows {s : State} {a l g : Nat} (hup : s.coreUp = true) (hl : l < 2 ^ 19) (ha : a < 12) {i : Instr}
    (hi : i ∈ [Instr.getS a l] ++ (if 8 ≤ a then [Instr.getM a l g, .upgrade a l g] else [])) :
    ∃ g kind, kind ≠ .readNa ∧ exec i s = finish s (s.arrive a l g kind) := by
  rcases List.mem_append.mp hi with h | h
  · rw [List.mem_singleton.mp h]
    exact ⟨0, .getS, by decide, exec_getS hup hl ha⟩
  · by_cases hcore : 8 ≤ a
    · rw [if_pos hcore] at h
      rcases List.mem_cons.mp h with rfl | h
      · exact ⟨g, .getM, by decide, exec_getM g hup hl ha hcore⟩
      · rw [List.mem_singleton.mp h]
        exact ⟨g, .upgrade, by decide, exec_upgrade g hup hl ha hcore⟩
    · rw [if_neg hcore] at h
      cases h

/-- Settles O43: each request by what its home finds for the line. -/
theorem requestsComplete : Obligations.RequestsComplete := by
  unfold Obligations.RequestsComplete
  intro s a l g hup hl ha hreqs hfail hage hlate hwb
  have hS : exec (.getS a l) s = finish s (s.arrive a l 0 .getS) := exec_getS hup hl ha
  have hNa : exec (.readNa a l) s = finish s (s.arrive a l 0 .readNa) := exec_readNa hup hl ha
  refine ⟨fun hctr hbusy hsen hdir hway => ?_, fun k e hctr hbusy hsen hdir howned hother hown hpin => ?_,
    fun k e hctr hbusy hsen hdir hshared hpin hcore => ?_, fun hctr htr i hi => ?_, fun hctr i hi => ?_⟩
  · have hmem (g : Nat) (kind : CohReqKind) {u : State} (h : s.Meets u (newReq a l g kind)) :=
      State.handleReq_memory h ⟨hwb, hfail, hbusy, hsen⟩ hctr hdir hway
    refine ⟨.of_arrive hS hreqs hage hlate fun u h => ?_, fun hcore => .of_arrive (exec_getM g hup hl ha hcore) hreqs hage hlate fun u h => ?_,
      fun hcore => .of_arrive (exec_upgrade g hup hl ha hcore) hreqs hage hlate fun u h => ?_, .of_arrive hNa hreqs hage hlate fun u h => ?_⟩
    · obtain ⟨h1, h2, h3, h4, -⟩ := hmem 0 .getS h
      have hst : (newReq a l 0 .getS).granted false = some (if a < 8 then .s else .e) := by simp [CohReq.granted, newReq]
      rw [hst] at h1
      refine ⟨h1, h2, h3, ?_⟩
      show ((State.handleReq u _).coh.reqs.find? _).isSome = true
      rw [h4]
      simp [newReq]
    · obtain ⟨h1, h2, h3, -⟩ := hmem g .getM h
      exact ⟨h1, h2, h3⟩
    · obtain ⟨h1, h2, h3, -⟩ := hmem g .upgrade h
      exact ⟨h1, h2, h3⟩
    · obtain ⟨h1, -, -, -, h5⟩ := hmem 0 .readNa h
      obtain ⟨hd, hreg⟩ := h5 rfl
      refine ⟨h1, hd, ?_⟩
      rw [State.rd_after, State.rd_of_reg hreg]
      exact h.2.2.2 rfl
  · have hfwd (g : Nat) (kind : CohReqKind) {u : State} (h : s.Meets u (newReq a l g kind)) :=
      State.handleReq_forward h ⟨hwb, hfail, hbusy, hsen⟩ hctr hdir howned hother hown hpin
    refine ⟨.of_arrive hS hreqs hage hlate fun u h => hfwd 0 .getS h (.inl rfl),
      fun hcore hsh => .of_arrive (exec_getM g hup hl ha hcore) hreqs hage hlate fun u h => hfwd g .getM h (.inr (.inr ⟨rfl, hsh⟩)),
      .of_arrive hNa hreqs hage hlate fun u h => hfwd 0 .readNa h (.inr (.inl rfl))⟩
  · refine ⟨fun hsole => .of_arrive (exec_upgrade g hup hl ha hcore) hreqs hage hlate fun u h => ?_,
      fun bs hbs hne hok => .of_arrive (exec_getM g hup hl ha hcore) hreqs hage hlate fun u h =>
        State.handleReq_invs h ⟨hwb, hfail, hbusy, hsen⟩ hctr hdir hshared hpin rfl hbs hne hok⟩
    obtain ⟨h1, h2, h3, h4, h5⟩ := State.handleReq_sole h ⟨hwb, hfail, hbusy, hsen⟩ hctr hdir hshared hpin rfl hsole ha
    exact ⟨h1, h2, _, rfl, h3, h4, h5⟩
  · have hrow : ∃ g kind, exec i s = finish s (s.arrive a l g kind) := by
      rcases List.mem_append.mp hi with h | h
      · rcases List.mem_cons.mp h with rfl | h
        · exact ⟨0, .getS, hS⟩
        · rw [List.mem_singleton.mp h]
          exact ⟨0, .readNa, hNa⟩
      · obtain ⟨g, kind, -, he⟩ := arrive_rows hup hl ha (List.mem_append_right [Instr.getS a l] h)
        exact ⟨g, kind, he⟩
    obtain ⟨g, kind, he⟩ := hrow
    exact .of_arrive he hreqs hage hlate fun u h => State.handleReq_nack h hwb hfail hctr htr rfl
  · obtain ⟨g, kind, hkind, he⟩ := arrive_rows hup hl ha hi
    exact .of_arrive he hreqs hage hlate fun u h => State.handleReq_err h hwb hfail hctr hkind

end Sys2Proof.Machine


/-! Coherence: the messages between caches and homes (R228 to R235). -/

namespace Sys2Proof.Machine

/-! ## Delivery -/

/-- A message that has come off the network is acted on. -/
def State.deliver (s : State) (m : CohMsg) : State :=
  match m with
  | .invAck a l => s.tookAck a l
  | .fwdDone a l => s.tookDone a l
  | .fwdMiss a l => s.tookMiss a l
  | .nack a l k pinned => s.tookNack a l k pinned
  | .err a l => s.endReq a l
  | .data a l st poison ws => s.tookData a l st poison ws
  | .grant a l poison => s.tookGrant a l poison
  | .wb a l ws => s.landWb a l ws
  | .atomicRes _ _ _ _ _ => s
  | .request a l kind => s.tookRequest a l kind
  | .atomic a l op => s.handleAtomic a l op
  | m => s.heed m

theorem State.takeMsg_eq (s : State) (n : NetMsg) : s.takeMsg n = (s.arrived n).deliver n.msg := by
  unfold State.takeMsg State.deliver State.arrived
  cases n.msg <;> rfl

/-- The state in which message `n` is acted on: it is off the network, and its cycle has come. -/
def State.Arrives (s u : State) (n : NetMsg) : Prop :=
  (∃ ties, u.coh = { s.coh with net := s.coh.net.erase n, ties := ties }) ∧ u.clk.age = max s.clk.age n.due ∧
    ∀ a, ¬ clockCounts a → u.rd a = s.rd a

theorem Makes.of_msg {i : Instr} {s : State} {n : NetMsg} {m : CohMsg} {P : State → Prop} (hexec : exec i s = finish s (s.receiveMsg m))
    (hm : n.msg = m) (hturn : s.turn n.msg = some n) (hage : s.clk.age < 2 ^ 63) (hdue : n.due < 2 ^ 62)
    (hp : ∀ u, s.Arrives u n → P (s.after (u.deliver m))) : Makes i s P := by
  obtain ⟨ties, hcoh, hclk, hrd⟩ := s.arrived_eq n
  have hage' : (s.arrived n).clk.age = max s.clk.age n.due := by rw [hclk, State.untilAge (by omega) (by omega)]
  rw [← hm, State.receiveMsg_turn hturn, State.takeMsg_eq, hm] at hexec
  exact .of_finish hexec (hp _ ⟨⟨ties, hcoh⟩, hage', hrd⟩)

section
variable {s u : State} {n : NetMsg} (h : s.Arrives u n)

include h in
theorem State.Arrives.keeps : u.coh.net = s.coh.net.erase n ∧ u.coh.mem = s.coh.mem ∧ u.coh.poison = s.coh.poison ∧ u.coh.dir = s.coh.dir ∧
    u.coh.caches = s.coh.caches ∧ u.coh.reqs = s.coh.reqs ∧ u.coh.trans = s.coh.trans ∧ u.coh.waiting = s.coh.waiting ∧ u.coh.held = s.coh.held := by
  obtain ⟨⟨ties, hcoh⟩, -⟩ := h
  rw [hcoh]
  exact ⟨rfl, rfl, rfl, rfl, rfl, rfl, rfl, rfl, rfl⟩

include h in
theorem State.Arrives.same (a l : Nat) : u.agentFailed a = s.agentFailed a ∧ u.agentGated a = s.agentGated a ∧ u.cached a l = s.cached a l ∧
    u.poisoned l = s.poisoned l ∧ u.memLine l = s.memLine l ∧ u.dirOf l = s.dirOf l := by
  obtain ⟨⟨ties, hcoh⟩, -⟩ := h
  simp only [State.agentFailed, State.agentGated, State.cached, State.poisoned, State.memLine, State.dirOf, State.waysOf, hcoh, and_self]

include h in
theorem State.Arrives.dataDue {a l : Nat} (hd : s.dataDue a l = false) : u.dataDue a l = false := by
  obtain ⟨⟨ties, hcoh⟩, -⟩ := h
  rw [State.dataDue, List.any_eq_false] at hd ⊢
  rw [hcoh]
  exact fun x hx => hd x (List.mem_of_mem_erase hx)

end

/-! ## Forwards and INV at an agent (R233, R235) -/

theorem State.answerAll_two {s : State} {a : Nat} (h : s.agentGated a = false) (m k : CohMsg) : s.answerAll a [m, k] =
    s.setCoh { s.coh with net := s.coh.net ++ [⟨a, s.clk.age + 7, m⟩, ⟨a, s.clk.age + 7, k⟩] } := by
  have hin : s.answerIn a = 1 := if_neg (by rw [h]; decide)
  have hnet (x y : NetMsg) : s.coh.net ++ [x, y] = (s.coh.net ++ [x]) ++ [y] := by simp
  have hin2 : (s.cohPut a 1 m).answerIn a = 1 := hin
  unfold State.answerAll
  rw [List.foldl_cons, List.foldl_cons, List.foldl_nil, hin, hin2, hnet]
  rfl

theorem State.heed_obey {s : State} {m : CohMsg} (hfail : s.agentFailed m.agent = false) (hdue : s.dataDue m.agent m.line = false) :
    s.heed m = s.obey m := by
  unfold State.heed
  rw [if_neg (by rw [hfail]; decide), if_neg (by rw [hdue]; decide)]

theorem cached_setCached (s : State) (a l : Nat) (c : CacheLine) : (s.setCached a l c).cached a l = c := smGet_smSet_same _ _ _ _

section
variable {s u : State} {n : NetMsg} {a l : Nat} (r : Nat) (h : s.Arrives u n) (hfail : s.agentFailed a = false) (hdue : s.dataDue a l = false)
  (hgate : s.agentGated a = false) (hsup : (s.cached a l).state.supplies = true)

include h hgate hsup in
theorem not_missing : ¬ (u.agentGated a = true ∨ ¬ (u.cached a l).state.supplies = true) := by
  obtain ⟨-, h2, h3, -⟩ := h.same a l
  rw [h2, h3, hgate, hsup]
  simp

include h hfail hdue hgate hsup in
theorem deliver_fwdS : (u.deliver (.fwdS a l r)).coh.net = s.coh.net.erase n ++
      [⟨a, (u.deliver (.fwdS a l r)).clk.age + 7, .data r l (some .s) (s.poisoned l) (s.cached a l).words⟩, ⟨a, (u.deliver (.fwdS a l r)).clk.age + 7, .fwdDone a l⟩] ∧
    (u.deliver (.fwdS a l r)).cached a l = { s.cached a l with state := if (s.cached a l).state = .e then .s else .o } ∧
    (u.deliver (.fwdS a l r)).clk.age = max s.clk.age n.due := by
  obtain ⟨h1, h2, h3, h4, -, -⟩ := h.same a l
  have hobey : u.deliver (.fwdS a l r) = u.obey (.fwdS a l r) := State.heed_obey (h1.trans hfail) (h.dataDue hdue)
  have hget : u.obey (.fwdS a l r) = (u.setCached a l { u.cached a l with state := if (u.cached a l).state = .e then .s else .o }).answerAll a
      [.data r l (some .s) (u.poisoned l) (u.cached a l).words, .fwdDone a l] := if_neg (not_missing h hgate hsup)
  rw [hobey, hget, State.answerAll_two (s := u.setCached a l _) (h2.trans hgate), h3, h4]
  refine ⟨?_, cached_setCached _ _ _ _, h.2.1⟩
  rw [← h.keeps.1]
  rfl

include h hfail hdue hgate hsup in
theorem deliver_fwdM : (u.deliver (.fwdM a l r)).coh.net = s.coh.net.erase n ++
      [⟨a, (u.deliver (.fwdM a l r)).clk.age + 7, .data r l (some .m) (s.poisoned l) (s.cached a l).words⟩, ⟨a, (u.deliver (.fwdM a l r)).clk.age + 7, .fwdDone a l⟩] ∧
    (u.deliver (.fwdM a l r)).cached a l = line0 := by
  obtain ⟨h1, h2, h3, h4, -, -⟩ := h.same a l
  have hobey : u.deliver (.fwdM a l r) = u.obey (.fwdM a l r) := State.heed_obey (h1.trans hfail) (h.dataDue hdue)
  have hget : u.obey (.fwdM a l r) = (u.uncache a l).answerAll a [.data r l (some .m) (u.poisoned l) (u.cached a l).words, .fwdDone a l] :=
    if_neg (not_missing h hgate hsup)
  rw [hobey, hget, State.answerAll_two (s := u.uncache a l) (h2.trans hgate), h3, h4]
  refine ⟨?_, cached_setCached _ _ _ _⟩
  rw [← h.keeps.1]
  rfl

include h hfail hdue hgate hsup in
theorem deliver_fwdNa : (u.deliver (.fwdNa a l r)).coh.net = s.coh.net.erase n ++
      [⟨a, (u.deliver (.fwdNa a l r)).clk.age + 7, .data r l none (s.poisoned l) (s.cached a l).words⟩, ⟨a, (u.deliver (.fwdNa a l r)).clk.age + 7, .fwdDone a l⟩] ∧
    (u.deliver (.fwdNa a l r)).coh.caches = s.coh.caches := by
  obtain ⟨h1, h2, h3, h4, -, -⟩ := h.same a l
  have hobey : u.deliver (.fwdNa a l r) = u.obey (.fwdNa a l r) := State.heed_obey (h1.trans hfail) (h.dataDue hdue)
  have hget : u.obey (.fwdNa a l r) = u.answerAll a [.data r l none (u.poisoned l) (u.cached a l).words, .fwdDone a l] :=
    if_neg (not_missing h hgate hsup)
  rw [hobey, hget, State.answerAll_two (h2.trans hgate), h3, h4]
  refine ⟨?_, h.keeps.2.2.2.2.1⟩
  rw [← h.keeps.1]
  rfl

/-- An agent with no writeback in flight has room for one. -/
theorem State.wbRoom_none {s : State} {a : Nat} (h : ∀ x ∈ s.coh.net, ∀ k ws, x.msg ≠ .wb a k ws) (hm : Nat) : s.wbRoom a hm = s := by
  unfold State.wbRoom
  dsimp only
  split
  · next n l w _ _ heq =>
    obtain ⟨x, hx, hw⟩ := List.mem_filterMap.mp (heq ▸ List.mem_cons_self : (n, l, w) ∈ _)
    split at hw
    · next b k ws hmsg =>
      by_cases hc : b = a ∧ homeOf k = hm
      · exact absurd (hmsg.trans (by rw [hc.1])) (h x hx k ws)
      · rw [if_neg hc] at hw
        cases hw
    · cases hw
  · rfl

include h hfail hdue hgate hsup in
theorem deliver_recall (hwb : ∀ x ∈ s.coh.net, ∀ k ws, x.msg ≠ .wb a k ws) : (u.deliver (.recall a l)).cached a l = line0 ∧
    (u.deliver (.recall a l)).coh.net = s.coh.net.erase n ++ [⟨a, (u.deliver (.recall a l)).clk.age + 7, .wb a l (s.cached a l).words⟩] := by
  obtain ⟨h1, h2, h3, -, -, -⟩ := h.same a l
  obtain ⟨hnet, -⟩ := h.keeps
  have hobey : u.deliver (.recall a l) = u.obey (.recall a l) := State.heed_obey (h1.trans hfail) (h.dataDue hdue)
  have hget : u.obey (.recall a l) = (u.uncache a l).sendWb a l 1 (u.cached a l).words := if_neg (not_missing h hgate hsup)
  have hroom : (u.uncache a l).wbRoom a (homeOf l) = u.uncache a l := State.wbRoom_none (fun x hx => by
    have hx' : x ∈ u.coh.net := hx
    rw [hnet] at hx'
    exact hwb x (List.mem_of_mem_erase hx')) _
  rw [hobey, hget, State.sendWb, hroom, h3]
  refine ⟨cached_setCached _ _ _ _, ?_⟩
  rw [← hnet]
  rfl

include h hfail hdue in
theorem deliver_inv : (u.deliver (.inv a l)).coh.net = s.coh.net.erase n ++ [⟨a, (u.deliver (.inv a l)).clk.age + s.answerIn a + 6, .invAck a l⟩] ∧
    (u.deliver (.inv a l)).cached a l = line0 ∧ (u.deliver (.inv a l)).coh.mem = s.coh.mem := by
  obtain ⟨h1, h2, -, -, -, -⟩ := h.same a l
  obtain ⟨hnet, hmem, -⟩ := h.keeps
  have hobey : u.deliver (.inv a l) = u.obey (.inv a l) := State.heed_obey (h1.trans hfail) (h.dataDue hdue)
  have hin : (u.uncache a l).answerIn a = s.answerIn a := by
    show (if u.agentGated a = true then 0 else 1) = _
    rw [h2]
    rfl
  have hget : u.obey (.inv a l) = (u.uncache a l).cohPut a (s.answerIn a) (.invAck a l) := by
    show State.cohPut _ a ((u.uncache a l).answerIn a) _ = _
    rw [hin]
  rw [hobey, hget]
  refine ⟨?_, cached_setCached _ _ _ _, hmem⟩
  rw [← hnet]
  rfl

end

/-! ## Answers at the home (R233, R235) -/

/-- The directory lists a line where a way of its set is in use for it. -/
theorem State.dirOf_isSome (s : State) (l : Nat) : (s.dirOf l).isSome = true ↔
    ∃ w < 16, (smGet dir0 s.coh.dir (wayKey l w)).dstate ≠ .unused ∧ (smGet dir0 s.coh.dir (wayKey l w)).line = l := by
  rw [State.dirOf, List.find?_isSome]
  constructor
  · rintro ⟨x, hx, hl⟩
    obtain ⟨w, hw, hwx⟩ := List.mem_filterMap.mp hx
    dsimp only at hwx
    split at hwx
    · cases hwx
    · next hd =>
      cases hwx
      exact ⟨w, List.mem_range.mp hw, by simpa using hd, beq_iff_eq.mp hl⟩
  · rintro ⟨w, hw, hd, hl⟩
    refine ⟨(wayKey l w, smGet dir0 s.coh.dir (wayKey l w)), List.mem_filterMap.mpr ⟨w, List.mem_range.mpr hw, ?_⟩, beq_iff_eq.mpr hl⟩
    dsimp only
    rw [if_neg (by simpa using hd)]

/-- The entry that the directory lists for a line is the one of its way. -/
theorem State.dirOf_get {s : State} {l k : Nat} {e : DirEntry} (h : s.dirOf l = some (k, e)) : smGet dir0 s.coh.dir k = e := by
  obtain ⟨w, -, hw⟩ := List.mem_filterMap.mp (List.mem_of_find?_eq_some h)
  dsimp only at hw
  split at hw
  · cases hw
  · cases hw
    rfl

theorem State.dirOf_setDir {s : State} {l k : Nat} {e : DirEntry} (x : DirEntry) (hk : smGet dir0 s.coh.dir k = e) (hline : x.line = e.line)
    (hst : x.dstate = e.dstate) (h : (s.dirOf l).isSome = true) : ((s.setDir k x).dirOf l).isSome = true := by
  rw [State.dirOf_isSome] at h ⊢
  obtain ⟨w, hw, hd, hl⟩ := h
  refine ⟨w, hw, ?_⟩
  show (smGet dir0 (smSet dir0 s.coh.dir k x) (wayKey l w)).dstate ≠ _ ∧ (smGet dir0 (smSet dir0 s.coh.dir k x) (wayKey l w)).line = _
  by_cases hkw : wayKey l w = k
  · rw [hkw, hk] at hd hl
    rw [hkw, smGet_smSet_same, hst, hline]
    exact ⟨hd, hl⟩
  · rw [smGet_smSet_ne _ _ _ _ hkw]
    exact ⟨hd, hl⟩

theorem State.setBusy_dirOf {s : State} {l m : Nat} (b : Bool) (h : (s.dirOf l).isSome = true) : ((s.setBusy m b).dirOf l).isSome = true := by
  unfold State.setBusy
  cases hd : s.dirOf m with
  | none => exact h
  | some x => exact State.dirOf_setDir _ (State.dirOf_get (k := x.1) (e := x.2) hd) rfl rfl h

theorem State.endTrans_dirOf {s : State} {l m : Nat} (h : (s.dirOf l).isSome = true) : ((s.endTrans m).dirOf l).isSome = true :=
  State.setBusy_dirOf (s := s.setCoh { s.coh with trans := s.coh.trans.filter (fun t => t.line != m) }) false h

theorem State.settleDir_eq (s : State) (k : Nat) (e : DirEntry) (r : CohReq) (miss : Bool) : ∃ d, s.settleDir k e r miss = s.setCoh { s.coh with dir := d } := by
  unfold State.settleDir
  dsimp only
  split
  · split
    · exact ⟨_, rfl⟩
    · exact ⟨_, rfl⟩
  · split
    · exact ⟨_, rfl⟩
    · exact ⟨s.coh.dir, rfl⟩
  · exact ⟨_, rfl⟩

/-- The one transaction of a line has ended. -/
theorem State.endTrans_eq {s : State} {x : CohTrans} (h : s.coh.trans = [x]) : ∃ d, s.endTrans x.line = s.setCoh { s.coh with trans := [], dir := d } := by
  obtain ⟨d, e⟩ := (s.setCoh { s.coh with trans := s.coh.trans.filter (fun t => t.line != x.line) }).setBusy_eq x.line false
  refine ⟨d, e.trans ?_⟩
  rw [h]
  have hnone : [x].filter (fun t => t.line != x.line) = [] := by simp
  rw [hnone]
  rfl

/-- What the home sends to the requester as the transaction `x` closes. -/
def CohTrans.closing (s : State) (x : CohTrans) (r : CohReq) : List NetMsg :=
  if x.sent then [] else if x.grant then [⟨16 + homeOf r.line, s.clk.age + 7, .grant r.agent r.line (s.poisoned r.line)⟩]
  else [⟨16 + homeOf r.line, s.clk.age + 11, .data r.agent r.line (r.granted true) (s.poisoned r.line) (s.memLine r.line)⟩]

/-- A transaction that awaits nothing more closes. -/
theorem State.tryClose_one {s : State} {x : CohTrans} {r : CohReq} (htrans : s.coh.trans = [x]) (hacks : x.acks = []) (hfwd : x.fwdFrom = none)
    (hwb : x.wbFrom = none) (hreq : x.req = some r) (hdir : (s.dirOf x.line).isSome = true) (hok : s.agentFailed r.agent = false) :
    (s.tryClose x.line).coh.trans = [] ∧ (s.tryClose x.line).coh.net = s.coh.net ++ x.closing s r ∧ (s.tryClose x.line).clk = s.clk ∧
      (s.tryClose x.line).reg = s.reg := by
  obtain ⟨d, hend⟩ := State.endTrans_eq htrans
  obtain ⟨⟨k, e⟩, hd⟩ := Option.isSome_iff_exists.mp (State.endTrans_dirOf (m := x.line) hdir)
  have hof : s.transOf x.line = some x := by
    rw [State.transOf, htrans]
    simp
  have hclose : s.tryClose x.line = (if x.sent then s.endTrans x.line else if x.grant then (s.endTrans x.line).giveGrant r
      else (s.endTrans x.line).supply r (r.granted true)).settleDir k e r (!x.sent) := by
    unfold State.tryClose
    rw [hof]
    dsimp only
    rw [if_neg (by simp [hacks, hfwd, hwb]), hreq, hd]
  have hok' : (s.endTrans x.line).agentFailed r.agent = false := by rw [hend]; exact hok
  rw [hclose]
  obtain ⟨d', he⟩ := State.settleDir_eq (if x.sent then s.endTrans x.line else if x.grant then (s.endTrans x.line).giveGrant r
    else (s.endTrans x.line).supply r (r.granted true)) k e r (!x.sent)
  rw [he]
  unfold CohTrans.closing
  split
  · rw [hend]
    exact ⟨rfl, (List.append_nil _).symm, rfl, rfl⟩
  · split
    · obtain ⟨cl, hg⟩ := State.giveGrant_eq hok'
      rw [hg, hend]
      exact ⟨rfl, rfl, rfl, rfl⟩
    · obtain ⟨cl, hg⟩ := State.supply_eq hok' (r.granted true)
      rw [hg, hend]
      exact ⟨rfl, rfl, rfl, rfl⟩

theorem State.updTrans_one {s : State} {x : CohTrans} (h : s.coh.trans = [x]) (f : CohTrans → CohTrans) :
    s.updTrans x.line f = s.setCoh { s.coh with trans := [f x] } := by
  unfold State.updTrans
  rw [h, List.map_cons, List.map_nil, if_pos rfl]

/-- A home with one transaction takes an answer that lets it close. -/
theorem State.answered_one {s : State} {x : CohTrans} {r : CohReq} (f : CohTrans → CohTrans) (htrans : s.coh.trans = [x]) (hline : (f x).line = x.line)
    (hacks : (f x).acks = []) (hfwd : (f x).fwdFrom = none) (hwb : (f x).wbFrom = none) (hreq : (f x).req = some r)
    (hdir : (s.dirOf x.line).isSome = true) (hok : s.agentFailed r.agent = false) :
    (s.answered x.line f).coh.trans = [] ∧ (s.answered x.line f).coh.net = s.coh.net ++ (f x).closing s r ∧ (s.answered x.line f).clk = s.clk ∧
      (s.answered x.line f).reg = s.reg := by
  have h := State.tryClose_one (s := s.setCoh { s.coh with trans := [f x] }) (x := f x) rfl hacks hfwd hwb hreq (by rw [hline]; exact hdir) hok
  rw [hline] at h
  unfold State.answered
  rw [State.updTrans_one htrans]
  exact h

section
variable {s u : State} {n : NetMsg} {a : Nat} {x : CohTrans} {r : CohReq} (h : s.Arrives u n) (htrans : s.coh.trans = [x]) (hreq : x.req = some r)
  (hdir : (s.dirOf x.line).isSome = true) (hwb : x.wbFrom = none) (hsent : x.sent = false) (hok : s.agentFailed r.agent = false)

include h htrans hreq hdir hwb hsent hok in
theorem deliver_invAck (hacks : x.acks = [a]) (hfwd : x.fwdFrom = none) (hgrant : x.grant = true) :
    (u.deliver (.invAck a x.line)).coh.trans = [] ∧ (u.deliver (.invAck a x.line)).coh.net = s.coh.net.erase n ++
      [⟨16 + homeOf r.line, (u.deliver (.invAck a x.line)).clk.age + 7, .grant r.agent r.line (s.poisoned r.line)⟩] := by
  obtain ⟨hnet, -, -, -, -, -, htr, -, -⟩ := h.keeps
  obtain ⟨h1, -, -, h4, -, h6⟩ := h.same r.agent r.line
  obtain ⟨-, -, -, -, -, h6⟩ := h.same r.agent x.line
  obtain ⟨⟨k, e⟩, hd⟩ := Option.isSome_iff_exists.mp (show (u.dirOf x.line).isSome = true by rw [h6]; exact hdir)
  generalize hy : ({ e with sharers := e.sharers &&& ~~~(sharer a) } : DirEntry) = y
  have hyl : y.line = e.line ∧ y.dstate = e.dstate := by rw [← hy]; exact ⟨rfl, rfl⟩
  have hack : u.deliver (.invAck a x.line) = (u.setDir k y).answered x.line (fun t => { t with acks := t.acks.erase a }) := by
    show State.answered ((u.dirOf x.line).elim u _) _ _ = _
    rw [hd, ← hy]
    rfl
  have herase : x.acks.erase a = [] := by rw [hacks]; exact List.erase_cons_head a []
  obtain ⟨k1, k2, k3, -⟩ := State.answered_one (s := u.setDir k y) (x := x) (r := r) (fun t => { t with acks := t.acks.erase a }) (htr.trans htrans) rfl
    herase hfwd hwb hreq (State.dirOf_setDir y (State.dirOf_get hd) hyl.1 hyl.2 (by rw [hd]; rfl)) (h1.trans hok)
  have hcl : CohTrans.closing (u.setDir k y) { x with acks := x.acks.erase a } r =
      [⟨16 + homeOf r.line, u.clk.age + 7, .grant r.agent r.line (u.poisoned r.line)⟩] := by
    unfold CohTrans.closing
    rw [if_neg (by rw [hsent]; decide), if_pos hgrant]
    rfl
  rw [hack, k2, k3]
  refine ⟨k1, ?_⟩
  rw [hcl, ← h4]
  exact congrArg (· ++ _) hnet

include h htrans hreq hdir hwb hok in
theorem deliver_fwdDone (hacks : x.acks = []) (hfwd : x.fwdFrom = some a) :
    (u.deliver (.fwdDone a x.line)).coh.trans = [] ∧ (u.deliver (.fwdDone a x.line)).coh.net = s.coh.net.erase n := by
  obtain ⟨hnet, -, -, -, -, -, htr, -, -⟩ := h.keeps
  obtain ⟨h1, -, -, -, -, -⟩ := h.same r.agent r.line
  obtain ⟨-, -, -, -, -, h6⟩ := h.same r.agent x.line
  have hf : (if x.fwdFrom = some a then { x with fwdFrom := none, sent := true } else x) = { x with fwdFrom := none, sent := true } := if_pos hfwd
  obtain ⟨k1, k2, -, -⟩ := State.answered_one (s := u) (x := x) (r := r) (fun t => if t.fwdFrom = some a then { t with fwdFrom := none, sent := true } else t)
    (htr.trans htrans) (by rw [hf]) (by rw [hf]; exact hacks) (by rw [hf]) (by rw [hf]; exact hwb) (by rw [hf]; exact hreq) (by rw [h6]; exact hdir)
    (h1.trans hok)
  refine ⟨k1, k2.trans ?_⟩
  rw [hf, hnet]
  exact List.append_nil _

include h htrans hreq hdir hsent hok in
theorem deliver_fwdMiss (hacks : x.acks = []) (hfwd : x.fwdFrom = some a) (hgrant : x.grant = false) (hnowb : s.wbOf a x.line = none) :
    (u.deliver (.fwdMiss a x.line)).coh.trans = [] ∧ (u.deliver (.fwdMiss a x.line)).coh.net = s.coh.net.erase n ++
      [⟨16 + homeOf r.line, (u.deliver (.fwdMiss a x.line)).clk.age + 11, .data r.agent r.line (r.granted true) (s.poisoned r.line) (s.memLine r.line)⟩] ∧
    (u.deliver (.fwdMiss a x.line)).rd Reg.cohereWbCrossCount = w32 (min 0xFFFFFFFF ((s.rd Reg.cohereWbCrossCount).toNat + 1)) := by
  obtain ⟨hnet, -, -, -, -, -, htr, -, -⟩ := h.keeps
  obtain ⟨h1, -, -, h4, h5, -⟩ := h.same r.agent r.line
  obtain ⟨-, -, -, -, -, h6⟩ := h.same r.agent x.line
  have hrd := h.2.2 Reg.cohereWbCrossCount (by unfold clockCounts; decide)
  have hnowb' : u.wbOf a x.line = none := by
    unfold State.wbOf at hnowb ⊢
    rw [List.findSome?_eq_none_iff] at hnowb ⊢
    rw [hnet]
    exact fun y hy => hnowb y (List.mem_of_mem_erase hy)
  generalize hg : (fun t : CohTrans => if t.fwdFrom = some a then { t with fwdFrom := none, wbFrom := (u.wbOf a x.line).map (fun _ => a), since := u.clk.age }
    else if t.wbFrom = some a then { t with wbFrom := (u.wbOf a x.line).map (fun _ => a), since := u.clk.age } else t) = f
  have hf : f x = { x with fwdFrom := none, wbFrom := none, since := u.clk.age } := by
    rw [← hg]
    dsimp only
    rw [if_pos hfwd, hnowb']
    rfl
  have hmiss : u.deliver (.fwdMiss a x.line) = (u.cnt Reg.cohereWbCrossCount 1).answered x.line f := by
    rw [← hg]
    rfl
  obtain ⟨k1, k2, k3, k4⟩ := State.answered_one (s := u.cnt Reg.cohereWbCrossCount 1) (x := x) (r := r) f (htr.trans htrans) (by rw [hf])
    (by rw [hf]; exact hacks) (by rw [hf]) (by rw [hf]) (by rw [hf]; exact hreq) (show (u.dirOf x.line).isSome = true by rw [h6]; exact hdir)
    (h1.trans hok)
  have hcl : CohTrans.closing (u.cnt Reg.cohereWbCrossCount 1) (f x) r =
      [⟨16 + homeOf r.line, u.clk.age + 11, .data r.agent r.line (r.granted true) (u.poisoned r.line) (u.memLine r.line)⟩] := by
    unfold CohTrans.closing
    rw [hf, if_neg (by rw [hsent]; decide), if_neg (by rw [hgrant]; decide)]
    rfl
  rw [hmiss, k2, k3]
  refine ⟨k1, ?_, ?_⟩
  · rw [hcl, ← h4, ← h5]
    exact congrArg (· ++ _) hnet
  · rw [State.rd_of_reg k4, State.rd_cnt_one, hrd]

end

/-! ## Writebacks (R235) -/

theorem smGet_putWords_out (ws : List Word) (m : SMap Word) (k : Nat) {j : Nat} (h : j < k ∨ k + ws.length ≤ j) :
    smGet 0 (putWords m k ws) j = smGet 0 m j := by
  induction ws generalizing m k with
  | nil => rfl
  | cons w ws ih =>
    rw [List.length_cons] at h
    rw [putWords, ih _ _ (by omega), smGet_smSet_ne _ _ _ _ (by omega)]

theorem smGet_putWords_in (ws : List Word) (m : SMap Word) (k : Nat) {i : Nat} (h : i < ws.length) :
    smGet 0 (putWords m k ws) (k + i) = wd ws i := by
  induction ws generalizing m k i with
  | nil => exact absurd h (Nat.not_lt_zero i)
  | cons w ws ih =>
    rw [putWords]
    cases i with
    | zero => rw [smGet_putWords_out _ _ _ (by omega), Nat.add_zero, smGet_smSet_same]; rfl
    | succ i =>
      rw [show k + (i + 1) = k + 1 + i by omega, ih _ _ (by simpa using h)]
      rfl

theorem State.memLine_setMemLine_same (s : State) (l : Nat) (ws : List Word) : (s.setMemLine l ws).memLine l = (List.range 16).map (wd ws) := by
  refine List.map_congr_left fun i hi => ?_
  have hi' := List.mem_range.mp hi
  have hget := smGet_putWords_in ((List.range 16).map (wd ws)) s.coh.mem (16 * l) (i := i) (by simpa using hi')
  refine hget.trans ?_
  rw [wd, List.getD_eq_getElem?_getD, List.getElem?_map, List.getElem?_range hi']
  rfl

theorem State.memLine_setMemLine_ne (s : State) {l m : Nat} (h : m ≠ l) (ws : List Word) : (s.setMemLine l ws).memLine m = s.memLine m := by
  refine List.map_congr_left fun i hi => ?_
  have hi' := List.mem_range.mp hi
  exact smGet_putWords_out _ _ _ (by simp; omega)

theorem State.updTrans_none {s : State} {l : Nat} (h : s.transOf l = none) (f : CohTrans → CohTrans) : s.updTrans l f = s := by
  have hmap : s.coh.trans.map (fun t => if t.line = l then f t else t) = s.coh.trans := by
    refine (List.map_congr_left fun t ht => ?_).trans (List.map_id _)
    rw [State.transOf, List.find?_eq_none] at h
    exact if_neg (fun hl => h t ht (by simp [hl]))
  unfold State.updTrans
  rw [hmap]
  rfl

theorem State.tryClose_none {s : State} {l : Nat} (h : s.transOf l = none) : s.tryClose l = s := by
  unfold State.tryClose
  rw [h]

theorem State.setMemLine_keeps (s : State) (l : Nat) (ws : List Word) : (s.setMemLine l ws).coh.trans = s.coh.trans ∧
    (s.setMemLine l ws).coh.waiting = s.coh.waiting ∧ (s.setMemLine l ws).coh.net = s.coh.net := by
  unfold State.setMemLine State.setPoison
  generalize putWords s.coh.mem (16 * l) ((List.range 16).map (wd ws)) = m
  exact ⟨rfl, rfl, rfl⟩

/-- The home notes that a writeback of a line has landed. -/
def State.wbNoted (s : State) (l : Nat) : State := s.setCoh { s.coh with lastWb := some (l, s.clk.age) }

/-- The recorded owner that has written a line back owns it no more. -/
def State.wbClears (s : State) (a l : Nat) : State :=
  match s.dirOf l with
  | some (k, e) =>
    if e.owned ∧ e.owner.toNat = a ∧ (s.transOf l).all (fun t => t.wbFrom == none && t.fwdFrom == none)
    then s.setDir k e.orphan else s
  | none => s

/-- What waited for a writeback goes on. -/
def State.wbGoesOn (s : State) (a l : Nat) : State :=
  let s := (s.updTrans l (fun t => if t.wbFrom = some a then { t with wbFrom := none } else t)).tryClose l
  let mine := s.coh.waiting.filter (fun x => x.req.agent == a && x.req.line == l)
  let s := s.setCoh { s.coh with waiting := s.coh.waiting.filter (fun x => !(x.req.agent == a && x.req.line == l)) }
  mine.foldl (fun s x => s.handleReq x.req) s

theorem State.landWb_eq (s : State) (a l : Nat) (ws : List Word) :
    s.landWb a l ws = (((s.setMemLine l ws).wbNoted l).wbClears a l).wbGoesOn a l := rfl

theorem State.wbClears_eq (s : State) (a l : Nat) : ∃ d, s.wbClears a l = s.setCoh { s.coh with dir := d } := by
  unfold State.wbClears
  split
  · split
    · exact ⟨_, rfl⟩
    · exact ⟨s.coh.dir, rfl⟩
  · exact ⟨s.coh.dir, rfl⟩

theorem State.wbGoesOn_none {s : State} {a l : Nat} (htrans : s.transOf l = none) (hwait : s.coh.waiting = []) : s.wbGoesOn a l = s := by
  unfold State.wbGoesOn
  dsimp only
  rw [State.updTrans_none htrans, State.tryClose_none htrans, hwait]
  exact congrArg (fun w : List HeldReq => s.setCoh { s.coh with waiting := w }) hwait.symm

/-- A writeback of a line with no transaction, for which nothing waits, only writes memory. -/
theorem State.landWb_plain {s : State} {a l : Nat} (ws : List Word) (htrans : s.transOf l = none) (hwait : s.coh.waiting = []) :
    ∃ d w, (s.landWb a l ws).coh = { (s.setMemLine l ws).coh with lastWb := w, dir := d } := by
  obtain ⟨ht, hw, -⟩ := s.setMemLine_keeps l ws
  rw [s.landWb_eq]
  generalize s.setMemLine l ws = v at ht hw
  obtain ⟨d, hd⟩ := (v.wbNoted l).wbClears_eq a l
  have htrans' : ((v.wbNoted l).wbClears a l).transOf l = none := by
    rw [hd]
    show v.coh.trans.find? _ = none
    rw [ht]
    exact htrans
  have hwait' : ((v.wbNoted l).wbClears a l).coh.waiting = [] := by
    rw [hd]
    exact hw.trans hwait
  rw [State.wbGoesOn_none htrans' hwait', hd]
  exact ⟨d, _, rfl⟩

/-! ## Answers at the requester (R234, R240) -/

theorem State.reqOf_one {s : State} {r : CohReq} (h : s.coh.reqs = [r]) : s.reqOf r.agent r.line = some r := by
  rw [State.reqOf, h]
  simp

theorem State.updReq_one {s : State} {r : CohReq} (h : s.coh.reqs = [r]) (f : CohReq → CohReq) :
    s.updReq r.agent r.line f = s.setCoh { s.coh with reqs := [f r] } := by
  unfold State.updReq
  rw [h, List.map_cons, List.map_nil, if_pos ⟨rfl, rfl⟩]

theorem State.reqOf_endReq (s : State) (a l : Nat) : (s.endReq a l).reqOf a l = none := by
  show (s.coh.reqs.filter _).find? _ = none
  rw [List.find?_eq_none]
  intro r hr
  have h := (List.mem_filter.mp hr).2
  simpa only [Bool.not_eq_true', Bool.not_eq_true] using h

theorem State.releaseHeld_none {s : State} (h : s.coh.held = []) (a l : Nat) : s.releaseHeld a l = s := by
  unfold State.releaseHeld
  dsimp only
  rw [h]
  exact congrArg (fun x : List CohMsg => s.setCoh { s.coh with held := x }) h.symm

/-- A cache with room in the line's set takes the line. -/
theorem State.fill_room {s : State} (h : s.coh.caches.length < 8) (a l : Nat) (st : Moesi) (ws : List Word) :
    s.fill a l st ws = (s.setCached a l ⟨st, (List.range 16).map (wd ws), s.coh.order⟩).setCoh
      { (s.setCached a l ⟨st, (List.range 16).map (wd ws), s.coh.order⟩).coh with order := s.coh.order + 1 } := by
  unfold State.fill
  dsimp only
  rw [if_pos (Nat.lt_of_le_of_lt (List.length_filter_le _ _) h)]
  rfl

theorem exec_wb {s : State} {a l : Nat} {ws : List Word} {n : NetMsg} (hup : s.coreUp = true) (hm : n.msg = .wb a l ws) (hn : n ∈ s.coh.net) :
    exec (.wb a l ws) s = finish s (s.receiveMsg (.wb a l ws)) := by
  show finish s (whileUp s _) = _
  rw [whileUp_up _ hup]
  have hany : s.coh.net.any (fun n => n.msg == .wb a l ws) = true := List.any_eq_true.mpr ⟨n, hn, beq_iff_eq.mpr hm⟩
  rw [if_pos hany]

theorem exec_nack {s : State} {a l k : Nat} (hup : s.coreUp = true) (b : Bool) (h : s.coh.net.any (fun x => x.msg == .nack a l k true) = b) :
    exec (.nack a l k) s = finish s (s.receiveMsg (.nack a l k b)) := by
  show finish s (whileUp s _) = _
  rw [whileUp_up _ hup, h]
  cases b with
  | false => exact congrArg (finish s) (if_neg (by decide))
  | true => exact congrArg (finish s) (if_pos rfl)

theorem exec_nackResend {s : State} {r : CohReq} {d : Nat} (hup : s.coreUp = true) (hreqs : s.coh.reqs = [r]) (hd : r.resendAt = some d) :
    exec (.nackResend r.agent r.line) s =
      finish s (((s.until d).updReq r.agent r.line (fun r => { r with resendAt := none })).cohPut r.agent 0 (.request r.agent r.line r.kind)) := by
  show finish s (whileUp s _) = _
  rw [whileUp_up _ hup, State.reqOf_one hreqs]
  dsimp only
  rw [hd]

theorem State.until_coh (s : State) (n : Nat) : (s.until n).coh = s.coh := by
  obtain ⟨_, _, _, e, -⟩ := s.advance_eq (n - s.clk.age)
  rw [State.until, e]

theorem nackResend_makes {s : State} {r : CohReq} {d : Nat} (hup : s.coreUp = true) (hreqs : s.coh.reqs = [r]) (hd : r.resendAt = some d)
    (hage : s.clk.age < 2 ^ 63) (hlt : d < 2 ^ 62) : Makes (.nackResend r.agent r.line) s fun t =>
      t.coh.net = s.coh.net ++ [⟨r.agent, t.clk.age + 6, .request r.agent r.line r.kind⟩] ∧ t.coh.reqs = [{ r with resendAt := none }] ∧
      t.clk.age = max s.clk.age d := by
  have hexec := exec_nackResend hup hreqs hd
  have hcoh := s.until_coh d
  have hclk := s.untilAge (n := d) (by omega) (by omega)
  rw [State.updReq_one (by rw [hcoh, hreqs])] at hexec
  generalize s.until d = u at hexec hcoh hclk
  refine .of_finish hexec ⟨?_, rfl, hclk⟩
  rw [← hcoh]
  rfl

section
variable {s u : State} {n : NetMsg} {a l : Nat} (h : s.Arrives u n)

include h in
theorem deliver_wb (ws : List Word) (htrans : s.transOf l = none) (hwait : s.coh.waiting = []) : (u.deliver (.wb a l ws)).memLine l = (List.range 16).map (wd ws) ∧
    (u.deliver (.wb a l ws)).poisoned l = false ∧ (u.deliver (.wb a l ws)).coh.net = s.coh.net.erase n ∧
    ∀ m, m ≠ l → (u.deliver (.wb a l ws)).memLine m = s.memLine m := by
  obtain ⟨hnet, hmem, -, -, -, -, htr, hwt, -⟩ := h.keeps
  have htrans' : u.transOf l = none := by
    rw [State.transOf, htr]
    exact htrans
  obtain ⟨d, w, e⟩ := State.landWb_plain (a := a) ws htrans' (hwt.trans hwait)
  have hdel : u.deliver (.wb a l ws) = u.landWb a l ws := rfl
  obtain ⟨-, -, hn⟩ := u.setMemLine_keeps l ws
  have hsame := u.memLine_setMemLine_same l ws
  have hother (m : Nat) (hne : m ≠ l) := u.memLine_setMemLine_ne hne ws
  have hpoison : (u.setMemLine l ws).poisoned l = false := smGet_smSet_same _ _ _ _
  rw [hdel]
  generalize u.setMemLine l ws = v at e hn hsame hother hpoison
  have hline (m : Nat) : (u.landWb a l ws).memLine m = v.memLine m := by rw [State.memLine, e]; rfl
  refine ⟨(hline l).trans hsame, ?_, ?_, fun m hne => ?_⟩
  · rw [State.poisoned, e]
    exact hpoison
  · rw [e]
    exact hn.trans hnet
  · obtain ⟨-, -, -, -, h5, -⟩ := h.same a m
    exact (hline m).trans ((hother m hne).trans h5)

include h in
theorem deliver_nack {r : CohReq} (hreqs : s.coh.reqs = [r]) (k : Nat) (hcore : 8 ≤ r.agent) :
    (u.deliver (.nack r.agent r.line k false)).coh.net = s.coh.net.erase n ∧
    (u.deliver (.nack r.agent r.line k false)).coh.reqs = [{ r with resendAt := some ((u.deliver (.nack r.agent r.line k false)).clk.age + 16 * 2 ^ (k - 1)) }] := by
  obtain ⟨hnet, -, -, -, -, hrq, -⟩ := h.keeps
  have hreqs' : u.coh.reqs = [r] := hrq.trans hreqs
  have hdel : u.deliver (.nack r.agent r.line k false) = u.setCoh { u.coh with reqs := [{ r with resendAt := some (u.clk.age + 16 * 2 ^ (k - 1)) }] } := by
    show State.tookNack u r.agent r.line k false = _
    unfold State.tookNack
    rw [State.reqOf_one hreqs', if_neg (by simp), if_neg (by omega), State.updReq_one hreqs']
  rw [hdel]
  exact ⟨hnet, rfl⟩

include h in
theorem deliver_nackPinned {r : CohReq} (hreqs : s.coh.reqs = [r]) (k : Nat) (hlane : r.agent < 8) :
    (u.deliver (.nack r.agent r.line k true)).coh.reqs = [{ r with kind := .readNa }] ∧
    (u.deliver (.nack r.agent r.line k true)).coh.net = s.coh.net.erase n ++
      [⟨r.agent, (u.deliver (.nack r.agent r.line k true)).clk.age + 6, .request r.agent r.line .readNa⟩] := by
  obtain ⟨hnet, -, -, -, -, hrq, -⟩ := h.keeps
  have hreqs' : u.coh.reqs = [r] := hrq.trans hreqs
  have hdel : u.deliver (.nack r.agent r.line k true) =
      (u.setCoh { u.coh with reqs := [{ r with kind := .readNa }] }).cohPut r.agent 0 (.request r.agent r.line .readNa) := by
    show State.tookNack u r.agent r.line k true = _
    unfold State.tookNack
    rw [State.reqOf_one hreqs', if_neg (by simp), if_pos ⟨hlane, rfl⟩, State.updReq_one hreqs']
  rw [hdel]
  refine ⟨rfl, ?_⟩
  rw [← hnet]
  rfl

include h in
theorem deliver_err : (u.deliver (.err a l)).coh.net = s.coh.net.erase n ∧ (u.deliver (.err a l)).reqOf a l = none ∧
    (u.deliver (.err a l)).coh.caches = s.coh.caches := by
  obtain ⟨hnet, -, -, -, hc, -⟩ := h.keeps
  exact ⟨hnet, u.reqOf_endReq a l, hc⟩

include h in
theorem deliver_data (ws : List Word) (st : Moesi) (hheld : s.coh.held = []) (hroom : s.coh.caches.length < 8) :
    ((u.deliver (.data a l (some st) false ws)).cached a l).state = st ∧
    ((u.deliver (.data a l (some st) false ws)).cached a l).words = (List.range 16).map (wd ws) := by
  obtain ⟨-, -, -, -, hc, -, -, -, hh⟩ := h.keeps
  have hdel : u.deliver (.data a l (some st) false ws) = ((u.endReq a l).fill a l st ws).releaseHeld a l := rfl
  have hroom' : (u.endReq a l).coh.caches.length < 8 := by
    show u.coh.caches.length < 8
    rw [hc]
    exact hroom
  have hheld' : ((u.endReq a l).fill a l st ws).coh.held = [] := by
    rw [State.fill_room hroom']
    exact hh.trans hheld
  have hget : ((u.endReq a l).fill a l st ws).cached a l = ⟨st, (List.range 16).map (wd ws), (u.endReq a l).coh.order⟩ := by
    rw [State.fill_room hroom']
    exact cached_setCached _ _ _ _
  rw [hdel, State.releaseHeld_none hheld', hget]
  exact ⟨rfl, rfl⟩

include h in
theorem deliver_dataNa (ws : List Word) (hheld : s.coh.held = []) : (u.deliver (.data a l none false ws)).coh.net = s.coh.net.erase n ∧
    (u.deliver (.data a l none false ws)).reqOf a l = none ∧ (u.deliver (.data a l none false ws)).coh.caches = s.coh.caches := by
  obtain ⟨hnet, -, -, -, hc, -, -, -, hh⟩ := h.keeps
  have hdel : u.deliver (.data a l none false ws) = (u.endReq a l).releaseHeld a l := rfl
  rw [hdel, State.releaseHeld_none (s := u.endReq a l) (hh.trans hheld)]
  exact ⟨hnet, u.reqOf_endReq a l, hc⟩

include h in
theorem deliver_grant (hheld : s.coh.held = []) (hline : (s.cached a l).state ≠ .i) : (u.deliver (.grant a l false)).coh.net = s.coh.net.erase n ∧
    (u.deliver (.grant a l false)).reqOf a l = none ∧ (u.deliver (.grant a l false)).cached a l = { s.cached a l with state := .m } := by
  obtain ⟨hnet, -, -, -, hc, -, -, -, hh⟩ := h.keeps
  obtain ⟨-, -, h3, -⟩ := h.same a l
  have hline' : ((u.endReq a l).cached a l).state ≠ .i := by
    show (u.cached a l).state ≠ .i
    rw [h3]
    exact hline
  have hdel : u.deliver (.grant a l false) = ((u.endReq a l).setCached a l { u.cached a l with state := .m }).releaseHeld a l := by
    show State.tookGrant u a l false = _
    unfold State.tookGrant
    dsimp only
    rw [if_neg (by decide), if_neg hline']
    rfl
  rw [hdel, State.releaseHeld_none (s := (u.endReq a l).setCached a l _) (hh.trans hheld), ← h3]
  exact ⟨hnet, u.reqOf_endReq a l, cached_setCached _ _ _ _⟩

end

/-- Settles O44: each message by its delivery in its turn. -/
theorem coherenceMessagesComplete : Obligations.CoherenceMessagesComplete := by
  unfold Obligations.CoherenceMessagesComplete
  refine ⟨fun s a l n hup ha hl hturn hage hdue => ?_, ?_⟩
  · have hrow {i : Instr} {m : CohMsg} {P : State → Prop} (he : exec i s = finish s (whileUp s (fun s => s.receiveMsg m))) (hm : n.msg = m)
        (hp : ∀ u, s.Arrives u n → P (s.after (u.deliver m))) : Makes i s P := by
      rw [whileUp_up _ hup] at he
      exact .of_msg he hm hturn hage hdue hp
    refine ⟨fun r hfail hdd hgate hsup => ⟨fun hm => ?_, fun hm => ?_, fun hm => ?_, fun hm hwb => ?_⟩, fun hm hfail hdd => ?_, ?_, fun ws hm htrans hwait => ?_,
      fun k r hreqs hra hrl => ⟨fun hm hcore hnone => ?_, fun hm hlane => ?_⟩, fun hm => ?_, fun ws st hm hheld hroom => ?_, fun ws hm hheld => ?_,
      fun hm hheld hline => ?_, fun ws c hm => ?_⟩
    · refine hrow rfl hm fun u h => ?_
      obtain ⟨h1, h2, h3⟩ := deliver_fwdS r h hfail hdd hgate hsup
      exact ⟨h3, h1, h2⟩
    · refine hrow rfl hm fun u h => ?_
      obtain ⟨h1, h2⟩ := deliver_fwdM r h hfail hdd hgate hsup
      exact ⟨h2, h1⟩
    · refine hrow rfl hm fun u h => ?_
      obtain ⟨h1, h2⟩ := deliver_fwdNa r h hfail hdd hgate hsup
      exact ⟨h2, h1⟩
    · exact hrow rfl hm fun u h => deliver_recall h hfail hdd hgate hsup hwb
    · exact hrow rfl hm fun u h => deliver_inv h hfail hdd
    · rintro x r htrans rfl hreq hrl hdir hwb hsent hok
      refine ⟨fun hacks hfwd hgrant hm => hrow rfl hm fun u h => ?_, fun hacks hfwd hm => hrow rfl hm fun u h => ?_,
        fun hacks hfwd hgrant hm hnowb => hrow rfl hm fun u h => ?_⟩
      · have hack := deliver_invAck h htrans hreq hdir hwb hsent hok hacks hfwd hgrant
        rw [hrl] at hack
        exact hack
      · exact deliver_fwdDone h htrans hreq hdir hwb hok hacks hfwd
      · have hmiss := deliver_fwdMiss h htrans hreq hdir hsent hok hacks hfwd hgrant hnowb
        rw [hrl] at hmiss
        exact hmiss
    · exact .of_msg (exec_wb hup hm (State.turn_mem hturn)) hm hturn hage hdue fun u h => deliver_wb h ws htrans hwait
    · subst hra hrl
      exact .of_msg (exec_nack hup false hnone) hm hturn hage hdue fun u h => deliver_nack h hreqs k hcore
    · subst hra hrl
      exact .of_msg (exec_nack hup true (List.any_eq_true.mpr ⟨n, State.turn_mem hturn, beq_iff_eq.mpr hm⟩)) hm hturn hage hdue
        fun u h => deliver_nackPinned h hreqs k hlane
    · exact hrow rfl hm fun u h => deliver_err h
    · exact hrow rfl hm fun u h => deliver_data h ws st hheld hroom
    · exact hrow rfl hm fun u h => deliver_dataNa h ws hheld
    · exact hrow rfl hm fun u h => deliver_grant h hheld hline
    · exact hrow rfl hm fun u h => ⟨h.keeps.1, h.keeps.2.1⟩
  · rintro s a l d r hup hreqs rfl rfl hd hage hlt
    exact nackResend_makes hup hreqs hd hage hlt

end Sys2Proof.Machine


/-! Coherence: atomic operations, the time limits of a home, and the action mailbox (R234, R239 to R247). -/

namespace Sys2Proof.Machine

/-! ## Atomic operations (R243, R244) -/

/-- Waiting for a time that has passed leaves the clock as it is. -/
theorem State.until_now {s : State} {n : Nat} (hn : n ≤ s.clk.age) (hage : s.clk.age < 2 ^ 64) (hdt : s.clk.dt < dtWrap) :
    (s.until n).clk = s.clk ∧ (s.until n).coh = s.coh ∧ (s.until n).sw = s.sw ∧ (s.until n).glue = s.glue ∧
      ∀ a, ¬ clockCounts a → (s.until n).rd a = s.rd a := by
  obtain ⟨v, r, c, e, hrd⟩ := s.advance_eq (n - s.clk.age)
  have hzero : n - s.clk.age = 0 := by omega
  refine ⟨?_, by rw [State.until, e], by rw [State.until, e], by rw [State.until, e], hrd⟩
  rw [State.until, e, hzero, Nat.add_zero, Nat.zero_mul, Nat.add_zero, Nat.mod_eq_of_lt hage, Nat.mod_eq_of_lt hdt]

/-- `u` is `s` with the clock where it was, and with other ties at the homes. -/
def State.Same (s u : State) : Prop :=
  (∃ ties at_, u.coh = { s.coh with ties := ties, atomicAt := at_ }) ∧ u.clk = s.clk ∧ u.sw = s.sw ∧ u.glue = s.glue ∧
    ∀ a, ¬ clockCounts a → u.rd a = s.rd a

/-- A message that reaches its home, where nothing else is due, is acted on at once. -/
theorem State.reachHome_new {s : State} {a : Nat} {m : CohMsg} (hage : s.clk.age < 2 ^ 63) (hdt : s.clk.dt < dtWrap) (hhome : 16 ≤ m.dest)
    (hlate : ∀ n ∈ s.coh.net, n.msg.dest = m.dest → s.clk.age < n.due) : ∃ u, s.reachHome a m = u.deliver m ∧ s.Same u ∧
      u.coh.atomicAt = s.coh.atomicAt := by
  generalize hx : (⟨a, s.clk.age, m⟩ : NetMsg) = x
  have hxm : x.msg = m := by rw [← hx]
  have hxdue : x.due = s.clk.age := by rw [← hx]
  generalize hv : s.setCoh { s.coh with net := s.coh.net ++ [x] } = v
  have hvcoh : v.coh = { s.coh with net := s.coh.net ++ [x] } := by rw [← hv]; rfl
  have hvclk : v.clk = s.clk := by rw [← hv]; rfl
  have hvsw : v.sw = s.sw ∧ v.glue = s.glue := by rw [← hv]; exact ⟨rfl, rfl⟩
  have hturn : v.turn x.msg = some x := State.turn_new (s := s) (by rw [hxm]; exact hhome) (by rw [hxm, hxdue]; exact hlate) (by rw [hvcoh])
  have hreach : s.reachHome a m = v.receiveMsg x.msg := by
    rw [hxm, ← hv, ← hx]
    rfl
  have hnew : x ∉ s.coh.net := by
    intro hmem
    have := hlate x hmem (by rw [hxm])
    omega
  have herase : (s.coh.net ++ [x]).erase x = s.coh.net := by rw [List.erase_append_right _ hnew, List.erase_cons_head, List.append_nil]
  obtain ⟨hclk, hcoh, hsw, hglue, hrd⟩ := State.until_now (s := v) (n := x.due) (by rw [hvclk]; omega) (by rw [hvclk]; omega) (by rw [hvclk]; exact hdt)
  obtain ⟨ties, htie⟩ := (v.until x.due).noteTie_eq x
  have harr : v.arrived x = (v.until x.due).setCoh { s.coh with ties := ties } := by
    unfold State.arrived State.offNet
    rw [htie]
    show (v.until x.due).setCoh { (v.until x.due).coh with net := (v.until x.due).coh.net.erase x, ties := ties } = _
    rw [hcoh, hvcoh, herase]
  refine ⟨v.arrived x, ?_, ⟨⟨ties, s.coh.atomicAt, ?_⟩, ?_, ?_, ?_, fun b hb => ?_⟩, by rw [harr]; rfl⟩
  · rw [hreach, State.receiveMsg_turn hturn, State.takeMsg_eq, hxm]
  · rw [harr]
    rfl
  · rw [harr]
    exact hclk.trans hvclk
  · rw [harr]
    exact hsw.trans hvsw.1
  · rw [harr]
    exact hglue.trans hvsw.2
  · rw [harr]
    refine (State.rd_of_vals (s := v.until x.due) rfl b).trans ((hrd b hb).trans ?_)
    rw [← hv]
    exact State.rd_of_vals (s := s) rfl b

/-- The memory after the words of a counter line from `i` on are written. -/
def ctrMem (l : Nat) (ws : List DWord) (m : SMap Word) (is : List Nat) : SMap Word :=
  is.foldl (fun m i => putWords m (16 * l + 2 * i) (toWords 2 (ws.getD i 0).toNat)) m

theorem State.setCtrs_eq (l : Nat) (ws : List DWord) (is : List Nat) (s : State) :
    is.foldl (fun s i => s.setCtr l i (ws.getD i 0)) s = s.setCoh { s.coh with mem := ctrMem l ws s.coh.mem is } := by
  induction is generalizing s with
  | nil => rfl
  | cons i is ih => exact (ih (s.setCtr l i (ws.getD i 0))).trans rfl

theorem State.setCtrLine_eq (s : State) (l : Nat) (ws : List DWord) :
    s.setCtrLine l ws = s.setCoh { s.coh with mem := ctrMem l ws s.coh.mem (List.range 8) } := s.setCtrs_eq l ws _

theorem State.setCtr_eq (s : State) (l w : Nat) (v : DWord) :
    s.setCtr l w v = s.setCoh { s.coh with mem := putWords s.coh.mem (16 * l + 2 * w) (toWords 2 v.toNat) } := rfl

/-- An atomic operation changes memory alone, and looks at memory, the policers and the time alone. -/
theorem State.atomicDo_eq (s : State) (l : Nat) (op : AtomicOp) : (s.atomicDo l op).1 = s.setCoh { s.coh with mem := (s.atomicDo l op).1.coh.mem } := by
  cases op with
  | add w a => rfl
  | add2 w a b => rfl
  | swap w v => rfl
  | cas w x v =>
    simp only [State.atomicDo]
    split <;> rfl
  | readLine => rfl
  | clearLine =>
    simp only [State.atomicDo, State.setCtrLine_eq]
    generalize ctrMem _ _ _ _ = m
    rfl
  | meter p e b c =>
    simp only [State.atomicDo, State.setCtrLine_eq]
    generalize ctrMem _ _ _ _ = m
    rfl

theorem State.atomicDo_of {s t : State} (hmem : t.coh.mem = s.coh.mem) (hclk : t.clk = s.clk) (hsw : t.sw = s.sw) (hglue : t.glue = s.glue) (l : Nat)
    (op : AtomicOp) : (t.atomicDo l op).1.coh.mem = (s.atomicDo l op).1.coh.mem ∧ (t.atomicDo l op).2 = (s.atomicDo l op).2 := by
  have hword (w : Nat) : t.ctrWord l w = s.ctrWord l w := by rw [State.ctrWord, hmem]; rfl
  have hwords : t.ctrWords l = s.ctrWords l := List.map_congr_left fun w _ => hword w
  have hpol (p : Nat) (e : BitVec 3) : t.policerAt p e = s.policerAt p e := by
    simp only [State.policerAt, State.verAt, State.ageOf, hsw, hglue]
    rfl
  have hns : t.dtNs = s.dtNs := by rw [State.dtNs, State.timeNs, hclk]; rfl
  cases op with
  | add w a => simp only [State.atomicDo, State.setCtr_eq, State.setCoh, hword, hmem, and_self]
  | add2 w a b => simp only [State.atomicDo, State.setCtr_eq, State.setCoh, hmem, State.ctrWord, and_self]
  | swap w v => simp only [State.atomicDo, State.setCtr_eq, State.setCoh, hword, hmem, and_self]
  | cas w x v =>
    simp only [State.atomicDo, hword, and_true]
    split
    · simp only [State.setCtr_eq, State.setCoh, hmem]
    · exact hmem
  | readLine => exact ⟨hmem, by simp only [State.atomicDo, hwords]⟩
  | clearLine => simp only [State.atomicDo, State.setCtrLine_eq, State.setCoh, hwords, hmem, and_self]
  | meter p e b c => simp only [State.atomicDo, State.setCtrLine_eq, State.setCoh, hwords, hpol, hns, hmem, and_self]

theorem State.Same.trans {s t u : State} (h : s.Same t) (k : t.Same u) : s.Same u := by
  obtain ⟨⟨t1, a1, h1⟩, h2, h3, h4, h5⟩ := h
  obtain ⟨⟨t2, a2, k1⟩, k2, k3, k4, k5⟩ := k
  refine ⟨⟨t2, a2, ?_⟩, k2.trans h2, k3.trans h3, k4.trans h4, fun a ha => (k5 a ha).trans (h5 a ha)⟩
  rw [k1, h1]

theorem State.atomicSlot_same {s : State} {l : Nat} (hat : smGet 0 s.coh.atomicAt (homeOf l) ≤ s.clk.age) (hage : s.clk.age < 2 ^ 63)
    (hdt : s.clk.dt < dtWrap) : s.Same (s.atomicSlot l) := by
  obtain ⟨hclk, hcoh, hsw, hglue, hrd⟩ := State.until_now hat (by omega) hdt
  have hslot : (s.atomicSlot l).coh = { s.coh with atomicAt := (s.atomicSlot l).coh.atomicAt } := by
    simp only [State.atomicSlot, State.setCoh, hcoh]
  exact ⟨⟨s.coh.ties, _, hslot⟩, hclk, hsw, hglue, fun a ha => (State.rd_of_vals (s := s.until (smGet 0 s.coh.atomicAt (homeOf l))) rfl a).trans (hrd a ha)⟩

theorem exec_atomic {s : State} {a l : Nat} (op : AtomicOp) (hup : s.coreUp = true) (hl : l < 2 ^ 19) (ha : a < 12) :
    exec (.atomic a l op) s = finish s (s.reachHome a (.atomic a l op)) := by
  show finish s (whileUp s _) = _
  rw [whileUp_up _ hup, if_pos ⟨decide_eq_true hl, by omega⟩]

/-- An atomic operation whose home is free for it has its effect there and answers. -/
theorem atomic_makes {s : State} {a l : Nat} (op : AtomicOp) (hup : s.coreUp = true) (ha : a < 12) (hl : l < 2 ^ 19) (hfail : s.agentFailed a = false)
    (hctr : s.ctrLine l = true) (hclean : s.poisoned l = false) (hage : s.clk.age < 2 ^ 63) (hdt : s.clk.dt < dtWrap)
    (hat : smGet 0 s.coh.atomicAt (homeOf l) ≤ s.clk.age) (hlate : ∀ n ∈ s.coh.net, n.msg.dest = 16 + homeOf l → s.clk.age < n.due) :
    Makes (.atomic a l op) s fun t => t.coh.mem = (s.atomicDo l op).1.coh.mem ∧
      t.coh.net = s.coh.net ++ [⟨16 + homeOf l, s.clk.age + 11, .atomicRes a l false (s.atomicDo l op).2.1 (s.atomicDo l op).2.2⟩] ∧
      t.rd Reg.cohereAtomicCount = w32 (min 0xFFFFFFFF ((s.rd Reg.cohereAtomicCount).toNat + 1)) := by
  have hdest : (CohMsg.atomic a l op).dest = 16 + homeOf l := rfl
  obtain ⟨u, hreach, hsame, hatu⟩ := State.reachHome_new (a := a) (m := .atomic a l op) hage hdt (by rw [hdest]; omega) (by rw [hdest]; exact hlate)
  have hslot : s.Same (u.atomicSlot l) :=
    hsame.trans (State.atomicSlot_same (by rw [hsame.2.1, hatu]; exact hat) (by rw [hsame.2.1]; exact hage) (by rw [hsame.2.1]; exact hdt))
  obtain ⟨⟨t0, a0, hucoh⟩, -⟩ := hsame
  obtain ⟨⟨t1, a1, hvcoh⟩, hvclk, hvsw, hvglue, hvrd⟩ := hslot
  have hufail : u.agentFailed a = false := by rw [State.agentFailed, hucoh]; exact hfail
  have huctr : u.ctrLine l = true := by rw [State.ctrLine, hucoh]; exact hctr
  have hact : u.deliver (.atomic a l op) = (((u.atomicSlot l).cnt Reg.cohereAtomicCount 1).atomicDo l op).1.homeSend 5
      (.atomicRes a l false (((u.atomicSlot l).cnt Reg.cohereAtomicCount 1).atomicDo l op).2.1 (((u.atomicSlot l).cnt Reg.cohereAtomicCount 1).atomicDo l op).2.2) := by
    show State.handleAtomic u a l op = _
    unfold State.handleAtomic State.atomicAct
    dsimp only
    rw [if_neg (by rw [hufail]; decide), if_neg (by rw [huctr]; simp; omega), if_neg (by rw [State.poisoned, hvcoh]; exact fun h => by rw [State.poisoned] at hclean; rw [hclean] at h; cases h)]
  generalize hw : (u.atomicSlot l).cnt Reg.cohereAtomicCount 1 = w at hact
  have hwcoh : w.coh = { s.coh with ties := t1, atomicAt := a1 } := by rw [← hw]; exact hvcoh
  have hwclk : w.clk = s.clk := by rw [← hw]; exact hvclk
  obtain ⟨hmem, hres⟩ := State.atomicDo_of (s := s) (t := w) (by rw [hwcoh]) hwclk (by rw [← hw]; exact hvsw) (by rw [← hw]; exact hvglue) l op
  have hok : (w.atomicDo l op).1.agentFailed (CohMsg.atomicRes a l false (w.atomicDo l op).2.1 (w.atomicDo l op).2.2).dest = false := by
    rw [State.atomicDo_eq]
    show w.agentFailed a = false
    rw [State.agentFailed, hwcoh]
    exact hfail
  rw [State.homeSend_eq hok, hres, State.atomicDo_eq w l op, hmem] at hact
  refine .of_finish (exec_atomic op hup hl ha) ?_
  rw [hreach, hact]
  refine ⟨rfl, ?_, ?_⟩
  · show w.coh.net ++ [⟨16 + homeOf l, w.clk.age + 5 + 6, _⟩] = _
    rw [hwcoh, hwclk]
  · rw [State.rd_after]
    refine (State.rd_of_vals (s := w) rfl _).trans ?_
    rw [← hw, State.rd_cnt_one, hvrd _ (by unfold clockCounts; decide)]

/-! ## Counter words (R243) -/

theorem dword_halves (lo hi : Word) : toWords 2 (BitVec.ofNat 64 (lo.toNat + 2 ^ 32 * hi.toNat)).toNat = [lo, hi] := by
  have hlo := lo.isLt
  have hhi := hi.isLt
  have hlt : lo.toNat + 2 ^ 32 * hi.toNat < 2 ^ 64 := by omega
  rw [BitVec.toNat_ofNat, Nat.mod_eq_of_lt hlt]
  have h1 : w32 (lo.toNat + 2 ^ 32 * hi.toNat) = lo := by
    apply BitVec.eq_of_toNat_eq
    rw [w32, BitVec.toNat_ofNat]
    omega
  have h2 : w32 ((lo.toNat + 2 ^ 32 * hi.toNat) / 2 ^ 32) = hi := by
    apply BitVec.eq_of_toNat_eq
    rw [w32, BitVec.toNat_ofNat]
    omega
  rw [toWords, toWords, toWords, h1, h2]

theorem halves_dword (v : DWord) : BitVec.ofNat 64 ((w32 v.toNat).toNat + 2 ^ 32 * (w32 (v.toNat / 2 ^ 32)).toNat) = v := by
  have hv := v.isLt
  apply BitVec.eq_of_toNat_eq
  rw [w32, w32, BitVec.toNat_ofNat, BitVec.toNat_ofNat, BitVec.toNat_ofNat]
  omega

theorem toWords_two (n : Nat) : toWords 2 n = [w32 n, w32 (n / 2 ^ 32)] := rfl

theorem State.ctrWord_setCtr_same (s : State) (l w : Nat) (v : DWord) : (s.setCtr l w v).ctrWord l w = v := by
  have h0 := smGet_putWords_in (toWords 2 v.toNat) s.coh.mem (16 * l + 2 * w) (i := 0) (by simp [toWords_two])
  have h1 := smGet_putWords_in (toWords 2 v.toNat) s.coh.mem (16 * l + 2 * w) (i := 1) (by simp [toWords_two])
  rw [State.ctrWord, State.setCtr_eq]
  show BitVec.ofNat 64 ((smGet 0 (putWords s.coh.mem (16 * l + 2 * w) (toWords 2 v.toNat)) (16 * l + 2 * w + 0)).toNat +
    2 ^ 32 * (smGet 0 (putWords s.coh.mem (16 * l + 2 * w) (toWords 2 v.toNat)) (16 * l + 2 * w + 1)).toNat) = v
  rw [h0, h1]
  exact halves_dword v

theorem State.ctrWord_setCtr_ne (s : State) {l w m i : Nat} (v : DWord) (hw : w < 8) (hi : i < 8) (h : (m, i) ≠ (l, w)) :
    (s.setCtr l w v).ctrWord m i = s.ctrWord m i := by
  have hne : m ≠ l ∨ i ≠ w := by
    by_cases hm : m = l
    · exact .inr fun hi' => h (by rw [hm, hi'])
    · exact .inl hm
  have hout (j : Nat) (hj : j < 2) : smGet 0 (putWords s.coh.mem (16 * l + 2 * w) (toWords 2 v.toNat)) (16 * m + 2 * i + j) =
      smGet 0 s.coh.mem (16 * m + 2 * i + j) := smGet_putWords_out _ _ _ (by rw [toWords_two, List.length_cons, List.length_cons, List.length_nil]; omega)
  rw [State.ctrWord, State.setCtr_eq, State.ctrWord]
  show BitVec.ofNat 64 ((smGet 0 (putWords s.coh.mem (16 * l + 2 * w) (toWords 2 v.toNat)) (16 * m + 2 * i + 0)).toNat +
    2 ^ 32 * (smGet 0 (putWords s.coh.mem (16 * l + 2 * w) (toWords 2 v.toNat)) (16 * m + 2 * i + 1)).toNat) = _
  rw [hout 0 (by decide), hout 1 (by decide)]
  rfl

theorem State.ctrWord_of_mem {s t : State} (h : t.coh.mem = s.coh.mem) (l w : Nat) : t.ctrWord l w = s.ctrWord l w := by
  rw [State.ctrWord, h]
  rfl

/-- The words of a counter line are those of its memory. -/
theorem State.ctrWords_flat (s : State) (l : Nat) : (s.ctrWords l).flatMap (fun d => toWords 2 d.toNat) = s.memLine l := by
  have hword (w : Nat) : toWords 2 (s.ctrWord l w).toNat = [smGet 0 s.coh.mem (16 * l + 2 * w), smGet 0 s.coh.mem (16 * l + 2 * w + 1)] := dword_halves _ _
  rw [State.ctrWords, List.flatMap_map, State.memLine]
  simp only [hword]
  rfl

/-- A cleared counter line holds zeros, and no other memory changes. -/
theorem ctrMem_clear (l k : Nat) (hk : k ≤ 8) (m : SMap Word) (j : Nat) : smGet 0 (ctrMem l (List.replicate 8 0) m (List.range k)) j =
    if 16 * l ≤ j ∧ j < 16 * l + 2 * k then 0 else smGet 0 m j := by
  induction k with
  | zero => rw [if_neg (by omega)]; rfl
  | succ k ih =>
    have hzero : (List.replicate 8 (0 : DWord)).getD k 0 = 0 := by
      rw [List.getD_eq_getElem?_getD, List.getElem?_replicate, if_pos (by omega)]
      rfl
    have hwords : toWords 2 (0 : DWord).toNat = [0, 0] := rfl
    rw [List.range_succ, ctrMem, List.foldl_append, List.foldl_cons, List.foldl_nil, hzero, hwords]
    change smGet 0 (putWords (ctrMem l (List.replicate 8 0) m (List.range k)) (16 * l + 2 * k) [0, 0]) j = _
    rw [putWords, putWords, putWords]
    by_cases h1 : j = 16 * l + 2 * k + 1
    · rw [h1, smGet_smSet_same, if_pos (by omega)]
    · rw [smGet_smSet_ne _ _ _ _ h1]
      by_cases h2 : j = 16 * l + 2 * k
      · rw [h2, smGet_smSet_same, if_pos (by omega)]
      · rw [smGet_smSet_ne _ _ _ _ h2, ih (by omega)]
        by_cases h3 : 16 * l ≤ j ∧ j < 16 * l + 2 * k
        · rw [if_pos h3, if_pos (by omega)]
        · rw [if_neg h3, if_neg (by omega)]

/-! ## The time limits of a home (R234, R239) -/

theorem seniorLapse_makes {s : State} {x : Senior} (hup : s.coreUp = true) (hsen : s.coh.seniors = [x]) (hage : s.clk.age < 2 ^ 63) (hat : x.at_ < 2 ^ 62) :
    Makes (.seniorReservationLapse x.line) s fun t => t.coh.seniors = [] ∧ t.clk.age = max s.clk.age (x.at_ + 1250) := by
  have hexec : exec (.seniorReservationLapse x.line) s =
      finish s ((s.until (x.at_ + usC)).setCoh { (s.until (x.at_ + usC)).coh with seniors := (s.until (x.at_ + usC)).coh.seniors.erase x }) := by
    show finish s (whileUp s _) = _
    rw [whileUp_up _ hup, hsen, List.foldl_cons, List.foldl_nil, if_neg (not_not_intro rfl)]
  have hcoh := s.until_coh (x.at_ + usC)
  have hclk := s.untilAge (n := x.at_ + usC) (by omega) (by unfold usC; omega)
  refine .of_finish hexec ⟨?_, hclk⟩
  show (s.until (x.at_ + usC)).coh.seniors.erase x = []
  rw [hcoh, hsen]
  exact List.erase_cons_head x []

theorem State.homeSend_frame (s : State) (d : Nat) (m : CohMsg) : ∃ net, s.homeSend d m = s.setCoh { s.coh with net := net } := by
  unfold State.homeSend
  split
  · exact ⟨s.coh.net, rfl⟩
  · exact ⟨_, rfl⟩

theorem State.closeWith_frame (s : State) (d : Nat) (m : CohMsg) : ∃ net cl, s.closeWith d m = s.setCoh { s.coh with net := net, closing := cl } := by
  obtain ⟨net, h⟩ := s.homeSend_frame d m
  unfold State.closeWith
  rw [h]
  exact ⟨net, _, rfl⟩

/-- What closing a transaction changes in the home. -/
def State.Closes (s t : State) : Prop :=
  ∃ net cl d o, t = s.setCoh { s.coh with net := net, closing := cl, dir := d, order := o }

theorem State.Closes.trans {s t u : State} (h : s.Closes t) (k : t.Closes u) : s.Closes u := by
  obtain ⟨_, _, _, _, rfl⟩ := h
  obtain ⟨_, _, _, _, rfl⟩ := k
  exact ⟨_, _, _, _, rfl⟩

theorem State.Closes.refl (s : State) : s.Closes s := ⟨s.coh.net, s.coh.closing, s.coh.dir, s.coh.order, rfl⟩

theorem State.closeWith_closes (s : State) (d : Nat) (m : CohMsg) : s.Closes (s.closeWith d m) := by
  obtain ⟨net, cl, h⟩ := s.closeWith_frame d m
  exact ⟨net, cl, s.coh.dir, s.coh.order, h⟩

theorem State.settleDir_closes (s : State) (k : Nat) (e : DirEntry) (r : CohReq) (miss : Bool) : s.Closes (s.settleDir k e r miss) := by
  obtain ⟨d, h⟩ := s.settleDir_eq k e r miss
  exact ⟨s.coh.net, s.coh.closing, d, s.coh.order, h⟩

theorem State.putDir_closes (s : State) (k l : Nat) (d : DirState) (o : Nat) (sh : BitVec 12) (p : Nat) : s.Closes (s.putDir k l d o sh p) :=
  ⟨s.coh.net, s.coh.closing, _, _, rfl⟩

theorem State.allocate_closes (s : State) (r : CohReq) (k : Nat) : s.Closes (s.allocate r k) := by
  unfold State.allocate
  dsimp only
  split
  · exact (s.putDir_closes _ _ _ _ _ _).trans (State.closeWith_closes _ _ _)
  · exact (s.putDir_closes _ _ _ _ _ _).trans (State.closeWith_closes _ _ _)

/-- The request of a transaction that has ended is answered, or not. -/
theorem State.tryClose_frame {s : State} {x : CohTrans} {r : CohReq} (htrans : s.coh.trans = [x]) (hacks : x.acks = []) (hfwd : x.fwdFrom = none)
    (hwb : x.wbFrom = none) (hreq : x.req = some r) : ∃ net cl d o, s.tryClose x.line =
      s.setCoh { s.coh with trans := [], net := net, closing := cl, dir := d, order := o } := by
  obtain ⟨d, hend⟩ := State.endTrans_eq htrans
  have hof : s.transOf x.line = some x := by
    rw [State.transOf, htrans]
    simp
  have hcloses : (s.endTrans x.line).Closes (s.tryClose x.line) := by
    unfold State.tryClose
    rw [hof]
    dsimp only
    rw [if_neg (by simp [hacks, hfwd, hwb]), hreq]
    cases (s.endTrans x.line).dirOf x.line with
    | some y =>
      refine State.Closes.trans ?_ (State.settleDir_closes _ _ _ _ _)
      split
      · exact .refl _
      · split
        · exact State.closeWith_closes _ _ _
        · exact State.closeWith_closes _ _ _
    | none =>
      dsimp only
      split
      · exact .refl _
      · split
        · exact State.closeWith_closes _ _ _
        · split
          · exact State.closeWith_closes _ _ _
          · cases (s.endTrans x.line).freeWay x.line with
            | none => exact State.closeWith_closes _ _ _
            | some k => exact State.allocate_closes _ _ _
  rw [hend] at hcloses
  obtain ⟨net, cl, d', o, h⟩ := hcloses
  exact ⟨net, cl, d', o, h⟩

/-- The home of a line gives its silent agent up. -/
theorem State.silentOn_one (s : State) (l a : Nat) (ha : a < 16) : (s.silentOn l [a]).coh.trans = s.coh.trans ∧ (s.silentOn l [a]).poisoned l = true ∧
    (s.silentOn l [a]).agentFailed a = true ∧ (s.silentOn l [a]).clk = s.clk ∧
    (s.silentOn l [a]).rd Reg.cohereTimeoutCount = w32 (min 0xFFFFFFFF ((s.rd Reg.cohereTimeoutCount).toNat + 1)) := by
  generalize hv : ((s.setPoison l true).setCoh { (s.setPoison l true).coh with poisonLast := w32 (l + a * 2 ^ 24) }).failAgent (homeOf l) a = v
  have hvtrans : v.coh.trans = s.coh.trans ∧ v.coh.poison = smSet false s.coh.poison l true ∧
      v.coh.failed = s.coh.failed ||| BitVec.ofNat 16 (2 ^ a) ∧ v.clk = s.clk ∧ v.reg = s.reg := by
    rw [← hv]
    exact ⟨rfl, rfl, rfl, rfl, rfl⟩
  obtain ⟨h1, h2, h3, h4, h5⟩ := hvtrans
  have hone : s.silentOn l [a] = (v.cnt Reg.cohereTimeoutCount 1).event 0x06 0x01 0 (w32 (l + homeOf l * 2 ^ 24)) (w32 a) := by
    rw [← hv]
    rfl
  obtain ⟨vals, ev, he, hrd⟩ := State.event_eq (v.cnt Reg.cohereTimeoutCount 1) 0x06 0x01 0 (w32 (l + homeOf l * 2 ^ 24)) (w32 a)
  have hcoh : (s.silentOn l [a]).coh = v.coh ∧ (s.silentOn l [a]).clk = v.clk := by
    rw [hone, he]
    exact ⟨rfl, rfl⟩
  obtain ⟨hc, hk⟩ := hcoh
  refine ⟨by rw [hc, h1], ?_, ?_, by rw [hk, h4], ?_⟩
  · rw [State.poisoned, hc, h2, smGet_smSet_same]
  · rw [State.agentFailed, hc, h3, BitVec.getLsbD_or, BitVec.getLsbD_ofNat]
    simp [ha]
  · rw [hone, hrd _ (by decide), State.rd_cnt_one, State.rd_of_reg h5]

theorem cohereTimeout_makes {s : State} {x : CohTrans} {r : CohReq} {a : Nat} (hup : s.coreUp = true) (htrans : s.coh.trans = [x])
    (hreq : x.req = some r) (hacks : x.acks = []) (hfwd : x.fwdFrom = some a) (hwb : x.wbFrom = none) (ha : a < 12) (hage : s.clk.age < 2 ^ 63)
    (hsince : x.since < 2 ^ 62) : Makes (.cohereTimeout x.line) s fun t =>
      t.coh.trans = [] ∧ t.poisoned x.line = true ∧ t.agentFailed a = true ∧ t.clk.age = max s.clk.age (x.since + 5000) ∧
      t.rd Reg.cohereTimeoutCount = w32 (min 0xFFFFFFFF ((s.rd Reg.cohereTimeoutCount).toNat + 1)) := by
  have hof : s.transOf x.line = some x := by
    rw [State.transOf, htrans]
    simp
  have hexec : exec (.cohereTimeout x.line) s = finish s (((s.until (x.since + 5000)).silentOn x.line [a]).answered x.line
      (fun t => { t with acks := [], fwdFrom := none, wbFrom := none })) := by
    show finish s (whileUp s _) = _
    rw [whileUp_up _ hup]
    unfold State.timeoutLine
    rw [hof]
    dsimp only
    rw [hacks, hfwd, hwb]
    rfl
  obtain ⟨h1, h2, h3, h4, h5⟩ := (s.until (x.since + 5000)).silentOn_one x.line a (by omega)
  have hclk := s.untilAge (n := x.since + 5000) (by omega) (by omega)
  rw [s.until_coh, htrans] at h1
  rw [s.until_rd _ (by unfold clockCounts; decide)] at h5
  rw [← h4] at hclk
  generalize (s.until (x.since + 5000)).silentOn x.line [a] = u at hexec h1 h2 h3 hclk h5
  have hans : ∃ net cl d o, u.answered x.line (fun t => { t with acks := [], fwdFrom := none, wbFrom := none }) =
      u.setCoh { u.coh with trans := [], net := net, closing := cl, dir := d, order := o } := by
    unfold State.answered
    rw [State.updTrans_one h1]
    exact State.tryClose_frame (s := u.setCoh { u.coh with trans := [{ x with acks := [], fwdFrom := none, wbFrom := none }] })
      (x := { x with acks := [], fwdFrom := none, wbFrom := none }) rfl rfl rfl rfl hreq
  obtain ⟨net, cl, d, o, he⟩ := hans
  rw [he] at hexec
  exact .of_finish hexec ⟨rfl, h2, h3, hclk, (State.rd_of_vals (s := u) rfl _).trans h5⟩

end Sys2Proof.Machine


/-! The action mailbox (R245 to R247). -/

namespace Sys2Proof.Machine

/-! ## A line that no cache and no message holds -/

/-- The network, the caches and the homes hold nothing, and no agent has failed. -/
def State.Quiet (s : State) : Prop :=
  s.coh.trans = [] ∧ s.coh.waiting = [] ∧ s.coh.seniors = [] ∧ s.coh.closing = [] ∧ s.coh.caches = [] ∧ s.coh.net = [] ∧ s.coh.dir = [] ∧
    s.coh.failed = 0

section
variable {s : State} (h : s.Quiet)

include h in
theorem State.Quiet.transOf (l : Nat) : s.transOf l = none := by
  obtain ⟨ht, -⟩ := h
  rw [State.transOf, ht]
  rfl

include h in
theorem State.Quiet.dirOf (l : Nat) : s.dirOf l = none := by
  obtain ⟨-, -, -, -, -, -, hd, -⟩ := h
  rw [State.dirOf, State.waysOf, hd]
  rfl

include h in
theorem State.Quiet.cached (a l : Nat) : s.cached a l = line0 := by
  obtain ⟨-, -, -, -, hc, -⟩ := h
  rw [State.cached, hc]
  rfl

include h in
theorem State.Quiet.agentFailed (a : Nat) : s.agentFailed a = false := by
  obtain ⟨-, -, -, -, -, -, -, hf⟩ := h
  rw [State.agentFailed, hf]
  exact BitVec.getLsbD_zero

include h in
theorem State.Quiet.clean (l : Nat) : [8, 9, 10, 11].any (fun a => (s.cached a l).state.dirty && !s.agentFailed a) = false := by
  simp only [h.cached, List.any_cons, List.any_nil]
  rfl

include h in
theorem State.Quiet.lineWords (l : Nat) : s.lineWords l = s.memLine l := by
  have hfind : [8, 9, 10, 11].find? (fun a => (s.cached a l).state.dirty && !s.agentFailed a) = none := by
    have hc := h.clean l
    rw [List.any_eq_false] at hc
    exact List.find?_eq_none.mpr hc
  have hwb (a : Nat) : s.wbOf a l = none := by
    obtain ⟨-, -, -, -, -, hn, -⟩ := h
    rw [State.wbOf, hn]
    rfl
  unfold State.lineWords
  rw [hfind]
  dsimp only
  simp only [hwb]
  rfl

include h in
theorem State.Quiet.settleLine (l : Nat) : s.settleLine l = s := by
  have htrans := h.transOf l
  obtain ⟨-, hw, -, hc, -, hn, -⟩ := h
  have hsettle : State.settle (255 + 1) l s = s := by
    unfold State.settle
    rw [hn, htrans, hw]
    rfl
  unfold State.settleLine
  dsimp only
  rw [hsettle, hc]
  exact if_neg (Nat.not_lt_zero _)

include h in
theorem State.Quiet.passHome (a l : Nat) : s.passHome a l = s := by
  have htrans := h.transOf l
  have hsettle := h.settleLine l
  obtain ⟨-, -, hsen, hc, -⟩ := h
  have hbusy : s.lineBusy l = false := by
    rw [State.lineBusy, htrans, hc]
    exact decide_eq_false (Nat.not_lt_zero s.clk.age)
  have hfree : (if s.lineBusy l = true then (s.noteNack a l 1).advance 16 else s) = s := if_neg (by rw [hbusy]; decide)
  have hsame : s.setCoh { s.coh with seniors := [] } = s := congrArg (fun x : List Senior => s.setCoh { s.coh with seniors := x }) hsen.symm
  unfold State.passHome
  dsimp only
  rw [hfree, hsettle]
  simp only [hsen, List.filter_nil, List.isEmpty_nil, if_true]
  exact hsame

theorem uncache_empty (s : State) (hc : s.coh.caches = []) (a l : Nat) : s.uncache a l = s := by
  have hset : smSet line0 s.coh.caches (cacheKey a l) line0 = s.coh.caches := by
    rw [hc]
    exact if_pos rfl
  unfold State.uncache State.setCached
  rw [hset]
  rfl

include h in
theorem State.Quiet.flushLine (l : Nat) : s.flushLine l = s := by
  have hsettle := h.settleLine l
  have hclean := h.clean l
  have hdir := h.dirOf l
  have huncache (as : List Nat) : as.foldl (fun s a => s.uncache a l) s = s := by
    obtain ⟨-, -, -, -, hc, -⟩ := h
    induction as with
    | nil => rfl
    | cons a as ih => rw [List.foldl_cons, uncache_empty s hc, ih]
  unfold State.flushLine
  dsimp only
  rw [hsettle, if_neg (by rw [hclean]; decide), huncache, hdir]
  rfl

include h in
theorem State.Quiet.makeWay (l : Nat) : s.makeWay l = (s, some (wayKey l 0)) := by
  have hfree : s.freeWay l = some (wayKey l 0) := by
    obtain ⟨-, -, -, -, -, -, hd, -⟩ := h
    rw [State.freeWay, hd]
    rfl
  have htake : s.takeWay l = (s, some (wayKey l 0)) := by
    unfold State.takeWay
    rw [hfree]
  unfold State.makeWay
  rw [htake]

/-- The firmware's write of a line that nothing holds puts it in M in the cache of C0. -/
def State.written (s : State) (i : Nat) (data : List Word) : State :=
  ((s.putDir (wayKey (i / 2) 0) (i / 2) .excl mailboxAgent 0 0).fill mailboxAgent (i / 2) .m (s.lineWith i data))

include h in
theorem State.Quiet.fwWrite (i : Nat) (data : List Word) : s.fwWrite i data 0 = s.written i data := by
  unfold State.fwWrite
  dsimp only
  rw [h.passHome, h.flushLine, h.makeWay]
  dsimp only
  rw [if_pos rfl, h.dirOf]
  rfl

end

/-! ## The command register (R245) -/

theorem cmdGo {op : Nat} (hop : op < 4) {v : Word} (hv : v &&& 0x7FFFFFF8#32 = 0) : merge v (w32 (2 ^ 31 + op)) 0x80000007 = w32 (2 ^ 31 + op) := by
  have hmask : ~~~(w32 0x80000007) = 0x7FFFFFF8#32 := by decide
  rw [merge, hmask, hv]
  obtain rfl | rfl | rfl | rfl := lt_four_cases hop <;> decide

theorem cmdWord {op : Nat} (hop : op < 4) : merge 0 (w32 (2 ^ 31 + op)) 0x7FFFFFFF = w32 op ∧ bit (w32 (2 ^ 31 + op)) 31 = true ∧
    strayBits (w32 op) 0xFF07 = false ∧ fld (w32 op) 0 3 = op ∧ fld (w32 op) 8 8 = 0 := by
  obtain rfl | rfl | rfl | rfl := lt_four_cases hop <;> decide

/-- The mailbox as the firmware latches it. -/
def State.latched (s : State) (op : Nat) : Mailbox :=
  ⟨op, 0, s.rf Reg.cohereActIndex 0 20, (List.range 8).map (fun n => s.rd (Reg.cohereActData n)), 0, false, 0, 0⟩

theorem State.latch_eq (s : State) {op : Nat} (hop : op < 4) : (s.wr Reg.cohereActCmd (w32 op)).latchMailbox = s.latched op := by
  obtain ⟨-, -, hstray, hop', hglue⟩ := cmdWord hop
  have hdata : (fun n => (s.wr Reg.cohereActCmd (w32 op)).rd (Reg.cohereActData n)) = fun n => s.rd (Reg.cohereActData n) := by
    funext n
    exact State.rd_wr_ne _ _ (by unfold Reg.cohereActData Reg.cohereActCmd; omega)
  unfold State.latchMailbox State.latched State.rf
  rw [hdata, State.rd_wr_same, State.rd_wr_ne _ _ (show Reg.cohereActIndex ≠ Reg.cohereActCmd by decide), if_neg (by rw [hstray]; decide), hop', hglue]

/-- A request of the mailbox, with the firmware up and nothing else running. -/
theorem State.mailboxRow_eq {s : State} {op : Nat} {v : Word} (hop : op < 4) (hv : v &&& 0x7FFFFFF8#32 = 0) (hfw : s.fwUp = true)
    (hidle : s.coh.mailbox = none) (hnext : s.coh.mailboxNext = false) :
    s.mailboxRow op v = (s.wr Reg.cohereActCmd (w32 op)).mailboxRun (s.latched op) := by
  obtain ⟨hword, hgo, -⟩ := cmdWord hop
  have hready : (s.wr Reg.cohereActCmd (w32 op)).coh.mailbox.isNone = true ∧ ¬ (s.wr Reg.cohereActCmd (w32 op)).coh.mailboxNext = true := by
    refine ⟨?_, ?_⟩
    · show s.coh.mailbox.isNone = true
      rw [hidle]
      rfl
    · show ¬ s.coh.mailboxNext = true
      rw [hnext]
      decide
  have hup : (s.wr Reg.cohereActCmd (w32 op)).fwUp = true := hfw
  unfold State.mailboxRow State.mailboxGo
  dsimp only
  rw [cmdGo hop hv, hword, if_neg (not_not_intro hgo), if_pos hready]
  unfold State.mailboxAccept
  dsimp only
  rw [s.latch_eq hop, if_pos hup]

/-- The state in which the firmware executes the request. -/
def State.mailing (s : State) (op : Nat) : State :=
  (s.wr Reg.cohereActCmd (w32 op)).setCoh { (s.wr Reg.cohereActCmd (w32 op)).coh with mailbox := some (s.latched op) }

theorem State.mailing_rd (s : State) (op : Nat) {a : Nat} (h : a ≠ Reg.cohereActCmd) : (s.mailing op).rd a = s.rd a :=
  (State.rd_of_vals (s := s.wr Reg.cohereActCmd (w32 op)) rfl a).trans (State.rd_wr_ne _ _ h)

theorem State.mailing_quiet {s : State} (op : Nat) (h : s.Quiet) : (s.mailing op).Quiet := h

/-! ## Words in the read data registers -/

theorem State.putRdata_eq (ws : List Word) (k : Nat) (s : State) : ∃ v, (List.range k).foldl (fun s n => s.wr (Reg.cohereActRdata n) (wd ws n)) s =
    { s with reg := { s.reg with vals := v } } ∧
    (∀ n, n < k → ((List.range k).foldl (fun s n => s.wr (Reg.cohereActRdata n) (wd ws n)) s).rd (Reg.cohereActRdata n) = wd ws n) := by
  induction k with
  | zero => exact ⟨s.reg.vals, rfl, fun n hn => absurd hn (Nat.not_lt_zero n)⟩
  | succ k ih =>
    obtain ⟨v, e, hrd⟩ := ih
    rw [List.range_succ, List.foldl_append, List.foldl_cons, List.foldl_nil]
    refine ⟨smSet (resetOf (Reg.cohereActRdata k)) v (Reg.cohereActRdata k) (wd ws k), by rw [e]; rfl, fun n hn => ?_⟩
    by_cases hk : n = k
    · rw [hk, State.rd_wr_same]
    · rw [State.rd_wr_ne _ _ (by unfold Reg.cohereActRdata; omega)]
      exact hrd n (by omega)

/-- A final status for a request that reads, with its words. -/
theorem State.mailboxRead_ok (s : State) (ws : List Word) (flags : Nat) :
    ((s.putRdata ws).mailboxRead St.ok flags).coh = { s.coh with mailbox := none } ∧
    ((s.putRdata ws).mailboxRead St.ok flags).rd Reg.cohereActResult = w32 flags ∧
    ∀ n, n < ws.length → n < 16 → ((s.putRdata ws).mailboxRead St.ok flags).rd (Reg.cohereActRdata n) = wd ws n := by
  obtain ⟨v, e, hrd⟩ := State.putRdata_eq ws ws.length s
  have hcoh : (s.putRdata ws).coh = s.coh := by
    rw [State.putRdata, e]
  have hread : (s.putRdata ws).mailboxRead St.ok flags = ((s.putRdata ws).wr Reg.cohereActResult (w32 flags)).setCoh { s.coh with mailbox := none } := by
    unfold State.mailboxRead State.noteFault
    rw [if_neg (by decide), ← hcoh]
    show State.setCoh (State.wr _ _ (w32 (0 + flags))) _ = _
    rw [Nat.zero_add]
    rfl
  rw [hread]
  refine ⟨rfl, (State.rd_of_vals rfl _).trans (State.rd_wr_same _ _ _), fun n hn hlt => ?_⟩
  refine (State.rd_of_vals (s := (s.putRdata ws).wr Reg.cohereActResult (w32 flags)) rfl _).trans ?_
  rw [State.rd_wr_ne _ _ (by unfold Reg.cohereActRdata Reg.cohereActResult; omega)]
  exact hrd n hn

/-! ## The requests -/

theorem State.memLine_wd (s : State) (l : Nat) {n : Nat} (h : n < 16) : wd (s.memLine l) n = smGet 0 s.coh.mem (16 * l + n) := by
  rw [wd, State.memLine, List.getD_eq_getElem?_getD, List.getElem?_map, List.getElem?_range h]
  rfl

theorem State.memLine_length (s : State) (l : Nat) : (s.memLine l).length = 16 := by simp [State.memLine]

/-- READ_ENTRY of an entry of a clean line. -/
theorem State.readEntryDo_eq {s : State} {m : Mailbox} (h : s.Quiet) (hclean : s.poisoned (m.index / 2) = false) :
    s.readEntryDo m = ((s.cnt Reg.cohereNaReadCount 1).putRdata (entryIn m.index (s.memLine (m.index / 2)))).mailboxRead St.ok
      (b2n (s.coh.cow.any (fun x => x.2.used && x.2.glue != 0 && x.2.orig == m.index)) * resCopyPending + b2n false * resPoison) := by
  have huse : (s.cnt Reg.cohereNaReadCount 1).useLine mailboxAgent (m.index / 2) = s.cnt Reg.cohereNaReadCount 1 := if_neg (by
    show ¬ s.poisoned (m.index / 2) = true
    rw [hclean]
    decide)
  unfold State.readEntryDo
  dsimp only
  rw [if_neg (by rw [h.agentFailed]; decide), h.passHome, hclean, huse, State.entryWords, h.lineWords]
  rfl

/-- What the firmware does for each request. -/
def State.mailDoes (s : State) (m : Mailbox) : Nat → State
  | 0 => s.readEntryDo m
  | 1 => s.writeEntryDo m
  | 2 => s.countersDo m .readLine
  | _ => s.countersDo m .clearLine

/-- A request with a good index is executed. -/
theorem State.mailboxRow_does {s : State} {op : Nat} {v : Word} (hop : op < 4) (hv : v &&& 0x7FFFFFF8#32 = 0) (hfw : s.fwUp = true)
    (hidle : s.coh.mailbox = none) (hnext : s.coh.mailboxNext = false) (hbad : s.badActIndex (s.latched op) = false) :
    s.mailboxRow op v = (s.mailing op).mailDoes (s.latched op) op := by
  have hgood : (s.mailing op).badActIndex (s.latched op) = false := hbad
  rw [State.mailboxRow_eq hop hv hfw hidle hnext]
  unfold State.mailboxRun
  dsimp only
  rw [if_neg (show ¬ 4 ≤ (s.latched op).op from Nat.not_le_of_lt hop)]
  refine (if_neg (show ¬ (s.mailing op).badActIndex (s.latched op) = true by rw [hgood]; decide)).trans ?_
  match op, hop with
  | 0, _ => rfl
  | 1, _ => rfl
  | 2, _ => rfl
  | 3, _ => rfl

theorem entryIn_wd (i : Nat) (ws : List Word) {n : Nat} (hn : n < 8) : wd (entryIn i ws) n = wd ws (8 * (i % 2) + n) := by
  rw [wd, wd, entryIn, List.getD_eq_getElem?_getD, List.getD_eq_getElem?_getD, List.getElem?_take_of_lt hn, List.getElem?_drop]

theorem entryIn_length (i : Nat) {ws : List Word} (h : ws.length = 16) : (entryIn i ws).length = 8 := by
  rw [entryIn, List.length_take, List.length_drop, h]
  omega

theorem resFlags (b : Bool) : b2n b * resCopyPending + b2n false * resPoison = b2n b * 2 ^ 18 := by cases b <;> rfl

/-- READ_ENTRY answers the entry's words and leaves memory alone (R246). -/
theorem readEntry_makes {s : State} {v : Word} (hup : s.coreUp = true) (hfw : s.fwUp = true) (hquiet : s.Quiet) (hv : v &&& 0x7FFFFFF8#32 = 0)
    (hidle : s.coh.mailbox = none) (hnext : s.coh.mailboxNext = false) (hbad : s.badActIndex (s.latched 0) = false)
    (hclean : s.poisoned (s.rf Reg.cohereActIndex 0 20 / 2) = false) : Makes (.readEntry v) s fun t =>
      t.coh.mailbox = none ∧ t.coh.mem = s.coh.mem ∧
      t.rd Reg.cohereActResult = w32 (b2n (s.coh.cow.any (fun x => x.2.used && x.2.glue != 0 && x.2.orig == s.rf Reg.cohereActIndex 0 20)) * 2 ^ 18) ∧
      ∀ n, n < 8 → t.rd (Reg.cohereActRdata n) = smGet 0 s.coh.mem (8 * s.rf Reg.cohereActIndex 0 20 + n) := by
  have hexec : (whileUp s (·.mailboxRow 0 v)) = (s.mailing 0).readEntryDo (s.latched 0) := by
    rw [whileUp_up _ hup, State.mailboxRow_does (by decide) hv hfw hidle hnext hbad]
    rfl
  have hread : (s.mailing 0).readEntryDo (s.latched 0) = (((s.mailing 0).cnt Reg.cohereNaReadCount 1).putRdata
      (entryIn (s.rf Reg.cohereActIndex 0 20) (s.memLine (s.rf Reg.cohereActIndex 0 20 / 2)))).mailboxRead St.ok
      (b2n (s.coh.cow.any (fun x => x.2.used && x.2.glue != 0 && x.2.orig == s.rf Reg.cohereActIndex 0 20)) * resCopyPending + b2n false * resPoison) :=
    State.readEntryDo_eq (m := s.latched 0) (State.mailing_quiet 0 hquiet) hclean
  obtain ⟨hcoh, hres, hwords⟩ := State.mailboxRead_ok ((s.mailing 0).cnt Reg.cohereNaReadCount 1)
    (entryIn (s.rf Reg.cohereActIndex 0 20) (s.memLine (s.rf Reg.cohereActIndex 0 20 / 2)))
    (b2n (s.coh.cow.any (fun x => x.2.used && x.2.glue != 0 && x.2.orig == s.rf Reg.cohereActIndex 0 20)) * resCopyPending + b2n false * resPoison)
  have hlen := entryIn_length (s.rf Reg.cohereActIndex 0 20) (s.memLine_length (s.rf Reg.cohereActIndex 0 20 / 2))
  refine .of_finish (congrArg (finish s) (hexec.trans hread)) ⟨?_, ?_, ?_, fun n hn => ?_⟩
  · exact (congrArg CohSt.mailbox hcoh :)
  · exact (congrArg CohSt.mem hcoh :)
  · rw [State.rd_after, hres, resFlags]
  · rw [State.rd_after]
    refine (hwords n (by omega) (by omega)).trans ?_
    rw [entryIn_wd _ _ hn, State.memLine_wd _ _ (by omega)]
    congr 1
    omega

/-- A request on a counter line that is not poisoned. -/
theorem State.countersDo_ok {s : State} {m : Mailbox} (op : AtomicOp) (hfail : s.agentFailed mailboxAgent = false) (hclean : s.poisoned m.index = false) :
    s.countersDo m op = ((((s.atomicSlot m.index).cnt Reg.cohereAtomicCount 1).atomicDo m.index op).1.putRdata
      ((((s.atomicSlot m.index).cnt Reg.cohereAtomicCount 1).atomicDo m.index op).2.1.flatMap (fun d => toWords 2 d.toNat))).mailboxRead St.ok 0 := by
  have hcoh : (s.until (smGet 0 s.coh.atomicAt (homeOf m.index))).coh = s.coh := s.until_coh _
  have hpois : (s.atomicSlot m.index).poisoned m.index = false := by
    show smGet false (s.until (smGet 0 s.coh.atomicAt (homeOf m.index))).coh.poison m.index = false
    rw [hcoh]
    exact hclean
  unfold State.countersDo State.atomicBy State.atomicAct
  dsimp only
  rw [if_neg (by rw [hfail]; decide), if_neg (by rw [hfail]; decide), if_neg (by rw [hpois]; decide)]

/-- READ_COUNTERS and CLEAR_COUNTERS answer the words of the line before them. -/
theorem State.countersDo_line {s : State} {m : Mailbox} {op : AtomicOp} (f : SMap Word → SMap Word)
    (hop : ∀ t : State, (t.atomicDo m.index op).1.coh.mem = f t.coh.mem ∧ (t.atomicDo m.index op).2.1 = t.ctrWords m.index)
    (hfail : s.agentFailed mailboxAgent = false) (hclean : s.poisoned m.index = false) :
    (s.countersDo m op).coh.mem = f s.coh.mem ∧ (s.countersDo m op).rd Reg.cohereActResult = 0 ∧
    ∀ n, n < 16 → (s.countersDo m op).rd (Reg.cohereActRdata n) = smGet 0 s.coh.mem (16 * m.index + n) := by
  rw [State.countersDo_ok op hfail hclean]
  have hmem : ((s.atomicSlot m.index).cnt Reg.cohereAtomicCount 1).coh.mem = s.coh.mem :=
    (congrArg CohSt.mem (s.until_coh (smGet 0 s.coh.atomicAt (homeOf m.index))) :)
  generalize (s.atomicSlot m.index).cnt Reg.cohereAtomicCount 1 = u at hmem
  obtain ⟨hdone, hwords⟩ := hop u
  have hline : u.memLine m.index = s.memLine m.index := by
    rw [State.memLine, hmem]
    rfl
  rw [hwords, State.ctrWords_flat, hline]
  obtain ⟨hcoh, hres, hrd⟩ := State.mailboxRead_ok (u.atomicDo m.index op).1 (s.memLine m.index) 0
  refine ⟨?_, hres, fun n hn => (hrd n (by rw [s.memLine_length]; exact hn) hn).trans (s.memLine_wd _ hn)⟩
  rw [hcoh, ← hmem]
  exact hdone

theorem readCounters_makes {s : State} {v : Word} (hup : s.coreUp = true) (hfw : s.fwUp = true) (hquiet : s.Quiet) (hv : v &&& 0x7FFFFFF8#32 = 0)
    (hidle : s.coh.mailbox = none) (hnext : s.coh.mailboxNext = false) (hbad : s.badActIndex (s.latched 2) = false)
    (hclean : s.poisoned (s.rf Reg.cohereActIndex 0 20) = false) : Makes (.readCounters v) s fun t => t.rd Reg.cohereActResult = 0 ∧
      t.coh.mem = s.coh.mem ∧ ∀ n, n < 16 → t.rd (Reg.cohereActRdata n) = smGet 0 s.coh.mem (16 * s.rf Reg.cohereActIndex 0 20 + n) := by
  have hexec : (whileUp s (·.mailboxRow 2 v)) = (s.mailing 2).countersDo (s.latched 2) .readLine := by
    rw [whileUp_up _ hup, State.mailboxRow_does (by decide) hv hfw hidle hnext hbad]
    rfl
  obtain ⟨hmem, hres, hrd⟩ := State.countersDo_line (s := s.mailing 2) (m := s.latched 2) (op := .readLine) id (fun _ => ⟨rfl, rfl⟩)
    ((State.mailing_quiet 2 hquiet).agentFailed _) hclean
  refine .of_finish (congrArg (finish s) hexec) ⟨?_, hmem, fun n hn => ?_⟩
  · rw [State.rd_after]
    exact hres
  · rw [State.rd_after]
    exact hrd n hn

theorem State.clearLine_eq (s : State) (l : Nat) : (s.atomicDo l .clearLine).1.coh.mem = ctrMem l (List.replicate 8 0) s.coh.mem (List.range 8) ∧
    (s.atomicDo l .clearLine).2.1 = s.ctrWords l := by
  simp only [State.atomicDo, State.setCtrLine_eq]
  generalize ctrMem _ _ _ _ = m
  exact ⟨rfl, trivial⟩

theorem clearCounters_makes {s : State} {v : Word} (hup : s.coreUp = true) (hfw : s.fwUp = true) (hquiet : s.Quiet) (hv : v &&& 0x7FFFFFF8#32 = 0)
    (hidle : s.coh.mailbox = none) (hnext : s.coh.mailboxNext = false) (hbad : s.badActIndex (s.latched 3) = false)
    (hclean : s.poisoned (s.rf Reg.cohereActIndex 0 20) = false) : Makes (.clearCounters v) s fun t => t.rd Reg.cohereActResult = 0 ∧
      (∀ w, w < 8 → t.ctrWord (s.rf Reg.cohereActIndex 0 20) w = 0) ∧
      (∀ n, n < 16 → t.rd (Reg.cohereActRdata n) = smGet 0 s.coh.mem (16 * s.rf Reg.cohereActIndex 0 20 + n)) ∧
      ∀ m, m ≠ s.rf Reg.cohereActIndex 0 20 → t.memLine m = s.memLine m := by
  have hexec : (whileUp s (·.mailboxRow 3 v)) = (s.mailing 3).countersDo (s.latched 3) .clearLine := by
    rw [whileUp_up _ hup, State.mailboxRow_does (by decide) hv hfw hidle hnext hbad]
    rfl
  obtain ⟨hmem, hres, hrd⟩ := State.countersDo_line (s := s.mailing 3) (m := s.latched 3) (op := .clearLine)
    (fun mem => ctrMem (s.rf Reg.cohereActIndex 0 20) (List.replicate 8 0) mem (List.range 8)) (fun t => t.clearLine_eq _)
    ((State.mailing_quiet 3 hquiet).agentFailed _) hclean
  refine .of_finish (congrArg (finish s) hexec) ⟨?_, fun w hw => ?_, fun n hn => ?_, fun m hm => ?_⟩
  · rw [State.rd_after]
    exact hres
  · have hget (j : Nat) (hj : j < 2) : smGet 0 ((s.mailing 3).countersDo (s.latched 3) .clearLine).coh.mem (16 * s.rf Reg.cohereActIndex 0 20 + 2 * w + j) = 0 := by
      rw [hmem, ctrMem_clear _ _ (by decide), if_pos (by omega)]
    show BitVec.ofNat 64 ((smGet 0 ((s.mailing 3).countersDo (s.latched 3) .clearLine).coh.mem (16 * s.rf Reg.cohereActIndex 0 20 + 2 * w + 0)).toNat +
      2 ^ 32 * (smGet 0 ((s.mailing 3).countersDo (s.latched 3) .clearLine).coh.mem (16 * s.rf Reg.cohereActIndex 0 20 + 2 * w + 1)).toNat) = 0
    rw [hget 0 (by decide), hget 1 (by decide)]
    rfl
  · rw [State.rd_after]
    exact hrd n hn
  · refine List.map_congr_left fun j hj => ?_
    have hlt := List.mem_range.mp hj
    show smGet 0 ((s.mailing 3).countersDo (s.latched 3) .clearLine).coh.mem (16 * m + j) = smGet 0 s.coh.mem (16 * m + j)
    rw [hmem, ctrMem_clear _ _ (by decide), if_neg (by omega)]
    rfl

/-! ## WRITE_ENTRY in place (R246) -/

theorem State.Quiet.setPinned {s : State} (h : s.Quiet) (l : Nat) : s.setPinned l = false := by
  obtain ⟨-, -, -, -, -, -, hd, -⟩ := h
  rw [State.setPinned, State.waysOf, hd]
  rfl

theorem State.mailboxResult_ok (s : State) (i : Nat) : (s.mailboxResult St.ok [w32 resInPlace, w32 i, 0]).coh = { s.coh with mailbox := none } ∧
    (s.mailboxResult St.ok [w32 resInPlace, w32 i, 0]).rd Reg.cohereActResult = w32 (2 ^ 16) ∧
    (s.mailboxResult St.ok [w32 resInPlace, w32 i, 0]).rd Reg.cohereActRindex = w32 i := by
  have hres : s.mailboxResult St.ok [w32 resInPlace, w32 i, 0] =
      (((s.wr Reg.cohereActResult (w32 (2 ^ 16))).wr Reg.cohereActRindex (w32 i)).wr Reg.cohereActRops 0).setCoh { s.coh with mailbox := none } := by
    have hnote : s.noteFault St.ok = s := if_neg (by decide)
    have hword : w32 (St.ok + (wd [w32 resInPlace, w32 i, 0] 0).toNat) = w32 (2 ^ 16) := by
      show w32 (St.ok + (w32 resInPlace).toNat) = w32 (2 ^ 16)
      decide
    unfold State.mailboxResult
    dsimp only
    rw [hnote, hword, if_neg (show ¬ St.ok = St.pending by decide)]
    rfl
  rw [hres]
  refine ⟨rfl, ?_, ?_⟩
  · refine (State.rd_of_vals (s := ((s.wr Reg.cohereActResult (w32 (2 ^ 16))).wr Reg.cohereActRindex (w32 i)).wr Reg.cohereActRops 0) rfl _).trans ?_
    rw [State.rd_wr_ne _ _ (by decide), State.rd_wr_ne _ _ (by decide), State.rd_wr_same]
  · refine (State.rd_of_vals (s := ((s.wr Reg.cohereActResult (w32 (2 ^ 16))).wr Reg.cohereActRindex (w32 i)).wr Reg.cohereActRops 0) rfl _).trans ?_
    rw [State.rd_wr_ne _ _ (by decide), State.rd_wr_same]

/-- A write of an entry that no table names, in a line that nothing holds, is done in place. -/
theorem State.writeEntryDo_eq {s : State} {m : Mailbox} (h : s.Quiet) (hsingle : s.single) (hmirrors : s.twin.mirrors = []) (hglue : m.glue = 0)
    (hnamed : s.named m.index = false) (hclean : s.poisoned (m.index / 2) = false) :
    s.writeEntryDo m = (s.written m.index m.data).mailboxResult St.ok [w32 resInPlace, w32 m.index, 0] := by
  obtain ⟨hformed, hresync⟩ := hsingle
  have hfollow : s.followRefuses = false := by
    rw [State.followRefuses, hformed]
    rfl
  have hpins : s.pinBlocks (m.index / 2) 0 = false := by
    rw [State.pinBlocks, h.dirOf]
    exact h.setPinned _
  have hfill : ∃ c, s.written m.index m.data = s.setCoh c := by
    obtain ⟨-, -, -, -, hcaches, -⟩ := h
    have hroom : (s.putDir (wayKey (m.index / 2) 0) (m.index / 2) .excl mailboxAgent 0 0).coh.caches.length < 8 := by
      show s.coh.caches.length < 8
      rw [hcaches]
      exact Nat.zero_lt_succ 7
    unfold State.written
    rw [State.fill_room hroom]
    exact ⟨_, rfl⟩
  unfold State.writeEntryDo State.writeInPlace
  dsimp only
  rw [if_neg (by rw [hfollow]; decide), if_neg (by rw [hglue]; simp), if_pos (by rw [hnamed]; decide), if_neg (by rw [h.agentFailed]; decide),
    if_neg (by rw [hclean]; decide), if_neg (by rw [hpins]; decide), h.fwWrite]
  obtain ⟨c, hc⟩ := hfill
  rw [hc]
  have hmirror (ws : List Word) : (s.setCoh c).mirrorAs Op.writeEntry m.request m.glue ws = s.setCoh c := by
    refine if_pos (not_or.mpr ⟨?_, ?_⟩)
    · show ¬ (s.twin.formed && _ && _) = true
      rw [hformed]
      exact Bool.false_ne_true
    · show ¬ (s.twin.resync.any _) = true
      rw [hresync]
      decide
  have hwait (mine : MirrorWait → Bool) : ¬ (s.setCoh c).twin.mirrors.any mine = true := by
    show ¬ s.twin.mirrors.any mine = true
    rw [hmirrors]
    exact Bool.false_ne_true
  rw [hmirror, State.reply, if_neg (hwait _), State.replyFrom]
  exact if_pos ⟨rfl, Bool.false_ne_true⟩

theorem wd_map (f : Nat → Word) {k n : Nat} (h : n < k) : wd ((List.range k).map f) n = f n := by
  rw [wd, List.getD_eq_getElem?_getD, List.getElem?_map, List.getElem?_range h]
  rfl

theorem range_wd {ws : List Word} {k : Nat} (h : ws.length = k) : (List.range k).map (wd ws) = ws := by
  refine List.ext_getElem (by rw [List.length_map, List.length_range, h]) fun n hn hn' => ?_
  rw [List.getElem_map, List.getElem_range, wd, List.getD_eq_getElem?_getD, List.getElem?_eq_getElem hn']
  rfl

theorem State.lineWith_length {s : State} (h : s.Quiet) (i : Nat) (data : List Word) : (s.lineWith i data).length = 16 := by
  have hlen := s.memLine_length (i / 2)
  unfold State.lineWith
  dsimp only
  rw [h.lineWords]
  split <;> simp [hlen]

theorem entryIn_append_left {i : Nat} {d ws : List Word} (hi : i % 2 = 0) (hd : d.length = 8) : entryIn i (d ++ ws) = d := by
  rw [entryIn, hi, Nat.mul_zero, List.drop_zero, List.take_append_of_le_length (by omega), List.take_of_length_le (by omega)]

theorem entryIn_append_right {i : Nat} {ws d : List Word} (hi : i % 2 = 1) (hws : ws.length = 8) (hd : d.length = 8) : entryIn i (ws ++ d) = d := by
  rw [entryIn, hi, Nat.mul_one, List.drop_append_of_le_length (by omega), List.drop_of_length_le (by omega), List.nil_append, List.take_of_length_le (by omega)]

/-- The written half of a line holds the data, and the other half stays. -/
theorem State.entryIn_lineWith {s : State} (h : s.Quiet) (i : Nat) (data : List Word) : entryIn i (s.lineWith i data) = (List.range 8).map (wd data) ∧
    ∀ j, j ≠ i → j / 2 = i / 2 → entryIn j (s.lineWith i data) = entryIn j (s.memLine (i / 2)) := by
  have hlen := s.memLine_length (i / 2)
  have hdata : ((List.range 8).map (wd data)).length = 8 := by rw [List.length_map, List.length_range]
  unfold State.lineWith
  dsimp only
  rw [h.lineWords]
  generalize (List.range 8).map (wd data) = d at hdata
  generalize s.memLine (i / 2) = ws at hlen
  have hhalf : (ws.take 8).length = 8 ∧ (ws.drop 8).length = 8 := by rw [List.length_take, List.length_drop, hlen]; decide
  by_cases hi : i % 2 = 0
  · rw [if_pos hi]
    refine ⟨entryIn_append_left hi hdata, fun j hj hline => ?_⟩
    rw [entryIn_append_right (by omega) hdata hhalf.2, entryIn, show j % 2 = 1 by omega, Nat.mul_one, List.take_of_length_le (by omega)]
  · rw [if_neg hi]
    refine ⟨entryIn_append_right (by omega) hhalf.1 hdata, fun j hj hline => ?_⟩
    rw [entryIn_append_left (by omega) hhalf.1, entryIn, show j % 2 = 0 by omega, Nat.mul_zero, List.drop_zero]

/-- The entries of a state whose only cached line is the one written. -/
theorem State.written_words {s t : State} {i : Nat} {data : List Word} {o : Nat} (h : s.Quiet) (hi : i < 2 ^ 20) (hnet : t.coh.net = s.coh.net)
    (hfailed : t.coh.failed = s.coh.failed) (hmem : t.coh.mem = s.coh.mem)
    (hcaches : t.coh.caches = smSet line0 s.coh.caches (cacheKey mailboxAgent (i / 2)) ⟨.m, (List.range 16).map (wd (s.lineWith i data)), o⟩) :
    t.entryWords i = (List.range 8).map (wd data) ∧ ∀ j, j ≠ i → t.entryWords j = s.entryWords j := by
  have hlive (a : Nat) : t.agentFailed a = false := by
    rw [State.agentFailed, hfailed]
    exact h.agentFailed a
  have hsame : t.cached mailboxAgent (i / 2) = ⟨.m, s.lineWith i data, o⟩ := by
    rw [State.cached, hcaches, smGet_smSet_same, range_wd (State.lineWith_length h i data)]
  have hother (a l : Nat) (ha : mailboxAgent ≤ a) (hl : l ≠ i / 2) : t.cached a l = line0 := by
    have hkey : cacheKey a l ≠ cacheKey mailboxAgent (i / 2) := by
      unfold cacheKey mailboxAgent
      unfold mailboxAgent at ha
      omega
    rw [State.cached, hcaches, smGet_smSet_ne _ _ _ _ hkey]
    exact h.cached a l
  have hline : t.lineWords (i / 2) = s.lineWith i data := by
    unfold State.lineWords
    rw [List.find?_cons_of_pos (by rw [show (8 : Nat) = mailboxAgent from rfl, hsame, hlive]; rfl)]
    exact congrArg CacheLine.words hsame
  have helse (l : Nat) (hl : l ≠ i / 2) : t.lineWords l = s.lineWords l := by
    have hfind : [8, 9, 10, 11].find? (fun a => (t.cached a l).state.dirty && !t.agentFailed a) = none := by
      refine List.find?_eq_none.mpr fun a ha => ?_
      have hge : mailboxAgent ≤ a := by
        unfold mailboxAgent
        simp only [List.mem_cons, List.not_mem_nil, or_false] at ha
        omega
      rw [hother a l hge hl]
      exact Bool.false_ne_true
    have hwb (a : Nat) : t.wbOf a l = none := by
      obtain ⟨-, -, -, -, -, hn, -⟩ := h
      rw [State.wbOf, hnet, hn]
      rfl
    rw [h.lineWords]
    unfold State.lineWords
    rw [hfind]
    dsimp only
    simp only [hwb, State.memLine, hmem]
    rfl
  obtain ⟨hin, hout⟩ := State.entryIn_lineWith h i data
  refine ⟨?_, fun j hj => ?_⟩
  · rw [State.entryWords, hline]
    exact hin
  · by_cases hl : j / 2 = i / 2
    · rw [State.entryWords, State.entryWords, hl, hline, h.lineWords]
      exact hout j hj hl
    · rw [State.entryWords, helse _ hl]
      rfl

/-- WRITE_ENTRY of an entry that no table names. -/
theorem writeEntry_makes {s : State} {v : Word} (hup : s.coreUp = true) (hfw : s.fwUp = true) (hquiet : s.Quiet) (hv : v &&& 0x7FFFFFF8#32 = 0)
    (hidle : s.coh.mailbox = none) (hnext : s.coh.mailboxNext = false) (hbad : s.badActIndex (s.latched 1) = false)
    (hclean : s.poisoned (s.rf Reg.cohereActIndex 0 20 / 2) = false) (hsingle : s.single) (hmirrors : s.twin.mirrors = [])
    (hnamed : s.named (s.rf Reg.cohereActIndex 0 20) = false) : Makes (.writeEntry v) s fun t => t.coh.mailbox = none ∧
      t.rd Reg.cohereActResult = w32 (2 ^ 16) ∧ t.rd Reg.cohereActRindex = w32 (s.rf Reg.cohereActIndex 0 20) ∧
      t.entryWords (s.rf Reg.cohereActIndex 0 20) = (List.range 8).map (fun n => s.rd (Reg.cohereActData n)) ∧
      ∀ j, j ≠ s.rf Reg.cohereActIndex 0 20 → t.entryWords j = s.entryWords j := by
  have hmq := State.mailing_quiet 1 hquiet
  have hexec : (whileUp s (·.mailboxRow 1 v)) = (s.mailing 1).writeEntryDo (s.latched 1) := by
    rw [whileUp_up _ hup, State.mailboxRow_does (by decide) hv hfw hidle hnext hbad]
    rfl
  have hwrite := State.writeEntryDo_eq (m := s.latched 1) hmq hsingle hmirrors rfl hnamed hclean
  obtain ⟨hcoh, hres, hindex⟩ := ((s.mailing 1).written (s.latched 1).index (s.latched 1).data).mailboxResult_ok (s.latched 1).index
  have hi : s.rf Reg.cohereActIndex 0 20 < 2 ^ 20 := fld_lt _ _ _
  have hroom : ((s.mailing 1).putDir (wayKey ((s.latched 1).index / 2) 0) ((s.latched 1).index / 2) .excl mailboxAgent 0 0).coh.caches.length < 8 := by
    obtain ⟨-, -, -, -, hc, -⟩ := hquiet
    show s.coh.caches.length < 8
    rw [hc]
    exact Nat.zero_lt_succ 7
  have hwritten : ((s.mailing 1).written (s.latched 1).index (s.latched 1).data).coh = { s.coh with
      mailbox := some (s.latched 1), dir := ((s.mailing 1).written (s.latched 1).index (s.latched 1).data).coh.dir, order := s.coh.order + 1 + 1,
      caches := smSet line0 s.coh.caches (cacheKey mailboxAgent (s.rf Reg.cohereActIndex 0 20 / 2))
        ⟨.m, (List.range 16).map (wd ((s.mailing 1).lineWith (s.rf Reg.cohereActIndex 0 20) (s.latched 1).data)), s.coh.order + 1⟩ } := by
    rw [State.written, State.fill_room hroom]
    rfl
  obtain ⟨hsame, hother⟩ := State.written_words
    (t := ((s.mailing 1).written (s.latched 1).index (s.latched 1).data).mailboxResult St.ok [w32 resInPlace, w32 (s.latched 1).index, 0])
    (s := s.mailing 1) (o := s.coh.order + 1) hmq hi (by rw [hcoh, hwritten]; rfl) (by rw [hcoh, hwritten]; rfl) (by rw [hcoh, hwritten]; rfl)
    (by rw [hcoh, hwritten]; rfl)
  refine .of_finish (congrArg (finish s) (hexec.trans hwrite)) ⟨(congrArg CohSt.mailbox hcoh :), ?_, ?_, ?_, fun j hj => ?_⟩
  · rw [State.rd_after]
    exact hres
  · rw [State.rd_after]
    exact hindex
  · refine hsame.trans (List.map_congr_left fun n hn => wd_map (fun n => s.rd (Reg.cohereActData n)) (List.mem_range.mp hn))
  · exact hother j hj

/-! ## ADD, and the clearing of POISON -/

/-- ADD answers the old word and leaves the sum, and no other counter word changes (R243). -/
theorem atomicAdd_words {s t : State} {l : Nat} {w : Fin 8} {x : DWord} (hmem : t.coh.mem = (s.atomicDo l (.add w x)).1.coh.mem) :
    t.ctrWord l w = BitVec.ofNat 64 (min (2 ^ 64 - 1) ((s.ctrWord l w).toNat + x.toNat)) ∧
    ∀ m v, v < 8 → (m, v) ≠ (l, w.val) → t.ctrWord m v = s.ctrWord m v := by
  have hset : (s.atomicDo l (.add w x)).1 = s.setCtr l w (satAdd (s.ctrWord l w) x) := rfl
  refine ⟨?_, fun m v hv hne => ?_⟩
  · rw [State.ctrWord_of_mem hmem, hset]
    exact s.ctrWord_setCtr_same l w _
  · rw [State.ctrWord_of_mem hmem, hset]
    exact s.ctrWord_setCtr_ne _ w.isLt hv hne

theorem poisonClear_makes {s : State} {v : Word} (hup : s.coreUp = true) (hv : bit v 31 = true) : Makes (.coherePoisonClear v) s fun t =>
    t.poisoned (fld v 0 19) = false ∧ t.coh.mem = s.coh.mem ∧ ∀ m, m ≠ fld v 0 19 → t.poisoned m = s.poisoned m := by
  have hexec : exec (.coherePoisonClear v) s = finish s (s.setPoison (fld v 0 19) false) := by
    show finish s (whileUp s _) = _
    rw [whileUp_up _ hup, State.poisonClear, if_pos hv]
  exact .of_finish hexec ⟨smGet_smSet_same _ _ _ _, rfl, fun m hm => smGet_smSet_ne _ _ _ _ hm⟩

/-- Settles O45: an atomic operation acts on the memory of a home that is free for it, the time limits act on the one transaction or
reservation of the line, and the mailbox works on a line that nothing holds. -/
theorem atomicsAndMailboxComplete : Obligations.AtomicsAndMailboxComplete := by
  unfold Obligations.AtomicsAndMailboxComplete
  intro s l hup
  refine ⟨fun a op ha hl hfail hctr hclean hage hdt hat hlate => ⟨?_, fun w x hop => ?_⟩, fun x hsen hx hage hat => ?_,
    fun x r a htrans hx hreq hacks hfwd hwb ha hage hsince => ?_, fun v hv => poisonClear_makes hup hv,
    fun v i hfw hidle hv hi hnext hfailed htrans hwait hsen hclos hcaches hnet hdir => ?_⟩
  · exact atomic_makes op hup ha hl hfail hctr hclean hage hdt hat hlate
  · obtain ⟨t, hexec, hmem, hnet, -⟩ := atomic_makes op hup ha hl hfail hctr hclean hage hdt hat hlate
    subst hop
    obtain ⟨hword, hother⟩ := atomicAdd_words hmem
    exact ⟨t, hexec, hword, hnet, hother⟩
  · rw [← hx]
    exact seniorLapse_makes hup hsen hage hat
  · rw [← hx]
    exact cohereTimeout_makes hup htrans hreq hacks hfwd hwb ha hage hsince
  · have hquiet : s.Quiet := ⟨htrans, hwait, hsen, hclos, hcaches, hnet, hdir, hfailed⟩
    subst hi
    refine ⟨fun hctr hpool hclean => ?_, fun hctr hclean => ?_⟩
    · have hgood (op : Nat) (hop : op < 2) : s.badActIndex (s.latched op) = false := by
        refine (if_pos (show (s.latched op).op < 2 from hop)).trans ?_
        show (s.ctrLine (s.rf Reg.cohereActIndex 0 20 / 2) || (s.inPool (s.rf Reg.cohereActIndex 0 20) && _)) = false
        rw [hctr, hpool]
        rfl
      exact ⟨readEntry_makes hup hfw hquiet hv hidle hnext (hgood 0 (by decide)) hclean, fun hsingle hmirrors hnamed =>
        writeEntry_makes hup hfw hquiet hv hidle hnext (hgood 1 (by decide)) hclean hsingle hmirrors hnamed⟩
    · have hgood (op : Nat) (hop : ¬ op < 2) : s.badActIndex (s.latched op) = false := by
        refine (if_neg (show ¬ (s.latched op).op < 2 from hop)).trans ?_
        show (!s.ctrLine (s.rf Reg.cohereActIndex 0 20)) = false
        rw [hctr]
        rfl
      exact ⟨readCounters_makes hup hfw hquiet hv hidle hnext (hgood 2 (by decide)) hclean,
        clearCounters_makes hup hfw hquiet hv hidle hnext (hgood 3 (by decide)) hclean⟩

end Sys2Proof.Machine


/-! Entries of exact-match tables (R188 to R193, R214 to R216). -/

namespace Sys2Proof.Machine

/-! ## Slots -/

theorem State.slot_setSlot_same (s : State) (p : Nat) (x : Slot) : (s.setSlot p x).slot p = x := smGet_smSet_same _ _ _ _

theorem State.slot_setSlot_ne (s : State) {p j : Nat} (x : Slot) (h : j ≠ p) : (s.setSlot p x).slot j = s.slot j := smGet_smSet_ne _ _ _ _ h

theorem Slot.sealed_ok (x : Slot) : x.sealed.ok = true := by
  simp only [Slot.ok, Slot.imageOk, Slot.tagOk, Slot.sealed, Slot.image, Slot.tagWord, beq_self_eq_true, Bool.and_self]

/-- What a change of slots leaves: all but the slots and the note of those written. -/
def State.SlotsOnly (s t : State) : Prop := ∃ m w, t = { s with exm := { s.exm with slots := m, written := w } }

theorem State.SlotsOnly.trans {s t u : State} (h : s.SlotsOnly t) (k : t.SlotsOnly u) : s.SlotsOnly u := by
  obtain ⟨m, w, h⟩ := h
  obtain ⟨m', w', k⟩ := k
  exact ⟨m', w', by rw [k, h]⟩

theorem State.SlotsOnly.refl (s : State) : s.SlotsOnly s := ⟨s.exm.slots, s.exm.written, rfl⟩

theorem State.slotsOnly_fold {α : Type} {f : State → α → State} (hf : ∀ (s : State) a, s.SlotsOnly (f s a)) (as : List α) (s : State) :
    s.SlotsOnly (as.foldl f s) := by
  induction as generalizing s with
  | nil => exact .refl s
  | cons a as ih => exact (hf s a).trans (ih _)

theorem State.setSlot_only (s : State) (p : Nat) (x : Slot) : s.SlotsOnly (s.setSlot p x) := ⟨_, _, rfl⟩

theorem State.writeUnit_only (s : State) (d : ExactDesc) (p key action : Nat) (learned : Bool) (ts : BitVec 12) (st : RowState) (g : Nat) :
    s.SlotsOnly (s.writeUnit d p key action learned ts st g) :=
  State.SlotsOnly.trans (t := s.noteWritten (unit d.w p)) ⟨_, _, rfl⟩ (State.slotsOnly_fold (fun s _ => s.setSlot_only _ _) _ _)

theorem State.tagUnit_only (s : State) (w p g : Nat) : s.SlotsOnly (s.tagUnit w p g) := State.slotsOnly_fold (fun s _ => s.setSlot_only _ _) _ _

theorem State.claimKey_only (s : State) (t : Nat) (d : ExactDesc) (key g : Nat) : s.SlotsOnly (s.claimKey t d key g) := by
  refine State.slotsOnly_fold (fun s c => ?_) _ _
  cases s.liveAt c key with
  | none => exact .refl s
  | some p => exact s.tagUnit_only _ _ _

/-- The first slot of an entry as it is written (R188). -/
def ExactDesc.firstSlot (d : ExactDesc) (p key action : Nat) (learned : Bool) (ts : BitVec 12) (st : RowState) (g : Nat) : Slot :=
  Slot.sealed { slot0 with
    key := BitVec.ofNat 80 key, action := BitVec.ofNat 20 action, ts := ts, learned := learned, tag := BitVec.ofNat 8 g, state := st
    ns := if ovfBase ≤ p then BitVec.ofNat 7 d.ns else 0 }

theorem State.foldSlots_first {f : Nat → Slot} (p k : Nat) (s : State) :
    ((List.range (k + 1)).foldl (fun s i => s.setSlot (p + i) (f i)) s).slot p = f 0 := by
  induction k with
  | zero => exact s.slot_setSlot_same p (f 0)
  | succ k ih =>
    rw [List.range_succ, List.foldl_append, List.foldl_cons, List.foldl_nil, State.slot_setSlot_ne _ _ (by omega)]
    exact ih

theorem State.writeUnit_first (s : State) (d : ExactDesc) (p key action : Nat) (learned : Bool) (ts : BitVec 12) (st : RowState) (g : Nat) :
    (s.writeUnit d p key action learned ts st g).slot p = d.firstSlot p key action learned ts st g := by
  refine (State.foldSlots_first p d.width _).trans ?_
  simp only [ExactDesc.firstSlot, beq_self_eq_true, if_true, Bool.true_and, Nat.mul_zero, Nat.pow_zero, Nat.div_one]

theorem State.copiesOf_still {s : State} (h : s.exm.rehash = none) (t : Nat) (d : ExactDesc) : s.copiesOf t d = [d] := by
  rw [State.copiesOf, h]

theorem State.putVeneer_still {s : State} (h : s.exm.rehash = none) (t : Nat) (d : ExactDesc) (p key action : Nat) (learned : Bool) (g : Nat) :
    s.putVeneer t d p key action learned g = s.writeUnit d p key action learned s.exm.mower.clock .veneer g := by
  have hcopies := State.copiesOf_still (s := s.writeUnit d p key action learned s.exm.mower.clock .veneer g) (by
    obtain ⟨m, w, e⟩ := s.writeUnit_only d p key action learned s.exm.mower.clock .veneer g
    rw [e]
    exact h) t d
  unfold State.putVeneer
  dsimp only
  rw [hcopies]
  rfl

theorem State.claimKey_still {s : State} (h : s.exm.rehash = none) (t : Nat) {d : ExactDesc} {key p : Nat} (g : Nat) (hlive : s.liveAt d key = some p) :
    s.claimKey t d key g = s.tagUnit d.w p g := by
  unfold State.claimKey
  rw [State.copiesOf_still h, List.foldl_cons, List.foldl_nil, hlive]
  rfl

/-! ## EXACT_INSERT (R214) -/

theorem exactPut_new {s : State} {t key action g op p : Nat} {d : ExactDesc} {learned replace : Bool} {q : Request} (hlive : s.liveAt d key = none)
    (hpend : s.pendAt d key g = none) (hheld : s.keyHolder t d key g = none) (hwait : s.waitOf t key g = none) (htake : s.takeUnit d key = some p)
    (hstill : s.exm.rehash = none) : s.exactPut t d key action learned replace g op q =
      .done (s.writeUnit d p key action learned s.exm.mower.clock .veneer g) d.w (insertReply d.w false false p) := by
  unfold State.exactPut
  dsimp only
  rw [hlive, hpend, hwait, hheld, htake, if_neg (by simp)]
  dsimp only
  rw [if_neg (show ¬ (none : Option Nat).isSome = true from Bool.false_ne_true), State.putVeneer_still hstill]
  rfl

theorem exactInsert_new {q : Request} {s : State} {d : ExactDesc} {p : Nat} (ht : Taken Op.exactInsert q s) (hs : s.single) (hpre : s.insertPre q = 0)
    (hg : q.f 0 8 8 ≠ 0) (hopen : s.glueOpen? (q.f 0 8 8) = 0) (hnow : s.exNow (q.f 0 0 8) = some d) (hlive : s.liveAt d (keyFrom d q 2) = none)
    (hpend : s.pendAt d (keyFrom d q 2) (q.f 0 8 8) = none) (hheld : s.keyHolder (q.f 0 0 8) d (keyFrom d q 2) (q.f 0 8 8) = none)
    (hwait : s.waitOf (q.f 0 0 8) (keyFrom d q 2) (q.f 0 8 8) = none) (htake : s.takeUnit d (keyFrom d q 2) = some p) (hstill : s.exm.rehash = none)
    (hfull : (s.glueUp (q.f 0 8 8)).ops + d.w ≤ 4096) :
    exec (.exactInsert q) s = .next (s.after (((s.writeUnit d p (keyFrom d q 2) (q.f 1 0 20) (q.b 0 16) s.exm.mower.clock .veneer
      (q.f 0 8 8)).addOps (q.f 0 8 8) d.w).reply Op.exactInsert q 0 (insertReply d.w false false p))) := by
  have hact : insertAct q s (q.f 0 8 8) = .done (s.writeUnit d p (keyFrom d q 2) (q.f 1 0 20) (q.b 0 16) s.exm.mower.clock .veneer (q.f 0 8 8)) d.w
      (insertReply d.w false false p) := by
    unfold insertAct
    dsimp only
    rw [if_neg (not_not_intro hpre), hnow]
    exact exactPut_new hlive hpend hheld hwait htake hstill
  obtain ⟨m, w, hwrite⟩ := s.writeUnit_only d p (keyFrom d q 2) (q.f 1 0 20) (q.b 0 16) s.exm.mower.clock .veneer (q.f 0 8 8)
  refine finish_final ht (body := State.exactInsert) ?_
  unfold State.exactInsert
  rw [if_neg (not_not_intro hpre)]
  exact State.glueBody_done hs hg hopen hact (by rw [hwrite]) (by rw [hwrite]; exact hfull)

/-! ## EXACT_DELETE (R215) -/

theorem exactDelete_live {q : Request} {s : State} {d : ExactDesc} {p : Nat} (ht : Taken Op.exactDelete q s) (hs : s.single) (hpre : s.deletePre q = 0)
    (hg : q.f 0 8 8 ≠ 0) (hopen : s.glueOpen? (q.f 0 8 8) = 0) (hnow : s.exNow (q.f 0 0 8) = some d) (hlive : s.liveAt d (keyFrom d q 1) = some p)
    (htag : (s.slot p).tag = 0) (hpend : s.pendAt d (keyFrom d q 1) (q.f 0 8 8) = none)
    (hheld : s.keyHolder (q.f 0 0 8) d (keyFrom d q 1) (q.f 0 8 8) = none) (hwait : s.waitOf (q.f 0 0 8) (keyFrom d q 1) (q.f 0 8 8) = none)
    (hstill : s.exm.rehash = none) (hfull : (s.glueUp (q.f 0 8 8)).ops + d.w ≤ 4096) :
    exec (.exactDelete q) s = .next (s.after (((s.tagUnit d.w p (q.f 0 8 8)).addOps (q.f 0 8 8) d.w).reply Op.exactDelete q 0 [])) := by
  have hdrop : s.exactDrop (q.f 0 0 8) d (keyFrom d q 1) (q.f 0 8 8) = .done (s.tagUnit d.w p (q.f 0 8 8)) d.w [] := by
    unfold State.exactDrop
    dsimp only
    rw [hlive, hpend, hheld, hwait, if_neg (by simp)]
    dsimp only
    rw [State.claimKey_still hstill _ _ hlive, if_neg (by simp), if_pos (show (some p).any (fun p => (s.slot p).tag == 0) = true by simp [htag])]
  have hact : deleteAct q s (q.f 0 8 8) = .done (s.tagUnit d.w p (q.f 0 8 8)) d.w [] := by
    unfold deleteAct
    dsimp only
    rw [if_neg (not_not_intro hpre), hnow]
    exact hdrop
  obtain ⟨m, w, htagged⟩ := s.tagUnit_only d.w p (q.f 0 8 8)
  refine finish_final ht (body := State.exactDelete) ?_
  unfold State.exactDelete
  rw [if_neg (not_not_intro hpre)]
  exact State.glueBody_done hs hg hopen hact (by rw [htagged]) (by rw [htagged]; exact hfull)

/-! ## EXACT_READ (R216) -/

/-- A search of LS changes the clock, the registers, the events' stamps and the port's next issue alone. -/
theorem State.lsIssue_keeps (s : State) : s.lsIssue.exm = s.exm ∧ s.lsIssue.glue = s.glue := by
  obtain ⟨v, r, c, e, -⟩ := s.advance_eq (s.nextIssue 8 - s.clk.age)
  unfold State.lsIssue State.until
  rw [e]
  exact ⟨rfl, rfl⟩

theorem State.exactSearch_of {s t : State} (hexm : t.exm = s.exm) (hglue : t.glue = s.glue) (d : ExactDesc) (key : Nat) (e : BitVec 3) (strict : Bool) :
    t.exactSearch d key e strict = s.exactSearch d key e strict := by
  have hslot (p : Nat) : t.slot p = s.slot p := by rw [State.slot, hexm]; rfl
  have hkey (w p : Nat) : t.keyAt w p = s.keyAt w p := by rw [State.keyAt, hslot, hslot]; rfl
  have hovf : t.ovfOf d = s.ovfOf d := by rw [State.ovfOf, hexm]; rfl
  have hhomes : t.homes d key = s.homes d key := by rw [State.homes, hovf]; rfl
  have hvis (st : RowState) (b e' e : BitVec 3) : t.visible st b e' e = s.visible st b e' e := by
    simp only [State.visible, State.ageOf, hglue]
    rfl
  unfold State.exactSearch
  simp only [hslot, hkey, hovf, hhomes, hvis]

theorem bit_w32_odd {n : Nat} (h : n % 2 = 1) : bit (w32 n) 0 = true := by
  have hfld : fld (w32 n) 0 1 = 1 := by
    rw [fld, w32, BitVec.toNat_ofNat]
    omega
  rw [bit, hfld]
  rfl

theorem exactRead_body {q : Request} {s : State} {d : ExactDesc} (hcheck : s.exactCheck (q.f 0 0 8) = 0) (hnow : s.exNow (q.f 0 0 8) = some d)
    (hlen : q.words.length = 1 + kwOf d.width) (hstray : q.stray 0 0xFF = false) (hkey : keyFrom d q 1 < 2 ^ (80 * d.w))
    (hgood : (s.exactSearch d (keyFrom d q 1) s.glue.c false).failing = []) :
    ((s.exactSearch d (keyFrom d q 1) s.glue.c false).hit = none → s.exactRead q = (s.lsIssue.advance 40, .final St.ok [0, 0, 0, 0])) ∧
    (∀ p, (s.exactSearch d (keyFrom d q 1) s.glue.c false).hit = some p → ∃ w0, s.exactRead q = (s.lsIssue.advance 40, .final St.ok
      [w0, w32 (s.slot p).action.toNat, w32 (s.ageTicks (s.slot p) + (s.slot p).ts.toNat * 2 ^ 16), w32 p]) ∧ bit w0 0 = true) := by
  obtain ⟨hexm, hglue⟩ := s.lsIssue_keeps
  have hsearch := State.exactSearch_of hexm hglue d (keyFrom d q 1) s.glue.c false
  have hc : s.lsIssue.glue.c = s.glue.c := by rw [hglue]
  have hage (x : Slot) : s.lsIssue.ageTicks x = s.ageTicks x := by
    rw [State.ageTicks, hexm]
    rfl
  have hslot (p : Nat) : s.lsIssue.slot p = s.slot p := by
    rw [State.slot, hexm]
    rfl
  unfold State.exactRead
  dsimp only
  rw [if_neg (not_not_intro hcheck), hnow]
  dsimp only
  rw [if_neg (not_not_intro hlen), if_neg (not_or.mpr ⟨by rw [hstray]; exact Bool.false_ne_true, by omega⟩), hc, hsearch, hgood]
  refine ⟨fun hhit => ?_, fun p hhit => ?_⟩
  · rw [hhit]
    rfl
  · rw [hhit]
    dsimp only
    rw [hslot, hage]
    refine ⟨_, rfl, bit_w32_odd ?_⟩
    omega

/-! ## EXACT_INSERT_SLOT_FREED (R191) -/

/-- A waiting insert of a named glue-up writes its entry in the slot that it claimed. -/
def State.placed (s : State) (i : InsertWait) (d : ExactDesc) (p : Nat) : State :=
  ((s.endInsert i).claimKey i.table d i.key i.id).writeUnit d p i.key i.action i.learned s.exm.mower.clock .veneer i.id

theorem State.placed_inserts (s : State) (i : InsertWait) (d : ExactDesc) (p : Nat) : (s.placed i d p).exm.inserts = s.exm.inserts.erase i ∧
    (s.placed i d p).glue = s.glue := by
  obtain ⟨m, w, e⟩ := ((s.endInsert i).claimKey_only i.table d i.key i.id).trans
    (State.writeUnit_only _ d p i.key i.action i.learned s.exm.mower.clock .veneer i.id)
  rw [State.placed, e]
  exact ⟨rfl, rfl⟩

theorem State.placeInsert_eq {s : State} {i : InsertWait} {d : ExactDesc} {p : Nat} {ps : List Nat} (hslots : i.slots = p :: ps)
    (hop : i.op = Op.exactInsert) (hhost : (s.glueUp i.id).opener = .host) (hstill : s.exm.rehash = none) :
    s.placeInsert i d = (s.placed i d p).reply i.op i.q St.ok (insertReply i.ops (i.evictId != 0) (i.evictId == 0) p) := by
  have hclaim := (s.endInsert i).claimKey_only i.table d i.key i.id
  have hput : ((s.endInsert i).claimKey i.table d i.key i.id).putVeneer i.table d p i.key i.action i.learned i.id = s.placed i d p := by
    obtain ⟨m, w, e⟩ := hclaim
    rw [State.putVeneer_still (by rw [e]; exact hstill), State.placed, e]
    rfl
  have hopener : ((s.placed i d p).glueUp i.id).opener = .host := by
    rw [State.glueUp, (s.placed_inserts i d p).2]
    exact hhost
  unfold State.placeInsert
  dsimp only
  rw [hslots]
  dsimp only
  rw [hput, if_neg (not_not_intro hop), hopener]

theorem exactInsertSlotFreed_places {i : InsertWait} {d : ExactDesc} {p : Nat} {ps : List Nat} {s : State} (hfw : s.fwUp = true)
    (hfind : s.exm.inserts.find? (fun x => x.id == i.id && (s.insertStray x || x.slots.all (fun p => (s.slot p).state == .free))) = some i)
    (hstray : s.insertStray i = false) (hslots : i.slots = p :: ps) (hopen : (s.glueUp i.id).st = .opened) (hhost : (s.glueUp i.id).opener = .host)
    (hop : i.op = Op.exactInsert) (hnow : s.exNow i.table = some d) (hstill : s.exm.rehash = none) : Makes (.exactInsertSlotFreed i.id) s fun t =>
      t.exm.inserts = s.exm.inserts.erase i ∧ (t.slot p).state = .veneer ∧ (t.slot p).tag = BitVec.ofNat 8 i.id ∧
      (t.slot p).key = BitVec.ofNat 80 i.key ∧ (t.slot p).action = BitVec.ofNat 20 i.action ∧ (t.slot p).ok = true := by
  have hglue : s.glueOpen? i.id = 0 := by rw [State.glueOpen?, hopen]
  have hexec : exec (.exactInsertSlotFreed i.id) s =
      finish s ((s.placed i d p).reply i.op i.q St.ok (insertReply i.ops (i.evictId != 0) (i.evictId == 0) p)) := by
    show finish s (whileFw s _) = _
    rw [whileFw_up _ hfw, hfind]
    dsimp only
    rw [if_neg (by rw [hopen]; decide), if_neg (not_not_intro hglue), if_neg (by rw [hstray]; exact Bool.false_ne_true), hnow]
    exact congrArg (finish s) (State.placeInsert_eq hslots hop hhost hstill)
  obtain ⟨-, -, -, -, hexm, -⟩ := (s.placed i d p).reply_same i.op i.q St.ok (insertReply i.ops (i.evictId != 0) (i.evictId == 0) p)
  have hslot : ((s.placed i d p).reply i.op i.q St.ok (insertReply i.ops (i.evictId != 0) (i.evictId == 0) p)).slot p =
      d.firstSlot p i.key i.action i.learned s.exm.mower.clock .veneer i.id := by
    rw [State.slot, hexm]
    exact State.writeUnit_first _ d p i.key i.action i.learned s.exm.mower.clock .veneer i.id
  refine .of_finish hexec ⟨?_, ?_⟩
  · show ((s.placed i d p).reply _ _ _ _).exm.inserts = _
    rw [hexm]
    exact (s.placed_inserts i d p).1
  · generalize (s.placed i d p).reply i.op i.q St.ok (insertReply i.ops (i.evictId != 0) (i.evictId == 0) p) = t at hslot
    show (t.slot p).state = _ ∧ (t.slot p).tag = _ ∧ (t.slot p).key = _ ∧ (t.slot p).action = _ ∧ (t.slot p).ok = true
    rw [hslot]
    exact ⟨rfl, rfl, rfl, rfl, Slot.sealed_ok _⟩

/-- Settles O30: each row names the slots it writes or tags, and a read leaves the store alone. -/
theorem exactEntriesComplete : Obligations.ExactEntriesComplete := by
  unfold Obligations.ExactEntriesComplete
  refine ⟨fun q s d p ht hs hpre hg hopen hnow hlive hpend hheld hwait htake hstill hfull =>
      exactInsert_new ht hs hpre hg hopen hnow hlive hpend hheld hwait htake hstill hfull,
    fun q s d p ht hs hpre hg hopen hnow hlive htag hpend hheld hwait hstill hfull =>
      exactDelete_live ht hs hpre hg hopen hnow hlive htag hpend hheld hwait hstill hfull,
    fun q s d ht hcheck hnow hlen hstray hkey hgood => ?_,
    fun i d p ps s hfw hfind hstray hslots hopen hhost hop hnow hstill =>
      exactInsertSlotFreed_places hfw hfind hstray hslots hopen hhost hop hnow hstill⟩
  obtain ⟨hmiss, hhit⟩ := exactRead_body hcheck hnow hlen hstray hkey hgood
  refine ⟨fun h => finish_final ht (hmiss h), fun p h => ?_⟩
  obtain ⟨w0, hbody, hbit⟩ := hhit p h
  exact ⟨w0, finish_final ht hbody, hbit⟩

end Sys2Proof.Machine


/-! Entries of ternary tables (R116 to R121, R171). -/

namespace Sys2Proof.Machine

/-! ## Rows -/

/-- The rows after some are stored from `a` on. -/
def putRows (m : SMap Row) (a : Nat) : List Row → SMap Row
  | [] => m
  | r :: rs => putRows (smSet row0 m a r) (a + 1) rs

theorem State.setRows_eq (rs : List Row) (s : State) (a : Nat) : s.setRows a rs = { s with tern := { s.tern with rows := putRows s.tern.rows a rs } } := by
  induction rs generalizing s a with
  | nil => rfl
  | cons r rs ih => exact (ih _ _).trans rfl

theorem putRows_out (rs : List Row) (m : SMap Row) {a j : Nat} (h : j < a ∨ a + rs.length ≤ j) : smGet row0 (putRows m a rs) j = smGet row0 m j := by
  induction rs generalizing m a with
  | nil => rfl
  | cons r rs ih =>
    rw [List.length_cons] at h
    rw [putRows, ih _ (by omega), smGet_smSet_ne _ _ _ _ (by omega)]

theorem putRows_in (rs : List Row) (m : SMap Row) (a : Nat) {j : Nat} (h : j < rs.length) : smGet row0 (putRows m a rs) (a + j) = rs[j] := by
  induction rs generalizing m a j with
  | nil => exact absurd h (Nat.not_lt_zero j)
  | cons r rs ih =>
    cases j with
    | zero =>
      rw [putRows, putRows_out _ _ (by omega), Nat.add_zero, smGet_smSet_same]
      rfl
    | succ j =>
      rw [putRows, show a + (j + 1) = a + 1 + j by omega, ih _ _ (by rw [List.length_cons] at h; omega)]
      rfl

/-- What a change of the ternary rows and of the ports leaves. -/
def State.RowsOnly (s t : State) : Prop := t.glue = s.glue ∧ t.twin = s.twin

theorem State.RowsOnly.refl (s : State) : s.RowsOnly s := ⟨rfl, rfl⟩

theorem State.RowsOnly.trans {s t u : State} (h : s.RowsOnly t) (k : t.RowsOnly u) : s.RowsOnly u := ⟨k.1.trans h.1, k.2.trans h.2⟩

theorem State.RowsOnly.foldl {α : Type} {f : State → α → State} (hf : ∀ (t : State) a, t.RowsOnly (f t a)) (l : List α) (s : State) :
    s.RowsOnly (l.foldl f s) := by
  induction l generalizing s with
  | nil => exact .refl s
  | cons a l ih => exact (hf s a).trans (ih _)

theorem State.setRows_only (s : State) (a : Nat) (rs : List Row) : s.RowsOnly (s.setRows a rs) := by
  rw [State.setRows_eq]
  exact ⟨rfl, rfl⟩

theorem State.hideSlot_only (s : State) (d : TernDesc) (p n : Nat) (f : Row → Row) : s.RowsOnly (s.hideSlot d p n f) :=
  .foldl (fun t _ => t.setRows_only _ _) _ _

theorem State.tagSlot_only (s : State) (d : TernDesc) (p n g : Nat) : s.RowsOnly (s.tagSlot d p n g) := s.hideSlot_only d p n _

/-- Taking a port changes neither rows nor result words, nor the glue-ups. -/
def State.SameArray (s t : State) : Prop := s.RowsOnly t ∧ t.tern.rows = s.tern.rows ∧ t.tern.words = s.tern.words

theorem State.SameArray.trans {s t u : State} (h : s.SameArray t) (k : t.SameArray u) : s.SameArray u :=
  ⟨h.1.trans k.1, k.2.1.trans h.2.1, k.2.2.trans h.2.2⟩

theorem State.SameArray.refl (s : State) : s.SameArray s := ⟨.refl s, rfl, rfl⟩

theorem State.event_array (s : State) (b c i : Nat) (x y : Word) : s.SameArray (s.event b c i x y) := by
  obtain ⟨v, e, h, -⟩ := s.event_eq b c i x y
  rw [h]
  exact .refl s

theorem State.breakLocks_array (k : ArbLock) (l : List Nat) (s : State) : s.SameArray (l.foldl (fun s _ => s.breakLock k) s) := by
  induction l generalizing s with
  | nil => exact .refl s
  | cons a l ih =>
    have hone : s.SameArray (s.breakLock k) := State.SameArray.trans
      (t := ({ s with arb := { s.arb with locks := s.arb.locks.filter (fun x => x != k) } } : State).cnt Reg.arbLockBreakCount 1) (.refl s)
      (State.event_array _ _ _ _ _ _)
    exact hone.trans (ih _)

theorem State.advance_array (s : State) (k : Nat) : s.SameArray (s.advance k) := by
  obtain ⟨v, r, c, e, -⟩ := s.advance_eq k
  rw [e]
  exact .refl s

theorem State.SameArray.of_eq {s t : State} (hg : t.glue = s.glue) (ht : t.twin = s.twin) (hr : t.tern.rows = s.tern.rows)
    (hw : t.tern.words = s.tern.words) : s.SameArray t := ⟨⟨hg, ht⟩, hr, hw⟩

theorem State.takePort_array (s : State) (block n : Nat) (lock : Bool) : s.SameArray (s.takePort block n lock) := by
  unfold State.takePort
  dsimp only
  split
  · refine State.SameArray.trans ?_ (.of_eq rfl rfl rfl rfl)
    refine State.SameArray.trans ?_ (State.breakLocks_array _ _ _)
    exact (s.advance_array _).trans (.of_eq rfl rfl rfl rfl)
  · exact (s.advance_array _).trans (.of_eq rfl rfl rfl rfl)

/-- What a write of rows through LS does to the rows and words. -/
theorem State.lsWrite_array (s : State) (a : Nat) (rows : List Row) (w : ResultWord) (lock : Bool) : s.RowsOnly (s.lsWrite a rows w lock) ∧
    (s.lsWrite a rows w lock).tern.rows = putRows s.tern.rows a rows ∧ (s.lsWrite a rows w lock).tern.words = smSet word0 s.tern.words a w := by
  have hport : s.SameArray (s.takePort (a / 1024) rows.length lock).readBacks := s.takePort_array _ _ _
  unfold State.lsWrite
  dsimp only
  rw [State.setRows_eq]
  generalize (s.takePort (a / 1024) rows.length lock).readBacks = u at hport
  obtain ⟨honly, hrows, hwords⟩ := hport
  refine ⟨honly, ?_, ?_⟩
  · rw [← hrows]
    rfl
  · rw [← hwords]
    rfl

theorem State.landSlot_only (s : State) (d : TernDesc) (p n : Nat) (rows : List Row) (w : ResultWord) (lock : Bool) :
    s.RowsOnly (s.landSlot d p n rows w lock) := .foldl (fun t _ => (t.lsWrite_array _ _ _ _).1) _ _

/-- The rows and the word of a slot of a table without replicas, once they are written. -/
theorem State.landSlot_one {d : TernDesc} (h : d.replicas = 1) (s : State) (p n : Nat) (rows : List Row) (w : ResultWord) (lock : Bool) :
    (∀ j, (hj : j < rows.length) → (s.landSlot d p n rows w lock).row (d.rowAt p 0 n + j) = rows[j]) ∧
    (s.landSlot d p n rows w lock).word (d.rowAt p 0 n) = w := by
  have hone : s.landSlot d p n rows w lock = s.lsWrite (d.rowAt p 0 n) rows w lock := by
    rw [State.landSlot, h]
    rfl
  obtain ⟨-, hrows, hwords⟩ := s.lsWrite_array (d.rowAt p 0 n) rows w lock
  rw [hone]
  refine ⟨fun j hj => ?_, ?_⟩
  · rw [State.row, hrows]
    exact putRows_in _ _ _ hj
  · rw [State.word, hwords, smGet_smSet_same]

/-! ## ENTRY_WRITE in a named glue-up (R121) -/

theorem State.touch_glue (s : State) (g t i : Nat) : (s.touch g t i).glueUp g = s.glueUp g ∧ (s.touch g t i).twin = s.twin := by
  unfold State.touch
  split
  · exact ⟨rfl, rfl⟩
  · exact ⟨rfl, rfl⟩

theorem putEntry_new {q : Request} {s : State} {t p g n : Nat} {d : TernDesc} {e : NewEntry} (hunmirrored : q.mirrored = false) (hp : p = d.partOf e.value)
    (hfree : s.indexHolder t e.index (s.places d) = 0) (hold : committed (s.places d) e.index = none)
    (hmine : pendingOf (s.places d) g e.index = none) (hjob : s.jobFor g t e.index = none) (htouch : s.isTouched g t e.index = false)
    (hplace : s.placeEntry t d p g e [] [] = .at_ ⟨[], n⟩) (hplan : s.planHolder t p g (s.places d) ⟨[], n⟩ = none)
    (hslot : s.slotFree t d p g [] n = true) : s.putEntry t d e g Op.entryWrite q =
      .done ((s.landSlot d p n (e.rows d .veneer g) (mkWord e.index e.action) false).touch g t e.index) 1 [1, 0] := by
  have hsup : s.supersede g t e.index = s := by rw [State.supersede, hjob]
  have hq : q.places = [] := by
    unfold Request.mirrored at hunmirrored
    unfold Request.places
    split <;> simp_all
  have hfor : s.placeFor t d p g e Op.entryWrite q = .at_ ⟨[], n⟩ := by
    unfold State.placeFor
    rw [hq]
    exact hplace
  subst hp
  unfold State.putEntry
  dsimp only
  rw [hfree, hold, hmine, hsup, htouch, if_neg (show ¬ ((0 : Nat) ≠ 0 ∧ 0 ≠ g) by simp)]
  rw [show s.cancelInsert d none = s from rfl, hfor]
  dsimp only
  rw [hplan]
  dsimp only
  rw [if_pos ⟨rfl, hslot⟩]
  rfl

theorem entryWrite_new {q : Request} {s : State} {d : TernDesc} {n : Nat} (ht : Taken Op.entryWrite q s) (hs : s.single)
    (hunmirrored : q.mirrored = false) (hpre : s.entryPre q = 0) (hput : q.b 0 16 = false) (hg : q.f 0 8 8 ≠ 0) (hopen : s.glueOpen? (q.f 0 8 8) = 0)
    (hnow : s.ternNow (q.f 0 0 8) = some d) (hfree : s.indexHolder (q.f 0 0 8) (entryOf d q).index (s.places d) = 0)
    (hold : committed (s.places d) (entryOf d q).index = none) (hmine : pendingOf (s.places d) (q.f 0 8 8) (entryOf d q).index = none)
    (hjob : s.jobFor (q.f 0 8 8) (q.f 0 0 8) (entryOf d q).index = none) (htouch : s.isTouched (q.f 0 8 8) (q.f 0 0 8) (entryOf d q).index = false)
    (hplace : s.placeEntry (q.f 0 0 8) d (d.partOf (entryOf d q).value) (q.f 0 8 8) (entryOf d q) [] [] = .at_ ⟨[], n⟩)
    (hplan : s.planHolder (q.f 0 0 8) (d.partOf (entryOf d q).value) (q.f 0 8 8) (s.places d) ⟨[], n⟩ = none)
    (hslot : s.slotFree (q.f 0 0 8) d (d.partOf (entryOf d q).value) (q.f 0 8 8) [] n = true) (hfull : (s.glueUp (q.f 0 8 8)).ops < 4096) :
    exec (.entryWrite q) s = .next (s.after ((((s.landSlot d (d.partOf (entryOf d q).value) n ((entryOf d q).rows d .veneer (q.f 0 8 8))
      (mkWord (entryOf d q).index (entryOf d q).action) false).touch (q.f 0 8 8) (q.f 0 0 8) (entryOf d q).index).addOps (q.f 0 8 8) 1).reply
      Op.entryWrite q 0 [1, 0])) := by
  have hact : entryAct q s (q.f 0 8 8) = .done ((s.landSlot d (d.partOf (entryOf d q).value) n ((entryOf d q).rows d .veneer (q.f 0 8 8))
      (mkWord (entryOf d q).index (entryOf d q).action) false).touch (q.f 0 8 8) (q.f 0 0 8) (entryOf d q).index) 1 [1, 0] := by
    unfold entryAct
    dsimp only
    rw [if_neg (not_not_intro hpre), hnow]
    dsimp only
    rw [if_neg (by rw [hput]; exact Bool.false_ne_true)]
    exact putEntry_new hunmirrored rfl hfree hold hmine hjob htouch hplace hplan hslot
  obtain ⟨hglue, htwin⟩ := s.landSlot_only d (d.partOf (entryOf d q).value) n ((entryOf d q).rows d .veneer (q.f 0 8 8))
    (mkWord (entryOf d q).index (entryOf d q).action) false
  generalize s.landSlot d (d.partOf (entryOf d q).value) n ((entryOf d q).rows d .veneer (q.f 0 8 8))
    (mkWord (entryOf d q).index (entryOf d q).action) false = u at hact hglue htwin ⊢
  obtain ⟨hup, htwin'⟩ := u.touch_glue (q.f 0 8 8) (q.f 0 0 8) (entryOf d q).index
  refine finish_final ht (body := State.entryWrite) ?_
  unfold State.entryWrite
  dsimp only
  rw [if_neg (fun h => hg h.2.2.1)]
  refine State.glueOp_done hs hpre hg hopen hact (htwin'.trans htwin) ?_
  rw [hup, State.glueUp, hglue]
  exact hfull

theorem dropEntry_live {s : State} {t i g : Nat} {d : TernDesc} {x : Place} (hfree : s.indexHolder t i (s.places d) = 0)
    (hold : committed (s.places d) i = some x) (hmine : pendingOf (s.places d) g i = none) (hjob : s.jobFor g t i = none)
    (htouch : s.isTouched g t i = false) : s.dropEntry t d i g = .done ((s.tagSlot d x.part x.slot g).touch g t i) 1 [1, 0] := by
  have hsup : s.supersede g t i = s := by rw [State.supersede, hjob]
  unfold State.dropEntry
  dsimp only
  rw [hfree, hold, hmine, hsup, show s.cancelInsert d none = s from rfl, htouch, if_neg (by simp), if_neg (by simp)]
  rfl

theorem entryWrite_drops {q : Request} {s : State} {d : TernDesc} {x : Place} (ht : Taken Op.entryWrite q s) (hs : s.single) (hpre : s.entryPre q = 0)
    (hdel : q.b 0 16 = true) (hg : q.f 0 8 8 ≠ 0) (hopen : s.glueOpen? (q.f 0 8 8) = 0) (hnow : s.ternNow (q.f 0 0 8) = some d)
    (hfree : s.indexHolder (q.f 0 0 8) (q.f 1 0 21) (s.places d) = 0) (hold : committed (s.places d) (q.f 1 0 21) = some x)
    (hmine : pendingOf (s.places d) (q.f 0 8 8) (q.f 1 0 21) = none) (hjob : s.jobFor (q.f 0 8 8) (q.f 0 0 8) (q.f 1 0 21) = none)
    (htouch : s.isTouched (q.f 0 8 8) (q.f 0 0 8) (q.f 1 0 21) = false) (hfull : (s.glueUp (q.f 0 8 8)).ops < 4096) :
    exec (.entryWrite q) s = .next (s.after ((((s.tagSlot d x.part x.slot (q.f 0 8 8)).touch (q.f 0 8 8) (q.f 0 0 8) (q.f 1 0 21)).addOps
      (q.f 0 8 8) 1).reply Op.entryWrite q 0 [1, 0])) := by
  have hact : entryAct q s (q.f 0 8 8) = .done ((s.tagSlot d x.part x.slot (q.f 0 8 8)).touch (q.f 0 8 8) (q.f 0 0 8) (q.f 1 0 21)) 1 [1, 0] := by
    unfold entryAct
    dsimp only
    rw [if_neg (not_not_intro hpre), hnow]
    dsimp only
    rw [if_pos hdel]
    exact dropEntry_live hfree hold hmine hjob htouch
  obtain ⟨hglue, htwin⟩ := s.tagSlot_only d x.part x.slot (q.f 0 8 8)
  generalize s.tagSlot d x.part x.slot (q.f 0 8 8) = u at hact hglue htwin ⊢
  obtain ⟨hup, htwin'⟩ := u.touch_glue (q.f 0 8 8) (q.f 0 0 8) (q.f 1 0 21)
  refine finish_final ht (body := State.entryWrite) ?_
  unfold State.entryWrite
  dsimp only
  rw [if_neg (fun h => hg h.2.2.1)]
  refine State.glueOp_done hs hpre hg hopen hact (htwin'.trans htwin) ?_
  rw [hup, State.glueUp, hglue]
  exact hfull

/-! ## The last step of a write that made room (R171) -/

/-- The state that has the entry in the slot that came free. -/
def State.roomMade (s : State) (m : MakeRoom) (d : TernDesc) : State :=
  (((Machine.committed (s.places d) m.index).elim s (fun x => s.tagSlot d x.part x.slot m.id)).touch m.id m.table m.index).landSlot d m.part m.place
    (m.entry.rows d .veneer m.id) (mkWord m.entry.index m.entry.action) false

theorem State.toClamping_tern (s : State) (ids : List Nat) : (s.toClamping ids).tern = s.tern := by
  have hfold (f : State → Nat → GlueUp) (l : List Nat) (t : State) : (l.foldl (fun s i => s.setGlue i (f s i)) t).tern = t.tern := by
    induction l generalizing t with
    | nil => rfl
    | cons i l ih => exact ih _
  unfold State.toClamping State.toClampingIf
  dsimp only
  split
  · exact hfold _ ids s
  · exact hfold _ ids s

/-- Whatever the opener of the glue-up, the end of the write leaves the rows as they were written. -/
theorem State.placeJob_tern {s : State} {m : MakeRoom} {d : TernDesc} (hfull : (s.glueUp m.id).ops + m.base ≤ 4096) :
    (s.placeJob m d).tern = (s.roomMade m d).tern := by
  unfold State.placeJob
  dsimp only
  rw [if_neg (Nat.not_lt.mpr hfull)]
  split
  · rfl
  · split
    · exact State.toClamping_tern _ _
    · obtain ⟨-, -, -, htern, -⟩ := State.reply_same _ _ _ _ _
      exact htern

theorem makeRoomMove_places {m : MakeRoom} {d : TernDesc} {s : State} (hfw : s.fwUp = true)
    (hfind : s.glue.moves.find? (fun x => x.id == m.id && !x.finished) = some m) (hnow : s.ternNow m.table = some d)
    (hopen : (s.glueUp m.id).st = .opened) (hmoving : m.moving = none) (hstuck : m.stuck = none) (hbeyond : s.jobBeyond m d = false)
    (hdone : m.moves = []) (hslot : s.slotFree m.table d m.part m.id m.claimed m.place = true) (hfull : (s.glueUp m.id).ops + m.base ≤ 4096)
    (hrep : d.replicas = 1) : Makes (.makeRoomMove m.id) s fun t =>
      (∀ j, j < d.rowsPer → t.row (d.rowAt m.part 0 m.place + j) = m.entry.row j .veneer m.id) ∧
      t.word (d.rowAt m.part 0 m.place) = mkWord m.entry.index m.entry.action := by
  have hglue : s.glueOpen? m.id = 0 := by rw [State.glueOpen?, hopen]
  have hexec : exec (.makeRoomMove m.id) s = finish s (s.placeJob m d) := by
    show finish s (whileFw s _) = _
    rw [whileFw_up _ hfw, hfind]
    dsimp only
    unfold State.stepJob
    dsimp only
    rw [hnow]
    dsimp only
    rw [if_neg (by rw [hopen]; decide), if_neg (not_not_intro hglue), hmoving, hstuck, if_neg (by simp), if_neg (by rw [hbeyond]; simp), hdone]
    dsimp only
    rw [if_pos hslot]
  obtain ⟨hrows, hword⟩ := State.landSlot_one hrep
    (((committed (s.places d) m.index).elim s (fun x => s.tagSlot d x.part x.slot m.id)).touch m.id m.table m.index) m.part m.place
    (m.entry.rows d .veneer m.id) (mkWord m.entry.index m.entry.action) false
  have hlen : (m.entry.rows d .veneer m.id).length = d.rowsPer := by rw [NewEntry.rows, List.length_map, List.length_range]
  refine .of_finish hexec ⟨fun j hj => ?_, ?_⟩
  · show (s.placeJob m d).row _ = _
    rw [State.row, State.placeJob_tern hfull]
    refine (hrows j (by rw [hlen]; exact hj)).trans ?_
    simp only [NewEntry.rows, List.getElem_map, List.getElem_range]
  · show (s.placeJob m d).word _ = _
    rw [State.word, State.placeJob_tern hfull]
    exact hword

/-! ## The end of a retry (R168) -/

/-- What stays of the retry queue, the clock and the count of the expired retries. -/
def State.KeepsRetry (s t : State) : Prop :=
  t.glue.retryQ = s.glue.retryQ ∧ t.clk = s.clk ∧ t.rd Reg.glueRetryExpiredCount = s.rd Reg.glueRetryExpiredCount

theorem State.KeepsRetry.refl (s : State) : s.KeepsRetry s := ⟨rfl, rfl, rfl⟩

theorem State.KeepsRetry.trans {s t u : State} (h : s.KeepsRetry t) (k : t.KeepsRetry u) : s.KeepsRetry u :=
  ⟨k.1.trans h.1, k.2.1.trans h.2.1, k.2.2.trans h.2.2⟩

theorem State.KeepsRetry.of_reg {s t : State} (hq : t.glue.retryQ = s.glue.retryQ) (hc : t.clk = s.clk) (hr : t.reg = s.reg) : s.KeepsRetry t :=
  ⟨hq, hc, State.rd_of_reg hr _⟩

theorem State.KeepsRetry.foldl {α : Type} {f : State → α → State} (hf : ∀ (t : State) a, t.KeepsRetry (f t a)) (l : List α) (s : State) :
    s.KeepsRetry (l.foldl f s) := by
  induction l generalizing s with
  | nil => exact .refl s
  | cons a l ih => exact (hf s a).trans (ih _)

theorem State.hideSlot_retry (s : State) (d : TernDesc) (p n : Nat) (f : Row → Row) : s.KeepsRetry (s.hideSlot d p n f) :=
  .foldl (fun t _ => by rw [State.setRows_eq]; exact .of_reg rfl rfl rfl) _ _

theorem State.retagUnit_retry (s : State) (l : List Nat) (f : Slot → Slot) : s.KeepsRetry (l.foldl (fun s p => s.setSlot p (f (s.slot p))) s) := by
  refine .foldl (fun t p => ?_) _ _
  exact .of_reg rfl rfl rfl

/-- The firmware takes back what a mailbox write has put in veneer in a table. -/
theorem State.undoWrite_retry (s : State) (op : Nat) (q : Request) (g : Nat) : s.KeepsRetry (s.undoWrite op q g) := by
  unfold State.undoWrite
  split
  · exact .refl s
  · split
    · exact .refl s
    · dsimp only
      refine State.KeepsRetry.trans (State.KeepsRetry.trans (.foldl (fun t a => ?_) _ s) (.foldl (fun t a => ?_) _ _)) (.of_reg rfl rfl rfl)
      · split
        · exact .refl t
        · refine .foldl (fun t x => ?_) _ _
          split
          · exact ((t.hideSlot_retry _ _ _ _).trans (State.hideSlot_retry _ _ _ _ _)).trans (.of_reg rfl rfl rfl)
          · refine .foldl (fun t r => ?_) _ _
            exact .of_reg rfl rfl rfl
      · split
        · exact .refl t
        · refine .foldl (fun t b => .foldl (fun t x => ?_) _ _) _ _
          split
          · exact (t.retagUnit_retry (unit b.w x) (fun x => x.retag { x with state := .free, tag := 0 })).trans
              (State.retagUnit_retry _ _ (fun x => x.retag { x with tag := BitVec.ofNat 8 0 }))
          · exact .of_reg rfl rfl rfl

theorem State.cnt_retry (s : State) {a : Nat} (n : Nat) (h : Reg.glueRetryExpiredCount ≠ a) : s.KeepsRetry (s.cnt a n) :=
  ⟨rfl, rfl, s.rd_cnt_ne n h⟩

theorem State.event_retry (s : State) (b c i : Nat) (x y : Word) : s.KeepsRetry (s.event b c i x y) := by
  obtain ⟨v, e, h, hrd⟩ := s.event_eq b c i x y
  exact ⟨by rw [h], by rw [h], hrd _ (by decide)⟩

theorem State.Answered.retry {s t : State} (h : s.Answered t) : s.KeepsRetry t := by
  obtain ⟨-, -, hclk, -, -, hglue, -⟩ := h.frame
  exact ⟨by rw [hglue], hclk, h.rd (.inl (by decide))⟩

theorem State.mailboxResult_retry (s : State) (st : Nat) (w : List Word) : s.KeepsRetry (s.mailboxResult st w) := by
  have hnote : s.KeepsRetry (s.noteFault st) := by
    unfold State.noteFault
    split
    · exact .of_reg rfl rfl rfl
    · exact .refl s
  have hwr (t : State) {a : Nat} (v : Word) (h : Reg.glueRetryExpiredCount ≠ a) : t.KeepsRetry (t.wr a v) := ⟨rfl, rfl, t.rd_wr_ne v h⟩
  have hres := ((hnote.trans (hwr _ (w32 (st + (wd w 0).toNat)) (a := Reg.cohereActResult) (by decide))).trans
    (hwr _ (wd w 1) (a := Reg.cohereActRindex) (by decide))).trans (hwr _ (wd w 2) (a := Reg.cohereActRops) (by decide))
  unfold State.mailboxResult
  dsimp only
  split
  · exact hres
  · exact hres.trans (.of_reg rfl rfl rfl)

/-- The stream of a command that is not mirrored sends nothing that changes the retry queue. -/
theorem State.toStream_retry (s : State) (id cls op : Nat) {q : Request} (buf : Option SqBuf) (vtag : Option Nat) (mute : Bool) (st : Nat) (side final : Bool)
    (w : List Word) (h : q.mirrored = false) : s.KeepsRetry (s.toStream id cls op q buf vtag mute st side final w) := by
  unfold State.toStream
  split
  · split
    · exact .refl s
    · exact .of_reg rfl rfl rfl
  · exact .of_reg rfl rfl rfl
  · next port _ _ _ =>
    dsimp only
    split
    · exact (State.KeepsRetry.of_reg rfl rfl rfl).trans (State.queueOwn_answered _ port.isLt _ _).retry
    · exact (State.queueOwn_answered _ port.isLt _ _).retry
  · exact (s.sendTo_answered _ _).retry
  · next hq => rw [Request.mirrored, hq] at h; cases h
  · split
    · exact .of_reg rfl rfl rfl
    · exact .refl s
  · exact .refl s

theorem State.reply_retry (s : State) (op : Nat) {q : Request} (st : Nat) (w : List Word) (h : q.mirrored = false) : s.KeepsRetry (s.reply op q st w) := by
  have hsealed : s.KeepsRetry (s.sealedCount st) := by
    unfold State.sealedCount
    split
    · exact s.cnt_retry 1 (by decide)
    · exact .refl s
  have hfault : s.KeepsRetry ((s.sealedCount st).noteFault st) := by
    refine hsealed.trans ?_
    unfold State.noteFault
    split
    · exact .of_reg rfl rfl rfl
    · exact .refl _
  unfold State.reply
  dsimp only
  split
  · exact .of_reg rfl rfl rfl
  · unfold State.replyFrom
    split
    · exact s.mailboxResult_retry st w
    · dsimp only
      refine State.KeepsRetry.trans (hfault.trans ?_) (State.closeCmd_answered _ q).retry
      split
      · unfold State.noReplyFail
        split
        · exact .refl _
        · exact (State.cnt_retry _ 1 (by decide)).trans (State.event_retry _ _ _ _ _ _)
      · exact State.toStream_retry _ _ _ _ _ _ _ _ _ _ _ h

theorem State.abortGlue_retry (s : State) (id reason wounder : Nat) : s.KeepsRetry (s.abortGlue id reason wounder) := by
  have hcnt (t : State) (p : Prop) [Decidable p] {a : Nat} (h : Reg.glueRetryExpiredCount ≠ a) : t.KeepsRetry (if p then t.cnt a 1 else t) := by
    split
    · exact t.cnt_retry 1 h
    · exact .refl t
  unfold State.abortGlue
  dsimp only
  split
  · exact .refl s
  · refine State.KeepsRetry.trans (State.KeepsRetry.trans ?_ (hcnt _ _ (a := Reg.glueWoundCount) (by decide))) (hcnt _ _ (by decide))
    exact State.KeepsRetry.trans (.of_reg rfl rfl rfl) (State.cnt_retry _ 1 (by decide))

theorem State.failOp_retry (s : State) (id op : Nat) {q : Request} (st : Nat) (w : List Word) (h : q.mirrored = false) :
    s.KeepsRetry (s.failOp id op q st w) := by
  unfold State.failOp
  split
  · unfold State.failImplicit
    split
    · refine (s.abortGlue_retry id 8 0).trans ?_
      unfold State.tellAbort
      split
      · exact .of_reg rfl rfl rfl
      · exact .of_reg rfl rfl rfl
    · exact State.KeepsRetry.trans (t := s.dropImplicit id) (.of_reg rfl rfl rfl) (State.reply_retry _ op st w h)
  · exact .of_reg rfl rfl rfl
  · exact s.reply_retry op st w h

/-- An operation that has waited its limit leaves the retry queue and is counted. -/
theorem retryExpiry_makes {r : RetryOp} {s : State} (hfw : s.fwUp = true)
    (hfind : s.glue.retryQ.find? (fun x => x.id == r.id && !x.q.mirrored) = some r) (hage : s.clk.age < 2 ^ 63) (hsince : r.since < 2 ^ 62) :
    Makes (.glueRetryLimitExpiry r.id) s fun t =>
      t.glue.retryQ = s.glue.retryQ.erase r ∧ t.clk.age = max s.clk.age (r.since + s.retryLimit) ∧
      t.rd Reg.glueRetryExpiredCount = w32 (min 0xFFFFFFFF ((s.rd Reg.glueRetryExpiredCount).toNat + 1)) := by
  have hq : r.q.mirrored = false := by
    have := List.find?_some hfind
    simpa using this
  have hlimit : s.retryLimit < 2 ^ 62 := by
    have hmin : min 10000 (max 1 (s.rf Reg.glueRetryLimit 0 14)) ≤ 10000 := Nat.min_le_left _ _
    unfold State.retryLimit msC
    omega
  have hclk := s.untilAge (n := r.since + s.retryLimit) (by omega) (by omega)
  have hcount := s.until_rd (r.since + s.retryLimit) (a := Reg.glueRetryExpiredCount) (by unfold clockCounts; decide)
  obtain ⟨v, x, c, e, -⟩ := s.advance_eq (r.since + s.retryLimit - s.clk.age)
  have hglue : (s.until (r.since + s.retryLimit)).glue = s.glue := by rw [State.until, e]
  generalize hu : s.until (r.since + s.retryLimit) = u at hclk hcount hglue
  have hexec : exec (.glueRetryLimitExpiry r.id) s = finish s ((State.undoWrite { u.cnt Reg.glueRetryExpiredCount 1 with
      glue := { u.glue with retryQ := u.glue.retryQ.erase r } } r.op r.q r.id).failOp r.id r.op r.q St.entryClaimed []) := by
    show finish s (whileFw s _) = _
    rw [whileFw_up _ hfw, hfind]
    dsimp only
    rw [hu]
    rfl
  obtain ⟨hretry, hclk', hrd⟩ := (State.undoWrite_retry { u.cnt Reg.glueRetryExpiredCount 1 with
      glue := { u.glue with retryQ := u.glue.retryQ.erase r } } r.op r.q r.id).trans (State.failOp_retry _ r.id r.op St.entryClaimed [] hq)
  refine .of_finish hexec ⟨?_, ?_, ?_⟩
  · refine hretry.trans ?_
    show u.glue.retryQ.erase r = _
    rw [hglue]
  · refine (congrArg ClkSt.age hclk').trans ?_
    exact hclk
  · rw [State.rd_after, hrd, ← hcount]
    exact (State.rd_of_vals (s := u.cnt Reg.glueRetryExpiredCount 1) rfl _).trans (u.rd_cnt_one _)

/-- Settles O25: an insert that finds a slot and a delete of a committed entry each change one slot, a write that made room ends by writing its
entry, and an operation whose limit has passed leaves the queue. -/
theorem entryWriteCompletes : Obligations.EntryWriteCompletes := by
  unfold Obligations.EntryWriteCompletes
  refine ⟨fun q s d n g p e ht hs hq hpre hput hg hne hopen hnow he hp hfree hold hmine hjob htouch hplace hplan hslot hfull => ?_,
    fun q s d x g ht hs hpre hdel hg hne hopen hnow hfree hold hmine hjob htouch hfull => ?_,
    fun m d s hfw hfind hnow hopen hmoving hstuck hbeyond hdone hslot hfull hrep =>
      makeRoomMove_places hfw hfind hnow hopen hmoving hstuck hbeyond hdone hslot hfull hrep,
    fun r s hfw hfind hage hsince => retryExpiry_makes hfw hfind hage hsince⟩
  · subst hg he hp
    exact entryWrite_new ht hs hq hpre hput hne hopen hnow hfree hold hmine hjob htouch hplace hplan hslot hfull
  · subst hg
    exact entryWrite_drops ht hs hpre hdel hne hopen hnow hfree hold hmine hjob htouch hfull

end Sys2Proof.Machine


/-! The life of a ternary table (R109 to R125). -/

namespace Sys2Proof.Machine

/-! ## Waiters -/

theorem State.markMissed_cmdq (s : State) (op : Nat) (q : Request) (st : Nat) : (s.markMissed op q st).cmdq = s.cmdq := by
  unfold State.markMissed
  dsimp only
  split <;> rfl

theorem State.toStream_waiters (s : State) (id cls op : Nat) (q : Request) (buf : Option SqBuf) (vtag : Option Nat) (mute : Bool) (st : Nat)
    (side final : Bool) (w : List Word) : (s.toStream id cls op q buf vtag mute st side final w).cmdq.waiters = s.cmdq.waiters := by
  unfold State.toStream
  split
  · split <;> rfl
  · rfl
  · next port _ _ _ =>
    dsimp only
    split
    · exact (State.queueOwn_answered _ port.isLt _ _).waiters
    · exact (State.queueOwn_answered _ port.isLt _ _).waiters
  · exact (State.sendTo_answered _ _ _).waiters
  · split
    · exact congrArg CmdqSt.waiters (s.markMissed_cmdq op q st)
    · rfl
  · split <;> rfl
  · rfl

/-- No reply takes a waiter away or adds one. -/
theorem State.reply_waiters (s : State) (op : Nat) (q : Request) (st : Nat) (w : List Word) : (s.reply op q st w).cmdq.waiters = s.cmdq.waiters := by
  have hfault (t : State) : (t.noteFault st).cmdq = t.cmdq := by
    unfold State.noteFault
    split <;> rfl
  have hsealed : ((s.sealedCount st).noteFault st).cmdq = s.cmdq := by
    rw [hfault]
    unfold State.sealedCount
    split <;> rfl
  unfold State.reply
  dsimp only
  split
  · rfl
  · unfold State.replyFrom
    split
    · unfold State.mailboxResult
      dsimp only
      split
      · exact congrArg CmdqSt.waiters (hfault s)
      · exact congrArg CmdqSt.waiters (hfault s)
    · dsimp only
      refine ((State.closeCmd_answered _ q).waiters).trans ?_
      split
      · unfold State.noReplyFail
        split
        · exact congrArg CmdqSt.waiters hsealed
        · obtain ⟨v, e, h, -⟩ := State.event_eq (((s.sealedCount st).noteFault st).cnt Reg.cmdqNoreplyFailCount 1) 0x02 0x01 0 q.tag
            (w32 (st + op % 2 ^ 16 * 2 ^ 16))
          rw [h]
          exact congrArg CmdqSt.waiters hsealed
      · exact (State.toStream_waiters _ _ _ _ _ _ _ _ _ _ _ _).trans (congrArg CmdqSt.waiters hsealed)

/-- The commands that waited have their replies and wait no more. -/
theorem State.wake_waits (s : State) (on : WaitOn) (st : Nat) (w : List Word) : (s.wake on st w).waits on = false := by
  have hfold (ws : List Waiter) (t : State) : (ws.foldl (fun s x => s.reply x.op x.q st w) t).cmdq.waiters = t.cmdq.waiters := by
    induction ws generalizing t with
    | nil => rfl
    | cons x ws ih => exact (ih _).trans (t.reply_waiters _ _ _ _)
  unfold State.waits State.wake State.wakeWith
  dsimp only
  rw [hfold]
  refine List.any_eq_false.mpr fun x hx => ?_
  have hne := (List.mem_filter.mp hx).2
  simpa using hne

theorem State.wake_tern (s : State) (on : WaitOn) (st : Nat) (w : List Word) : (s.wake on st w).tern = s.tern ∧ (s.wake on st w).clk = s.clk := by
  obtain ⟨-, -, hclk, htern, -⟩ := s.wakeWith_same on (fun _ => (st, w))
  exact ⟨htern, hclk⟩

/-! ## Segments (R109, R110) -/

theorem segments_fold (x : Segment) (segs : List Nat) (m : SMap Segment) (k : Nat) :
    smGet segment0 (segs.foldl (fun m n => smSet segment0 m n x) m) k = if k ∈ segs then x else smGet segment0 m k := by
  induction segs generalizing m with
  | nil => rfl
  | cons n segs ih =>
    rw [List.foldl_cons, ih]
    by_cases hk : k ∈ segs
    · rw [if_pos hk, if_pos (List.mem_cons_of_mem n hk)]
    · rw [if_neg hk]
      by_cases hn : k = n
      · rw [hn, smGet_smSet_same, if_pos (List.mem_cons_self ..)]
      · rw [smGet_smSet_ne _ _ _ _ hn, if_neg (by simp [hn, hk])]

theorem State.segment_giveSegs (s : State) (segs : List Nat) (x : Segment) (k : Nat) :
    (s.giveSegs segs x).segment k = if k ∈ segs then x else s.segment k := segments_fold x segs _ k

theorem smGet_filter_key {α : Type} (d : α) (p : Nat → Bool) (m : SMap α) (k : Nat) :
    smGet d (m.filter (fun x => p x.1)) k = if p k then smGet d m k else d := by
  induction m with
  | nil => simp [smGet]
  | cons x m ih =>
    obtain ⟨a, v⟩ := x
    rw [List.filter_cons]
    by_cases ha : p a = true
    · rw [if_pos ha, smGet, smGet, ih]
      by_cases hk : k = a
      · rw [if_pos hk, if_pos hk, hk, if_pos ha]
      · rw [if_neg hk, if_neg hk]
    · rw [if_neg ha, ih, smGet]
      by_cases hk : k = a
      · rw [hk, if_neg ha, if_neg ha]
      · rw [if_neg hk]

/-- Every row of a cleared segment is free. -/
theorem State.row_clearSegs (s : State) {segs : List Nat} {a : Nat} (h : a / 16384 ∈ segs) : (s.clearSegs segs).row a = row0 := by
  refine (smGet_filter_key row0 (fun a => !segs.contains (a / 16384)) s.tern.rows a).trans (if_neg ?_)
  simp [h]

/-- A key whose value is not the default stands in the list. -/
theorem smGet_mem {α : Type} {d : α} {m : SMap α} {k : Nat} (h : smGet d m k ≠ d) : (k, smGet d m k) ∈ m := by
  induction m with
  | nil => exact absurd rfl h
  | cons x m ih =>
    obtain ⟨a, v⟩ := x
    rw [smGet] at h ⊢
    by_cases hk : k = a
    · rw [if_pos hk, hk]
      exact List.mem_cons_self ..
    · rw [if_neg hk] at h ⊢
      exact List.mem_cons_of_mem _ (ih h)

/-- The segments that meet a test. -/
def State.segsWith (s : State) (p : Segment → Bool) : List Nat := (s.tern.segments.filter (fun x => p x.2)).map (·.1)

/-- A segment that is not free, and whose state meets a test, is in the list of those that meet it. -/
theorem State.segment_listed (s : State) {p : Segment → Bool} {k : Nat} (hp : p (s.segment k) = true) (hne : s.segment k ≠ segment0) :
    k ∈ s.segsWith p :=
  List.mem_map.mpr ⟨_, List.mem_filter.mpr ⟨smGet_mem hne, hp⟩, rfl⟩

theorem State.segment_unlisted (s : State) {p : Segment → Bool} {k : Nat} (h : ∀ x ∈ s.tern.segments, x.1 = k → p x.2 = false) :
    k ∉ s.segsWith p := by
  intro hk
  obtain ⟨x, hx, hkey⟩ := List.mem_map.mp hk
  obtain ⟨hmem, hp⟩ := List.mem_filter.mp hx
  rw [h x hmem hkey] at hp
  cases hp

theorem groups_flatten (free : List Nat) (k n : Nat) : (groups free k n).flatten = free.take (k * n) := by
  induction k with
  | zero => rw [Nat.zero_mul, List.take_zero]; rfl
  | succ k ih =>
    have hstep : groups free (k + 1) n = groups free k n ++ [(free.drop (k * n)).take n] := by
      rw [groups, List.range_succ, List.map_append]
      rfl
    rw [hstep, List.flatten_append, ih, List.flatten_singleton, Nat.succ_mul, List.take_add]

theorem State.ternTable_setTern_same (s : State) (t : Nat) (x : TernTable) : (s.setTern t x).ternTable t = x := smGet_smSet_same _ _ _ _

theorem State.ternTable_setTern_ne (s : State) {t i : Nat} (x : TernTable) (h : i ≠ t) : (s.setTern t x).ternTable i = s.ternTable i :=
  smGet_smSet_ne _ _ _ _ h

/-- Segments powered up for a table are its own and free of entries. -/
theorem State.takeSegs_eq (s : State) {segs : List Nat} (h : segs ≠ []) (t : Nat) : (s.takeSegs segs t).glue = s.glue ∧ (s.takeSegs segs t).twin = s.twin ∧
    (s.takeSegs segs t).tern.tables = s.tern.tables ∧
    (∀ k, (s.takeSegs segs t).segment k = if k ∈ segs then ⟨t, false⟩ else s.segment k) ∧
    ∀ a, a / 16384 ∈ segs → (s.takeSegs segs t).row a = row0 := by
  obtain ⟨v, r, c, e, -⟩ := s.advance_eq (2 * usC)
  have htake : s.takeSegs segs t = ((s.advance (2 * usC)).clearSegs segs).giveSegs segs ⟨t, false⟩ := if_neg h
  generalize s.advance (2 * usC) = u at e htake
  have hglue : u.glue = s.glue := by rw [e]
  have htwin : u.twin = s.twin := by rw [e]
  have htables : u.tern.tables = s.tern.tables := by rw [e]
  have hsegs : u.tern.segments = s.tern.segments := by rw [e]
  rw [htake]
  refine ⟨hglue, htwin, htables, fun k => ?_, fun a ha => State.row_clearSegs u ha⟩
  rw [State.segment_giveSegs]
  show (if k ∈ segs then _ else smGet segment0 u.tern.segments k) = _
  rw [hsegs]
  rfl

/-! ## TABLE_CREATE (R122) -/

/-- The descriptor that TABLE_CREATE makes of a table with one partition. -/
def Request.newDesc (q : Request) (s : State) : TernDesc where
  width := q.f 0 8 2
  resolution := q.f 0 12 1
  partLog2 := q.f 0 13 2
  partLsb := q.f 1 0 10
  replicas := q.f 0 16 2 + 1
  segs := q.f 0 20 5
  actionBase := q.f 2 0 20
  sets := groups s.freeSegs (2 ^ q.f 0 13 2 * (q.f 0 16 2 + 1)) (q.f 0 20 5)

theorem State.tableCreateDo_good {q : Request} {s : State} (hq : q.places = []) (h0 : 0 < q.f 0 0 8) (h255 : q.f 0 0 8 < 255) (hseg : 1 ≤ q.f 0 20 5)
    (hseg16 : q.f 0 20 5 ≤ 16) (hparts : q.f 0 13 2 = 0) (hs0 : q.stray 0 0x01F373FF = false) (hs1 : q.stray 1 0x3FF = false)
    (hs2 : q.stray 2 0xFFFFF = false) (htaken : s.tableTaken (q.f 0 0 8) = false) (hroom : (q.f 0 16 2 + 1) * q.f 0 20 5 ≤ s.freeSegs.length) :
    s.tableCreateDo q = ((s.takeSegs (q.newDesc s).sets.flatten (q.f 0 0 8)).setTern (q.f 0 0 8)
      { vers := [⟨(s.takeSegs (q.newDesc s).sets.flatten (q.f 0 0 8)).glue.c, some (q.newDesc s)⟩], gen := 0, busy := .idle },
      .final St.ok (segReply (q.newDesc s).sets)) := by
  have hfree : s.segsFor q = s.freeSegs := if_pos hq
  have hmany : s.freeSegs.length ≤ 128 := Nat.le_trans (List.length_filter_le _ _) (Nat.le_of_eq List.length_range)
  have hn : 2 ^ q.f 0 13 2 * (q.f 0 16 2 + 1) * q.f 0 20 5 = (q.f 0 16 2 + 1) * q.f 0 20 5 := by rw [hparts, Nat.pow_zero, Nat.one_mul]
  unfold State.tableCreateDo
  dsimp only
  rw [hfree, if_neg (by omega), if_neg (by rw [hn, hs0, hs1, hs2]; simp; omega), if_neg (by rw [htaken]; decide), if_neg (by rw [hn]; omega)]
  rfl

theorem tableCreate_makes {q : Request} {s : State} (ht : Taken Op.tableCreate q s) (hs : s.single) (hq : q.places = []) (h0 : 0 < q.f 0 0 8)
    (h255 : q.f 0 0 8 < 255) (hseg : 1 ≤ q.f 0 20 5) (hseg16 : q.f 0 20 5 ≤ 16) (hparts : q.f 0 13 2 = 0) (hs0 : q.stray 0 0x01F373FF = false)
    (hs1 : q.stray 1 0x3FF = false) (hs2 : q.stray 2 0xFFFFF = false) (htaken : s.tableTaken (q.f 0 0 8) = false)
    (hroom : (q.f 0 16 2 + 1) * q.f 0 20 5 ≤ s.freeSegs.length) : Makes (.tableCreate q) s fun t =>
      ∃ d : TernDesc, (t.ternTable (q.f 0 0 8)).vers = [⟨s.glue.c, some d⟩] ∧ d.width = q.f 0 8 2 ∧ d.resolution = q.f 0 12 1 ∧
        d.replicas = q.f 0 16 2 + 1 ∧ d.segs = q.f 0 20 5 ∧ d.actionBase = q.f 2 0 20 ∧
        d.sets.flatten = s.freeSegs.take ((q.f 0 16 2 + 1) * q.f 0 20 5) ∧
        (∀ n, n < 128 → (t.segment n).table = if d.sets.flatten.contains n then q.f 0 0 8 else (s.segment n).table) ∧
        (∀ n a, n ∈ d.sets.flatten → a / 16384 = n → t.row a = row0) ∧ ∀ i, i ≠ q.f 0 0 8 → t.ternTable i = s.ternTable i := by
  have hbody := State.tableCreateDo_good hq h0 h255 hseg hseg16 hparts hs0 hs1 hs2 htaken hroom
  have hsets : (q.newDesc s).sets.flatten = s.freeSegs.take ((q.f 0 16 2 + 1) * q.f 0 20 5) := by
    rw [Request.newDesc]
    dsimp only
    rw [groups_flatten, hparts, Nat.pow_zero, Nat.one_mul]
  have hne : (q.newDesc s).sets.flatten ≠ [] := by
    have hpos : 1 ≤ (q.f 0 16 2 + 1) * q.f 0 20 5 := Nat.mul_pos (Nat.succ_pos _) hseg
    intro h
    have hlen := congrArg List.length hsets
    rw [h, List.length_take, List.length_nil] at hlen
    omega
  obtain ⟨hglue, htwin, htables, hsegs, hrows⟩ := s.takeSegs_eq hne (q.f 0 0 8)
  generalize s.takeSegs (q.newDesc s).sets.flatten (q.f 0 0 8) = u at hbody hglue htwin htables hsegs hrows
  refine .of_final ht rfl (State.mirrored_off hs hbody htwin) (by decide) fun v hv => ⟨q.newDesc s, ?_⟩
  obtain ⟨-, -, -, -, htern, -⟩ := hv.frame
  have hsegment (n : Nat) : (s.after v).segment n = u.segment n := (congrArg (fun x : TernSt => smGet segment0 x.segments n) htern :)
  refine ⟨?_, rfl, rfl, rfl, rfl, rfl, hsets, fun n hn => ?_, fun n a hn ha => ?_, fun i hi => ?_⟩
  · show (smGet ternTable0 v.tern.tables (q.f 0 0 8)).vers = _
    rw [htern, ← hglue]
    exact congrArg TernTable.vers (u.ternTable_setTern_same _ _)
  · rw [hsegment, hsegs, apply_ite Segment.table]
    simp only [List.contains_iff_mem]
  · show smGet row0 v.tern.rows a = row0
    rw [htern]
    exact hrows a (by rw [ha]; exact hn)
  · show smGet ternTable0 v.tern.tables i = _
    rw [htern]
    refine (u.ternTable_setTern_ne _ hi).trans ?_
    rw [State.ternTable, htables]
    rfl

/-! ## TABLE_RESIZE and TABLE_DESTROY (R123 to R125) -/

/-- A command that is mirrored and waits, outside a twin. -/
theorem State.mirrored_pend {s t : State} {op : Nat} {q : Request} {f : State → State × CmdEnd} {on : WaitOn} {w : List Word} (hs : s.single)
    (hf : f s = (t, .pend on w)) (htwin : t.twin = s.twin) : s.mirrored op q f = (t, .pend on w) := by
  unfold State.mirrored
  rw [if_neg (by simp [State.refuses_off hs]), hf]
  dsimp only
  rw [State.mirrorAt_off (hs.of_twin htwin)]

theorem tableResize_makes {q : Request} {s : State} {d : TernDesc} (ht : Taken Op.tableResize q s) (hs : s.single) (hq : q.places = [])
    (hcheck : s.ternCheck (q.f 0 0 8) = 0) (hs0 : q.stray 0 0x1F00FF = false) (h16 : q.f 0 16 5 ≤ 16) (hidle : (s.ternTable (q.f 0 0 8)).busy = .idle)
    (hnow : s.ternNow (q.f 0 0 8) = some d) (h1 : 1 ≤ d.segs) (hgrow : d.segs ≤ q.f 0 16 5) (h128 : d.parts * d.replicas * q.f 0 16 5 ≤ 128)
    (hroom : d.parts * d.replicas * (q.f 0 16 5 - d.segs) ≤ s.freeSegs.length) : Makes (.tableResize q) s fun t =>
      (∃ sets, (t.ternTable (q.f 0 0 8)).busy = .growing (q.f 0 16 5) sets) ∧
      (t.ternTable (q.f 0 0 8)).vers = (s.ternTable (q.f 0 0 8)).vers ∧ t.waits (.resize (q.f 0 0 8)) = true := by
  have hfree : s.segsFor q = s.freeSegs := if_pos hq
  have hbody : ∃ (u : State) (sets : List (List Nat)), s.tableResizeDo q = (u.setTern (q.f 0 0 8) { u.ternTable (q.f 0 0 8) with busy := .growing (q.f 0 16 5) sets },
      .pend (.resize (q.f 0 0 8)) []) ∧ u.twin = s.twin ∧ u.tern.tables = s.tern.tables := by
    unfold State.tableResizeDo
    dsimp only
    rw [if_neg (not_not_intro hcheck), if_neg (by rw [hs0]; simp; omega), if_neg (not_not_intro hidle), hnow, hfree]
    dsimp only
    rw [if_neg (by omega), if_pos hgrow, if_neg (by omega)]
    by_cases hnone : (groups s.freeSegs (d.parts * d.replicas) (q.f 0 16 5 - d.segs)).flatten = []
    · rw [hnone]
      exact ⟨s, _, rfl, rfl, rfl⟩
    · obtain ⟨-, htwin, htables, -⟩ := s.takeSegs_eq hnone (q.f 0 0 8)
      exact ⟨_, _, rfl, htwin, htables⟩
  obtain ⟨u, sets, hbody, htwin, htables⟩ := hbody
  refine .of_pend ht rfl (State.mirrored_pend hs hbody htwin) (by decide) fun v hv => ?_
  obtain ⟨-, -, -, -, htern, -⟩ := hv.frame
  have htable : (s.after (v.wait (.resize (q.f 0 0 8)) Op.tableResize q St.ok [])).ternTable (q.f 0 0 8) =
      { u.ternTable (q.f 0 0 8) with busy := .growing (q.f 0 16 5) sets } := by
    show smGet ternTable0 v.tern.tables (q.f 0 0 8) = _
    rw [htern]
    exact u.ternTable_setTern_same _ _
  rw [htable, State.waits_after, State.waits_wait]
  refine ⟨⟨sets, rfl⟩, ?_, rfl⟩
  show (u.ternTable (q.f 0 0 8)).vers = _
  rw [State.ternTable, htables]
  rfl

theorem tableDestroy_makes {q : Request} {s : State} (ht : Taken Op.tableDestroy q s) (hs : s.single) (hs0 : q.stray 0 0xFF = false)
    (hcheck : s.ternCheck (q.f 0 0 8) = 0) (huse : s.tableInUse (q.f 0 0 8) = false)
    (hheld : ∀ d, s.ternNow (q.f 0 0 8) = some d → ∀ x ∈ s.places d, s.holderOf (q.f 0 0 8) x = 0)
    (hmoves : ∀ m ∈ s.glue.moves, m.table ≠ q.f 0 0 8) (hidle : (s.ternTable (q.f 0 0 8)).busy = .idle) : Makes (.tableDestroy q) s fun t =>
      (t.ternTable (q.f 0 0 8)).busy = .destroying ∧ t.waits (.destroy (q.f 0 0 8)) = true ∧ t.tern.rows = s.tern.rows := by
  have hfree : ¬ (((s.ternNow (q.f 0 0 8)).elim [] s.places).any (fun x => s.holderOf (q.f 0 0 8) x != 0) = true ∨
      s.glue.moves.any (fun m => m.table == q.f 0 0 8) = true) := by
    rintro (h | h)
    · obtain ⟨x, hx, hne⟩ := List.any_eq_true.mp h
      cases hd : s.ternNow (q.f 0 0 8) with
      | none =>
        rw [hd] at hx
        cases hx
      | some d =>
        rw [hd] at hx
        rw [hheld d hd x hx] at hne
        cases hne
    · obtain ⟨m, hm, he⟩ := List.any_eq_true.mp h
      exact hmoves m hm (beq_iff_eq.mp he)
  have hbody : s.tableDestroyDo q = (s.setTern (q.f 0 0 8) { s.ternTable (q.f 0 0 8) with busy := .destroying }, .pend (.destroy (q.f 0 0 8)) []) := by
    unfold State.tableDestroyDo
    dsimp only
    rw [if_neg (by rw [hs0]; decide), if_neg (not_not_intro hcheck), if_neg (by rw [huse]; decide), if_neg hfree, if_neg (not_not_intro hidle)]
  refine .of_pend ht rfl (t := s.setTern (q.f 0 0 8) { s.ternTable (q.f 0 0 8) with busy := .destroying }) (on := .destroy (q.f 0 0 8)) (w := []) ?_
    (by decide) fun v hv => ?_
  · dsimp only
    rw [if_neg (by rw [hs0]; decide)]
    exact State.mirrored_pend hs hbody rfl
  · obtain ⟨-, -, -, -, htern, -⟩ := hv.frame
    refine ⟨?_, ?_, (congrArg TernSt.rows htern :)⟩
    · show (smGet ternTable0 v.tern.tables (q.f 0 0 8)).busy = _
      rw [htern]
      exact congrArg TernTable.busy (s.ternTable_setTern_same _ _)
    · rw [State.waits_after, State.waits_wait]

/-! ## The ends of a destruction, a shrink and a resize -/

/-- The state that has given the segments of a table back, its rows free. -/
def State.givenBack (s : State) (p : Segment → Bool) (n : Nat) (x : TernTable) : State :=
  ((s.clearSegs (s.segsWith p)).giveSegs (s.segsWith p) segment0).setTern n x

theorem State.givenBack_table (s : State) (p : Segment → Bool) (n : Nat) (x : TernTable) : (s.givenBack p n x).ternTable n = x :=
  State.ternTable_setTern_same _ n x

theorem State.givenBack_segment (s : State) (p : Segment → Bool) (n : Nat) (x : TernTable) (k : Nat) :
    (s.givenBack p n x).segment k = if k ∈ s.segsWith p then segment0 else s.segment k := State.segment_giveSegs (s.clearSegs (s.segsWith p)) _ _ k

/-- The state that a destroyed table has left. -/
def State.destroyed (s : State) (n : Nat) : State :=
  let u := s.givenBack (·.table == n) n ternTable0
  { u with tern := { u.tern with
    invalid := u.tern.invalid.filter (fun x => x.1 != n), gleanQ := u.tern.gleanQ.filter (fun x => x.table != n) } }

theorem tableDestroyDrained_makes {n : Nat} {e : BitVec 3} {s : State} (hfw : s.fwUp = true) (hbusy : (s.ternTable n).busy = .draining e)
    (hdrained : s.drainedTo e = true) : Makes (.tableDestroyDrained n) s fun t =>
      t.ternTable n = ternTable0 ∧ (∀ k, (s.segment k).table = n → n ≠ 0 → (t.segment k).table = 0) ∧
      (∀ k, (∀ x ∈ s.tern.segments, x.1 = k → x.2.table ≠ n) → t.segment k = s.segment k) ∧ t.waits (.destroy n) = false := by
  have hexec : exec (.tableDestroyDrained n) s = finish s ((s.destroyed n).wake (.destroy n) St.ok []) := by
    show finish s (whileFw s _) = _
    rw [whileFw_up _ hfw]
    dsimp only
    rw [hbusy]
    dsimp only
    rw [if_neg (not_not_intro hdrained)]
    rfl
  have htable : (s.destroyed n).ternTable n = ternTable0 := s.givenBack_table _ n ternTable0
  have hsegs (k : Nat) : (s.destroyed n).segment k = if k ∈ s.segsWith (·.table == n) then segment0 else s.segment k :=
    s.givenBack_segment _ n ternTable0 k
  generalize s.destroyed n = u at hexec htable hsegs
  obtain ⟨htern, -⟩ := u.wake_tern (.destroy n) St.ok []
  have hsegment (k : Nat) : (s.after (u.wake (.destroy n) St.ok [])).segment k = u.segment k :=
    (congrArg (fun x : TernSt => smGet segment0 x.segments k) htern :)
  refine .of_finish hexec ⟨(congrArg (fun x : TernSt => smGet ternTable0 x.tables n) htern).trans htable, fun k hk hn => ?_, fun k hk => ?_, ?_⟩
  · rw [hsegment, hsegs, if_pos (s.segment_listed (p := (·.table == n)) (by rw [hk]; exact beq_self_eq_true n) fun h0 => hn ?_)]
    · rfl
    · rw [← hk, h0]
      rfl
  · rw [hsegment, hsegs, if_neg (s.segment_unlisted (p := (·.table == n)) fun x hx hkey => beq_eq_false_iff_ne.mpr (hk x hx hkey))]
  · rw [State.waits_after, State.wake_waits]

theorem segmentRelease_makes {n : Nat} {d : TernDesc} {s : State} (hfw : s.fwUp = true) (hbusy : (s.ternTable n).busy = .releasing)
    (hnow : s.ternNow n = some d) (hrows : ∀ x ∈ s.tern.rows, x.2.state = .free) : Makes (.segmentRelease n) s fun t =>
      (t.ternTable n).busy = .idle ∧ (∀ k, s.segment k = ⟨n, true⟩ → t.segment k = segment0) ∧
      (∀ k, (∀ x ∈ s.tern.segments, x.1 = k → x.2.releasing = false) → t.segment k = s.segment k) ∧ t.waits (.resize n) = false := by
  have hfree (segs : List Nat) : ¬ s.tern.rows.any (fun x => segs.contains (x.1 / 16384) && x.2.state != .free) = true := by
    intro h
    obtain ⟨x, hx, hne⟩ := List.any_eq_true.mp h
    rw [hrows x hx] at hne
    simp at hne
  have hexec : exec (.segmentRelease n) s = finish s ((s.givenBack (fun x => x.table == n && x.releasing) n
      { s.ternTable n with busy := .idle }).wake (.resize n) St.ok (segReply d.sets)) := by
    show finish s (whileFw s _) = _
    rw [whileFw_up _ hfw]
    dsimp only
    rw [hbusy, hnow]
    dsimp only
    rw [if_neg (hfree _)]
    rfl
  have htable := congrArg TernTable.busy (s.givenBack_table (fun x => x.table == n && x.releasing) n { s.ternTable n with busy := .idle })
  have hsegs := s.givenBack_segment (fun x => x.table == n && x.releasing) n { s.ternTable n with busy := .idle }
  generalize s.givenBack (fun x => x.table == n && x.releasing) n { s.ternTable n with busy := .idle } = u at hexec htable hsegs
  obtain ⟨htern, -⟩ := u.wake_tern (.resize n) St.ok (segReply d.sets)
  have hsegment (k : Nat) : (s.after (u.wake (.resize n) St.ok (segReply d.sets))).segment k = u.segment k :=
    (congrArg (fun x : TernSt => smGet segment0 x.segments k) htern :)
  refine .of_finish hexec ⟨(congrArg (fun x : TernSt => (smGet ternTable0 x.tables n).busy) htern).trans htable, fun k hk => ?_, fun k hk => ?_, ?_⟩
  · rw [hsegment, hsegs, if_pos (s.segment_listed (p := fun x => x.table == n && x.releasing) (by rw [hk]; simp) (by rw [hk]; simp [segment0]))]
  · rw [hsegment, hsegs, if_neg (s.segment_unlisted (p := fun x => x.table == n && x.releasing) fun x hx hkey => by rw [hk x hx hkey]; simp)]
  · rw [State.waits_after, State.wake_waits]

theorem resizeClaimTimeout_makes {n k t0 : Nat} {sets : List (List Nat)} {d : TernDesc} {s : State} (hfw : s.fwUp = true)
    (hbusy : (s.ternTable n).busy = .shrinking k sets (some t0)) (hnow : s.ternNow n = some d) (ht0 : t0 < 2 ^ 62) (hage : s.clk.age < 2 ^ 63)
    (hheld : (s.places d).any (fun x => x.stands && decide (k * d.eps ≤ x.slot) && s.holderOf n x != 0 &&
      (s.glueUp (s.holderOf n x)).opener == .host) = true) : Makes (.resizeClaimTimeout n) s fun t =>
      (t.ternTable n).busy = .idle ∧ t.clk.age = max s.clk.age (t0 + 1250000000) ∧ t.waits (.resize n) = false := by
  have hexec : exec (.resizeClaimTimeout n) s = finish s (((s.until (t0 + secC)).stopShrink n).wake (.resize n) St.entryClaimed []) := by
    show finish s (whileFw s _) = _
    rw [whileFw_up _ hfw]
    dsimp only
    rw [hbusy, hnow]
    dsimp only
    rw [if_pos hheld]
  have hclk := s.untilAge (n := t0 + secC) (by omega) (by unfold secC; omega)
  obtain ⟨htern, hclock⟩ := ((s.until (t0 + secC)).stopShrink n).wake_tern (.resize n) St.entryClaimed []
  refine .of_finish hexec ⟨?_, ?_, by rw [State.waits_after, State.wake_waits]⟩
  · refine (congrArg (fun x : TernSt => (smGet ternTable0 x.tables n).busy) htern).trans ?_
    exact congrArg TernTable.busy (State.ternTable_setTern_same _ n _)
  · exact (congrArg ClkSt.age hclock).trans hclk

/-- Settles O24: TABLE_CREATE and a growing TABLE_RESIZE take the lowest free segments, a destruction and a shrink wait, and their ends give the
segments back. -/
theorem ternaryTableLifeComplete : Obligations.TernaryTableLifeComplete := by
  unfold Obligations.TernaryTableLifeComplete
  refine ⟨fun q s ht hs hq h0 h255 hseg hseg16 hparts hs0 hs1 hs2 htaken hroom =>
      tableCreate_makes ht hs hq h0 h255 hseg hseg16 hparts hs0 hs1 hs2 htaken hroom,
    fun q s d ht hs hq hcheck hs0 h16 hidle hnow h1 hgrow h128 hroom => tableResize_makes ht hs hq hcheck hs0 h16 hidle hnow h1 hgrow h128 hroom,
    fun q s ht hs hs0 hcheck huse hheld hmoves hidle => tableDestroy_makes ht hs hs0 hcheck huse hheld hmoves hidle,
    fun n e s hfw hbusy hdrained => tableDestroyDrained_makes hfw hbusy hdrained,
    fun n d s hfw _ hbusy hnow hrows => segmentRelease_makes hfw hbusy hnow hrows,
    fun n k sets t0 d s hfw hbusy hnow ht0 hage hheld => resizeClaimTimeout_makes hfw hbusy hnow ht0 hage hheld,
    fun q s ht => ⟨fun h0 => finish_final ht (if_pos h0), fun d h0 hnow => finish_final ht ?_⟩⟩
  unfold State.capacityReport
  dsimp only
  rw [if_neg h0, hnow]

end Sys2Proof.Machine


/-! Copies in the egress queues (R296, R297, R308, R344). -/

namespace Sys2Proof.Machine

/-! ## Release and hold -/

theorem State.releaseCopy_low {s : State} {c : Copy} (hlow : (s.ethPort c.port).lat = true) : s.releaseCopy c =
    s.setCopies (s.sw.copies.erase c ++ [{ c with released := true, eligible := true }]) := by
  have hhold : (decide (c.port < 64) && !(s.ethPort c.port).lat) = false := by rw [hlow]; simp
  unfold State.releaseCopy
  dsimp only
  rw [hhold, if_neg (by simp)]
  rfl

theorem exec_resequencerRelease {s : State} {c : Copy} (hup : s.coreUp = true) (hat : s.copyAt c.frame c.port = some c) (hrel : c.released = false)
    (hpast : s.pastHorizon c = true) : exec (.resequencerRelease c.frame c.port) s = finish s ((s.releases c).foldl State.releaseCopy s) := by
  show finish s (whileUp s _) = _
  rw [whileUp_up _ hup, hat]
  dsimp only
  rw [if_pos ⟨by rw [hrel]; decide, hpast⟩]

/-- What replaces the first copy that a search finds is what the search finds then. -/
theorem find_mapFirst {α : Type} [BEq α] [LawfulBEq α] {p : α → Bool} {a b : α} {l : List α} (h : l.find? p = some a) (hb : p b = true) :
    (mapFirst (· == a) (fun _ => b) l).find? p = some b := by
  induction l with
  | nil => cases h
  | cons x l ih =>
    rw [mapFirst]
    by_cases hx : x = a
    · rw [if_pos (beq_iff_eq.mpr hx), List.find?_cons_of_pos hb]
    · have hnot : ¬ p x = true := by
        intro hp
        rw [List.find?_cons_of_pos hp] at h
        exact hx (Option.some.inj h)
      rw [List.find?_cons_of_neg hnot] at h
      rw [if_neg (by simp [hx]), List.find?_cons_of_neg hnot]
      exact ih h

theorem State.until_sw (s : State) (n : Nat) : (s.until n).sw = s.sw := by
  obtain ⟨v, r, c, e, -⟩ := s.advance_eq (n - s.clk.age)
  rw [State.until, e]

theorem holdEnd_makes {s : State} {c : Copy} (hup : s.coreUp = true) (hat : s.copyAt c.frame c.port = some c) (hrel : c.released = true)
    (hel : c.eligible = false) (hage : s.clk.age < 2 ^ 63) (hrelAt : c.relAt < 2 ^ 62) : Makes (.fixedLatencyHoldEnd c.frame c.port) s fun t =>
      t.clk.age = max s.clk.age c.relAt ∧ t.copyAt c.frame c.port = some { c with eligible := true } := by
  have hexec : exec (.fixedLatencyHoldEnd c.frame c.port) s = finish s ((s.until c.relAt).setCopy c { c with eligible := true }) := by
    show finish s (whileUp s _) = _
    rw [whileUp_up _ hup, hat]
    dsimp only
    rw [if_pos ⟨hrel, by rw [hel]; decide⟩]
  have hclk := s.untilAge (n := c.relAt) (by omega) (by omega)
  refine .of_finish hexec ⟨hclk, ?_⟩
  show (mapFirst (· == c) (fun _ => { c with eligible := true }) (s.until c.relAt).sw.copies).find? _ = _
  rw [s.until_sw]
  exact find_mapFirst hat (by have := List.find?_some hat; exact this)

/-! ## Transmission (R297) -/

theorem State.macsecTx_off {s : State} {n : Nat} (h : (s.secCfg n).en = false) (decision : Nat) (bs : List Byte) :
    s.macsecTx n decision bs = (s, some bs) := by
  have hnone : s.txSession n decision = none := if_pos (by rw [h]; decide)
  rw [State.macsecTx, hnone]

/-- The one copy in a queue is at the head of its queue alone. -/
theorem State.headCopy_one {s : State} {c : Copy} (hone : s.sw.copies = [c]) (hrel : c.released = true) (hsend : c.sending = false) (q : Nat) :
    s.headCopy c.port q = if q = c.queue then some c else none := by
  rw [State.headCopy, hone, List.find?_cons]
  by_cases hq : q = c.queue
  · rw [if_pos hq, hrel, hsend, hq, beq_self_eq_true, beq_self_eq_true]
    rfl
  · have hne : (c.queue == q) = false := beq_eq_false_iff_ne.mpr (Ne.symm hq)
    rw [if_neg hq, hne]
    simp

theorem transmissionStart_makes {s : State} {c : Copy} (hup : s.coreUp = true) (hone : s.sw.copies = [c]) (hport : c.port < 64) (hqueue : c.queue < 8)
    (hrel : c.released = true) (hel : c.eligible = true) (hsend : c.sending = false) (hmay : s.mayTransmit c.port = true)
    (hdue : c.deadline.any (· ≤ s.clk.age) = false) (hgate : s.gateOpen c.port c.queue (s.copyNs c) = true) (hsec : (s.secCfg c.port).en = false) :
    Makes (.transmissionStart c.port) s fun t => t.sw.copies = [{ c with sending := true, wire := c.bytes }] ∧ t.sw.frames = s.sw.frames := by
  have hkeep : s.dropOverdue c.port = s := by
    unfold State.dropOverdue
    rw [hone, List.filter_cons, if_neg (by rw [hdue]; simp)]
    rfl
  have hheads : [7, 6, 5, 4, 3, 2, 1, 0].filterMap (s.headCopy c.port) = [c] := by
    have hhead : s.headCopy c.port = fun q => if q = c.queue then some c else none := funext (State.headCopy_one hone hrel hsend)
    rw [hhead]
    have hq : c.queue = 0 ∨ c.queue = 1 ∨ c.queue = 2 ∨ c.queue = 3 ∨ c.queue = 4 ∨ c.queue = 5 ∨ c.queue = 6 ∨ c.queue = 7 := by omega
    rcases hq with h | h | h | h | h | h | h | h <;> rw [h] <;> rfl
  have hfit : s.unfit c = false := by
    rw [State.unfit, decide_eq_false (by omega)]
    rfl
  have hstart : s.startCopy c = s.setCopy c { c with sending := true, wire := c.bytes } := by
    have hwire : s.wireBytes c = (s, some c.bytes) := by
      rw [State.wireBytes, if_pos hport]
      exact State.macsecTx_off hsec _ _
    rw [State.startCopy, hwire]
  have hexec : exec (.transmissionStart c.port) s = finish s (s.setCopy c { c with sending := true, wire := c.bytes }) := by
    show finish s (whileUp s _) = _
    rw [whileUp_up _ hup]
    dsimp only
    rw [hkeep, if_neg (not_not_intro hmay), hheads, List.find?_cons_of_pos (by rw [hel, hgate]; simp)]
    dsimp only
    rw [if_neg (by rw [hfit]; decide), hstart]
  refine .of_finish hexec ⟨?_, rfl⟩
  show mapFirst (· == c) (fun _ => { c with sending := true, wire := c.bytes }) s.sw.copies = _
  rw [hone, mapFirst, if_pos (beq_self_eq_true c)]

theorem State.countTx_frame (s : State) (i len : Nat) : (s.countTx i len).sw = s.sw ∧ (s.countTx i len).out = s.out := by
  unfold State.countTx
  split
  · exact ⟨rfl, rfl⟩
  · exact ⟨rfl, rfl⟩

theorem transmissionEnd_makes {s : State} {c : Copy} (hup : s.coreUp = true)
    (hfind : s.sw.copies.find? (fun x => x.port == c.port && x.sending) = some c) (hhold : s.inHold c.port = false) (hpdu : c.pdu = none)
    (h0 : c.frame = 0) (hframe : s.frame 0 = none) : Makes (.transmissionEnd c.port) s fun t =>
      t.sw.copies = s.sw.copies.erase c ∧ t.out.frames = s.out.frames ++ [(c.port, c.wire)] ∧
      t.sw.holders = (s.uncharge (queueHolder c.port c.queue) c.cells).sw.holders := by
  obtain ⟨hsw, hout⟩ := (s.takeCopyOut c).countTx_frame c.port c.sentBytes
  generalize hu : (s.takeCopyOut c).countTx c.port c.sentBytes = u at hsw hout
  have hexec : exec (.transmissionEnd c.port) s = finish s { u with out := { u.out with frames := u.out.frames ++ [(c.port, c.wire)] } } := by
    have hnone : ({ u with out := { u.out with frames := u.out.frames ++ [(c.port, c.wire)] } } : State).frame c.frame = none := by
      rw [h0, State.frame]
      dsimp only
      rw [hsw]
      exact hframe
    show finish s (whileUp s _) = _
    rw [whileUp_up _ hup, hfind]
    dsimp only
    rw [if_neg (by rw [hhold]; decide), hu, hpdu]
    dsimp only [Option.elim]
    rw [hnone]
  refine .of_finish hexec ⟨?_, ?_, ?_⟩
  · exact (congrArg SwitchSt.copies hsw :)
  · show u.out.frames ++ _ = _
    rw [hout]
    rfl
  · exact (congrArg SwitchSt.holders hsw :)

/-! ## Lateness (R308, R344) -/

theorem portBase_ge (i : Nat) : 0xA0000 ≤ portBase i := by
  unfold portBase
  split <;> omega

theorem frameDeadline_makes {s : State} {f : Frame} (hup : s.coreUp = true) (hframe : s.frame f.num = some f) (hstage : f.stage ≠ .decided)
    (hage : s.clk.age < 2 ^ 63) (hdead : f.deadline < 2 ^ 62) : Makes (.frameDeadline f.num) s fun t =>
      t.frame f.num = none ∧ t.sw.copies = s.sw.copies ∧ t.clk.age = max s.clk.age f.deadline ∧
      t.rd Reg.switchLateDropCount = w32 (min 0xFFFFFFFF ((s.rd Reg.switchLateDropCount).toNat + 1)) := by
  have hexec : exec (.frameDeadline f.num) s = finish s ((s.until f.deadline).lateFrame f) := by
    show finish s (whileUp s _) = _
    rw [whileUp_up _ hup, hframe]
    dsimp only
    rw [State.lateDrop, if_pos hstage]
  have hclk := s.untilAge (n := f.deadline) (by omega) (by omega)
  have hsw := s.until_sw f.deadline
  have hrd := s.until_rd f.deadline (a := Reg.switchLateDropCount) (by unfold clockCounts; decide)
  generalize s.until f.deadline = u at hexec hclk hsw hrd
  refine .of_finish hexec ⟨?_, (congrArg SwitchSt.copies hsw :), hclk, ?_⟩
  · show (u.sw.frames.filter (fun g => g.num != f.num)).find? (fun g => g.num == f.num) = none
    refine List.find?_eq_none.mpr fun g hg => ?_
    have := (List.mem_filter.mp hg).2
    simpa using this
  · have hne : Reg.switchLateDropCount ≠ portBase f.ingress + 0x140 + 4 * (11 - 1) := by
      have := portBase_ge f.ingress
      unfold Reg.switchLateDropCount
      omega
    rw [State.rd_after, ← hrd]
    refine (State.rd_of_vals (s := (u.cnt Reg.switchLateDropCount 1).drop f.ingress 11) rfl _).trans ?_
    rw [State.drop, State.rd_cnt_ne _ _ hne, u.rd_cnt_one]

theorem pduWindowExpiry_makes {s : State} {c : Copy} {n : Nat} (hup : s.coreUp = true)
    (hfind : s.sw.copies.find? (fun x => x.pdu == some n && !x.sending) = some c) (hframe : s.frame c.frame = none) (hage : s.clk.age < 2 ^ 63)
    (hdead : ∀ d, c.deadline = some d → d < 2 ^ 62) : Makes (.pduWindowExpiry n) s fun t =>
      t.sw.copies = s.sw.copies.erase c ∧ t.clk.age = max s.clk.age (c.deadline.getD 0) := by
  have hpdu : c.pdu = some n := by
    have := List.find?_some hfind
    simp at this
    exact this.1
  have hlt : c.deadline.getD 0 < 2 ^ 62 := by
    cases hd : c.deadline with
    | none => exact Nat.two_pow_pos 62
    | some d => exact hdead d hd
  have hclk := s.untilAge (n := c.deadline.getD 0) (by omega) (by omega)
  have hsw := s.until_sw (c.deadline.getD 0)
  have hexec : exec (.pduWindowExpiry n) s = finish s ((s.until (c.deadline.getD 0)).lateCopy c) := by
    show finish s (whileUp s _) = _
    rw [whileUp_up _ hup, hfind]
  generalize s.until (c.deadline.getD 0) = u at hexec hclk hsw
  have hlate : u.lateCopy c = ((u.takeCopyOut c).drop c.port (u.lateReason c)).losePdu n := by
    have hnone : ((u.takeCopyOut c).drop c.port (u.lateReason c)).frame c.frame = none := by
      show u.sw.frames.find? _ = none
      rw [hsw]
      exact hframe
    unfold State.lateCopy
    dsimp only
    rw [hpdu]
    dsimp only
    rw [State.dropCopy, hnone]
  rw [hlate] at hexec
  refine .of_finish hexec ⟨?_, hclk⟩
  show u.sw.copies.erase c = _
  rw [hsw]

theorem arbitrationLost_makes {s : State} {c : Copy} {n : Nat} (hup : s.coreUp = true)
    (hfind : s.sw.copies.find? (fun x => x.port == 64 + n && x.sending) = some c) (hmode : (s.chan n).mode = 1 ∨ (s.chan n).mode = 2) :
    Makes (.arbitrationLost n) s fun t =>
      t.sw.copies = mapFirst (· == c) (fun _ => { c with sending := false, wire := [] }) s.sw.copies ∧
      t.rd (Reg.slowchArbLostCount n) = w32 (min 0xFFFFFFFF ((s.rd (Reg.slowchArbLostCount n)).toNat + 1)) := by
  have hexec : exec (.arbitrationLost n) s = finish s ((s.cnt (Reg.slowchArbLostCount n) 1).setCopy c { c with sending := false, wire := [] }) := by
    show finish s (whileUp s _) = _
    rw [whileUp_up _ hup]
    dsimp only
    rw [hfind]
    dsimp only
    rw [if_pos hmode]
  refine .of_finish hexec ⟨rfl, ?_⟩
  rw [State.rd_after]
  exact (State.rd_of_vals (s := s.cnt (Reg.slowchArbLostCount n) 1) rfl _).trans (s.rd_cnt_one _)

/-- Settles O35: each row moves, sends or drops the copies it names and no others. -/
theorem egressCompletes : Obligations.EgressCompletes := by
  unfold Obligations.EgressCompletes
  intro s c hup
  refine ⟨fun hat hrel hpast => ⟨?_, fun hone _ hlow => ?_⟩, fun hat hrel hel hage hrelAt => holdEnd_makes hup hat hrel hel hage hrelAt,
    fun hone hport hqueue hrel hel hsend _ hmay hdue hgate hsec =>
      transmissionStart_makes hup hone hport hqueue hrel hel hsend hmay hdue hgate hsec,
    fun hfind hhold hpdu h0 hframe => transmissionEnd_makes hup hfind hhold hpdu h0 hframe,
    fun f hframe hstage hage hdead => frameDeadline_makes hup hframe hstage hage hdead,
    fun n hfind hframe hage hdead => pduWindowExpiry_makes hup hfind hframe hage hdead,
    fun n hfind hmode => arbitrationLost_makes hup hfind hmode⟩
  · rw [exec_resequencerRelease hup hat hrel hpast, finish_eq]
  · have hexec := exec_resequencerRelease hup hat hrel hpast
    rw [hone, List.foldl_cons, List.foldl_nil, State.releaseCopy_low hlow] at hexec
    exact .of_finish hexec ⟨rfl, rfl⟩

end Sys2Proof.Machine


/-! The signal mapper (R338 to R344, R355, R356). -/

namespace Sys2Proof.Machine

/-! ## ROUTE_WRITE and ROUTE_READ -/

theorem State.applyRec_only (s : State) (r : List Word) : ∃ m, s.applyRec r = { s with mapper := m } := by
  unfold State.applyRec
  dsimp only
  split
  · exact ⟨_, rfl⟩
  · exact ⟨_, rfl⟩

theorem State.applyRecs_only (rs : List (List Word)) (s : State) : ∃ m, rs.foldl State.applyRec s = { s with mapper := m } := by
  induction rs generalizing s with
  | nil => exact ⟨s.mapper, rfl⟩
  | cons r rs ih =>
    obtain ⟨m, h⟩ := s.applyRec_only r
    obtain ⟨m', h'⟩ := ih (s.applyRec r)
    exact ⟨m', by rw [List.foldl_cons, h', h]⟩

theorem State.routeWriteDo_good {s : State} {q : Request} (hbad : q.records.any recBad = false)
    (hpdu : ((enabledPdus q.records).map (q.records.foldl State.applyRec s).pdu).any (q.records.foldl State.applyRec s).pduBad = false)
    (hroute : (q.records.foldl State.applyRec s).mapper.routes.any (fun x => x.2.en && (q.records.foldl State.applyRec s).routeBad x.2) = false)
    (hgen : ((enabledPdus q.records).map (q.records.foldl State.applyRec s).pdu).all (fun p => (q.records.foldl State.applyRec s).genHas p.gen 0) = true)
    (hlists : sourceLists (q.records.foldl State.applyRec s).mapper.routes ≤ 8192) (htwice : twiceEnabled q.records = none) :
    s.routeWriteDo q = (q.records.foldl State.applyRec s, .final St.ok
      [w32 ((q.records.foldl State.applyRec s).mapper.routes.filter (·.2.en)).length, w32 (sourceLists (q.records.foldl State.applyRec s).mapper.routes)]) := by
  unfold State.routeWriteDo
  dsimp only
  generalize q.records.foldl State.applyRec s = t at hpdu hroute hgen hlists
  have hnone : ¬ ((enabledPdus q.records).map t.pdu).any (fun p => !t.genHas p.gen 0) = true := by
    intro h
    obtain ⟨p, hp, hno⟩ := List.any_eq_true.mp h
    rw [List.all_eq_true.mp hgen p hp] at hno
    cases hno
  rw [if_neg (by rw [hbad]; decide), if_neg (by rw [hpdu, hroute]; decide), if_neg hnone, if_neg (by omega), htwice]

/-- A record that enables a route that was not enabled leaves it without a value. -/
theorem State.applyRec_newRoute {s : State} {r : List Word} (hobj : fld (wd r 0) 0 2 = 0) (hen : bit (wd r 0) 2 = true)
    (hold : (s.route? (fld (wd r 1) 0 16)).en = false) : s.applyRec r = s.setRoute (fld (wd r 1) 0 16) ⟨r, none, none⟩ := by
  unfold State.applyRec
  dsimp only
  rw [if_pos hobj, if_neg (by rw [hen]; decide), hold, if_neg (by simp)]
  rfl

theorem State.route_setRoute_same (s : State) (n : Nat) (x : Route) : (s.setRoute n x).route? n = x := smGet_smSet_same _ _ _ _

theorem State.route_setRoute_ne (s : State) {n m : Nat} (x : Route) (h : m ≠ n) : (s.setRoute n x).route? m = s.route? m := smGet_smSet_ne _ _ _ _ h

theorem State.routeRead_pdu {s : State} {q : Request} (hstray : q.stray 0 0x1FFFF = false) (hpdu : q.b 0 16 = true) (hn : q.f 0 0 16 < 256) :
    s.routeRead q = (s, .final St.ok (recWords (s.pdu (q.f 0 0 16)).rec_ ++
      [w32 (s.pdu (q.f 0 0 16)).seq, w32 (s.pdu (q.f 0 0 16)).sent, w32 (s.pdu (q.f 0 0 16)).lost])) := by
  unfold State.routeRead
  dsimp only
  rw [if_neg (by rw [hstray]; decide), if_pos hpdu, if_neg (by omega)]

theorem State.routeRead_empty {s : State} {q : Request} (hstray : q.stray 0 0x1FFFF = false) (hroute : q.b 0 16 = false)
    (hvalue : (s.route? (q.f 0 0 16)).value = none) (hlast : (s.route? (q.f 0 0 16)).last ≠ some true) :
    s.routeRead q = (s, .final St.ok (recWords (s.route? (q.f 0 0 16)).rec_ ++ [0, 0, 0xFFFFFFFF, 0])) := by
  have hage : s.valueAge (s.route? (q.f 0 0 16)) = none := by rw [State.valueAge, hvalue]; rfl
  have hstale : s.fresh (s.route? (q.f 0 0 16)) = false := by
    rw [State.fresh, hage]
    exact Bool.and_false _
  have hflag : ((s.route? (q.f 0 0 16)).last == some true) = false := beq_eq_false_iff_ne.mpr hlast
  unfold State.routeRead
  dsimp only
  rw [if_neg (by rw [hstray]; decide), if_neg (by rw [hroute]; decide), hage, hstale, hflag, hvalue, Bool.and_false, List.append_assoc]
  rfl

/-! ## Values off the path (R338, R341) -/

/-- The state that has taken the oldest offer. -/
def State.nextOffer (s : State) (rest : List (List Byte × Nat)) : State := { s with mapper := { s.mapper with offers := rest } }

theorem exec_offer {s : State} {h : List Byte} {at_ n : Nat} {rest : List (List Byte × Nat)} (hfw : s.fwUp = true) (hoff : s.mapper.offers = (h, at_) :: rest)
    (hlist : s.sourceList 1 (half h 2) = [n]) :
    exec .mapperPduOffer s = finish s ((s.nextOffer rest).takeValue ((h.drop 8).take (half h 6)) at_ n) := by
  have hsame : (s.nextOffer rest).sourceList 1 (half h 2) = [n] := hlist
  have hoffer : (s.nextOffer rest).offer 1 (half h 2) ((h.drop 8).take (half h 6)) at_ =
      (s.nextOffer rest).takeValue ((h.drop 8).take (half h 6)) at_ n := by
    unfold State.offer
    rw [hsame]
    rfl
  show finish s (whileFw s _) = _
  rw [whileFw_up _ hfw]
  dsimp only
  rw [hoff]
  exact congrArg (finish s) hoffer

/-- Data that carries a value for a route without an age of its own. -/
theorem State.takeValue_plain {s : State} {data : List Byte} {at_ n v : Nat} (hage : bit ((s.route? n).w 0) 8 = false)
    (hread : readVal (bit ((s.route? n).w 0) 4) (fld ((s.route? n).w 2) 0 14) (s.route? n).len data = some v) : s.takeValue data at_ n =
      if (s.route? n).value.any (fun x => decide ((at_ : Int) ≤ x.2)) then s.cnt Reg.mapperOlderDiscardCount 1
      else (s.cnt Reg.mapperValueCount 1).setRoute n { s.route? n with value := some (v, (at_ : Int)) } := by
  have hcarried : (s.route? n).carried data = some 0 := if_pos (by rw [hage]; decide)
  unfold State.takeValue
  dsimp only
  rw [hread]
  dsimp only
  rw [if_neg (by rw [hage]; simp), hcarried]
  dsimp only
  rw [Int.ofNat_zero, Int.sub_zero]

/-! ## What a PDU puts into its queue (R343) -/

theorem length_setAt {α : Type} (l : List α) (i : Nat) (v : α) : (setAt l i v).length = l.length := by
  induction l generalizing i with
  | nil => rfl
  | cons a l ih =>
    cases i with
    | zero => rfl
    | succ i => rw [setAt, List.length_cons, List.length_cons, ih]

theorem length_putBit (order v : Bool) (bs : List Byte) (q : Nat) : (putBit order v bs q).length = bs.length := length_setAt _ _ _

theorem length_writeVal (order : Bool) (pos len v : Nat) (bs : List Byte) : (writeVal order pos len v bs).length = bs.length := by
  have hfold (l : List Nat) (f : Nat → Bool) (bs : List Byte) : (l.foldl (fun bs k => putBit order (f k) bs (pos + k)) bs).length = bs.length := by
    induction l generalizing bs with
    | nil => rfl
    | cons k l ih => rw [List.foldl_cons, ih, length_putBit]
  exact hfold _ (fun k => nfld v (if order then k else len - 1 - k) 1 == 1) bs

theorem State.length_placeRoute (s : State) (bs : List Byte) (r : Route) : (s.placeRoute bs r).length = bs.length := by
  have helim (v : Option Nat) (f : Nat → List Byte) (hf : ∀ n, (f n).length = bs.length) : (v.elim bs f).length = bs.length := by
    cases v with
    | none => rfl
    | some n => exact hf n
  unfold State.placeRoute
  dsimp only
  split
  · rw [length_writeVal]
    split
    · rw [length_putBit]
      exact helim _ _ fun n => length_writeVal _ _ _ _ _
    · exact helim _ _ fun n => length_writeVal _ _ _ _ _
  · split
    · rw [length_putBit]
      exact helim _ _ fun n => length_writeVal _ _ _ _ _
    · exact helim _ _ fun n => length_writeVal _ _ _ _ _

theorem State.length_payload (s : State) (p : Nat) : (s.payload p).length = (s.pdu p).len := by
  have hfold (l : List (Nat × Route)) (bs : List Byte) : (l.foldl (fun bs x => s.placeRoute bs x.2) bs).length = bs.length := by
    induction l generalizing bs with
    | nil => rfl
    | cons x l ih => rw [List.foldl_cons, ih, State.length_placeRoute]
  unfold State.payload
  rw [hfold, List.length_replicate]

/-- Whatever it carries, a PDU takes at most 20 cells. -/
theorem State.pdu_cells (s : State) (p : Nat) :
    cellsOf (if (s.pdu p).slow then (s.pduBytes p).length else (s.pduBytes p).length + 4) ≤ 20 := by
  have hlen : (s.payload p).length < 4096 := by
    rw [s.length_payload p]
    exact fld_lt _ _ _
  have hbound : (s.pduBytes p).length ≤ 4200 := by
    unfold State.pduBytes
    dsimp only
    generalize s.payload p = data at hlen
    split
    · simp only [Pdu.image, List.length_append, length_bytesBE, List.length_cons, List.length_nil]
      omega
    · have htag (b : Bool) (x y : Nat) : (if b = true then bytesBE 2 x ++ bytesBE 2 y else []).length ≤ 4 := by
        cases b
        · exact Nat.zero_le 4
        · simp [length_bytesBE]
      have := htag (bit ((s.pdu p).w 0) 4) 0x8100 (fld ((s.pdu p).w 0) 12 3 * 2 ^ 13 + fld ((s.pdu p).w 4) 16 12)
      simp only [pad60, State.mapperMac, List.length_append, length_bytesBE, length_bytesLE, List.length_cons, List.length_nil,
        List.length_replicate]
      omega
  unfold cellsOf ceilDiv
  split <;> omega

/-! ## Transmit slots (R342 to R344) -/

/-- Samples of routes change counters, events and routes alone. -/
theorem State.noteSamples_eq (rs : List (Nat × Route)) (s : State) : ∃ g e m, rs.foldl (fun s r => s.noteSample r.1 r.2) s =
    { s with reg := g, evt := e, mapper := { s.mapper with routes := m } } := by
  induction rs generalizing s with
  | nil => exact ⟨s.reg, s.evt, s.mapper.routes, rfl⟩
  | cons x rs ih =>
    have hone : ∃ g e m, s.noteSample x.1 x.2 = { s with reg := g, evt := e, mapper := { s.mapper with routes := m } } := by
      unfold State.noteSample
      dsimp only
      split
      · obtain ⟨g, e, h⟩ := (s.cnt (if !s.fresh x.2 then Reg.mapperStaleCount else Reg.mapperFreshCount) 1).eventSup_eq 0x10 0x01 0 (w32 x.1)
          (w32 x.2.pdu) [x.1] Reg.mapperEventSuppressCount
        rw [h]
        exact ⟨_, _, _, rfl⟩
      · exact ⟨_, _, _, rfl⟩
    obtain ⟨g, e, m, h⟩ := hone
    obtain ⟨g', e', m', h'⟩ := ih (s.noteSample x.1 x.2)
    exact ⟨g', e', m', by rw [List.foldl_cons, h', h]⟩

/-- A holder with room takes the cells. -/
theorem State.charge_room {s : State} {h n k : Nat} (hn : n ≤ k) (hwas : s.sw.limitsWas = none) (hover : (s.holder h).overQ = false)
    (hquota : (s.holder h).used + k ≤ (s.holder h).quota) (hshared : s.sharedUsed + k ≤ s.sharedSize) : ∃ x, s.charge h n = some (s.setHolder h x) := by
  have hlimits : s.chargeLimits = s := by rw [State.chargeLimits, hwas]
  unfold State.charge State.chargeFrom
  dsimp only
  rw [hlimits, hover, if_neg (by simp), if_neg (by simp; omega), if_neg (by omega)]
  exact ⟨_, rfl⟩

/-- The state at the slot of a PDU. -/
def State.atSlot (s : State) (p : Nat) : State :=
  (s.untilNs (s.nextSlot (s.pdu p)).toNat).setPdu p { s.pdu p with
    slot := (s.untilNs (s.nextSlot (s.pdu p)).toNat).clk.age, slotNs := s.nextSlot (s.pdu p) }

theorem State.atSlot_frame (s : State) (p : Nat) : (s.atSlot p).sw = s.sw ∧ (s.atSlot p).chans = s.chans ∧
    (s.atSlot p).mapper.routes = s.mapper.routes ∧
    (s.atSlot p).pdu p = { s.pdu p with slot := (s.atSlot p).clk.age, slotNs := s.nextSlot (s.pdu p) } ∧
    (s.atSlot p).rd Reg.mapperPduEmptyCount = s.rd Reg.mapperPduEmptyCount := by
  have hframe := s.untilNs_frame (s.nextSlot (s.pdu p)).toNat
  have hrd := s.untilNs_rd (s.nextSlot (s.pdu p)).toNat (a := Reg.mapperPduEmptyCount) (by unfold clockCounts; decide)
  unfold State.atSlot
  generalize s.untilNs (s.nextSlot (s.pdu p)).toNat = u at hframe hrd
  obtain ⟨-, -, -, -, -, -, -, -, -, hsw, hchans, hmapper, -⟩ := hframe
  exact ⟨hsw, hchans, (congrArg MapperSt.routes hmapper :), smGet_smSet_same _ _ _ _, (State.rd_of_vals (s := u) rfl _).trans hrd⟩

theorem exec_transmitSlot {s : State} {p : Nat} (hfw : s.fwUp = true) (hen : (s.pdu p).en = true) (hgen : s.genHas (s.pdu p).gen 0 = true) :
    exec (.transmitSlot p) s = finish s (if ((s.atSlot p).routesOf p).any (fun r => (s.atSlot p).fresh r.2 || !r.2.silent)
      then (((s.atSlot p).routesOf p).foldl (fun s r => s.noteSample r.1 r.2) (s.atSlot p)).queuePdu p
      else (((s.atSlot p).routesOf p).foldl (fun s r => s.noteSample r.1 r.2) (s.atSlot p)).cnt Reg.mapperPduEmptyCount 1) := by
  show finish s (whileFw s _) = _
  rw [whileFw_up _ hfw]
  dsimp only
  rw [if_neg (not_not_intro ⟨hen, hgen⟩)]
  rfl

theorem State.atSlot_routesOf (s : State) (p : Nat) : (s.atSlot p).routesOf p = s.routesOf p := by
  obtain ⟨-, -, hroutes, -⟩ := s.atSlot_frame p
  rw [State.routesOf, hroutes]
  rfl

/-- A slot with no route has nothing to send. -/
theorem transmitSlot_empty {s : State} {p : Nat} (hfw : s.fwUp = true) (hen : (s.pdu p).en = true) (hgen : s.genHas (s.pdu p).gen 0 = true)
    (hnone : s.routesOf p = []) : Makes (.transmitSlot p) s fun t => t.sw = s.sw ∧ t.mapper.routes = s.mapper.routes ∧
      t.pdu p = { s.pdu p with slot := t.clk.age, slotNs := s.nextSlot (s.pdu p) } ∧
      t.rd Reg.mapperPduEmptyCount = w32 (min 0xFFFFFFFF ((s.rd Reg.mapperPduEmptyCount).toNat + 1)) := by
  have hexec := exec_transmitSlot hfw hen hgen
  rw [s.atSlot_routesOf, hnone, List.any_nil, if_neg (by decide), List.foldl_nil] at hexec
  obtain ⟨hsw, -, hroutes, hpdu, hrd⟩ := s.atSlot_frame p
  refine .of_finish hexec ⟨hsw, hroutes, hpdu, ?_⟩
  rw [State.rd_after, State.rd_cnt_one, hrd]

/-- A PDU whose queue has room puts one copy into it. -/
theorem State.queuePdu_room {s : State} {p : Nat} (hup : s.egressUp (s.pdu p).port = true) (hwas : s.sw.limitsWas = none)
    (hover : (s.holder (queueHolder (s.pdu p).port (if (s.pdu p).slow then 0 else fld ((s.pdu p).w 0) 8 3))).overQ = false)
    (hquota : (s.holder (queueHolder (s.pdu p).port (if (s.pdu p).slow then 0 else fld ((s.pdu p).w 0) 8 3))).used + 20 ≤
      (s.holder (queueHolder (s.pdu p).port (if (s.pdu p).slow then 0 else fld ((s.pdu p).w 0) 8 3))).quota)
    (hshared : s.sharedUsed + 20 ≤ s.sharedSize) : (s.queuePdu p).sw.frames = s.sw.frames ∧ (s.queuePdu p).clk = s.clk ∧
      ∃ c, (s.queuePdu p).sw.copies = s.sw.copies ++ [c] ∧ c.pdu = some p ∧ c.port = (s.pdu p).port ∧ c.eligible = true ∧ c.sending = false ∧
        c.relAt = s.clk.age ∧ c.image = (s.pdu p).slow ∧ c.deadline = some ((s.pdu p).slot + (s.pdu p).window * usC) := by
  obtain ⟨x, hcharge⟩ := State.charge_room (s.pdu_cells p) hwas hover hquota hshared
  unfold State.queuePdu
  dsimp only
  rw [if_neg (not_not_intro hup), hcharge]
  exact ⟨rfl, rfl, _, rfl, rfl, rfl, rfl, rfl, rfl, rfl, rfl⟩

theorem transmitSlot_sends {s : State} {p h : Nat} (hfw : s.fwUp = true) (hen : (s.pdu p).en = true) (hgen : s.genHas (s.pdu p).gen 0 = true)
    (hsend : (s.routesOf p).any (fun r => !r.2.silent) = true) (hup : s.egressUp (s.pdu p).port = true)
    (hh : h = queueHolder (s.pdu p).port (if (s.pdu p).slow then 0 else fld ((s.pdu p).w 0) 8 3)) (hwas : s.sw.limitsWas = none)
    (hover : (s.holder h).overQ = false) (hquota : (s.holder h).used + 20 ≤ (s.holder h).quota) (hshared : s.sharedUsed + 20 ≤ s.sharedSize) :
    Makes (.transmitSlot p) s fun t => t.sw.frames = s.sw.frames ∧ ∃ c, t.sw.copies = s.sw.copies ++ [c] ∧ c.pdu = some p ∧
      c.port = (s.pdu p).port ∧ c.eligible = true ∧ c.sending = false ∧ c.relAt = t.clk.age ∧ c.image = (s.pdu p).slow ∧
      c.deadline = some (t.clk.age + (s.pdu p).window * usC) := by
  have hexec := exec_transmitSlot hfw hen hgen
  have hany : (s.routesOf p).any (fun r => (s.atSlot p).fresh r.2 || !r.2.silent) = true := by
    obtain ⟨r, hr, hloud⟩ := List.any_eq_true.mp hsend
    exact List.any_eq_true.mpr ⟨r, hr, by rw [hloud, Bool.or_true]⟩
  rw [s.atSlot_routesOf, if_pos hany] at hexec
  obtain ⟨hsw, hchans, -, hpdu, -⟩ := s.atSlot_frame p
  obtain ⟨g, e, m, hnoted⟩ := State.noteSamples_eq (s.routesOf p) (s.atSlot p)
  generalize hv : (s.routesOf p).foldl (fun s r => s.noteSample r.1 r.2) (s.atSlot p) = v at hexec hnoted
  have hvsw : v.sw = s.sw := by rw [hnoted]; exact hsw
  have hvchans : v.chans = s.chans := by rw [hnoted]; exact hchans
  have hvpdu : v.pdu p = { s.pdu p with slot := v.clk.age, slotNs := s.nextSlot (s.pdu p) } := by rw [hnoted]; exact hpdu
  have hvholder : v.holder h = s.holder h := by rw [State.holder, hvsw]; rfl
  have hvup : v.egressUp (s.pdu p).port = s.egressUp (s.pdu p).port := by
    simp only [State.egressUp, State.ethPort, State.chan, hvsw, hvchans]
  have hvshared : v.sharedUsed = s.sharedUsed ∧ v.sharedSize = s.sharedSize := by
    simp only [State.sharedUsed, State.sharedSize, State.sumMin, hvsw, and_self]
  have hport : (v.pdu p).port = (s.pdu p).port := by rw [hvpdu]; rfl
  have hslow : (v.pdu p).slow = (s.pdu p).slow := by rw [hvpdu]; rfl
  have hqueue : queueHolder (v.pdu p).port (if (v.pdu p).slow then 0 else fld ((v.pdu p).w 0) 8 3) = h := by rw [hh, hvpdu]; rfl
  obtain ⟨hframes, hclk, c, hcopies, hcpdu, hcport, hcel, hcsend, hcrel, hcimage, hcdead⟩ := State.queuePdu_room (s := v) (p := p)
    (by rw [hport, hvup, hup]) (by rw [hvsw, hwas]) (by rw [hqueue, hvholder, hover]) (by rw [hqueue, hvholder]; exact hquota)
    (by rw [hvshared.1, hvshared.2]; exact hshared)
  have hage : (s.after (v.queuePdu p)).clk.age = v.clk.age := congrArg ClkSt.age hclk
  have hdead : (v.pdu p).slot + (v.pdu p).window * usC = v.clk.age + (s.pdu p).window * usC := by rw [hvpdu]; rfl
  refine .of_finish hexec ⟨hframes.trans (congrArg SwitchSt.frames hvsw), c, ?_, hcpdu, hcport.trans hport, hcel, hcsend, hcrel.trans hage.symm,
    hcimage.trans hslow, ?_⟩
  · refine hcopies.trans ?_
    rw [hvsw]
  · rw [hcdead, hdead, hage]

/-- Settles O39: ROUTE_WRITE applies its records, an offer gives the one route of its source a value or is too old, and a slot queues one copy or
counts that it was empty. -/
theorem mapperComplete : Obligations.MapperComplete := by
  unfold Obligations.MapperComplete
  refine ⟨fun q s t ht hs heq hbad hpdu hroute hgen hlists htwice => ?_, fun q s ht hstray =>
      ⟨fun hpdu hn => finish_final ht (State.routeRead_pdu hstray hpdu hn),
        fun hroute hvalue hlast => finish_final ht (State.routeRead_empty hstray hroute hvalue hlast)⟩,
    fun s h at_ n v rest hfw hoff hlist hage hread => ?_, fun s p hfw hen hgen => ⟨fun hnone => transmitSlot_empty hfw hen hgen hnone,
      fun h hsend hup hh hwas hover hquota hshared => transmitSlot_sends hfw hen hgen hsend hup hh hwas hover hquota hshared⟩⟩
  · subst heq
    obtain ⟨m, hm⟩ := State.applyRecs_only q.records s
    refine ⟨finish_final ht (State.mirrored_off hs (State.routeWriteDo_good hbad hpdu hroute hgen hlists htwice) (by rw [hm])),
      fun r hr hobj hen hold => ?_⟩
    rw [hr, List.foldl_cons, List.foldl_nil, State.applyRec_newRoute hobj hen hold]
    exact ⟨s.route_setRoute_same _ _, rfl, fun n hn => s.route_setRoute_ne _ hn⟩
  · have hexec := exec_offer hfw hoff hlist
    rw [State.takeValue_plain (s := s.nextOffer rest) hage hread] at hexec
    refine ⟨fun hnew => ?_, fun hold => ?_⟩
    · have hnot : ¬ ((s.nextOffer rest).route? n).value.any (fun x => decide ((at_ : Int) ≤ x.2)) = true := by
        show ¬ (s.route? n).value.any _ = true
        cases hv : (s.route? n).value with
        | none => exact Bool.false_ne_true
        | some x =>
          rw [hv] at hnew
          have hlt : x.2 < (at_ : Int) := of_decide_eq_true hnew
          exact fun hle => absurd (of_decide_eq_true hle) (Int.not_le.mpr hlt)
      rw [if_neg hnot] at hexec
      refine .of_finish hexec ⟨rfl, State.route_setRoute_same _ n _, rfl, ?_⟩
      rw [State.rd_after]
      exact (State.rd_of_vals (s := (s.nextOffer rest).cnt Reg.mapperValueCount 1) rfl _).trans (State.rd_cnt_one _ _)
    · rw [if_pos (show ((s.nextOffer rest).route? n).value.any (fun x => decide ((at_ : Int) ≤ x.2)) = true from hold)] at hexec
      refine .of_finish hexec ⟨rfl, rfl, ?_⟩
      rw [State.rd_after]
      exact State.rd_cnt_one _ _

end Sys2Proof.Machine

namespace Sys2Proof.Machine

/-! ## SEARCH, ENTRY_READ and the profiles (R84 to R93) -/

theorem bit_w32_even {n : Nat} (h : n % 2 = 0) : bit (w32 n) 0 = false := by
  have hfld : fld (w32 n) 0 1 = 0 := by
    rw [fld, w32, BitVec.toNat_ofNat]
    omega
  rw [bit, hfld]
  rfl

theorem State.search_key {q : Request} {s t : State} {d : TernDesc} {r : SearchRes} (hstray : q.stray 0 0xFD0F13FF = false)
    (hkey : q.b 0 24 = false) (hmulti : q.b 0 12 → 1 ≤ q.f 0 16 4 ∧ q.f 0 16 4 ≤ 8) (hlen : q.words.length = 1 + kwOf (q.f 0 8 2))
    (hex : s.exNow (q.f 0 0 8) = none) (htern : s.ternNow (q.f 0 0 8) = some d) (hw : d.width = q.f 0 8 2)
    (hr : s.lsSearch (q.f 0 0 8) d (ofWords ((q.words.drop 1).take (kwOf (q.f 0 8 2))) % 2 ^ d.bits) (q.b 0 12) (q.f 0 16 4) = some (t, r)) :
    s.search q = (t, .final St.ok (w32 (r.hits.length + b2n r.degraded * 16 + b2n r.fallback * 32 + t.glue.c.toNat * 2 ^ 8 +
      q.f 0 0 8 * 2 ^ 16) :: r.hits.flatMap Hit.words)) := by
  have hcount : ¬ (q.b 0 12 = true ∧ (q.f 0 16 4 = 0 ∨ 8 < q.f 0 16 4)) := fun ⟨hb, h⟩ => by
    have hbounds := hmulti hb
    omega
  unfold State.search
  simp only [hkey, Bool.false_eq_true, if_false, false_and, or_false, hstray]
  rw [if_neg hcount, if_neg (not_not_intro hlen), hex, htern]
  dsimp only [Option.isSome]
  rw [if_neg Bool.false_ne_true, if_neg (not_not_intro hw), hr]
  dsimp only
  rw [List.append_nil]

theorem State.entryRead_absent {q : Request} {s : State} {d : TernDesc} (hcheck : s.ternCheck (q.f 0 0 8) = 0) (h0 : q.stray 0 0xFF = false)
    (h1 : q.stray 1 0x1FFFFF = false) (htern : s.ternNow (q.f 0 0 8) = some d) (hold : Machine.committed (s.places d) (q.f 1 0 21) = none) :
    ∃ w0, s.entryRead q = (s, .final St.ok [w0]) ∧ bit w0 0 = false := by
  unfold State.entryRead
  dsimp only
  rw [if_neg (not_not_intro hcheck), if_neg (by simp [h0, h1]), htern]
  dsimp only
  rw [hold]
  refine ⟨_, rfl, bit_w32_even ?_⟩
  omega

theorem State.entryRead_present {q : Request} {s : State} {d : TernDesc} {x : Place} {e : NewEntry}
    (he : e = s.readEntry d (d.rowAt x.part (d.pickReplica (fun r => s.entryOk d (d.rowAt x.part r x.slot))) x.slot))
    (hcheck : s.ternCheck (q.f 0 0 8) = 0) (h0 : q.stray 0 0xFF = false) (h1 : q.stray 1 0x1FFFFF = false)
    (htern : s.ternNow (q.f 0 0 8) = some d) (hold : Machine.committed (s.places d) (q.f 1 0 21) = some x) :
    ∃ w0, s.entryRead q = (s, .final St.ok ([w0, w32 (q.f 1 0 21), w32 (e.pri + e.rangeEn * 2 ^ 16), w32 e.action] ++
      toWords (kwOf d.width) e.value ++ toWords (kwOf d.width) e.care)) ∧ bit w0 0 = true := by
  unfold State.entryRead
  dsimp only
  rw [if_neg (not_not_intro hcheck), if_neg (by simp [h0, h1]), htern]
  dsimp only
  rw [hold]
  dsimp only
  rw [← he]
  refine ⟨_, rfl, bit_w32_odd ?_⟩
  omega

theorem dropRetired_length {α : Type} (old : BitVec 3 → Bool) (vs : List (Ver α)) : (dropRetired old vs).length ≤ vs.length := by
  induction vs with
  | nil => exact Nat.le_refl _
  | cons v vs ih =>
    rw [dropRetired]
    split
    · exact Nat.succ_le_succ (Nat.zero_le _)
    · exact Nat.succ_le_succ ih

theorem State.profileWrite_good {q : Request} {s : State} (hs : s.single) (hstray : q.stray 0 0x1FFF133F = false) (htable : q.f 0 16 8 ≠ 255)
    (hcount : q.f 0 24 5 ≤ 24) (hlen : q.words.length = 3 + q.f 0 24 5)
    (hins : ((q.words.drop 3).take (q.f 0 24 5)).any (badInstr (q.f 0 8 2)) = false) (hstandby : (s.profileSt (q.f 0 0 6)).standby = none)
    (hvers : (s.profileSt (q.f 0 0 6)).vers.length ≤ 1) :
    s.profileWrite q = (s.setProfile (q.f 0 0 6) { s.profileSt (q.f 0 0 6) with
      standby := some ⟨q.f 0 8 2, q.f 0 16 8, q.f 0 12 1, BitVec.ofNat 64 ((q.w 1).toNat + 2 ^ 32 * (q.w 2).toNat),
        (q.words.drop 3).take (q.f 0 24 5)⟩ }, .pend (.profile (q.f 0 0 6)) []) := by
  have hlive : (s.liveVers (s.profileSt (q.f 0 0 6)).vers).length ≤ 1 := Nat.le_trans (dropRetired_length _ _) hvers
  have hfree : ¬ ((s.profileSt (q.f 0 0 6)).standby.isSome = true ∨ 1 < (s.liveVers (s.profileSt (q.f 0 0 6)).vers).length) := by
    rw [hstandby]
    exact fun h => h.elim (fun h => Bool.false_ne_true h) (fun h => absurd hlive (Nat.not_le.mpr h))
  unfold State.profileWrite
  dsimp only
  rw [if_neg (by simp [State.refuses_off hs]), if_neg (by simp [hstray, htable]), if_neg (by omega), if_neg (by simp [hins]), if_neg hfree,
    State.mirror_off (s := State.setProfile _ _ _) hs]

theorem State.profileRead_good {q : Request} {s : State} (hstray : q.stray 0 0x3F = false) :
    s.profileRead q = (s, .final St.ok ([w32 (q.f 0 0 6 + (s.profile (q.f 0 0 6) s.glue.c).width * 2 ^ 8 +
      (s.profile (q.f 0 0 6) s.glue.c).wave * 2 ^ 12 + (s.profile (q.f 0 0 6) s.glue.c).table * 2 ^ 16 +
      (s.profile (q.f 0 0 6) s.glue.c).instrs.length * 2 ^ 24)] ++
      toWords 2 (s.profile (q.f 0 0 6) s.glue.c).const.toNat ++ (s.profile (q.f 0 0 6) s.glue.c).instrs)) := by
  unfold State.profileRead
  dsimp only
  rw [if_neg (by simp [hstray])]

/-! ## GOVERNOR_SET (R97 to R99) -/

/-- Both governor registers are written. -/
def State.govWritten (s : State) (v w : Word) : State :=
  let u := s.wr Reg.arrayGovCtrl (merge (s.rd Reg.arrayGovCtrl) v 0x8000FFFF)
  u.wr Reg.arrayGovDepth (merge (s.rd Reg.arrayGovDepth) w 0x3FFFF)

theorem State.govWritten_rd (s : State) (v w : Word) :
    (s.govWritten v w).rd Reg.arrayGovCtrl = merge (s.rd Reg.arrayGovCtrl) v 0x8000FFFF ∧
      (s.govWritten v w).rd Reg.arrayGovDepth = merge (s.rd Reg.arrayGovDepth) w 0x3FFFF := by
  refine ⟨?_, State.rd_wr_same _ _ _⟩
  rw [State.govWritten, State.rd_wr_ne _ _ (by decide), State.rd_wr_same]

theorem State.governorSet_good {q : Request} {s : State} (hrate : 32 ≤ q.f 0 0 16) (hdepth : 256 ≤ q.f 1 0 18)
    (h0 : q.stray 0 0x8000FFFF = false) (h1 : q.stray 1 0x3FFFF = false) (hopen : s.groupLocked 2 = false) :
    ∃ w, s.governorSet q = ((s.govWritten (q.w 0) (q.w 1)).govCut, .final St.ok w) := by
  have hctrl : s.wrLock Reg.arrayGovCtrl (q.w 0) 0x8000FFFF = s.wr Reg.arrayGovCtrl (merge (s.rd Reg.arrayGovCtrl) (q.w 0) 0x8000FFFF) :=
    if_neg (by rw [show s.lockedAt Reg.arrayGovCtrl = false from hopen]; exact Bool.false_ne_true)
  have hlock : (s.wr Reg.arrayGovCtrl (merge (s.rd Reg.arrayGovCtrl) (q.w 0) 0x8000FFFF)).lockedAt Reg.arrayGovDepth = false := by
    show State.groupLocked _ 2 = false
    rw [State.groupLocked, State.rb, State.rd_wr_ne _ _ (by decide)]
    exact hopen
  unfold State.governorSet
  rw [if_neg (by simp [h0, h1]; omega)]
  dsimp only
  rw [hctrl, State.wrLock, if_neg (by rw [hlock]; exact Bool.false_ne_true), State.rd_wr_ne _ _ (by decide)]
  exact ⟨_, rfl⟩

/-! ## SEARCH_NEXT on an exact-match table without entries (R207) -/

/-- A walk from the start of an empty exact-match table examines its region, up to 4,096 positions. -/
theorem State.walkPart_empty {s : State} (d : ExactDesc) (h : s.exm.slots = []) :
    s.walkPart d 0 = ⟨4 * d.base, min d.regionEnd (4 * d.base + 4096), []⟩ := by
  have hns : s.nsPositions d = [] := by rw [State.nsPositions, h]; rfl
  have hfirst : min (max 0 (4 * d.base)) d.regionEnd = 4 * d.base := by
    rw [ExactDesc.regionEnd, Nat.max_eq_right (Nat.zero_le _)]
    exact Nat.min_eq_left (Nat.mul_le_mul_left 4 (Nat.le_add_right _ _))
  unfold State.walkPart
  dsimp only
  rw [hns, if_pos (by decide), hfirst, List.filter_nil, List.take_nil]

theorem ExactDesc.regionEnd_small {d : ExactDesc} (h : d.log2 ≤ 10) : d.regionEnd ≤ 4 * d.base + 4096 := by
  have hp : 2 ^ d.log2 ≤ 2 ^ 10 := Nat.pow_le_pow_right (by decide) h
  rw [ExactDesc.regionEnd]
  omega

theorem ExactDesc.regionEnd_large {d : ExactDesc} (h : ¬ d.log2 ≤ 10) : 4 * d.base + 4096 < d.regionEnd := by
  have hp : 2 ^ 11 ≤ 2 ^ d.log2 := Nat.pow_le_pow_right (by decide) (by omega)
  rw [ExactDesc.regionEnd]
  omega

/-- Where the walk stands behind its first call on an empty table, and whether it is over. -/
theorem State.walk_empty {s : State} (d : ExactDesc) (h : s.exm.slots = []) :
    s.walkDone d ((s.walkPart d 0).behind d) = decide (d.log2 ≤ 10) ∧
      (¬ d.log2 ≤ 10 → (s.walkPart d 0).behind d = 4 * d.base + 4096) := by
  have hns : s.nsPositions d = [] := by rw [State.nsPositions, h]; rfl
  rw [s.walkPart_empty d h, State.walkDone, hns, WalkPart.behind]
  dsimp only
  by_cases hlog : d.log2 ≤ 10
  · have hend := ExactDesc.regionEnd_small hlog
    rw [if_neg (by omega)]
    exact ⟨by simp [hlog], fun hn => absurd hlog hn⟩
  · have hend := ExactDesc.regionEnd_large hlog
    rw [if_pos (by omega)]
    exact ⟨by simp [hlog]; omega, fun _ => by omega⟩

theorem State.searchNext_empty {q : Request} {s : State} {d : ExactDesc} (hnow : s.exNow (q.f 0 0 8) = some d) (hlen : q.words.length = 3)
    (hcount : 1 ≤ q.f 0 16 4) (hcount8 : q.f 0 16 4 ≤ 8) (hfilter : q.f 0 8 2 < 3) (h0 : q.stray 0 0xFF0F17FF = false)
    (h1 : q.stray 1 0x1FFFFF = false) (hport : q.b 0 10 → portValid (q.f 0 24 8) = true) (hstart : q.b 0 12 = true) (hslots : s.exm.slots = []) :
    s.searchNext q = (s, .final St.ok [w32 (s.glue.c.toNat * 2 ^ 8 + q.f 0 0 8 * 2 ^ 16 + if d.log2 ≤ 10 then 64 else 0),
      (s.exTable (q.f 0 0 8)).gen, w32 (if d.log2 ≤ 10 then 0x102000 else 4 * d.base + 4096), (s.exTable (q.f 0 0 8)).descSeq]) := by
  obtain ⟨hdone, hnext⟩ := s.walk_empty d hslots
  have hentries : s.exactEntries d = [] := by rw [State.exactEntries, hslots]; rfl
  unfold State.searchNext
  dsimp only
  rw [hnow]
  dsimp only
  unfold State.searchNextExact
  dsimp only
  rw [if_neg (by omega), if_neg (by simp [h0]; omega), if_neg (fun ⟨hb, hn⟩ => hn (hport hb)), if_neg (not_not_intro hlen), if_neg (by simp [h1]),
    if_neg (fun ⟨hn, _⟩ => hn hstart), if_pos hstart, hentries, hslots]
  have hnone : ¬ 0 = q.f 0 16 4 := by omega
  simp only [List.map_nil, List.filter_nil, List.take_nil, List.length_nil, List.flatMap_nil, hnone, if_false, hdone, List.append_nil]
  by_cases hlog : d.log2 ≤ 10
  · simp only [hlog, decide_true, if_true]
    refine congrArg (Prod.mk s) (congrArg (CmdEnd.final St.ok) ?_)
    congr 2
    show 0 + 0 + 1 * 64 + _ + _ = _
    omega
  · have hend := ExactDesc.regionEnd_large hlog
    simp only [hlog, decide_false, Bool.false_eq_true, if_false, hnext hlog]
    rw [if_neg (Nat.not_le.mpr hend)]
    refine congrArg (Prod.mk s) (congrArg (CmdEnd.final St.ok) ?_)
    congr 2
    show 0 + 0 + 0 * 64 + _ + _ = _
    omega

/-- Settles O23: each command on its good arm; an empty table leaves a walk nothing to find. -/
theorem searchCommandsComplete : Obligations.SearchCommandsComplete := by
  unfold Obligations.SearchCommandsComplete
  refine ⟨fun q s d t r ht hstray hkey hmulti hlen hex htern hw hr =>
      finish_final ht (State.search_key hstray hkey hmulti hlen hex htern hw hr),
    fun q s d ht hcheck h0 h1 htern hold => ?_, fun q s d x ht hcheck h0 h1 htern hold => ?_,
    fun q s ht hs hstray htable hcount hlen hins hstandby hvers =>
      finish_pend ht (State.profileWrite_good hs hstray htable hcount hlen hins hstandby hvers),
    fun q s ht hstray => finish_final ht (State.profileRead_good hstray), fun q s ht hrate hdepth h0 h1 hopen => ?_,
    fun q s d ht hnow hlen hcount hcount8 hfilter h0 h1 hport hstart hslots =>
      finish_final ht (State.searchNext_empty hnow hlen hcount hcount8 hfilter h0 h1 hport hstart hslots)⟩
  · obtain ⟨w0, hbody, hw0⟩ := State.entryRead_absent hcheck h0 h1 htern hold
    exact ⟨w0, finish_final ht hbody, hw0⟩
  · obtain ⟨w0, hbody, hw0⟩ := State.entryRead_present rfl hcheck h0 h1 htern hold
    exact ⟨w0, _, finish_final ht hbody, rfl, hw0⟩
  · obtain ⟨w, hbody⟩ := State.governorSet_good hrate hdepth h0 h1 hopen
    obtain ⟨hctrl, hdep⟩ := s.govWritten_rd (q.w 0) (q.w 1)
    refine .of_final ht rfl hbody (by decide) fun u h => ?_
    have hc : (s.after u).rd Reg.arrayGovCtrl = merge (s.rd Reg.arrayGovCtrl) (q.w 0) 0x8000FFFF := by
      rw [State.rd_after, h.rd (by decide)]
      exact hctrl
    have hd : (s.after u).rd Reg.arrayGovDepth = merge (s.rd Reg.arrayGovDepth) (q.w 1) 0x3FFFF := by
      rw [State.rd_after, h.rd (by decide)]
      exact hdep
    have hfield : fld (merge (s.rd Reg.arrayGovDepth) (q.w 1) 0x3FFFF) 0 18 = q.f 1 0 18 := fld_merge_in _ _ (by decide)
    obtain ⟨-, -, -, -, htern, -⟩ := h.frame
    have hlevel : u.tern.govLevel = min s.tern.govLevel (q.f 1 0 18 * 1250) := by
      rw [htern, ← hfield, ← hdep]
      rfl
    refine ⟨?_, ?_, ?_, hlevel⟩
    · rw [State.rf, hc]
      exact fld_merge_in _ _ (by decide)
    · rw [State.rb, hc, bit, Request.b, bit, fld_merge_in _ _ (by decide)]
    · rw [State.rf, hd]
      exact hfield

end Sys2Proof.Machine

namespace Sys2Proof.Machine

/-! ## Frames in the device -/

/-- A frame that is stored over its record is found under its number. -/
theorem State.frame_setFrame_same {s : State} {f g : Frame} (h : s.frame f.num = some f) (hg : g.num = f.num) :
    (s.setFrame g).frame f.num = some g := by
  have hfind : ∀ l : List Frame, l.find? (fun x => x.num == f.num) = some f →
      (l.map (fun x => if x.num = g.num then g else x)).find? (fun x => x.num == f.num) = some g := by
    intro l
    induction l with
    | nil => exact fun hl => absurd hl (by simp)
    | cons x l ih =>
      intro hl
      by_cases hx : x.num = f.num
      · rw [List.map_cons, if_pos (hx.trans hg.symm), List.find?_cons_of_pos (by simp [hg])]
      · rw [List.find?_cons_of_neg (by simp [hx])] at hl
        rw [List.map_cons, if_neg (hg ▸ hx), List.find?_cons_of_neg (by simp [hx])]
        exact ih hl
  exact hfind _ h

theorem getElem?_setAt_same {α : Type} {l : List α} {i : Nat} (v : α) (h : i < l.length) : (setAt l i v)[i]? = some v := by
  induction l generalizing i with
  | nil => exact absurd h (Nat.not_lt_zero i)
  | cons a l ih =>
    cases i with
    | zero => rfl
    | succ i => exact ih (Nat.lt_of_succ_lt_succ h)

/-- The answer of a role stands in its frame, and no store but that of the frames changes. -/
theorem State.answerRole_frame {s : State} {n : Nat} {f : Frame} (h : s.frame n = some f) (role : Nat) (hit : Bool) (action : Nat)
    (hrole : role < 5) (hlen : f.results.length = 5) :
    (∃ g, (s.answerRole n role hit action).frame n = some g ∧ g.results[role]? = some ⟨false, hit, action⟩ ∧ g.stage = f.stage ∧
      g.epoch = f.epoch) ∧ (s.answerRole n role hit action).tern = s.tern ∧ (s.answerRole n role hit action).exm = s.exm ∧
      (s.answerRole n role hit action).clk = s.clk := by
  have hnum : f.num = n := (State.frame_mem h).2
  subst hnum
  rw [State.answerRole, h]
  refine ⟨⟨_, State.frame_setFrame_same h rfl, ?_, rfl, rfl⟩, rfl, rfl, rfl⟩
  dsimp only
  exact getElem?_setAt_same _ (by omega)

/-! ## Results of searches (R89, R187) -/

/-- A search that is alone ends, and none is left. -/
theorem State.endSearch_alone {s : State} {x : Search} (h : s.tern.searches = [x]) : (s.endSearch x).tern.searches = [] := by
  show s.tern.searches.erase x = []
  rw [h, List.erase_cons_head]

/-- A result without flags leaves the searches, the frames and the clock alone. -/
theorem State.noteResult_clean {s : State} {table lane : Nat} {e : BitVec 3} {r : SearchRes} (hflags : r.flags = []) :
    (s.noteResult table e lane r).tern.searches = s.tern.searches ∧ (s.noteResult table e lane r).sw = s.sw ∧
      (s.noteResult table e lane r).clk = s.clk := by
  unfold State.noteResult
  dsimp only
  rw [hflags]
  cases r.fallback <;> cases r.degraded <;> exact ⟨rfl, rfl, rfl⟩

theorem State.until_searches (s : State) (n : Nat) : (s.until n).tern.searches = s.tern.searches := by
  obtain ⟨v, r, c, e, -⟩ := s.advance_eq (n - s.clk.age)
  rw [State.until, e]

theorem State.until_glue (s : State) (n : Nat) : (s.until n).glue = s.glue := by
  obtain ⟨v, r, c, e, -⟩ := s.advance_eq (n - s.clk.age)
  rw [State.until, e]

theorem arraySearchResult_makes {s : State} {x : Search} {f : Frame} {r : SearchRes} (hup : s.coreUp = true) (hone : s.tern.searches = [x])
    (hlane : x.lane < 8) (hexact : x.exact = false) (hphase : x.phase = .granted) (hrole : x.role < 5) (hframe : s.frame x.frame = some f)
    (hlen : f.results.length = 5) (hr : r = x.res.getD (s.resultOf x)) (hflags : r.flags = [])
    (hage : s.clk.age < 2 ^ 63) (hat : x.at_ < 2 ^ 62) : Makes (.arraySearchResult x.frame x.role) s fun t =>
      t.tern.searches = [] ∧ t.clk.age = max s.clk.age (x.at_ + 40) ∧
      ∃ g, t.frame x.frame = some g ∧ g.results[x.role]? = some ⟨false, !r.hits.isEmpty, (r.hits.head?).elim 0 (·.action)⟩ ∧
        g.stage = f.stage ∧ g.epoch = f.epoch := by
  have hexec : exec (.arraySearchResult x.frame x.role) s = finish s ((((s.until (x.at_ + 40)).endSearch x).noteResult x.table x.epoch x.lane
      r).answerRole x.frame x.role (!r.hits.isEmpty) ((r.hits.head?).elim 0 (·.action))) := by
    show finish s (whileUp s _) = _
    rw [whileUp_up _ hup, hone, List.find?_cons_of_pos (by simp [hexact, hphase])]
    dsimp only
    rw [if_neg (by omega), ← hr]
  obtain ⟨hsearches, hsw, hclk⟩ := ((s.until (x.at_ + 40)).endSearch x).noteResult_clean (table := x.table) (lane := x.lane) (e := x.epoch)
    hflags
  have hnone := State.endSearch_alone ((s.until_searches (x.at_ + 40)).trans hone)
  have hnow := s.untilAge (n := x.at_ + 40) (by omega) (by omega)
  have husw := s.until_sw (x.at_ + 40)
  generalize s.until (x.at_ + 40) = u at hexec hsearches hsw hclk hnone hnow husw
  generalize (u.endSearch x).noteResult x.table x.epoch x.lane r = w at hexec hsearches hsw hclk
  have hwframe : w.frame x.frame = some f := by
    rw [State.frame, hsw]
    show u.sw.frames.find? _ = _
    rw [husw]
    exact hframe
  obtain ⟨hg, htern, -, hwclk⟩ := State.answerRole_frame hwframe x.role (!r.hits.isEmpty) ((r.hits.head?).elim 0 (·.action)) hrole hlen
  refine .of_finish hexec ⟨?_, ?_, hg⟩
  · show (State.answerRole _ _ _ _ _).tern.searches = []
    rw [htern, hsearches, hnone]
  · show (State.answerRole _ _ _ _ _).clk.age = _
    rw [hwclk, hclk]
    exact hnow

/-- Of a search that is alone no other result comes first, and its lane is open. -/
theorem State.laneOpen_alone {s : State} {x : Search} (h : s.tern.searches = [x]) : s.laneOpen x = true ∧ s.exactBefore x = [] := by
  refine ⟨?_, ?_⟩
  · rw [State.laneOpen, h]
    simp
  · rw [State.exactBefore, h, List.filter_cons_of_neg (by simp)]
    rfl

theorem exactSearchResult_makes {s : State} {x : Search} {f : Frame} {d : ExactDesc} (hup : s.coreUp = true) (hone : s.tern.searches = [x])
    (hlane : x.lane < 8) (hexact : x.exact = true) (hrole : x.role < 5) (hframe : s.frame x.frame = some f) (hlen : f.results.length = 5)
    (hdesc : s.exDesc x.table x.epoch = some d) (hlearn : d.learnEn = false) (hfailing : (s.exactSearch d x.key.toNat x.epoch true).failing = []) :
    Makes (.exactSearchResult x.frame x.role) s fun t => t.tern.searches = [] ∧ t.exm = s.exm ∧
      ∃ g, t.frame x.frame = some g ∧ g.results[x.role]? = some ⟨false, (s.exactSearch d x.key.toNat x.epoch true).hit.isSome,
        (s.exactSearch d x.key.toNat x.epoch true).action⟩ := by
  obtain ⟨hopen, hbefore⟩ := State.laneOpen_alone hone
  have hexec : exec (.exactSearchResult x.frame x.role) s = finish s (s.exactAnswer x f) := by
    show finish s (whileUp s _) = _
    rw [whileUp_up _ hup, hone, List.find?_cons_of_pos (by simp; omega), hframe]
    dsimp only
    rw [if_pos ⟨hexact, hopen⟩, hbefore, List.foldl_nil, State.exactResult, hframe]
    rfl
  have hnone := State.endSearch_alone ((s.until_searches (x.at_ + 40)).trans hone)
  have hexm := s.until_exm (x.at_ + 40)
  have hglue := s.until_glue (x.at_ + 40)
  have husw := s.until_sw (x.at_ + 40)
  rw [State.exactAnswer] at hexec
  generalize s.until (x.at_ + 40) = u at hexec hnone hexm hglue husw
  have hdesc' : (u.endSearch x).exDesc x.table x.epoch = some d := by
    rw [← hdesc]
    show u.exDesc _ _ = _
    simp only [State.exDesc, State.exTable, State.verAt, State.ageOf, hexm, hglue]
    rfl
  have hsearch := State.exactSearch_of (s := s) (t := u.endSearch x) hexm hglue d x.key.toNat x.epoch true
  rw [hdesc'] at hexec
  dsimp only at hexec
  simp only [hsearch, hfailing] at hexec
  rw [if_neg (c := _ ∧ _ ∧ _) (by rw [hlearn]; simp)] at hexec
  generalize s.exactSearch d x.key.toNat x.epoch true = r at hexec
  obtain ⟨w, hw, hwexm, hwsw, hwtern⟩ : ∃ w, exec (.exactSearchResult x.frame x.role) s = finish s (State.answerRole w f.num x.role r.hit.isSome
      r.action) ∧ w.exm = u.exm ∧ w.sw = u.sw ∧ w.tern = (u.endSearch x).tern := by
    refine ⟨_, hexec, ?_⟩
    split <;> exact ⟨rfl, rfl, rfl⟩
  have hnum : f.num = x.frame := (State.frame_mem hframe).2
  rw [hnum] at hw
  have hwframe : w.frame x.frame = some f := by
    rw [State.frame, hwsw, husw]
    exact hframe
  obtain ⟨⟨g, hg, hres, -⟩, htern, hgexm, -⟩ := State.answerRole_frame hwframe x.role r.hit.isSome r.action hrole hlen
  refine .of_finish hw ⟨?_, ?_, g, hg, hres⟩
  · show (State.answerRole _ _ _ _ _).tern.searches = []
    rw [htern, hwtern, hnone]
  · show (State.answerRole _ _ _ _ _).exm = _
    rw [hgexm, hwexm, hexm]

/-! ## Wave 2 and the decision (R290, R295) -/

/-- Roles without an action index read nothing. -/
theorem State.readRoles_none {s : State} {f : Frame} : ∀ {roles : List Nat}, (∀ r ∈ roles, f.actionOf r = none) → s.readRoles f roles = (s, f)
  | [], _ => rfl
  | r :: roles, h => by
    have hread : s.readRole f r = (s, f) := by rw [State.readRole, h r List.mem_cons_self]
    have ih := State.readRoles_none (s := s) (f := f) (roles := roles) fun r hr => h r (List.mem_cons_of_mem _ hr)
    rw [State.readRoles, List.foldl_cons, hread]
    exact ih

/-- A role without a profile issues nothing. -/
theorem State.issueRole_none {s : State} {n role : Nat} {f : Frame} (h : s.frame n = some f) (hp : f.roles.profile role = none) :
    s.issueRole n role = s := by
  rw [State.issueRole, h]
  dsimp only
  rw [hp]

theorem wave2Start_makes {s : State} {n : Nat} {f : Frame} (hup : s.coreUp = true) (hframe : s.frame n = some f) (hstage : f.stage = .wave1)
    (hdue : s.overdue f = false) (hsettled : f.settled = true) (hact : ∀ r, r < 3 → f.actionOf r = none)
    (hprofile : ∀ r, r = 3 ∨ r = 4 → f.roles.profile r = none) : Makes (.wave2Start n) s fun t =>
      ∃ g, t.frame n = some g ∧ g.stage = .wave2 ∧ g.results = f.results ∧ t.tern = s.tern ∧ t.coh = s.coh := by
  have hnum : f.num = n := (State.frame_mem hframe).2
  subst hnum
  have hset : (s.setFrame { f with stage := .wave2 }).frame f.num = some { f with stage := .wave2 } := State.frame_setFrame_same hframe rfl
  have hexec : exec (.wave2Start f.num) s = finish s (s.setFrame { f with stage := .wave2 }) := by
    show finish s (whileUp s _) = _
    rw [whileUp_up _ hup, hframe]
    dsimp only
    rw [if_neg (not_not_intro hstage), if_neg (by rw [hdue]; exact Bool.false_ne_true), if_neg (not_not_intro hsettled),
      State.readRoles_none (by simpa using ⟨hact 0 (by omega), hact 1 (by omega), hact 2 (by omega)⟩)]
    dsimp only [List.foldl]
    rw [State.issueRole_none hset (hprofile 3 (.inl rfl)), State.issueRole_none hset (hprofile 4 (.inr rfl))]
  exact .of_finish hexec ⟨_, hset, rfl, rfl, rfl, rfl⟩

/-- A frame whose entries are all absent has no destination, is not denied, and names no policer. -/
theorem Frame.no_entries {f : Frame} (h : ∀ e ∈ f.entries, e = none) : (∀ r, f.entry r = none) ∧ f.destEntry = none ∧ f.denied = false := by
  have hentry (r : Nat) : f.entry r = none := by
    rw [Frame.entry, List.getD_eq_getElem?_getD]
    cases hr : f.entries[r]? with
    | none => rfl
    | some e => exact h e (List.mem_of_getElem? hr)
  have hmap : f.entries.filterMap id = [] := List.filterMap_eq_nil_iff.mpr h
  refine ⟨hentry, ?_, ?_⟩
  · rw [Frame.destEntry, hentry, hentry]
  · rw [Frame.denied, hmap]
    rfl

theorem State.judge_noDest {s : State} {f : Frame} (h : ∀ e ∈ f.entries, e = none) (herr : f.actionErr = false) (hkind : f.kind = 0) :
    s.judge f = s.dropFrame f 10 := by
  obtain ⟨hentry, hdest, hdenied⟩ := Frame.no_entries h
  have hef : f.ef 3 2 16 1 = 0 := by rw [Frame.ef, hentry]; rfl
  unfold State.judge
  rw [State.destinations, hdest]
  dsimp only
  rw [if_neg (by simp [herr, hef]), if_pos hkind, if_neg (by rw [hdenied]; exact Bool.false_ne_true)]
  rfl

/-- A dropped frame is gone, is counted at its ingress, and leaves the copies alone. -/
theorem State.dropFrame_does (s : State) (f : Frame) (reason : Nat) : (s.dropFrame f reason).frame f.num = none ∧
    (s.dropFrame f reason).sw.copies = s.sw.copies ∧
    (s.dropFrame f reason).rd (portBase f.ingress + 0x140 + 4 * (reason - 1)) =
      w32 (min 0xFFFFFFFF ((s.rd (portBase f.ingress + 0x140 + 4 * (reason - 1))).toNat + 1)) := by
  refine ⟨?_, rfl, ?_⟩
  · show (s.sw.frames.filter (fun g => g.num != f.num)).find? (fun g => g.num == f.num) = none
    refine List.find?_eq_none.mpr fun g hg => ?_
    have := (List.mem_filter.mp hg).2
    simpa using this
  · exact (State.rd_of_vals (s := s.drop f.ingress reason) rfl _).trans (State.rd_cnt_one _ _)

theorem frameDecided_noDest {s : State} {n : Nat} {f : Frame} (hup : s.coreUp = true) (hframe : s.frame n = some f) (hstage : f.stage = .wave2)
    (hdue : s.overdue f = false) (hsettled : f.settled = true) (hact : ∀ r, f.actionOf r = none) (hentries : ∀ e ∈ f.entries, e = none)
    (herr : f.actionErr = false) (hkind : f.kind = 0) : Makes (.frameDecided n) s fun t =>
      t.frame n = none ∧ t.sw.copies = s.sw.copies ∧
      t.rd (portBase f.ingress + 0x140 + 4 * 9) = w32 (min 0xFFFFFFFF ((s.rd (portBase f.ingress + 0x140 + 4 * 9)).toNat + 1)) := by
  have hnum : f.num = n := (State.frame_mem hframe).2
  have hexec : exec (.frameDecided n) s = finish s (s.dropFrame f 10) := by
    show finish s (whileUp s _) = _
    rw [whileUp_up _ hup, hframe]
    dsimp only
    rw [if_neg (not_not_intro hstage), if_neg (by rw [hdue]; exact Bool.false_ne_true), if_neg (not_not_intro hsettled),
      State.readRoles_none fun r _ => hact r]
    dsimp only
    rw [State.judge_noDest hentries herr hkind]
  obtain ⟨hgone, hcopies, hrd⟩ := s.dropFrame_does f 10
  rw [hnum] at hgone
  exact .of_finish hexec ⟨hgone, hcopies, (State.rd_after _ _ _).trans hrd⟩

/-- At its deadline a frame is late in either wave. -/
theorem exec_late {s : State} {n : Nat} {f : Frame} (hup : s.coreUp = true) (hframe : s.frame n = some f) (hdue : s.overdue f = true) :
    (f.stage = .wave1 → exec (.wave2Start n) s = .next (s.after (s.lateFrame f))) ∧
      (f.stage = .wave2 → exec (.frameDecided n) s = .next (s.after (s.lateFrame f))) := by
  refine ⟨fun hstage => ?_, fun hstage => ?_⟩
  all_goals
    refine Eq.trans (b := finish s (s.lateFrame f)) ?_ (finish_eq _ _)
    show finish s (whileUp s _) = _
    rw [whileUp_up _ hup, hframe]
    dsimp only
    rw [if_neg (not_not_intro hstage), if_pos hdue]

end Sys2Proof.Machine

namespace Sys2Proof.Machine

/-! ## The grant of a search that waits alone (R79 to R83, R187) -/

/-- With the governor off the passing of no time changes nothing that a grant looks at. -/
theorem State.until_here {s : State} (hage : s.clk.age < 2 ^ 63) (hoff : s.govOn = false) :
    ∀ u, u = s.until s.clk.age → u.tern = s.tern ∧ u.clk.age = s.clk.age ∧ (∀ x, u.bid x = s.bid x) ∧ (∀ x, u.laneFree x = s.laneFree x) ∧
      (∀ bs l, u.blockLocked bs l = s.blockLocked bs l) ∧ (∀ x, x.lane < 8 → u.wanted x = s.wanted x) ∧
      (∀ d r key e m, u.picksIn d r key e m = s.picksIn d r key e m) ∧ u.govOn = false := by
  obtain ⟨v, r, c, e, hrd⟩ := s.advance_eq (s.clk.age - s.clk.age)
  have hfill : s.govFill (s.clk.age - s.clk.age) = s.tern.govLevel := by rw [State.govFill, if_neg (by rw [hoff]; exact Bool.false_ne_true)]
  have hnow : (s.clk.age + (s.clk.age - s.clk.age)) % 2 ^ 64 = s.clk.age := by omega
  have hgov := hrd Reg.arrayGovCtrl (by unfold clockCounts; decide)
  rintro u rfl
  rw [State.until]
  have huoff : (s.advance (s.clk.age - s.clk.age)).govOn = false := by
    rw [State.govOn, State.rb, hgov]
    exact hoff
  refine ⟨?_, ?_, ?_, ?_, ?_, ?_, ?_, huoff⟩
  all_goals rw [e, hfill, hnow]
  · exact fun x => rfl
  · exact fun x => rfl
  · exact fun bs l => rfl
  · intro x hx
    rw [State.wanted, State.wanted, if_neg (by omega), if_neg (by omega)]
    rfl
  · exact fun d r key e m => rfl

/-- The hints are registers. -/
theorem State.hints_frame (s : State) : s.hints.tern = s.tern := by
  have hfold : ∀ (xs : List Search) (f : Search → Nat) (g : Search → Nat → Word) (a : State × Nat),
      (xs.foldl (fun (a : State × Nat) x => (a.1.wr (Reg.arbArrayHint x.lane) (g x a.2), a.2 + f x)) a).1.tern = a.1.tern := by
    intro xs f g
    induction xs with
    | nil => exact fun a => rfl
    | cons x xs ih => exact fun a => ih _
  exact hfold (s.ranked.filter s.mayBid) s.lengthOf
    (fun x n => w32 (min 255 ((s.bid x).elim 0 (fun b => min 255 (b.free - s.clk.age)) + n))) (s, 0)

/-- A search of a lane is not one of the fabric. -/
theorem State.jobOf_lane (s : State) {x : Search} (h : x.lane < 8) : s.jobOf x = none := if_neg fun ⟨h8, _⟩ => by omega

theorem State.isMulti_lane (s : State) {x : Search} (h : x.lane < 8) : s.isMulti x = false := by
  rw [State.isMulti, s.jobOf_lane h]
  rfl

section
variable {s : State} {x : Search} (hone : s.tern.searches = [x])
include hone

theorem State.ranked_alone (hexact : x.exact = false) (hphase : x.phase = .waiting) : s.ranked = [x] := by
  unfold State.ranked
  dsimp only
  rw [hone, List.filter_cons_of_pos (by simp [hexact]), List.filter_nil, List.filter_cons_of_neg (by simp [hphase]), List.filter_nil,
    List.filter_cons_of_pos (by simp [hphase]), List.filter_nil]
  rfl

theorem State.laneFree_alone (hphase : x.phase = .waiting) : s.laneFree x = x.issued := by
  rw [State.laneFree, hone, List.filter_cons_of_neg (by simp [hphase]), List.filter_nil, List.foldl_nil]

theorem State.readyAt_alone {b : Bid} (hphase : x.phase = .waiting) (hbid : s.bid x = some b) (hfree : b.free ≤ s.clk.age) (hoff : s.govOn = false)
    (hrewrite : s.tern.rewriteAt ≠ some s.clk.age) (hissued : x.issued ≤ s.clk.age) (hage : s.clk.age < 2 ^ 63) :
    s.readyAt x = some s.clk.age := by
  have hout : max s.clk.age (s.laneFree x) = s.clk.age := by
    rw [State.laneFree_alone hone hphase]
    omega
  have hpast : s.pastRewrite s.clk.age = s.clk.age := if_neg hrewrite
  have hmax : max s.clk.age b.free = s.clk.age := Nat.max_eq_left hfree
  have hport : (if x.urgent = true then s.clk.age else s.clk.age) = s.clk.age := ite_self _
  unfold State.readyAt
  dsimp only
  rw [if_neg (by rw [hphase]; decide), hout, hbid]
  dsimp only
  rw [hmax, hport, hpast, if_neg, if_pos (.inl (by rw [hoff]; exact Bool.false_ne_true))]
  rintro (hnever | ⟨-, hclosed⟩)
  · rw [neverFree] at hnever
    omega
  · exact hclosed (State.laneOpen_alone hone).1

theorem State.lateLocals_alone (hlane : x.lane < 8) : s.lateLocals = s := by
  have hlate : s.fabLate x = false := by rw [State.fabLate, s.jobOf_lane hlane]; rfl
  rw [State.lateLocals, hone, List.filter_cons_of_neg (by simp [hlate])]
  rfl

theorem State.decideSearch_grants {b : Bid} (hphase : x.phase = .waiting) (hbid : s.bid x = some b) (hfree : b.free ≤ s.clk.age) (hoff : s.govOn = false)
    (hissued : x.issued ≤ s.clk.age) (hlock : s.blockLocked b.blocks b.letter = false) (hwanted : s.wanted x = true) :
    s.decideSearch x = s.grantBid x b := by
  have hmay : s.mayBid x = true := by
    rw [State.mayBid, (State.laneOpen_alone hone).1, State.laneFree_alone hone hphase]
    simp [hissued]
  have hnot : ∀ p q : Prop, ¬ (s.govOn = true ∧ p ∧ q) := fun p q h => by
    rw [hoff] at h
    exact Bool.false_ne_true h.1
  unfold State.decideSearch
  rw [if_neg (by rw [hone, hmay]; simp), hbid]
  dsimp only
  rw [if_pos ⟨hfree, by rw [hlock]; exact Bool.false_ne_true⟩, State.governed]
  rw [if_neg (hnot _ _), if_neg (hnot _ _), if_pos hwanted]

end

/-- What the grant of a search charges: activations, its port and the credit of its lane. -/
def State.chargedFor (s : State) (x : Search) (b : Bid) : State :=
  let u := (((s.activate b.blocks.length).cnt (Reg.arraySearchCount x.lane) 1).occupy b.blocks b.letter
    (s.clk.age + s.lengthOf x)).chargeReq 0 x.lane (s.lengthOf x)
  if x.starved then { u with arb := { u.arb with starvedAt := smSet 0 u.arb.starvedAt x.lane (u.clk.age + 1) } } else u

theorem State.chargedFor_keeps {s : State} (hoff : s.govOn = false) (x : Search) (b : Bid) :
    (s.chargedFor x b).tern.searches = s.tern.searches ∧ (s.chargedFor x b).tern.rows = s.tern.rows := by
  have hactivate : (s.activate b.blocks.length).tern = s.tern := by
    rw [State.activate, if_neg (by rw [hoff]; exact Bool.false_ne_true)]
    rfl
  have harb (p : Prop) [Decidable p] (u : State) (a : ArbSt) : (if p then { u with arb := a } else u).tern = u.tern := by
    split <;> rfl
  have htern : (s.chargedFor x b).tern = ((s.activate b.blocks.length).occupy b.blocks b.letter (s.clk.age + s.lengthOf x)).tern := by
    unfold State.chargedFor
    dsimp only
    rw [harb]
    rfl
  rw [htern]
  exact ⟨(congrArg TernSt.searches hactivate :), (congrArg TernSt.rows hactivate :)⟩

/-- What a granted search becomes. -/
def State.grantedAs (s : State) (x : Search) (b : Bid) : Search :=
  { x with phase := .granted, at_ := s.clk.age, replica := b.replica, port := b.letter, blocks := b.blocks
           picks := s.picksIn b.desc b.replica x.key.toNat x.epoch false, res := none }

theorem State.grantBid_lane (s : State) {x : Search} (b : Bid) (hlane : x.lane < 8) :
    s.grantBid x b = ((s.chargedFor x b).reissue x).setSearch x (s.grantedAs x b) := by
  have hpicks : s.grantedAs x b = { x with phase := .granted, at_ := s.clk.age, replica := b.replica, port := b.letter, blocks := b.blocks
                                           picks := s.picksIn b.desc b.replica x.key.toNat x.epoch (s.isMulti x), res := none } := by
    rw [s.isMulti_lane hlane]
    rfl
  rw [hpicks, State.grantBid, s.jobOf_lane hlane]
  rfl

/-- A search that is granted while it is alone is the only one still, with its candidates. -/
theorem State.grantBid_alone {s : State} {x : Search} (hone : s.tern.searches = [x]) (hlane : x.lane < 8) (hoff : s.govOn = false) (b : Bid) :
    (s.grantBid x b).tern.searches = [s.grantedAs x b] ∧ (s.grantBid x b).tern.rows = s.tern.rows := by
  obtain ⟨hsearches, hrows⟩ := State.chargedFor_keeps hoff x b
  rw [s.grantBid_lane b hlane]
  generalize s.chargedFor x b = v at hsearches hrows
  refine ⟨?_, hrows⟩
  show mapFirst (· == x) (fun _ => s.grantedAs x b) (v.tern.searches.takeWhile (· != x) ++ x :: _) = _
  rw [hsearches, hone, List.takeWhile_cons_of_neg (by simp), List.dropWhile_cons_of_neg (by simp)]
  show mapFirst (· == x) (fun _ => s.grantedAs x b) [x] = _
  rw [mapFirst, if_pos (beq_self_eq_true x)]

theorem arraySearchGrant_makes {s : State} {x : Search} {b : Bid} (hup : s.coreUp = true) (hone : s.tern.searches = [x]) (hlane : x.lane < 8)
    (hexact : x.exact = false) (hphase : x.phase = .waiting) (hoff : s.govOn = false) (hbid : s.bid x = some b) (hfree : b.free ≤ s.clk.age)
    (hrewrite : s.tern.rewriteAt ≠ some s.clk.age) (hissued : x.issued ≤ s.clk.age) (hlock : s.blockLocked b.blocks b.letter = false)
    (hwanted : s.wanted x = true) (hage : s.clk.age < 2 ^ 63) : Makes .arraySearchGrant s fun t =>
      ∃ y, t.tern.searches = [y] ∧ y.phase = .granted ∧ y.at_ = s.clk.age ∧ y.frame = x.frame ∧ y.role = x.role ∧
        y.picks = s.picksIn b.desc b.replica x.key.toNat x.epoch false ∧ y.res = none ∧ t.tern.rows = s.tern.rows := by
  obtain ⟨htern, hnow, hubid, -, hulock, huwanted, hupicks, huoff⟩ := State.until_here hage hoff _ rfl
  have hexec : exec .arraySearchGrant s = finish s (((s.until s.clk.age).grantBid x b).hints) := by
    show finish s (whileUp s _) = _
    rw [whileUp_up _ hup, State.ranked_alone hone hexact hphase, List.filterMap_cons_some
      (State.readyAt_alone hone hphase hbid hfree hoff hrewrite hissued hage)]
    dsimp only [List.filterMap_nil, List.foldl, Option.elim]
    rw [if_neg (Nat.lt_irrefl _)]
    generalize s.until s.clk.age = u at htern hnow hubid hulock huwanted huoff
    have huone : u.tern.searches = [x] := (congrArg TernSt.searches htern).trans hone
    rw [State.lateLocals_alone huone hlane, State.ranked_alone huone hexact hphase, List.foldl_cons, List.foldl_nil,
      State.decideSearch_grants huone hphase ((hubid x).trans hbid) (hnow ▸ hfree) huoff (hnow ▸ hissued) ((hulock _ _).trans hlock)
        ((huwanted x hlane).trans hwanted)]
  generalize s.until s.clk.age = u at htern hnow hupicks huoff hexec
  obtain ⟨hsearches, hrows⟩ := State.grantBid_alone ((congrArg TernSt.searches htern).trans hone) hlane huoff b
  refine .of_finish hexec ⟨u.grantedAs x b, ?_, rfl, hnow, rfl, rfl, hupicks _ _ _ _ _, rfl, ?_⟩
  · show (State.hints _).tern.searches = _
    rw [State.hints_frame, hsearches]
  · show (State.hints _).tern.rows = _
    rw [State.hints_frame, hrows, htern]

/-- Settles O34: a search that waits alone is granted, its result reaches its role, and a frame goes on to wave 2 or is dropped. -/
theorem lanesComplete : Obligations.LanesComplete := by
  unfold Obligations.LanesComplete
  exact fun s hup => ⟨fun x b hone hlane hexact hphase hoff hbid hfree hrewrite hissued hlock hwanted hage =>
      arraySearchGrant_makes hup hone hlane hexact hphase hoff hbid hfree hrewrite hissued hlock hwanted hage,
    fun x f r hone hlane hexact hphase hrole hframe hlen hr _ hflags hage hat =>
      arraySearchResult_makes hup hone hlane hexact hphase hrole hframe hlen hr hflags hage hat,
    fun x f d hone hlane hexact hrole hframe hlen hdesc hlearn hfailing _ _ =>
      exactSearchResult_makes hup hone hlane hexact hrole hframe hlen hdesc hlearn hfailing,
    fun n f hframe hstage hdue hsettled hact hprofile => wave2Start_makes hup hframe hstage hdue hsettled hact hprofile,
    fun n f hframe hstage hdue hsettled hact hentries herr hkind =>
      frameDecided_noDest hup hframe hstage hdue hsettled hact hentries herr hkind,
    fun n f hframe hdue => exec_late hup hframe hdue⟩

end Sys2Proof.Machine

namespace Sys2Proof.Machine

/-! ## EXACT_TABLE_CREATE and EXACT_REHASH (R184, R213, R194, R220) -/

theorem State.exactCreate_good {q : Request} {s : State} {b n : Nat} (hlen : q.words.length = 3) (h0 : 0 < q.f 0 0 8) (h255 : q.f 0 0 8 < 255)
    (hmin : 10 ≤ q.f 0 16 5) (hmax : q.f 0 16 5 ≤ 18) (hage : q.f 2 0 12 ≤ 4031) (hs0 : q.stray 0 0x3F1F0FFF = false)
    (hs2 : q.stray 2 0x10FFF = false) (htaken : s.tableTaken (q.f 0 0 8) = false) (hroom : s.exm.tables.length < 64)
    (hregion : s.freeRegion (q.f 0 16 5) = some b) (hns : s.freeNs = some n) :
    s.exactCreate q = (s.setEx (q.f 0 0 8) ⟨[⟨s.glue.c, some ⟨q.f 0 8 1, q.f 0 16 5, b, q.w 1, n, q.b 0 11, q.f 0 24 6, q.b 0 10, q.f 2 0 12,
      q.b 2 16⟩⟩], 0, 0, .idle, none, none⟩, .final St.ok [w32 b, w32 n]) := by
  unfold State.exactCreate
  dsimp only
  rw [if_neg (not_not_intro hlen), if_neg (by omega), if_neg (by rw [hs0, hs2]; simp; omega), if_neg (by rw [htaken]; exact Bool.false_ne_true),
    if_neg (by omega), hregion, hns]

/-- The rehash that EXACT_REHASH starts. -/
def Request.newRehash (q : Request) (d : ExactDesc) (b n : Nat) (seed : Word) : Rehash :=
  ⟨q.f 0 0 8, d, { d with log2 := if q.f 0 16 5 = 0 then d.log2 else q.f 0 16 5, base := b, seed := seed, ns := n }, 0, 0, .copying⟩

/-- The state in which a rehash runs. -/
def State.withRehash (s : State) (r : Option Rehash) : State := { s with exm := { s.exm with rehash := r } }

theorem State.rehashDo_good {q : Request} {s : State} {d : ExactDesc} {b n : Nat} (hcheck : s.exactCheck (q.f 0 0 8) = 0)
    (hstray : q.stray 0 0x1F01FF = false) (hsize : q.f 0 16 5 = 0 ∨ (10 ≤ q.f 0 16 5 ∧ q.f 0 16 5 ≤ 18)) (hstill : s.exm.rehash = none)
    (hflush : s.flushing (q.f 0 0 8) = false) (hidle : (s.exTable (q.f 0 0 8)).busy = .idle) (hnow : s.exNow (q.f 0 0 8) = some d)
    (hregion : s.freeRegion (if q.f 0 16 5 = 0 then d.log2 else q.f 0 16 5) = some b) (hns : s.freeNs = some n) (hids : s.freeIds ≠ []) :
    ∃ (seed : Word) (k : Nat), (q.b 0 8 = true → seed = q.w 1) ∧
      s.rehashDo q = (({ s with free := k } : State).withRehash (some (q.newRehash d b n seed)), .pend (.rehash (q.f 0 0 8)) [], seed) := by
  have hgoing : (s.exTable (q.f 0 0 8)).going = false := by rw [ExactTable.going, hidle]; rfl
  unfold State.rehashDo
  dsimp only
  rw [if_neg (not_not_intro hcheck), if_neg (by rw [hstray]; simp; omega), if_neg (by rw [hstill, hflush, hgoing]; simp), hnow]
  dsimp only
  rw [hregion, hns]
  dsimp only
  rw [if_neg hids]
  by_cases hseed : q.b 0 8 = true
  · exact ⟨q.w 1, s.free, fun _ => rfl, by rw [if_pos hseed]; rfl⟩
  · exact ⟨Config.freeWord s.free, s.free + 1, fun h => absurd h hseed, by rw [if_neg hseed]; rfl⟩

theorem exactRehash_makes {q : Request} {s : State} {d : ExactDesc} {b n : Nat} (ht : Taken Op.exactRehash q s) (hs : s.single)
    (hcheck : s.exactCheck (q.f 0 0 8) = 0) (hstray : q.stray 0 0x1F01FF = false)
    (hsize : q.f 0 16 5 = 0 ∨ (10 ≤ q.f 0 16 5 ∧ q.f 0 16 5 ≤ 18)) (hstill : s.exm.rehash = none)
    (hflush : s.flushing (q.f 0 0 8) = false) (hidle : (s.exTable (q.f 0 0 8)).busy = .idle) (hnow : s.exNow (q.f 0 0 8) = some d)
    (hregion : s.freeRegion (if q.f 0 16 5 = 0 then d.log2 else q.f 0 16 5) = some b) (hns : s.freeNs = some n) (hids : s.freeIds ≠ []) :
    Makes (.exactRehash q) s fun t => ∃ seed, (q.b 0 8 → seed = q.w 1) ∧
      t.exm.rehash = some ⟨q.f 0 0 8, d, { d with log2 := if q.f 0 16 5 = 0 then d.log2 else q.f 0 16 5, base := b, seed := seed, ns := n },
        0, 0, .copying⟩ ∧ t.waits (.rehash (q.f 0 0 8)) = true ∧ t.exm.slots = s.exm.slots := by
  obtain ⟨seed, k, hseed, hdo⟩ := State.rehashDo_good hcheck hstray hsize hstill hflush hidle hnow hregion hns hids
  refine .of_pend ht rfl (t := ({ s with free := k } : State).withRehash (some (q.newRehash d b n seed))) (on := .rehash (q.f 0 0 8)) (w := [])
    ?_ (by decide) fun v hv => ?_
  · rw [if_neg (by rw [State.refuses_off hs]; exact Bool.false_ne_true), hdo]
    dsimp only
    have hsingle : (({ s with free := k } : State).withRehash (some (q.newRehash d b n seed))).single := hs
    rw [State.mirrorAs_off hsingle]
  · obtain ⟨-, -, -, -, -, -, hexm, -⟩ := hv.frame
    exact ⟨seed, hseed, (congrArg ExactSt.rehash hexm :), by rw [State.waits_after, State.waits_wait], (congrArg ExactSt.slots hexm :)⟩

/-! ## The copy of an entry (R194) -/

theorem State.noteFailing_slots (t : Nat) (e : BitVec 3) (bad : List Nat) (s : State) :
    (s.noteFailing t e bad).exm.slots = s.exm.slots ∧ (s.noteFailing t e bad).exm.inserts = s.exm.inserts := by
  induction bad generalizing s with
  | nil => exact ⟨rfl, rfl⟩
  | cons p bad ih =>
    obtain ⟨r, v, h⟩ := (s.cnt Reg.exactParityCount 1).eventSup_eq 0x05 0x01 0 (w32 (p + t * 2 ^ 24)) (w32 e.toNat) [t, p]
      Reg.exactEventSuppressCount
    have hone : ((s.cnt Reg.exactParityCount 1).parityEvent t e p).exm = s.exm := by rw [State.parityEvent, h]; rfl
    unfold State.noteFailing
    rw [List.foldl_cons]
    refine ⟨(ih _).1.trans ?_, (ih _).2.trans ?_⟩
    all_goals
      dsimp only
      split
      · rw [hone]
      · dsimp only
        rw [hone]

theorem firstFrom_some {p : Nat → Bool} : ∀ {k n j : Nat}, firstFrom k n p = some j → p j = true
  | 0, _, _, h => by cases h
  | k + 1, n, j, h => by
    rw [firstFrom] at h
    split at h
    next hn => exact Option.some.inj h ▸ hn
    next => exact firstFrom_some h

/-- The slots that an insert takes are free. -/
theorem State.takeUnit_free {s : State} {d : ExactDesc} {key p : Nat} (h : s.takeUnit d key = some p) :
    ∀ i, i < d.w → (s.slot (p + i)).state = .free := by
  have hopen : (unit d.w p).all s.slotOpen = true := by
    unfold State.takeUnit at h
    dsimp only at h
    rcases Option.or_eq_some_iff.mp h with h | ⟨-, h⟩
    · exact List.find?_some (p := fun p => (unit d.w p).all s.slotOpen) h
    · obtain ⟨j, hj, rfl⟩ := Option.map_eq_some_iff.mp h
      exact firstFrom_some hj
  intro i hi
  have hslot := List.all_eq_true.mp hopen (p + i) (List.mem_map.mpr ⟨i, List.mem_range.mpr hi, rfl⟩)
  rw [State.slotOpen, Bool.and_eq_true] at hslot
  exact beq_iff_eq.mp hslot.1

theorem State.takeUnit_of {s t : State} (hslots : t.exm.slots = s.exm.slots) (hins : t.exm.inserts = s.exm.inserts) (d : ExactDesc) (key : Nat) :
    t.takeUnit d key = s.takeUnit d key := by
  have hopen : t.slotOpen = s.slotOpen := by
    funext p
    simp only [State.slotOpen, State.slot, State.slotWaited, hslots, hins]
  rw [State.takeUnit, hopen]
  rfl

/-- A slot of the old build as the copy stores it in the new one. -/
def Rehash.copyOf (r : Rehash) (x : Slot) (p' : Nat) : Slot :=
  let y := Slot.sealed { x with ns := if ovfBase ≤ p' then BitVec.ofNat 7 r.new.ns else 0 }
  { y with parity := y.parity != !x.imageOk, tagParity := y.tagParity != !x.tagOk }

theorem State.copySlots_does (r : Rehash) (p p' k : Nat) (s : State) :
    let t := (List.range (k + 1)).foldl (fun s i => s.setSlot (p' + i) (r.copyOf (s.slot (p + i)) p')) s
    t.slot p' = r.copyOf (s.slot p) p' ∧ ∀ j, (∀ i, i < k + 1 → j ≠ p' + i) → t.slot j = s.slot j := by
  induction k with
  | zero =>
    exact ⟨s.slot_setSlot_same p' _, fun j hj => s.slot_setSlot_ne _ (hj 0 (by omega))⟩
  | succ k ih =>
    obtain ⟨hsame, hother⟩ := ih
    dsimp only
    rw [List.range_succ, List.foldl_append, List.foldl_cons, List.foldl_nil]
    refine ⟨(State.slot_setSlot_ne _ _ (by omega)).trans hsame, fun j hj => ?_⟩
    exact (State.slot_setSlot_ne _ _ (hj (k + 1) (by omega))).trans (hother j fun i hi => hj i (by omega))

theorem State.copyUnit_does (s : State) (r : Rehash) (p p' : Nat) : (s.copyUnit r p p').slot p' = r.copyOf (s.slot p) p' ∧
    ∀ j, (∀ i, i < r.old.w → j ≠ p' + i) → (s.copyUnit r p p').slot j = s.slot j := State.copySlots_does r p p' r.old.width s

theorem rehashEntryCopy_makes {r : Rehash} {p p' : Nat} {s : State} (hfw : s.fwUp = true) (hr : s.exm.rehash = some r) (hphase : r.phase = .copying)
    (hfind : (s.exactEntries r.old).find? (fun p => decide (r.next ≤ p)) = some p) (hstate : (s.slot p).state ≠ .free)
    (hhomes : ∀ x ∈ s.homes r.new (s.keyAt r.old.w p), (s.slot x).state = .free) (htake : s.takeUnit r.new (s.keyAt r.old.w p) = some p')
    (hwidth : r.new.width = r.old.width) : Makes .rehashEntryCopy s fun t =>
      t.exm.rehash = some { r with next := p + r.old.w, copied := r.copied + 1 } ∧ (t.slot p').key = (s.slot p).key ∧
      (t.slot p').action = (s.slot p).action ∧ (t.slot p').state = (s.slot p).state ∧ t.slot p = s.slot p := by
  have hthere : (s.homes r.new (s.keyAt r.old.w p)).any (fun p' => s.keyAt r.new.w p' == s.keyAt r.old.w p && (s.slot p').state == (s.slot p).state &&
      (s.slot p').tag == (s.slot p).tag && (s.slot p').birth == (s.slot p).birth && (s.slot p').death == (s.slot p).death) = false := by
    refine List.any_eq_false.mpr fun x hx h => ?_
    simp only [Bool.and_eq_true, beq_iff_eq] at h
    exact hstate (h.1.1.1.2.symm.trans (hhomes x hx))
  obtain ⟨hslots, hins⟩ := s.noteFailing_slots r.table s.glue.c ((unit r.old.w p).filter (fun p => !(s.slot p).ok))
  have hexec : exec .rehashEntryCopy s = finish s (((s.noteFailing r.table s.glue.c ((unit r.old.w p).filter (fun p => !(s.slot p).ok))).copyUnit r p
      p').withRehash (some { r with next := p + r.old.w, copied := r.copied + 1 })) := by
    show finish s (whileFw s _) = _
    rw [whileFw_up _ hfw, hr]
    dsimp only
    rw [hphase, hfind]
    dsimp only
    rw [if_neg (by rw [hthere]; exact Bool.false_ne_true), State.takeUnit_of hslots hins, htake]
    rfl
  have hslot (j : Nat) : (s.noteFailing r.table s.glue.c ((unit r.old.w p).filter (fun p => !(s.slot p).ok))).slot j = s.slot j := by
    rw [State.slot, hslots]
    rfl
  have hw : r.new.w = r.old.w := congrArg (· + 1) hwidth
  have hapart : ∀ i, i < r.old.w → p ≠ p' + i := fun i hi h => hstate (h ▸ State.takeUnit_free htake i (hw ▸ hi))
  generalize s.noteFailing r.table s.glue.c ((unit r.old.w p).filter (fun p => !(s.slot p).ok)) = u at hexec hslot
  obtain ⟨hcopy, hkeep⟩ := u.copyUnit_does r p p'
  have hnew : (s.after ((u.copyUnit r p p').withRehash (some { r with next := p + r.old.w, copied := r.copied + 1 }))).slot p' =
      r.copyOf (s.slot p) p' := hcopy.trans (by rw [hslot])
  exact .of_finish hexec ⟨rfl, by rw [hnew]; rfl, by rw [hnew]; rfl, by rw [hnew]; rfl, (hkeep p hapart).trans (hslot p)⟩

/-! ## The ends of a rehash and of a destruction (R195, R213) -/

theorem rehashCopyDone_makes {r : Rehash} {id : Nat} {s : State} (hfw : s.fwUp = true) (hr : s.exm.rehash = some r) (hphase : r.phase = .copying)
    (hdone : ∀ p ∈ s.exactEntries r.old, p < r.next) (hid : s.pickId 1 = some id) : Makes .rehashCopyDone s fun t =>
      t.exm.rehash = some { r with phase := .swapping id } ∧ (t.glueUp id).st = .clamping ∧ (t.glueUp id).ops = 1 := by
  have hnone : (s.exactEntries r.old).any (fun p => decide (r.next ≤ p)) = false :=
    List.any_eq_false.mpr fun p hp h => absurd (of_decide_eq_true h) (Nat.not_le.mpr (hdone p hp))
  have hexec : exec .rehashCopyDone s = finish s ((((s.openGlue id false 0 .maintenance).addOps id 1).clampLocal id).withRehash
      (some { r with phase := .swapping id })) := by
    show finish s (whileFw s _) = _
    rw [whileFw_up _ hfw, hr]
    dsimp only
    rw [if_neg (by rw [hphase, hnone]; simp), hid]
    rfl
  have hglue : ((((s.openGlue id false 0 .maintenance).addOps id 1).clampLocal id).glueUp id).st = .clamping ∧
      ((((s.openGlue id false 0 .maintenance).addOps id 1).clampLocal id).glueUp id).ops = 1 := by
    rw [State.clampLocal, State.addOps, State.glueUp_setGlue_same, State.glueUp_setGlue_same, State.openGlue_self]
    exact ⟨rfl, rfl⟩
  exact .of_finish hexec ⟨rfl, hglue⟩

theorem smGet_filter_out {α : Type} {d : α} {f : Nat × α → Bool} {m : SMap α} {k : Nat} (h : ∀ x ∈ m, x.1 = k → f x = false) :
    smGet d (m.filter f) k = d := by
  refine Classical.byContradiction fun hne => ?_
  obtain ⟨hmem, hf⟩ := List.mem_filter.mp (smGet_mem hne)
  rw [h _ hmem rfl] at hf
  cases hf

/-- Every slot of a cleared region is free. -/
theorem State.slot_clearCopy {d : ExactDesc} {p : Nat} (s : State) (h : d.inRegion p = true) : (s.clearCopy d).slot p = slot0 :=
  smGet_filter_out fun x _ hx => by rw [hx, h]; rfl

theorem State.wake_exm (s : State) (on : WaitOn) (st : Nat) (w : List Word) : (s.wake on st w).exm = s.exm := by
  obtain ⟨-, -, -, -, hexm, -⟩ := s.wakeWith_same on (fun _ => (st, w))
  exact hexm

/-- The old build is gone, and the versions of the table that have drained as well. -/
def State.rehashEnded (s : State) (r : Rehash) : State :=
  let u := (s.clearCopy r.old).withRehash none
  u.setEx r.table { u.exTable r.table with vers := u.liveVers (u.exTable r.table).vers }

theorem rehashOldRegionFreed_makes {r : Rehash} {e : BitVec 3} {s : State} (hfw : s.fwUp = true) (hr : s.exm.rehash = some r)
    (hphase : r.phase = .draining e) (hdrained : s.drainedTo e = true) : Makes .rehashOldRegionFreed s fun t =>
      t.exm.rehash = none ∧ t.waits (.rehash r.table) = false ∧ ∀ p, r.old.inRegion p → t.slot p = slot0 := by
  have hexec : exec .rehashOldRegionFreed s = finish s ((s.rehashEnded r).wake (.rehash r.table) St.ok [w32 r.new.base, r.new.seed, w32 r.copied]) := by
    show finish s (whileFw s _) = _
    rw [whileFw_up _ hfw, hr]
    dsimp only
    rw [hphase]
    dsimp only
    rw [if_neg (not_not_intro hdrained)]
    rfl
  have hslot (p : Nat) (h : r.old.inRegion p = true) : (s.rehashEnded r).slot p = slot0 := s.slot_clearCopy h
  have hnone : (s.rehashEnded r).exm.rehash = none := rfl
  generalize s.rehashEnded r = u at hexec hslot hnone
  have hexm := u.wake_exm (.rehash r.table) St.ok [w32 r.new.base, r.new.seed, w32 r.copied]
  refine .of_finish hexec ⟨(congrArg ExactSt.rehash hexm).trans hnone, by rw [State.waits_after, State.wake_waits], fun p hp => ?_⟩
  exact (congrArg (fun x : ExactSt => smGet slot0 x.slots p) hexm).trans (hslot p hp)

/-- A table that is gone, with what waited for the repair and the learning of its entries. -/
def State.exactGone (s : State) (n : Nat) : State :=
  let u := ((s.exTable n).gone.elim s s.clearCopy).setEx n exactTable0
  { u with exm := { u.exm with
    gleanQ := u.exm.gleanQ.filter (fun f => f.table != n), filter := u.exm.filter.filter (fun r => r.table != n) } }

theorem exactTableDestroyDrained_makes {n : Nat} {e : BitVec 3} {s : State} (hfw : s.fwUp = true) (hbusy : (s.exTable n).busy = .draining e)
    (hdrained : s.drainedTo e = true) : Makes (.exactTableDestroyDrained n) s fun t =>
      t.exTable n = exactTable0 ∧ t.waits (.exactDestroy n) = false ∧
      ∀ d, (s.exTable n).gone = some d → ∀ p, d.inRegion p → t.slot p = slot0 := by
  have hexec : exec (.exactTableDestroyDrained n) s = finish s ((s.exactGone n).wake (.exactDestroy n) St.ok []) := by
    show finish s (whileFw s _) = _
    rw [whileFw_up _ hfw]
    dsimp only
    rw [hbusy]
    dsimp only
    rw [if_neg (not_not_intro hdrained)]
    rfl
  have htable : (s.exactGone n).exTable n = exactTable0 := smGet_smSet_same _ _ _ _
  have hslot (d : ExactDesc) (hd : (s.exTable n).gone = some d) (p : Nat) (hp : d.inRegion p = true) : (s.exactGone n).slot p = slot0 := by
    rw [State.exactGone, hd]
    exact s.slot_clearCopy hp
  generalize s.exactGone n = u at hexec htable hslot
  have hexm := u.wake_exm (.exactDestroy n) St.ok []
  refine .of_finish hexec ⟨(congrArg (fun x : ExactSt => smGet exactTable0 x.tables n) hexm).trans htable,
    by rw [State.waits_after, State.wake_waits], fun d hd p hp => ?_⟩
  exact (congrArg (fun x : ExactSt => smGet slot0 x.slots p) hexm).trans (hslot d hd p hp)

/-- Settles O31: a table is made and rehashed entry by entry, and what has drained is free. -/
theorem exactTableLifeComplete : Obligations.ExactTableLifeComplete := by
  unfold Obligations.ExactTableLifeComplete
  refine ⟨fun q s b n ht hs hop hlen h0 h255 hmin hmax hage hs0 hs2 htaken hroom hregion hns => ?_,
    fun q s d b n ht hs hcheck hstray hsize hstill hflush hidle hnow hregion hns hids =>
      exactRehash_makes ht hs hcheck hstray hsize hstill hflush hidle hnow hregion hns hids,
    fun r p p' s hfw hr hphase hfind hstate hhomes htake hwidth _ =>
      rehashEntryCopy_makes hfw hr hphase hfind hstate hhomes htake hwidth,
    fun r id s hfw hr hphase hdone hid => rehashCopyDone_makes hfw hr hphase hdone hid,
    fun r e s hfw hr hphase hdrained => rehashOldRegionFreed_makes hfw hr hphase hdrained,
    fun n e s hfw hbusy hdrained => exactTableDestroyDrained_makes hfw hbusy hdrained⟩
  refine finish_final (body := fun s q => s.mirrored Op.exactTableCreate q (fun s => if q.b 0 9 then s.exactDestroy q else s.exactCreate q)) ht ?_
  refine State.mirrored_off hs ?_ rfl
  rw [if_neg (by rw [hop]; exact Bool.false_ne_true)]
  exact State.exactCreate_good hlen h0 h255 hmin hmax hage hs0 hs2 htaken hroom hregion hns

end Sys2Proof.Machine

namespace Sys2Proof.Machine

/-! ## LEARN_POP and the learn filter (R200, R217) -/

theorem State.learnPop_good {q : Request} {s : State} (h1 : 1 ≤ q.f 0 0 6) (h32 : q.f 0 0 6 ≤ 32) (hstray : q.stray 0 0x3F = false) :
    s.learnPop q = ({ s with exm := { s.exm with learnQ := s.exm.learnQ.drop (q.f 0 0 6) } },
      .final St.ok (w32 (min (q.f 0 0 6) s.exm.learnQ.length + (s.exm.learnQ.length - q.f 0 0 6) * 2 ^ 16) ::
        (s.exm.learnQ.take (q.f 0 0 6)).flatMap LearnNote.words)) := by
  unfold State.learnPop
  dsimp only
  rw [if_neg (by rw [hstray]; simp; omega), List.length_take, List.length_drop]

theorem learnWindowExpiry_makes {r : FilterRec} {s : State} (hup : s.coreUp = true)
    (hfind : s.exm.filter.find? (fun x => x.table == r.table && x.key == r.key) = some r) (hage : s.clk.age < 2 ^ 63) (hat : r.at_ < 2 ^ 62) :
    Makes (.learnWindowExpiry r.table r.key) s fun t =>
      t.exm = { s.exm with filter := s.exm.filter.erase r } ∧
      t.clk.age = max s.clk.age (r.at_ + max 1 (s.rf Reg.exactLearnWindow 0 16) * 1250) := by
  have hwindow : s.rf Reg.exactLearnWindow 0 16 < 2 ^ 16 := Nat.mod_lt _ (by decide)
  have hclk := s.untilAge (n := r.at_ + max 1 (s.rf Reg.exactLearnWindow 0 16) * usC) (by omega) (by unfold usC; omega)
  have hexm := s.until_exm (r.at_ + max 1 (s.rf Reg.exactLearnWindow 0 16) * usC)
  have hexec : exec (.learnWindowExpiry r.table r.key) s =
      finish s { s.until (r.at_ + max 1 (s.rf Reg.exactLearnWindow 0 16) * usC) with
        exm := { (s.until (r.at_ + max 1 (s.rf Reg.exactLearnWindow 0 16) * usC)).exm with
          filter := (s.until (r.at_ + max 1 (s.rf Reg.exactLearnWindow 0 16) * usC)).exm.filter.erase r } } := by
    show finish s (whileUp s _) = _
    rw [whileUp_up _ hup, hfind]
  generalize s.until (r.at_ + max 1 (s.rf Reg.exactLearnWindow 0 16) * usC) = u at hclk hexm hexec
  refine .of_finish hexec ⟨?_, hclk⟩
  show { u.exm with filter := u.exm.filter.erase r } = _
  rw [hexm]

/-! ## Flushing (R209, R218) -/

theorem State.flushByPort_one {q : Request} {s : State} {d : ExactDesc} (ht0 : q.f 0 0 8 ≠ 0) (hcheck : s.exactCheck (q.f 0 0 8) = 0)
    (hnow : s.exNow (q.f 0 0 8) = some d) (hstray : q.stray 0 0x1FFFF = false) (hport : portValid (q.f 0 8 8) = true)
    (hflush : s.flushing (q.f 0 0 8) = false) (hrehash : s.rehashing (q.f 0 0 8) = false) (hids : s.freeIds ≠ []) :
    s.flushByPort q = ({ s with exm := { s.exm with
      flushes := s.exm.flushes ++ [⟨q.f 0 8 8, q.b 0 16, [q.f 0 0 8], [], 0, [], [], [], 0, 0, false⟩]
      filter := s.exm.filter.filter (fun r => r.port1 != q.f 0 8 8) } }, .pend (.flush (q.f 0 8 8)) []) := by
  unfold State.flushByPort
  dsimp only
  rw [if_pos ht0, if_neg (fun h => h.2 hcheck), if_neg (by rw [hnow]; simp), if_neg (by rw [hstray]; exact Bool.false_ne_true),
    if_neg (not_not_intro hport), if_neg (by simp [hflush, hrehash]), if_neg hids]

theorem flushByPort_makes {q : Request} {s : State} {d : ExactDesc} (ht : Taken Op.flushByPort q s) (ht0 : q.f 0 0 8 ≠ 0)
    (hcheck : s.exactCheck (q.f 0 0 8) = 0) (hnow : s.exNow (q.f 0 0 8) = some d) (hstray : q.stray 0 0x1FFFF = false)
    (hport : portValid (q.f 0 8 8) = true) (hflush : s.flushing (q.f 0 0 8) = false) (hrehash : s.rehashing (q.f 0 0 8) = false)
    (hids : s.freeIds ≠ []) : Makes (.flushByPort q) s fun t =>
      t.exm.flushes = s.exm.flushes ++ [⟨q.f 0 8 8, q.b 0 16, [q.f 0 0 8], [], 0, [], [], [], 0, 0, false⟩] ∧
      t.waits (.flush (q.f 0 8 8)) = true ∧ t.exm.slots = s.exm.slots ∧ ∀ r ∈ t.exm.filter, r.port1 ≠ q.f 0 8 8 := by
  refine .of_pend ht rfl (State.flushByPort_one ht0 hcheck hnow hstray hport hflush hrehash hids) (by decide) fun v hv => ?_
  obtain ⟨-, -, -, -, -, -, hexm, -⟩ := hv.frame
  refine ⟨(congrArg ExactSt.flushes hexm :), by rw [State.waits_after, State.waits_wait], (congrArg ExactSt.slots hexm :), fun r hr => ?_⟩
  have hfilter : v.exm.filter = s.exm.filter.filter (fun r => r.port1 != q.f 0 8 8) := congrArg ExactSt.filter hexm
  have hmem : r ∈ v.exm.filter := hr
  rw [hfilter] at hmem
  simpa using (List.mem_filter.mp hmem).2

/-- The entries of a bucket that a flush is to delete. -/
def State.flushHits (s : State) (f : Flush) (d : ExactDesc) : List Nat :=
  (bucketUnits d.w (d.base + f.next)).filter (fun p =>
    (s.slot p).state == .live && (s.slot p).action.toNat % 256 == f.port && ((s.slot p).learned || f.static))

/-- A flush that has read one more bucket of a table: what is claimed is tried again later. -/
def State.flushedOne (s : State) (f : Flush) (n : Nat) (d : ExactDesc) : Flush :=
  { f with
    queued := f.queued ++ ((s.flushHits f d).filter (fun p => (s.slot p).tag == 0)).map (fun p => (n, p))
    claimed := f.claimed ++ ((s.flushHits f d).filter (fun p => (s.slot p).tag != 0)).map (fun p => (n, p))
    next := f.next + 1 }

theorem State.mem_flushedOne (s : State) (f : Flush) (n : Nat) (d : ExactDesc) (e : Nat × Nat) :
    e ∈ (s.flushedOne f n d).queued ↔ e ∈ f.queued ∨ (e.1 = n ∧ e.2 ∈ bucketUnits d.w (d.base + f.next) ∧ (s.slot e.2).state = .live ∧
      (s.slot e.2).action.toNat % 256 = f.port ∧ ((s.slot e.2).learned = true ∨ f.static = true) ∧ (s.slot e.2).tag = 0) := by
  obtain ⟨t, p⟩ := e
  rw [State.flushedOne, List.mem_append, List.mem_map]
  refine or_congr Iff.rfl ⟨?_, ?_⟩
  · rintro ⟨x, hx, heq⟩
    obtain ⟨rfl, rfl⟩ := Prod.mk.inj heq
    obtain ⟨hhit, htag⟩ := List.mem_filter.mp hx
    obtain ⟨hmem, hfits⟩ := List.mem_filter.mp hhit
    simp only [Bool.and_eq_true, beq_iff_eq, Bool.or_eq_true] at hfits htag
    exact ⟨rfl, hmem, hfits.1.1, hfits.1.2, hfits.2, htag⟩
  · rintro ⟨rfl, hmem, hlive, hport, hkind, htag⟩
    refine ⟨p, List.mem_filter.mpr ⟨List.mem_filter.mpr ⟨hmem, ?_⟩, ?_⟩, rfl⟩
    · simp only [Bool.and_eq_true, beq_iff_eq, Bool.or_eq_true]
      exact ⟨⟨hlive, hport⟩, hkind⟩
    · exact beq_iff_eq.mpr htag

/-- A bucket adds at most its four slots to the operations of a batch. -/
theorem State.flushedOne_ops {s : State} {f : Flush} {n : Nat} {d : ExactDesc} (hnow : s.exNow n = some d) :
    ((s.flushedOne f n d).queued.map (fun e => (s.exNow e.1).elim 1 ExactDesc.w)).foldl (· + ·) 0 ≤
      (f.queued.map (fun e => (s.exNow e.1).elim 1 ExactDesc.w)).foldl (· + ·) 0 + 4 := by
  have hlen : ((s.flushHits f d).filter (fun p => (s.slot p).tag == 0)).length ≤ 4 / d.w :=
    calc _ ≤ (s.flushHits f d).length := List.length_filter_le _ _
      _ ≤ (bucketUnits d.w (d.base + f.next)).length := List.length_filter_le _ _
      _ = 4 / d.w := by rw [bucketUnits, List.length_map, List.length_range]
  have hfour := Nat.le_trans (Nat.mul_le_mul_right d.w hlen) (Nat.div_mul_le_self 4 d.w)
  have hmap : (fun p => (s.exNow ((n, p) : Nat × Nat).1).elim 1 ExactDesc.w) = fun _ => d.w := by
    funext p
    rw [hnow]
    rfl
  rw [← List.sum_eq_foldl, ← List.sum_eq_foldl, State.flushedOne, List.map_append, List.sum_append, List.map_map]
  refine Nat.add_le_add_left ?_ _
  show (List.map (fun p => (s.exNow ((n, p) : Nat × Nat).1).elim 1 ExactDesc.w) _).sum ≤ 4
  rw [hmap, List.map_const', List.sum_replicate_nat]
  exact hfour

theorem State.flushRead_bucket {s : State} {f : Flush} {n : Nat} {ns : List Nat} {d : ExactDesc} (htables : f.tables = n :: ns)
    (hnow : s.exNow n = some d) (hnext : f.next + 1 < 2 ^ d.log2) (hended : f.ended = false)
    (hops : (f.queued.map (fun e => (s.exNow e.1).elim 1 ExactDesc.w)).foldl (· + ·) 0 + 4 < 4095) :
    s.flushRead f = s.setFlush f (s.flushedOne f n d) := by
  have hbucket : f.next < 2 ^ d.log2 := by omega
  have hfew : ((s.flushedOne f n d).queued.map (fun e => ((s.setFlush f (s.flushedOne f n d)).exNow e.1).elim 1 ExactDesc.w)).foldl (· + ·) 0 <
      4095 := Nat.lt_of_le_of_lt (State.flushedOne_ops hnow) hops
  have hbatch : (s.setFlush f (s.flushedOne f n d)).flushBatch (s.flushedOne f n d) = s.setFlush f (s.flushedOne f n d) :=
    if_pos (.inr ⟨hfew, by rw [show (s.flushedOne f n d).ended = false from hended]; exact Bool.false_ne_true⟩)
  have hf : s.flushedOne f n d = { s.flushedOne f n d with tables := n :: ns } := by
    rw [← htables]
    rfl
  rw [hf] at hbatch ⊢
  have hlast : (decide (f.next + 1 = 2 ^ d.log2) && ((s.exactEntries d).filter (fun p => decide (ovfBase + (f.next - 2 ^ d.log2) ≤ p))).isEmpty) =
      false := by rw [decide_eq_false (by omega), Bool.false_and]
  unfold State.flushRead
  rw [htables]
  dsimp only
  rw [hnow]
  dsimp only
  rw [if_pos hbucket, if_pos hbucket, if_pos hbucket, hlast, if_neg Bool.false_ne_true]
  exact hbatch

theorem flushBucketRead_makes {f : Flush} {n : Nat} {ns : List Nat} {d : ExactDesc} {s : State} (hfw : s.fwUp = true)
    (hfind : s.exm.flushes.find? (fun x => x.port == f.port && !x.ended) = some f) (htables : f.tables = n :: ns) (hnow : s.exNow n = some d)
    (hnext : f.next + 1 < 2 ^ d.log2) (hops : (f.queued.map (fun e => (s.exNow e.1).elim 1 ExactDesc.w)).foldl (· + ·) 0 + 4 < 4095) :
    Makes (.flushBucketRead f.port) s fun t => ∃ f', t.exm.flushes = mapFirst (fun x => x == f) (fun _ => f') s.exm.flushes ∧
      f'.next = f.next + 1 ∧ f'.tables = f.tables ∧ t.exm.slots = s.exm.slots ∧
      ∀ e, e ∈ f'.queued ↔ e ∈ f.queued ∨ (e.1 = n ∧ e.2 ∈ bucketUnits d.w (d.base + f.next) ∧ (s.slot e.2).state = .live ∧
        (s.slot e.2).action.toNat % 256 = f.port ∧ ((s.slot e.2).learned = true ∨ f.static = true) ∧ (s.slot e.2).tag = 0) := by
  have hended : f.ended = false := by
    have := List.find?_some hfind
    simpa using this
  have hexec : exec (.flushBucketRead f.port) s = finish s (s.setFlush f (s.flushedOne f n d)) := by
    show finish s (whileFw s _) = _
    rw [whileFw_up _ hfw, hfind]
    dsimp only
    rw [State.flushRead_bucket htables hnow hnext hended hops]
  exact .of_finish hexec ⟨s.flushedOne f n d, rfl, rfl, rfl, rfl, s.mem_flushedOne f n d⟩

/-- A reply of OK leaves the glue-ups alone. -/
theorem State.reply_ok_glue (s : State) (op : Nat) (q : Request) (w : List Word) : (s.reply op q St.ok w).glue = s.glue := by
  unfold State.reply
  dsimp only
  split
  · rfl
  · unfold State.replyFrom
    split
    · unfold State.mailboxResult
      dsimp only
      split <;> rfl
    · have hanswered (u : State) : u.Answered (State.closeCmd (if q.noReply then u else u.toStream ((s.cmdOf q).elim 0 (·.id)) (classOf op) op q
          ((s.cmdOf q).bind (·.buf)) ((s.cmdOf q).bind (·.vtag)) ((s.cmdOf q).any (·.mute)) St.ok (s.sideFlag q) true w) q) := by
        refine State.Answered.trans ?_ (State.closeCmd_answered _ q)
        split
        · exact .refl u
        · exact State.toStream_answered _ _ _ _ _ _ _ _ _ _ fun _ => rfl
      obtain ⟨-, -, -, -, -, hglue, -⟩ := (hanswered s).frame
      exact hglue

/-- The one flush that has walked its tables and has nothing left replies and is gone. -/
theorem State.flushSettle_gone {s : State} {f : Flush} (hone : s.exm.flushes = [f]) (hended : f.ended = true) (hqueued : f.queued = [])
    (hids : f.ids = []) : (s.flushSettle f).exm = { s.exm with flushes := [] } ∧ (s.flushSettle f).glue = s.glue := by
  have hexm (u : State) (on : WaitOn) (w : List Word) : (u.wakeOne on St.ok w).exm = u.exm ∧ (u.wakeOne on St.ok w).glue = u.glue := by
    unfold State.wakeOne
    split
    · exact ⟨rfl, rfl⟩
    next x _ =>
      obtain ⟨-, -, -, -, hsame, -⟩ := ({ u with cmdq := { u.cmdq with waiters := u.cmdq.waiters.erase x } } : State).reply_same x.op x.q St.ok w
      exact ⟨hsame, State.reply_ok_glue _ _ _ _⟩
  rw [State.flushSettle, if_pos ⟨hended, hqueued, hids⟩]
  refine ⟨(hexm _ _ _).1.trans ?_, (hexm _ _ _).2⟩
  show { s.exm with flushes := s.exm.flushes.erase f } = _
  rw [hone, List.erase_cons_head]

theorem flushWalkDone_makes {f : Flush} {s : State} (hfw : s.fwUp = true) (hone : s.exm.flushes = [f]) (htables : f.tables = [])
    (hqueued : f.queued = []) (hclaimed : f.claimed = []) (hids : f.ids = []) : Makes (.flushWalkDone f.port) s fun t =>
      t.exm.flushes = [] ∧ t.exm.slots = s.exm.slots ∧ t.glue.ups = s.glue.ups := by
  have hf : (if f.ended = true then f else { f with ended := true, queued := f.queued ++ f.claimed, claimed := [] }) = { f with ended := true } := by
    split
    next h => rw [← h]
    next => rw [hqueued, hclaimed, List.append_nil]
  have hset : (s.setFlush f { f with ended := true }).exm.flushes = [{ f with ended := true }] := by
    show mapFirst (fun x => x == f) _ s.exm.flushes = _
    rw [hone, mapFirst, if_pos (beq_self_eq_true f)]
  have hexec : exec (.flushWalkDone f.port) s = finish s ((s.setFlush f { f with ended := true }).flushSettle { f with ended := true }) := by
    have hbatch : (s.setFlush f { f with ended := true }).flushBatch { f with ended := true } = s.setFlush f { f with ended := true } :=
      if_pos (.inl (by rw [hqueued]; rfl))
    show finish s (whileFw s _) = _
    rw [whileFw_up _ hfw, hone, List.find?_cons_of_pos (by simp [htables])]
    dsimp only
    rw [hf, hbatch, hset, List.find?_cons_of_pos (by simp)]
  obtain ⟨hexm, hglue⟩ := State.flushSettle_gone hset rfl hqueued hids
  exact .of_finish hexec ⟨(congrArg ExactSt.flushes hexm :), (congrArg ExactSt.slots hexm :), (congrArg GlueSt.ups hglue :)⟩

/-! ## The mower (R204 to R206, R219) -/

theorem State.mowerConfigDo_tick {q : Request} {s : State} (h0 : q.stray 0 0x0FFF03FF = false) (h1 : q.stray 1 0xFFFF = false)
    (htable : q.f 0 0 8 = 0) (hset : q.b 0 8 = true) (hmin : 16 ≤ q.f 1 0 16) :
    s.mowerConfigDo q = (s.wr Reg.exactMowerTick (w32 (q.f 1 0 16)), .final St.ok [w32 (q.f 1 0 16), 0]) := by
  have htick : (s.wr Reg.exactMowerTick (w32 (q.f 1 0 16))).tickMs = q.f 1 0 16 := by
    have hlt : q.f 1 0 16 < 2 ^ 16 := Nat.mod_lt _ (by decide)
    rw [State.tickMs, State.rf, State.rd_wr_same, fld_w32 _ _ (by decide), Nat.mod_eq_of_lt hlt]
    omega
  unfold State.mowerConfigDo
  dsimp only
  rw [if_neg (by rw [h0, h1, htable, hset]; simp; omega), if_neg (fun h => h.1 htable), if_pos hset, if_pos htable, if_pos htable, htick]
  rfl

theorem mowerTick_makes {s : State} (hup : s.coreUp = true) (hon : s.rb Reg.exactCtrl 3 = true) : Makes .mowerTick s fun t =>
    t.exm.mower.clock = s.exm.mower.clock + 1 ∧ t.exm.mower.sweep = some 0 ∧ t.exm.mower.queue = [] ∧ t.exm.slots = s.exm.slots ∧
    t.exm.mower.nextTick = s.exm.mower.nextTick + s.tickMs * 10 ^ 6 := by
  obtain ⟨-, -, -, -, -, hexm, -⟩ := s.untilNs_frame s.exm.mower.nextTick.toNat
  have hctrl := s.untilNs_rd s.exm.mower.nextTick.toNat (a := Reg.exactCtrl) (by unfold clockCounts; decide)
  have htick := s.untilNs_rd s.exm.mower.nextTick.toNat (a := Reg.exactMowerTick) (by unfold clockCounts; decide)
  refine .of_up hup rfl ?_
  dsimp only
  generalize s.untilNs s.exm.mower.nextTick.toNat = u at hexm hctrl htick
  have hms : u.tickMs = s.tickMs := by rw [State.tickMs, State.tickMs, State.rf, State.rf, htick]
  rw [if_pos (by rw [State.rb, hctrl]; exact hon), hms, hexm]
  exact ⟨rfl, rfl, rfl, rfl, rfl⟩

theorem mowerRead_makes {s : State} {k n : Nat} {d : ExactDesc} (hup : s.coreUp = true) (hsweep : s.exm.mower.sweep = some (262144 + k))
    (hk : k + 1 < 8192) (hwidth : d.width = 0) (howner : s.ownerAt (ovfBase + k) = some (n, d)) (hnow : s.exNow n = some d)
    (hlearned : (s.slot (ovfBase + k)).learned = true) (hlive : (s.slot (ovfBase + k)).state = .live) (htag : (s.slot (ovfBase + k)).tag = 0)
    (hlimit : d.ageLimit ≠ 0) (hage : d.ageLimit ≤ s.ageTicks (s.slot (ovfBase + k))) : Makes .mowerRead s fun t =>
      t.exm.mower.queue = s.exm.mower.queue ++ [(n, ovfBase + k)] ∧ t.exm.mower.sweep = some (262144 + k + 1) ∧ t.exm.slots = s.exm.slots := by
  have hmow : s.mowEntry (ovfBase + k) =
      { s with exm := { s.exm with mower := { s.exm.mower with queue := s.exm.mower.queue ++ [(n, ovfBase + k)] } } } := by
    have hunit : ¬ ((s.slot (ovfBase + k)).state = .free ∨ (ovfBase + k) % d.w ≠ 0) := by
      rw [hlive, show d.w = 1 by rw [ExactDesc.w, hwidth], Nat.mod_one]
      simp
    unfold State.mowEntry
    rw [howner]
    dsimp only
    rw [if_neg hunit, if_pos ⟨hlearned, hlive, htag, hlimit, hage, by rw [hnow]; simp⟩]
  have hexec : exec .mowerRead s = finish s { s with exm := { s.exm with
      mower := { s.exm.mower with queue := s.exm.mower.queue ++ [(n, ovfBase + k)], sweep := some (262144 + k + 1) } } } := by
    show finish s (whileUp s _) = _
    rw [whileUp_up _ hup, hsweep]
    dsimp only
    rw [if_neg (by omega), if_neg (by omega), Nat.add_sub_cancel_left, List.foldl_cons, List.foldl_nil, hmow]
  exact .of_finish hexec ⟨rfl, rfl, rfl⟩

/-- The mower's batch of one entry: a pending delete in a firmware glue-up that clamps. -/
def State.mowed (s : State) (p id w : Nat) : State := (((s.openGlue id false 0 .maintenance).tagUnit w p id).addOps id w).clampLocal id

theorem State.deleteBatch_one {s : State} {n p id : Nat} {d : ExactDesc} (hnow : s.exNow n = some d) (hwidth : d.width = 0)
    (hstill : s.exm.rehash = none) (hid : s.pickId 1 = some id) (hlive : (s.slot p).state = .live)
    (hat : s.liveAt d (s.keyAt d.w p) = some p) (hheld : s.keyHolder n d (s.keyAt d.w p) 0 = none) :
    s.deleteBatch [(n, p)] = some (s.mowed p id d.w, id, [(n, p)], [], []) := by
  have hnow' : (s.openGlue id false 0 .maintenance).exNow n = some d := hnow
  have hlive' : ((s.openGlue id false 0 .maintenance).slot p).state = .live := hlive
  have hheld' : (s.openGlue id false 0 .maintenance).keyHolder n d ((s.openGlue id false 0 .maintenance).keyAt d.w p) 0 = none := hheld
  have hat' : (s.openGlue id false 0 .maintenance).liveAt d ((s.openGlue id false 0 .maintenance).keyAt d.w p) = some p := hat
  have hops : ((s.openGlue id false 0 .maintenance).glueUp id).ops = 0 := by rw [State.openGlue_self]
  have hstill' : (s.openGlue id false 0 .maintenance).exm.rehash = none := hstill
  have hw : d.w = 1 := by rw [ExactDesc.w, hwidth]
  unfold State.deleteBatch State.mowed
  have hroom : ¬ 4096 < 0 + 1 := by decide
  rw [hw] at hat' hheld'
  simp only [hid, Option.map_some, List.foldl_cons, List.foldl_nil, hnow', hlive', ne_eq, not_true_eq_false, if_false, hheld', Option.isSome_none,
    Bool.false_eq_true, hops, hw, hroom, List.nil_append, List.isEmpty_cons, State.claimKey_still hstill' n id hat']

theorem mowerDelete_makes {s : State} {n p id : Nat} {d : ExactDesc} (hfw : s.fwUp = true) (hqueue : s.exm.mower.queue = [(n, p)])
    (hsweep : s.exm.mower.sweep = none) (hnow : s.exNow n = some d) (hwidth : d.width = 0) (hstill : s.exm.rehash = none)
    (hid : s.pickId 1 = some id) (hlive : (s.slot p).state = .live) (hat : s.liveAt d (s.keyAt d.w p) = some p)
    (hheld : s.keyHolder n d (s.keyAt d.w p) 0 = none) : Makes .mowerDelete s fun t =>
      (t.slot p).tag = BitVec.ofNat 8 id ∧ (t.slot p).state = .live ∧ (t.glueUp id).st = .clamping ∧ t.exm.mower.queue = [] ∧
      t.exm.mower.ids = s.exm.mower.ids ++ [(id, [(n, p)])] := by
  have hexec : exec .mowerDelete s = finish s { s.mowed p id d.w with exm := { (s.mowed p id d.w).exm with
      mower := { (s.mowed p id d.w).exm.mower with queue := [], ids := s.exm.mower.ids ++ [(id, [(n, p)])] } } } := by
    show finish s (whileFw s _) = _
    rw [whileFw_up _ hfw]
    dsimp only
    rw [hqueue, hsweep, if_neg (by simp), State.deleteBatch_one hnow hwidth hstill hid hlive hat hheld]
    rfl
  have hslot : (s.mowed p id d.w).slot p = (s.slot p).retag { s.slot p with tag := BitVec.ofNat 8 id } := by
    rw [show d.w = 1 by rw [ExactDesc.w, hwidth]]
    exact State.slot_setSlot_same _ p _
  have hglue : ((s.mowed p id d.w).glueUp id).st = .clamping := by rw [State.mowed, State.clampLocal, State.glueUp_setGlue_same]
  generalize s.mowed p id d.w = u at hexec hslot hglue
  refine .of_finish hexec ⟨?_, ?_, hglue, rfl, rfl⟩
  · show (u.slot p).tag = _
    rw [hslot]
    rfl
  · show (u.slot p).state = _
    rw [hslot]
    exact hlive

/-- Settles O32: each row names the one record, flush or entry that it moves on. -/
theorem learningAndMowingComplete : Obligations.LearningAndMowingComplete := by
  unfold Obligations.LearningAndMowingComplete
  exact ⟨fun q s ht h1 h32 hstray => finish_final ht (State.learnPop_good h1 h32 hstray),
    fun r s hup hfind hage hat => learnWindowExpiry_makes hup hfind hage hat,
    fun q s d ht ht0 hcheck hnow hstray hport hflush hrehash hids =>
      flushByPort_makes ht ht0 hcheck hnow hstray hport hflush hrehash hids,
    fun f n ns d s hfw hfind htables hnow hnext hops => flushBucketRead_makes hfw hfind htables hnow hnext hops,
    fun f s hfw hone htables hqueued hclaimed hids => flushWalkDone_makes hfw hone htables hqueued hclaimed hids,
    fun q s ht hs h0 h1 htable hset hmin => finish_final (body := fun s q => s.mirrored Op.mowerConfig q (fun s => s.mowerConfigDo q)) ht
      (State.mirrored_off hs (State.mowerConfigDo_tick h0 h1 htable hset hmin) rfl),
    fun s hup hon => mowerTick_makes hup hon,
    fun s k n d hup hsweep hk hwidth howner hnow hlearned hlive htag hlimit hage =>
      mowerRead_makes hup hsweep hk hwidth howner hnow hlearned hlive htag hlimit hage,
    fun s n p id d hfw hqueue hsweep hnow hwidth hstill hid hlive _ hat hheld =>
      mowerDelete_makes hfw hqueue hsweep hnow hwidth hstill hid hlive hat hheld⟩

end Sys2Proof.Machine
